-- ==== Sys2Proof/Word.lean ====
section
/-! DEFINITION. The word types of HK1 and the exact numeric value that every conversion and sum passes through. -/

namespace Sys2Proof

/-- A 32-bit register, record or instruction word (R32, R196). -/
abbrev Word := BitVec 32

/-- One byte of device memory. -/
abbrev Byte := BitVec 8

/-- A byte as a read returns it: its value and whether its unit carries a poison mark (R513). -/
abbrev PByte := Byte × Bool

/-- An exact numeric value (R40 to R44, R64): NaN, an infinity, or `(-1)^neg * m * 2^e`, zero keeping its sign. -/
inductive Val where
  | nan
  | inf (neg : Bool)
  | fin (neg : Bool) (m : Nat) (e : Int)
  deriving DecidableEq, Repr

end Sys2Proof
end

