-- ==== Sys2Proof/Syntax.lean ====
section
/-! DEFINITION. The commands of HK1: one constructor per row of spec/opcode_table.json, with the row's operands.
The table gives no row any bits: an operand is what the row's rule says the event is about (which unit, which value
is written, what arrives), and whatever the spec leaves to the outside (an error check's outcome, a sensor reading). -/

namespace Sys2Proof

/-- A leaf of an arbiter tree that has a request: the indexes of the inputs on the way to it from the root, and the DMA channel
(32 times its die plus its number) that it is, if it is one (R33, R229). -/
structure LeafAsk where
  path : List Nat
  chan : Option (Fin 128)
  deriving DecidableEq, Repr

/-- What one root grant of an arbiter tree meets (R33 to R36): the leaves that raise a request, those that withdraw theirs, and whether
the leaf it names has withdrawn while the grant is on its way. -/
structure ArbRound where
  asks : List LeafAsk
  gone : List (List Nat)
  late : Bool
  deriving DecidableEq, Repr

/-- A row at its entry: its partition, and the elements of a receiver row that the turn buffer reads uncorrectable (R77, R156). -/
structure RowFeed where
  part : Fin 4
  hit  : List (Fin 256)
  deriving DecidableEq, Repr

/-- The add of a row: its partition, and how many errors in the accumulator rows it reads are corrected (R129, R145). -/
structure RowAdd where
  part  : Fin 4
  fixed : Nat
  deriving DecidableEq, Repr

/-- A DMA channel that reads, and whether a flit it is sent meets an uncorrectable on-die network error (R234). -/
structure FedChan where
  chan : Fin 32
  feed : Bool
  deriving DecidableEq, Repr

/-- What the error-correcting coder of an accumulator or a turn buffer finds at a read (R139, R156). -/
inductive EccOutcome where
  | clean
  | corrected
  | uncorrectable
  deriving DecidableEq, Repr

/-- How one near-bank step ends: normally, or with a member fault of R290. -/
inductive StepOutcome where
  | done
  | fault (cause : Fin 8)
  deriving DecidableEq, Repr

/-- Whether a training-state command meets a fault of R321 that the data do not decide (FEED_ERROR, UNIT_CHECK). -/
inductive UnitFault where
  | none
  | feedError (index : Nat)
  | unitCheck (index : Nat)
  deriving DecidableEq, Repr

/-- Faults of a sample that the bytes do not decide (R346): a lost or refused fetch, a decoder residue check. -/
inductive SampleFault where
  | none
  | fetch
  | decoder
  deriving DecidableEq, Repr

/-- Who issues a register access (R434): the host through BAR0, an engine, or the management core. -/
inductive Agent where
  | host
  | engine
  | mgmt
  deriving DecidableEq, Repr

/-- Who asked for a reset (R477, R491). -/
inductive ResetSource where
  | synian
  | host
  | watchdog
  deriving DecidableEq, Repr

/-- The unit whose head instruction or RAISE passes its DEADLINE (R88, R256): an array partition, a segment of the tier
manager, or another queue of instructions by its number. -/
inductive LateUnit where
  | part (d : Fin 4) (a : Fin 16) (p : Fin 4)
  | seg (g : Fin 5)
  | queue (q : Nat)
  deriving DecidableEq, Repr

/-- What a scalar core or a collective engine meets that its program and data do not decide: an uncorrectable on-die network
error, or a failed residue check (causes 5 and 6 of R192, 2 and 3 of R407). -/
inductive CoreCheck where
  | ok
  | feedError
  | coreCheck
  deriving DecidableEq, Repr

/-- A port whose packet a collective engine takes, and the check that fails there (R407). -/
structure CheckedPort where
  port  : Fin 16
  check : CoreCheck
  deriving DecidableEq, Repr

/-- A die whose collective engine opens a collective, and the check that its work at issue meets (R407). -/
structure CheckedDie where
  die   : Fin 4
  check : CoreCheck
  deriving DecidableEq, Repr

/-- A read of a register pair: whether it takes both halves, and who makes it (R32, R39). -/
structure LtcRead where
  wide  : Bool
  agent : Agent
  deriving DecidableEq, Repr

/-- A vector cluster at a rendezvous of its lanes, and the core that meets a check (R186, R190, R192). -/
structure CheckedCluster where
  cluster : Fin 16
  core    : Fin 128
  check   : CoreCheck
  deriving DecidableEq, Repr

/-- The stash allotment registers of R173. -/
inductive Allotment where
  | pool | pooln | t1baseLo | t1baseHi | t1n | t2baseLo | t2baseHi | t2n
  deriving DecidableEq, Repr

/-- A flit as a port receives it (R355 to R357): how many symbols of its codeword were wrong, the leading bits P[0] to P[19] and slots
0 to 19 of 32 bytes each, slot 19 being the trailer. -/
structure Flit where
  wrong : Nat
  p     : BitVec 20
  slots : List (List Word)
  deriving DecidableEq, Repr

/-- Where a read of an image slot of the flash meets an error: in the header, the signature or the body, or nowhere. -/
inductive ReadError where
  | none
  | header
  | signature
  | body
  deriving DecidableEq, Repr

/-- What the boot ROM finds on the board at start-up (R261, R439, R443, R448): the flash answers; the part record, the
configuration image can be read, and where each slot cannot; and each socket's SPD hub: its DIMM's GiB (0: none) and whether its kind is right. -/
structure BootProbe where
  flashOk : Bool
  partOk  : Bool
  cfgOk   : Bool
  slotErr : List ReadError
  dimmCap : List Nat
  dimmKind : List Bool
  deriving DecidableEq, Repr

/-- The commands and events of HK1: one constructor per row of spec/opcode_table.json, in the table's order. -/
inductive Instr where
  /-- ARBITER_GRANT (R34). -/
  | arbiterGrant (tree : Nat) (round : ArbRound)
  /-- CURRENT_CLAMP (R26). -/
  | currentClamp (mv ma : Nat)
  /-- CLAMP_RELEASE (R26). -/
  | clampRelease (mv ma : Nat)
  /-- THERM_TRIP (R26). -/
  | thermTrip (d : Fin 4)
  /-- THERM_RELEASE (R26). -/
  | thermRelease (d : Fin 4)
  /-- CTL_LTC_LO_READ (R39). -/
  | ctlLtcLoRead (d : Fin 4) (r : LtcRead)
  /-- GRG_TEST_EVALUATION (R71). -/
  | grgTestEvaluation (d : Fin 4)
  /-- GRG_TEST_DONE (R71). -/
  | grgTestDone (d : Fin 4)
  /-- KLOAD (R78). -/
  | kload (d : Fin 4) (a : Fin 16) (p : Fin 4)
  /-- KSTREAM (R110). -/
  | kstream (d : Fin 4) (a : Fin 16) (p : Fin 4)
  /-- KCONV (R98). -/
  | kconv (d : Fin 4) (a : Fin 16) (p : Fin 4)
  /-- KCFG (R91). -/
  | kcfg (d : Fin 4) (a : Fin 16)
  /-- MVMUL (R102). -/
  | mvmul (d : Fin 4)
  /-- MVMUL_COMPLETE (R103). -/
  | mvmulComplete (d : Fin 4)
  /-- MVP_FAULT (R105). -/
  | mvpFault (d : Fin 4) (cause : Fin 8) (nidx : Nat)
  /-- LOAD_COMPLETE (R81). -/
  | loadComplete (d : Fin 4) (a : Fin 16)
  /-- COLUMN_SWAP (R81). -/
  | columnSwap (d : Fin 4) (a : Fin 16) (p : Fin 4) (col : Nat)
  /-- ROW_ENTRY (R77). -/
  | rowEntry (d : Fin 4) (a : Fin 16) (row : RowFeed)
  /-- ACCUMULATOR_ADD (R129). -/
  | accumulatorAdd (d : Fin 4) (a : Fin 16) (add : RowAdd)
  /-- PARTITION_FAULT (R93). -/
  | partitionFault (d : Fin 4) (a : Fin 16) (p : Fin 4) (cause : Fin 8)
  /-- LATE_PREFETCH (R88). -/
  | latePrefetch (u : LateUnit)
  /-- TILE_COMMIT (R121). -/
  | tileCommit (d : Fin 4) (a : Fin 16) (t : Fin 16) (lo : Word)
  /-- PENDING_COMMIT (R121). -/
  | pendingCommit (d : Fin 4) (a : Fin 16) (t : Fin 16)
  /-- DRAIN (R140). -/
  | drain (d : Fin 4) (a : Fin 16) (p : Fin 4)
  /-- DRAIN_ROW_SEGMENT (R141). -/
  | drainRowSegment (d : Fin 4) (a : Fin 16) (p : Fin 4) (k : Nat) (ecc : EccOutcome)
  /-- DRAIN_COMPLETE (R142). -/
  | drainComplete (d : Fin 4) (a : Fin 16) (p : Fin 4) (k : Nat)
  /-- DRAIN_FAULT (R143). -/
  | drainFault (d : Fin 4) (a : Fin 16) (p : Fin 4) (k : Nat) (cause : Fin 8)
  /-- TURN_WRITE (R151). -/
  | turnWrite (d : Fin 4) (pr : Fin 8) (v : Word)
  /-- TURN_TAKE_EFFECT (R151). -/
  | turnTakeEffect (d : Fin 4) (pr : Fin 8)
  /-- PUT (R166). -/
  | put (d : Fin 4)
  /-- GET (R168). -/
  | get (d : Fin 4)
  /-- DROP (R168). -/
  | drop (d : Fin 4)
  /-- LBND (R170). -/
  | lbnd (d : Fin 4)
  /-- SPILL (R167). -/
  | spill (d : Fin 4)
  /-- TILE_LANDING (R167). -/
  | tileLanding (d : Fin 4) (k : Nat)
  /-- STASH_COMMAND_COMPLETE (R168). -/
  | stashCommandComplete (d : Fin 4)
  /-- STS_RESUME (R172). -/
  | stsResume (d : Fin 4)
  /-- STS_DROP (R175). -/
  | stsDrop (d : Fin 4) (h : BitVec 12)
  /-- ALLOTMENT_WRITE (R173). -/
  | allotmentWrite (d : Fin 4) (r : Allotment) (v : Word)
  /-- VLOOP (R191). -/
  | vloop (d : Fin 4) (w : Fin 16)
  /-- ITERATION_START (R183). -/
  | iterationStart (d : Fin 4) (w : Fin 16)
  /-- IALU (R181). -/
  | ialu (d : Fin 4) (w : Fin 16) (c : Fin 128) (x : CoreCheck)
  /-- ADDI (R181). -/
  | addi (d : Fin 4) (w : Fin 16) (c : Fin 128) (x : CoreCheck)
  /-- LUI (R181). -/
  | lui (d : Fin 4) (w : Fin 16) (c : Fin 128) (x : CoreCheck)
  /-- FALU (R511). -/
  | falu (d : Fin 4) (w : Fin 16) (c : Fin 128) (x : CoreCheck)
  /-- FFMA (R181). -/
  | ffma (d : Fin 4) (w : Fin 16) (c : Fin 128) (x : CoreCheck)
  /-- BFMA2 (R181). -/
  | bfma2 (d : Fin 4) (w : Fin 16) (c : Fin 128) (x : CoreCheck)
  /-- FSPEC (R512). -/
  | fspec (d : Fin 4) (w : Fin 16) (c : Fin 128) (x : CoreCheck)
  /-- CVT (R189). -/
  | cvt (d : Fin 4) (w : Fin 16) (c : Fin 128) (x : CoreCheck)
  /-- LDW (R181). -/
  | ldw (d : Fin 4) (w : Fin 16) (c : Fin 128) (x : CoreCheck)
  /-- LDH (R181). -/
  | ldh (d : Fin 4) (w : Fin 16) (c : Fin 128) (x : CoreCheck)
  /-- LDB (R181). -/
  | ldb (d : Fin 4) (w : Fin 16) (c : Fin 128) (x : CoreCheck)
  /-- STW (R181). -/
  | stw (d : Fin 4) (w : Fin 16) (c : Fin 128) (x : CoreCheck)
  /-- STH (R181). -/
  | sth (d : Fin 4) (w : Fin 16) (c : Fin 128) (x : CoreCheck)
  /-- STB (R181). -/
  | stb (d : Fin 4) (w : Fin 16) (c : Fin 128) (x : CoreCheck)
  /-- LDL (R181). -/
  | ldl (d : Fin 4) (w : Fin 16) (c : Fin 128) (x : CoreCheck)
  /-- STL (R181). -/
  | stl (d : Fin 4) (w : Fin 16) (c : Fin 128) (x : CoreCheck)
  /-- LDQ (R181). -/
  | ldq (d : Fin 4) (w : Fin 16) (c : Fin 128) (x : CoreCheck)
  /-- QST (R190): one block of 32 lanes. -/
  | qst (d : Fin 4) (w : CheckedCluster) (blk : Nat)
  /-- PERM (R186). -/
  | perm (d : Fin 4) (w : CheckedCluster)
  /-- SUMX (R187). -/
  | sumx (d : Fin 4) (w : Fin 16) (c : Fin 128) (x : CoreCheck)
  /-- BEQ (R181). -/
  | beq (d : Fin 4) (w : Fin 16) (c : Fin 128) (x : CoreCheck)
  /-- BNE (R181). -/
  | bne (d : Fin 4) (w : Fin 16) (c : Fin 128) (x : CoreCheck)
  /-- BLT (R181). -/
  | blt (d : Fin 4) (w : Fin 16) (c : Fin 128) (x : CoreCheck)
  /-- BLTU (R181). -/
  | bltu (d : Fin 4) (w : Fin 16) (c : Fin 128) (x : CoreCheck)
  /-- JAL (R181). -/
  | jal (d : Fin 4) (w : Fin 16) (c : Fin 128) (x : CoreCheck)
  /-- JR (R181). -/
  | jr (d : Fin 4) (w : Fin 16) (c : Fin 128) (x : CoreCheck)
  /-- END (R188). -/
  | end_ (d : Fin 4) (w : Fin 16) (c : Fin 128) (x : CoreCheck)
  /-- RECORD_FETCH (R516). -/
  | recordFetch (d : Fin 4) (s : Fin 8)
  /-- RECORD_DISPATCH (R197). -/
  | recordDispatch (d : Fin 4) (s : Fin 8)
  /-- WAITC (R200). -/
  | waitc (d : Fin 4) (s : Fin 8)
  /-- SETC (R200). -/
  | setc (d : Fin 4) (s : Fin 8)
  /-- ADDC (R200). -/
  | addc (d : Fin 4) (s : Fin 8)
  /-- BRS (R200). -/
  | brs (d : Fin 4) (s : Fin 8)
  /-- JUMP (R200). -/
  | jump (d : Fin 4) (s : Fin 8)
  /-- LOOP (R200). -/
  | loop (d : Fin 4) (s : Fin 8)
  /-- DECBR (R200). -/
  | decbr (d : Fin 4) (s : Fin 8)
  /-- HALT (R200). -/
  | halt (d : Fin 4) (s : Fin 8)
  /-- SETSTEP (R70). -/
  | setstep (d : Fin 4) (s : Fin 8)
  /-- ABANDON (R202). -/
  | abandon (d : Fin 4) (s : Fin 8)
  /-- STREAM_RESUME (R199). -/
  | streamResume (d : Fin 4) (s : Fin 8)
  /-- DOORBELL (R420). -/
  | doorbell (d : Fin 4) (s : Fin 8) (v : Word) (poison : Bool)
  /-- CTL_SHEAD_WRITE (R204). -/
  | ctlSheadWrite (d : Fin 4) (s : Fin 8) (v : Word)
  /-- CTL_SYNC_WRITE (R194). -/
  | ctlSyncWrite (d : Fin 4) (c : Fin 256) (v : Word)
  /-- CTL_SYNCADD_WRITE (R194). -/
  | ctlSyncaddWrite (d : Fin 4) (c : Fin 256) (v : Word)
  /-- DSTART (R209). -/
  | dstart (d : Fin 4) (n : Fin 32)
  /-- MOVE (R214). -/
  | move (d : Fin 4) (n : Fin 32)
  /-- MOVX (R222). -/
  | movx (d : Fin 4) (n : Fin 32)
  /-- DMA_LOOP (R215). -/
  | dmaLoop (d : Fin 4) (n : Fin 32)
  /-- WAIT (R216). -/
  | wait (d : Fin 4) (n : Fin 32)
  /-- WAIT_TIMEOUT (R216). -/
  | waitTimeout (d : Fin 4) (n : Fin 32)
  /-- SIGNAL (R217). -/
  | signal (d : Fin 4) (n : Fin 32)
  /-- CRC_RESET (R220). -/
  | crcReset (d : Fin 4) (n : Fin 32)
  /-- CRC_STORE (R220). -/
  | crcStore (d : Fin 4) (n : Fin 32)
  /-- CRC_CHECK (R220). -/
  | crcCheck (d : Fin 4) (n : FedChan)
  /-- DMA_END (R218). -/
  | dmaEnd (d : Fin 4) (n : Fin 32)
  /-- BURST (R228). -/
  | burst (d : Fin 4) (n : Fin 32) (feed : Bool)
  /-- CREDIT_TICK (R228). -/
  | creditTick (d : Fin 4) (n : Fin 32)
  /-- WRITE_ARRIVAL (R224). -/
  | writeArrival (d : Fin 4) (n : Fin 32) (k : Nat)
  /-- DMA_ABORT (R230). -/
  | dmaAbort (d : Fin 4) (n : Fin 32)
  /-- PURGE (R230). -/
  | purge (d : Fin 4) (n : Fin 32)
  /-- COMPLETING_STEP (R231). -/
  | completingStep (d : Fin 4) (n : Fin 32)
  /-- OBJDEF (R243). -/
  | objdef (g : Fin 5)
  /-- RAISE (R250). -/
  | raise (g : Fin 5)
  /-- VICTIM_LOWERING (R250). -/
  | victimLowering (g : Fin 5)
  /-- LOWER (R253). -/
  | lower (g : Fin 5)
  /-- OBJDEL (R249). -/
  | objdel (g : Fin 5)
  /-- TILE_MOVE_ARRIVAL (R254). -/
  | tileMoveArrival (g : Fin 5) (k : Nat)
  /-- TIER_MOVE_FAULT (R257). -/
  | tierMoveFault (g : Fin 5) (k : Nat)
  /-- SEGMENT_COMMIT (R247). -/
  | segmentCommit (g : Fin 5) (v : Word)
  /-- PATROL_SCRUB (R265): a channel and one of its lines. -/
  | patrolScrub (ch : Fin 8) (line : Nat)
  /-- GATHER (R278). -/
  | gather (s : Fin 8)
  /-- REDUCE (R279). -/
  | reduce (s : Fin 8)
  /-- MOMENT (R280). -/
  | moment (s : Fin 8)
  /-- NEAR_BANK_STEP (R283). -/
  | nearBankStep (s : Fin 8) (u : Fin 512) (o : StepOutcome)
  /-- ORDINARY_ACCESS_SERVICE (R284). -/
  | ordinaryAccessService (s : Fin 8) (u : Fin 512)
  /-- TIER1_PATROL_SCRUB (R289). -/
  | tier1PatrolScrub (s : Fin 8) (ch : Fin 32) (bank : Fin 16) (word : Nat)
  /-- QUANT (R304). -/
  | quant (d : Fin 4) (flt : UnitFault)
  /-- STEPGATE (R309). -/
  | stepgate (d : Fin 4) (flt : UnitFault)
  /-- RDRV (R300). -/
  | rdrv (d : Fin 4) (flt : UnitFault)
  /-- DIGEST (R313). -/
  | digest (d : Fin 4) (flt : UnitFault)
  /-- PACK (R317). -/
  | pack (d : Fin 4) (flt : UnitFault)
  /-- MUPD (R301). -/
  | mupd
  /-- MASTER_LINE_UPDATE (R303). -/
  | masterLineUpdate (m : Fin 8) (line : Nat) (flt : UnitFault)
  /-- INGEST_JOB (R341). -/
  | ingestJob
  /-- SAMPLE_START (R344). -/
  | sampleStart (dec : Fin 48) (flt : SampleFault)
  /-- SAMPLE_COMMIT (R345). -/
  | sampleCommit
  /-- DECODE_TIMEOUT (R346). -/
  | decodeTimeout (dec : Fin 48)
  /-- ING_ABORT (R348). -/
  | ingAbort
  /-- PERM_TEST_EVALUATION (R351). -/
  | permTestEvaluation
  /-- PERM_TEST_DONE (R351). -/
  | permTestDone
  /-- DATA_FLIT (R358). -/
  | dataFlit (p : Fin 16) (f : Flit)
  /-- CONTROL_FLIT (R363). -/
  | controlFlit (p : Fin 16) (f : Flit)
  /-- CREDIT_RETURN (R360). -/
  | creditReturn (p : Fin 16)
  /-- REPLAY (R359). -/
  | replay (p : Fin 16)
  /-- LOSS_OF_SIGNAL (R362). -/
  | lossOfSignal (p : Fin 16) (lane : Fin 8)
  /-- TRAINING_COMPLETE (R363), in the mode and with the RXNEXT that the partner gave. -/
  | trainingComplete (p : Fin 16) (partnerResume : Bool) (rxNext : Nat)
  /-- TRAINING_ATTEMPT_TIMEOUT (R363). -/
  | trainingAttemptTimeout (p : Fin 16)
  /-- PORT_ENABLE (R362). -/
  | portEnable (p : Fin 16)
  /-- PORT_DISABLE (R362). -/
  | portDisable (p : Fin 16)
  /-- ADMIT (R362). -/
  | portAdmit (p : Fin 16) (v : Bool)
  /-- RETRAIN (R362). -/
  | retrain (p : Fin 16)
  /-- KEEPALIVE (R378). -/
  | keepalive (p : Fin 16)
  /-- KA (R379). -/
  | ka (p : Fin 16)
  /-- LSA (R380). -/
  | lsa (p : Fin 16)
  /-- GENANN (R376). -/
  | genann (p : Fin 16)
  /-- ROUTED_PACKET_ARRIVAL (R369). -/
  | routedPacketArrival (p : Fin 16)
  /-- WR (R372). -/
  | wr (p : Fin 16)
  /-- RD (R372). -/
  | rd (p : Fin 16)
  /-- DRD (R373). -/
  | drd (p : Fin 16)
  /-- WACK (R374). -/
  | wack (p : Fin 16)
  /-- RDR (R374). -/
  | rdr (p : Fin 16)
  /-- PEER_REQUEST (R374). -/
  | peerRequest
  /-- E2E_TIMEOUT (R374). -/
  | e2eTimeout (tag : BitVec 16)
  /-- ANNOUNCE (R376). -/
  | announce
  /-- TABLE_ENTRY_WRITE (R368). -/
  | tableEntryWrite (v : BitVec 64)
  /-- REDUCE_SCATTER (R388). -/
  | reduceScatter (d : CheckedDie)
  /-- ALL_GATHER (R388). -/
  | allGather (d : CheckedDie)
  /-- ALL_REDUCE (R388). -/
  | allReduce (d : CheckedDie)
  /-- COL_REDUCE (R396). -/
  | colReduce (p : Fin 16) (x : CoreCheck)
  /-- COL_GATHER (R395). -/
  | colGather (p : Fin 16) (x : CoreCheck)
  /-- COL_CLOSE (R399). -/
  | colClose (p : CheckedPort)
  /-- SEAL_EXPIRY (R400). -/
  | sealExpiry (d : Fin 4)
  /-- ABORT_PACKET (R405). -/
  | abortPacket (p : Fin 16)
  /-- COLLECTIVE_TIMEOUT (R404). -/
  | collectiveTimeout (d : Fin 4)
  /-- HOST_ABORT (R404). -/
  | hostAbort (d : Fin 4)
  /-- LINK_UP (R413). -/
  | linkUp (speed : Fin 8) (width : Fin 64) (flit : Bool)
  /-- CONFIG_REQUEST (R413). -/
  | configRequest (write : Bool) (reg : Fin 1024) (v : Word) (bdf : BitVec 16)
  /-- FLR (R414). -/
  | flr
  /-- HOT_RESET (R414). -/
  | hotReset
  /-- HOST_LINK_DOWN (R414). -/
  | hostLinkDown
  /-- LINK_STATE (R432). -/
  | linkState (speed : Fin 8) (width : Fin 64) (flit : Bool)
  /-- APERTURE_ACCESS (R417). -/
  | apertureAccess (write : Bool) (off : Nat) (data : List Byte) (len : Nat) (poison : Bool)
  /-- MSIX_TABLE_ACCESS (R423). -/
  | msixTableAccess (write : Bool) (off : Nat) (width : Nat) (v : BitVec 64) (poison : Bool)
  /-- EVENT_RING_ENABLE (R424). -/
  | eventRingEnable (v : Word)
  /-- EVENT_RING_DISABLE (R424). -/
  | eventRingDisable (v : Word)
  /-- EVENT_RING_VEC_CHANGE (R424). -/
  | eventRingVecChange (v : Word)
  /-- HIF_EVHEAD_WRITE (R427). -/
  | hifEvheadWrite (v : Word)
  /-- EVENT_RECORD_WRITE (R424). -/
  | eventRecordWrite
  /-- SET_ENDPOINT_ID (R428). -/
  | setEndpointId (req : List Byte)
  /-- GET_ENDPOINT_ID (R428). -/
  | getEndpointId (req : List Byte)
  /-- GET_ENDPOINT_UUID (R428). -/
  | getEndpointUuid (req : List Byte)
  /-- GET_MCTP_VERSION_SUPPORT (R428). -/
  | getMctpVersionSupport (req : List Byte)
  /-- GET_MESSAGE_TYPE_SUPPORT (R428). -/
  | getMessageTypeSupport (req : List Byte)
  /-- GET_VENDOR_DEFINED_MESSAGE_SUPPORT (R428). -/
  | getVendorDefinedMessageSupport (req : List Byte)
  /-- GET_STATUS (R429). -/
  | getStatus (inst : Byte) (payload : List Byte)
  /-- GET_HEALTH (R429). -/
  | getHealth (inst : Byte) (payload : List Byte)
  /-- GET_EVENTS (R429). -/
  | getEvents (inst : Byte) (payload : List Byte)
  /-- GET_QUOTE (R429). -/
  | getQuote (inst : Byte) (payload : List Byte)
  /-- POWER_GOOD (R435). -/
  | powerGood (presence : Bool) (probe : BootProbe)
  /-- MGT_BOOTOK_WRITE (R449). -/
  | mgtBootokWrite (v : Word)
  /-- BOOTOK_TIMEOUT (R449). -/
  | bootokTimeout (err : ReadError)
  /-- MODULE_READY (R435). -/
  | moduleReady (t1ok t2ok : Bool) (tready : BitVec 16)
  /-- PROGRAM (R445). -/
  | program
  /-- CFG_PROGRAM (R446). -/
  | cfgProgram (flashOk : Bool)
  /-- OFFER_UPDATE (R450). -/
  | offerUpdate
  /-- IMAGE_UPDATE (R450). -/
  | imageUpdate (flashOk : Bool)
  /-- RAISE_FLOOR (R451). -/
  | raiseFloor
  /-- REVOKE (R451). -/
  | revoke (mask : BitVec 4)
  /-- EXTEND (R452). -/
  | extend (k : Fin 8)
  /-- QUOTE (R455). -/
  | quote
  /-- QUOTE_READY (R455). -/
  | quoteReady
  /-- SEC_FLDATA_READ (R461). -/
  | secFldataRead
  /-- PWR_VSET_WRITE (R457). -/
  | pwrVsetWrite (ag : Agent) (d : Fin 4) (v : Word)
  /-- CONE_REPORT (R456). -/
  | coneReport (d : Fin 4) (c : Fin 16) (rate temp : BitVec 16) (mv : BitVec 10)
  /-- HANG (R468). -/
  | hang (w : Nat)
  /-- SHADOW_READ (R471). -/
  | shadowRead
  /-- SHADOW_WORD_READY (R471). -/
  | shadowWordReady
  /-- NORESP (R472). -/
  | noresp
  /-- RELEASE (R469), with the sections that Synian chooses to collect (R473): the unit, the first index and the number of words of each. -/
  | release (units first words : List Nat)
  /-- GROUP_RESET (R476). -/
  | groupReset (w : Nat)
  /-- DIE_RESET (R476). -/
  | dieReset (src : ResetSource) (d : Fin 4)
  /-- MODULE_RESET (R476). -/
  | moduleReset (src : ResetSource)
  /-- RESET_DONE (R476). -/
  | resetDone
  /-- KICK (R489). -/
  | kick
  /-- MGT_WATCHDOG (R489). -/
  | mgtWatchdog (err : ReadError)
  /-- REPAIR (R484). -/
  | repair (source : BitVec 15) (minority : Bool)
  /-- REPAIR_DONE (R485). -/
  | repairDone (ls : List Word) (epar : BitVec 4)
  /-- STEP_ABORT (R482). -/
  | stepAbort (try_ : BitVec 8)
  /-- SVCSET (R490). -/
  | svcset (mask : BitVec 3) (who : Nat)
  /-- LOSS_OF_POWER (R493). -/
  | lossOfPower
  /-- THERM_WARN (R501). -/
  | thermWarn (k : Fin 5) (i : Fin 64) (temp : BitVec 16)
  /-- THERMAL_SHUTDOWN (R502). -/
  | thermalShutdown (k : Fin 5) (i : Fin 64) (temp : BitVec 16)
  /-- REGISTER_WRITE (R32). -/
  | registerWrite (ag : Agent) (off : Nat) (width : Nat) (v : BitVec 64) (poison : Bool)
  /-- CODEWORD_TIME (R356). -/
  | codewordTime (p : Fin 16)
  /-- TAG_REUSE (R374). -/
  | tagReuse (tag : BitVec 16)
  /-- THERM_WARN_REARM (R501). -/
  | thermWarnRearm (k : Fin 5) (i : Fin 64) (temp : BitVec 16)
  /-- SHUTDOWN_RELEASE (R502). -/
  | shutdownRelease (feedRemovedMs : Nat) (presenceOpen : Bool)
  deriving DecidableEq, Repr

end Sys2Proof
end

