-- ==== Sys2Proof/Decode.lean ====
section
/-! DEFINITION. HK1 is a block, not a processor: its commands come from outside, and spec/opcode_table.json gives no row any
bits. So no word spells a command. -/

namespace Sys2Proof

/-- The command that a word of so many bits spells: none, since no row of the table has bits. -/
def decodeTableWord (_nbits _w : Nat) : Option Instr := none

end Sys2Proof
end

