-- ==== Sys2Proof/Config.lean ====
section
/-! DEFINITION. What the spec leaves open: free values (no body, so nothing can be proved of their value) and contents
that belong to one module only (fuses, flash). Each is named in the assumption log. -/

namespace Sys2Proof.Config

/-- The n-th value the machine draws where the spec leaves one open (a byte, a word, a choice); `State` counts n. -/
opaque freeWord : Nat → Word

/-- How far the local time counter of a die moves in one nanosecond, in millionths of its unit, before the tolerance of R37 bounds it
(die, time since power good). -/
opaque rate : Nat → Nat → Nat

/-- Whether a symbol of a stored code word of tier 1 or tier 2 goes bad in a nanosecond: an address in the word, and the number of
the symbol. -/
opaque strike : Nat → Option (Nat × Nat)

/-- Whether a coder takes an error of several symbols (their numbers, at the n-th value drawn) for one that it can correct (R262,
R286). -/
opaque miscorrects : Nat → List Nat → Bool

/-- Which of the two subchannels of its channel holds a line of tier 2 (its address). -/
opaque subchannel : Nat → Bool

/-- Which result the hardware gives, among those within 2 units in the last place, for f(z) and f'(z) of an activation not marked
exact in R133 (ACT code, FP32 code), and for FSPEC (FN, FP32 code) (R181). -/
opaque actPick : Nat → Word → Nat
opaque actSlopePick : Nat → Word → Nat
opaque fspecPick : Nat → Word → Nat

/-- The reset value of a 32-bit register of PCI configuration space (R411: the base specification's). -/
opaque cfgReset : Nat → Word

/-- What a write leaves in a 32-bit register of configuration space whose fields the spec does not give (register, value
before, value written). -/
opaque cfgWrite : Nat → Word → Word → Word

/-- Which 32-bit register of configuration space holds the MSI-X message control (the base specification lets the
function choose; bit 31 enables, bit 30 masks the function), and which the power management control (bits [1:0]). -/
opaque msixCap : Nat
opaque pmCap : Nat

/-- Which 32-bit register of configuration space begins the Advanced Error Reporting capability (R411); by the base specification its
Uncorrectable Error Status register is one past it and its Correctable Error Status register four past it. -/
opaque aerCap : Nat

/-- Which 32-bit register of configuration space begins the Device Serial Number capability (R411); by the base specification the two
registers after it hold the number. -/
opaque dsnCap : Nat

/-- Which 32-bit registers of configuration space begin the PCI Express capability and the extended capabilities of R411 beside the two
above: Secondary PCI Express, Physical Layer 16.0, 32.0 and 64.0 GT/s, Data Link Feature, Lane Margining at the Receiver. -/
opaque pcieCap : Nat
opaque secondaryCap : Nat
opaque phy16Cap : Nat
opaque phy32Cap : Nat
opaque phy64Cap : Nat
opaque dlfCap : Nat
opaque marginCap : Nat

/-- Daxelm's PCI-SIG Vendor ID (R411). -/
opaque vendorId : BitVec 16

/-- The answers of DSP0236 that the spec leaves to the module: its UUID, the version entries it supports for a message
type (none: not supported), and the vendor-defined command set type. -/
opaque uuid : List (BitVec 8)
opaque mctpVersions : Nat → Option (List (BitVec 8))
opaque mctpCommandSet : BitVec 16

/-- A byte of the flash as the factory left it (R438). -/
opaque flashByte : Nat → BitVec 8

/-- Boot-log records already written when the machine of the model begins (R441). -/
opaque bootStarts : Nat

/-- Fuses as the factory left them (R448): the SHA-256 hash of each key slot, the revoked slots, the count of ones of the
rollback floor and the unique device secret. -/
opaque fuseUds : BitVec 256
opaque fuseHash : Nat → List (BitVec 8)
opaque fuseRevoked : BitVec 4
opaque fuseFloor : Fin 65

/-- SLH-DSA-SHA2-128s verification of FIPS 205 (public key, signature, message). -/
opaque slhVerify : List (BitVec 8) → List (BitVec 8) → List (BitVec 8) → Bool

/-- ML-DSA-44 of FIPS 204 (R453, R454): the public and the secret key that KeyGen_internal makes of a seed, and a hedged signature with a
secret key (number of the draw, context string, message). -/
opaque mldsaKeyGen : List (BitVec 8) → List (BitVec 8) × List (BitVec 8)
opaque mldsaSign : List (BitVec 8) → Nat → List (BitVec 8) → List (BitVec 8) → List (BitVec 8)

/-- SHA-256 of the boot ROM (R452). -/
opaque romHash : List (BitVec 8)

/-- A profile that a stream signals: one that R328 names, or another. -/
inductive Profile where
  | constrainedBaseline
  | main
  | high
  | main10
  | other
  deriving DecidableEq, Repr, Inhabited

/-- What a decoder reports of a stream: whether it begins with a random-access point and breaks its standard in a way that the decoder
detects; the profile, the level (ten times the level, or AV1's seq_level_idx), the tier, frame_mbs_only_flag, the bit depth and the
chroma format it signals (none: monochrome; some true: 4:2:0); the picture size and whether it changes; how many frames it holds in
output order, and how many of them had been decoded when it ended. -/
structure Decoded where
  access  : Bool
  breach  : Bool
  profile : Profile
  level   : Nat
  tier    : Nat
  frameMbsOnly : Bool
  depth   : Nat
  chroma  : Option Bool
  width   : Nat
  height  : Nat
  changes : Bool
  nframes : Nat
  decoded : Nat
  deriving DecidableEq, Repr, Inhabited

/-- The decoding process of the stream's standard (CODEC, bytes, number of the last frame delivered): ITU-T H.264, H.265 and
AV1 are not in the spec. -/
opaque decodeInfo : Nat → List Byte → Nat → Decoded

/-- A decoded sample (CODEC, bytes, frame, plane 0 to 2, x, y). -/
opaque decodeSample : Nat → List Byte → Nat → Nat → Nat → Nat → Nat

/-- The picture size that the header of a sample gives where its decode was cut short by a time limit or a residue check: a function of
the descriptor, the colour block, the index entry and the stream (R327, R338, R347). -/
opaque pictureSize : List Word → List Word → List Byte → List Byte → Word

end Sys2Proof.Config
end

