-- ==== Sys2Proof/Machine/Bits.lean ====
section
/-! DEFINITION. Bit fields, bytes and sparse maps: the plain helpers every other file of the model uses. -/

namespace Sys2Proof.Machine

/-- Bits [hi:lo] of a word, as a number. -/
def fld (w : Word) (hi lo : Nat) : Nat := w.toNat / 2 ^ lo % 2 ^ (hi + 1 - lo)

/-- Bit n of a word. -/
def bit (w : Word) (n : Nat) : Bool := w.toNat / 2 ^ n % 2 == 1

/-- The word with bits [hi:lo] replaced by v (taken modulo the field's width). -/
def setFld (w : Word) (hi lo v : Nat) : Word :=
  BitVec.ofNat 32 (w.toNat - fld w hi lo * 2 ^ lo + v % 2 ^ (hi + 1 - lo) * 2 ^ lo)

/-- The word with bit n replaced. -/
def setBit (w : Word) (n : Nat) (b : Bool) : Word := setFld w n n b.toNat

/-- A number as a 32-bit word, modulo 2^32. -/
def wd (n : Nat) : Word := BitVec.ofNat 32 n

/-- Bits [31:0] and [63:32] of a number. -/
def lo32 (n : Nat) : Word := wd n
def hi32 (n : Nat) : Word := wd (n / 2 ^ 32)

/-- Two words as one 64-bit number, the lower word first. -/
def join (lo hi : Word) : Nat := lo.toNat + hi.toNat * 2 ^ 32

/-- A w-bit number read as two's complement. -/
def sext (w n : Nat) : Int := if n % 2 ^ w < 2 ^ (w - 1) then (n % 2 ^ w : Nat) else ((n % 2 ^ w : Nat) : Int) - ((2 ^ w : Nat) : Int)

/-- An integer modulo 2^w. -/
def wrap (w : Nat) (i : Int) : Nat := (i % ((2 ^ w : Nat) : Int)).toNat

/-- Element k of a list of words; 0 beyond its end. -/
def wordAt (l : List Word) (k : Nat) : Word := l.getD k 0

/-- The number n as k bytes, least significant first (R45). -/
def toBytes : Nat → Nat → List Byte
  | 0, _ => []
  | k + 1, n => BitVec.ofNat 8 n :: toBytes k (n / 256)

/-- Bytes, least significant first, as a number (R45). -/
def ofBytes : List Byte → Nat
  | [] => 0
  | b :: l => b.toNat + 256 * ofBytes l

/-- A list of words as bytes, each word little-endian. -/
def wordsToBytes (l : List Word) : List Byte := l.flatMap (fun w => toBytes 4 w.toNat)

/-- n words from a list of bytes. -/
def bytesToWords : Nat → List Byte → List Word
  | 0, _ => []
  | n + 1, l => wd (ofBytes (l.take 4)) :: bytesToWords n (l.drop 4)

/-- All Booleans of a list, as bits from position 0 up. -/
def ofBits : List Bool → Nat
  | [] => 0
  | b :: l => b.toNat + 2 * ofBits l

/-- A sum that holds at 0xFFFF_FFFF. -/
def satAdd32 (a n : Nat) : Nat := min (a + n) 0xFFFFFFFF

/-- The first entry of a sparse map at key k, or the default. -/
def mget {α : Type} (dflt : α) : List (Nat × α) → Nat → α
  | [], _ => dflt
  | (j, v) :: m, k => if j = k then v else mget dflt m k

/-- An entry put into a sparse map at its place. -/
def minsert {α : Type} (k : Nat) (v : α) : List (Nat × α) → List (Nat × α)
  | [] => [(k, v)]
  | (j, u) :: m => if j = k then (k, v) :: m else if k < j then (k, v) :: (j, u) :: m else (j, u) :: minsert k v m

/-- A sparse map with key k set to v: keys stay strictly rising, and setting the default removes the entry. -/
def mset {α : Type} [DecidableEq α] (dflt : α) (m : List (Nat × α)) (k : Nat) (v : α) : List (Nat × α) :=
  if v = dflt then m.filter (fun p => p.1 != k) else minsert k v m

/-- The canonical form of a sparse map. -/
def mwf {α : Type} [DecidableEq α] (dflt : α) : List (Nat × α) → Bool
  | [] => true
  | [(_, v)] => v != dflt
  | (j, v) :: (k, w) :: m => decide (j < k) && (v != dflt) && mwf dflt ((k, w) :: m)

/-- A number put into a strictly rising list. -/
def sinsert (k : Nat) : List Nat → List Nat
  | [] => [k]
  | j :: l => if j = k then j :: l else if k < j then k :: j :: l else j :: sinsert k l

/-- Element k of a list replaced, where it exists. -/
def setAt {α : Type} (l : List α) (k : Nat) (v : α) : List α := l.set k v

/-- The list without its element k. -/
def removeAt {α : Type} (l : List α) (k : Nat) : List α := l.eraseIdx k

/-- n consecutive numbers from a. -/
def rangeFrom (a : Nat) : Nat → List Nat
  | 0 => []
  | n + 1 => a :: rangeFrom (a + 1) n

/-- A list cut into pieces of k elements (at most n pieces). -/
def chunks {α : Type} (k : Nat) : Nat → List α → List (List α)
  | 0, _ => []
  | n + 1, l => l.take k :: chunks k n (l.drop k)

end Sys2Proof.Machine
end

