-- ==== Sys2Proof/Machine/Digest.lean ====
section
/-! DEFINITION. Checks over bytes: CRC-32C of RFC 3720 (R219), CRC-64/ECMA-182 (R313) and SHA-256 of FIPS 180-4 (R452). -/

namespace Sys2Proof.Machine

/-- n shifts of a reflected CRC register. -/
def crcShift (poly : Nat) : Nat → Nat → Nat
  | 0, r => r
  | n + 1, r => crcShift poly n (if r % 2 = 1 then (r / 2) ^^^ poly else r / 2)

/-- CRC-32C: the running register after a byte, least significant bit first. -/
def crc32cByte (r : Nat) (b : Byte) : Nat := crcShift 0x82F63B78 8 (r ^^^ b.toNat)

def crc32cRun (r : Nat) (l : List Byte) : Nat := l.foldl crc32cByte r

/-- The value a running register stands for. -/
def crc32cValue (r : Nat) : Word := wd (r ^^^ 0xFFFFFFFF)

/-- CRC-32C of a list of bytes. -/
def crc32c (l : List Byte) : Word := crc32cValue (crc32cRun 0xFFFFFFFF l)

/-- n shifts of a non-reflected 64-bit CRC register. -/
def crc64Shift : Nat → Nat → Nat
  | 0, r => r
  | n + 1, r => crc64Shift n (if r ≥ 2 ^ 63 then (r * 2 % 2 ^ 64) ^^^ 0x42F0E1EBA9EA3693 else r * 2)

def crc64Byte (r : Nat) (b : Byte) : Nat := crc64Shift 8 (r ^^^ (b.toNat * 2 ^ 56))

/-- CRC-64/ECMA-182 of a list of bytes, from a running register (R313). -/
def crc64Run (r : Nat) (l : List Byte) : Nat := l.foldl crc64Byte r

/-! SHA-256 (FIPS 180-4), over bytes; words are big-endian there. -/

/-- The first n primes of at least k, within a bound of trials. -/
def primesFrom : Nat → Nat → Nat → List Nat
  | 0, _, _ => []
  | t + 1, k, n =>
    if n = 0 then []
    else if (rangeFrom 2 (k - 2)).all (fun q => k % q != 0) then k :: primesFrom t (k + 1) (n - 1)
    else primesFrom t (k + 1) n

/-- The greatest r below 2^n with r^e at most x, found bit by bit from the top. -/
def rootBits (e x : Nat) : Nat → Nat → Nat
  | 0, r => r
  | n + 1, r => rootBits e x n (if (r + 2 ^ n) ^ e ≤ x then r + 2 ^ n else r)

/-- The first 32 bits of the fraction of the e-th root of p. -/
def rootFraction (e p : Nat) : Word := wd (rootBits e (p * 2 ^ (32 * e)) 40 0)

/-- The round constants: of the cube roots of the first 64 primes. -/
def shaK : List Word := (primesFrom 320 2 64).map (rootFraction 3)

/-- The initial hash value: of the square roots of the first eight primes. -/
def shaInit : List Word := (primesFrom 320 2 8).map (rootFraction 2)

def rotr (w : Word) (n : Nat) : Word := (w >>> n) ||| (w <<< (32 - n))

/-- The message schedule, the most recent word first: n more words. -/
def shaExpand : Nat → List Word → List Word
  | 0, l => l
  | n + 1, l =>
    let w2 := wordAt l 1
    let w7 := wordAt l 6
    let w15 := wordAt l 14
    let w16 := wordAt l 15
    let s0 := rotr w15 7 ^^^ rotr w15 18 ^^^ (w15 >>> 3)
    let s1 := rotr w2 17 ^^^ rotr w2 19 ^^^ (w2 >>> 10)
    shaExpand n ((w16 + s0 + w7 + s1) :: l)

/-- One round with its constant plus schedule word. -/
def shaRound (v : List Word) (kw : Word) : List Word :=
  let a := wordAt v 0
  let e := wordAt v 4
  let s1 := rotr e 6 ^^^ rotr e 11 ^^^ rotr e 25
  let ch := (e &&& wordAt v 5) ^^^ ((~~~e) &&& wordAt v 6)
  let t1 := wordAt v 7 + s1 + ch + kw
  let s0 := rotr a 2 ^^^ rotr a 13 ^^^ rotr a 22
  let mj := (a &&& wordAt v 1) ^^^ (a &&& wordAt v 2) ^^^ (wordAt v 1 &&& wordAt v 2)
  [t1 + (s0 + mj), a, wordAt v 1, wordAt v 2, wordAt v 3 + t1, e, wordAt v 5, wordAt v 6]

/-- A big-endian word of four bytes. -/
def beWord (l : List Byte) : Word := wd (ofBytes l.reverse)

/-- One block of 64 bytes. -/
def shaBlock (h : List Word) (b : List Byte) : List Word :=
  let m := ((chunks 4 16 b).map beWord).reverse
  let w := (shaExpand 48 m).reverse
  let v := ((shaK.zip w).map (fun p => p.1 + p.2)).foldl shaRound h
  (h.zip v).map (fun p => p.1 + p.2)

/-- SHA-256 of a list of bytes: 32 bytes. -/
def sha256 (l : List Byte) : List Byte :=
  let n := l.length
  let z := (119 - n % 64) % 64
  let p := l ++ [(0x80 : Byte)] ++ List.replicate z 0 ++ (toBytes 8 (8 * n)).reverse
  ((chunks 64 (p.length / 64) p).foldl shaBlock shaInit).flatMap (fun w => (toBytes 4 w.toNat).reverse)

/-! The identity key (R453). -/

/-- The bytes of an ASCII string. -/
def ascii (s : String) : List Byte := s.toList.map (fun c => BitVec.ofNat 8 c.toNat)

/-- HMAC-SHA-256 under a key of at most 64 bytes. -/
def hmacSha256 (key msg : List Byte) : List Byte :=
  let k := key ++ List.replicate (64 - key.length) 0
  sha256 (k.map (· ^^^ 0x5C) ++ sha256 (k.map (· ^^^ 0x36) ++ msg))

/-- The public and the secret key, from the unique device secret. DESIGN CHOICE: the first byte of the secret is in its low bits. -/
def identityKeys : List Byte × List Byte := Config.mldsaKeyGen (hmacSha256 (toBytes 32 Config.fuseUds.toNat) (ascii "HK1 identity v1"))

end Sys2Proof.Machine
end

