-- ==== Sys2Proof/Machine/RegTable.lean ====
section
/-! DEFINITION. The register tables of the spec (R31, R32 and each chapter's register section): where each register
lies, how it is accessed, its reset value, and which of its bits a write sets or, written as 1, clears. -/

namespace Sys2Proof.Machine

/-- Access kinds of the register tables. -/
inductive Access where
  | ro | rw | w1c | wo | rws
  deriving DecidableEq, Repr

/-- A register (or an array of registers at up to two strides) of a block: `own` 0 for the blocks of a die and 8 for the
module's, the block's DA[19:16], its offset, (stride, count) of each index, access, reset value, the bits a write sets,
the bits a written 1 clears, and whether only the management core may write it. -/
structure RegRow where
  own  : Nat
  blk  : Nat
  base : Nat
  dims : List (Nat × Nat)
  acc  : Access
  rst  : Nat
  w    : Nat
  w1   : Nat
  mgmt : Bool
  deriving DecidableEq, Repr

/-- Registers of the CTL block. -/
def ctlRegs : List RegRow := [
  ⟨0, 6, 0xF000, [], .ro, 0x0, 0x0, 0x0, false⟩, -- CTL_LTC_LO
  ⟨0, 6, 0xF004, [], .ro, 0x0, 0x0, 0x0, false⟩, -- CTL_LTC_HI
  ⟨0, 6, 0x0, [], .ro, 0x0, 0x0, 0x0, false⟩, -- CTL_STAT
  ⟨0, 6, 0x100, [(64, 8)], .rw, 0x0, 0xFFFFF000, 0x0, false⟩, -- CTL_SBASEs_LO
  ⟨0, 6, 0x104, [(64, 8)], .rw, 0x0, 0xFFFFF, 0x0, false⟩, -- CTL_SBASEs_HI
  ⟨0, 6, 0x108, [(64, 8)], .rw, 0x6, 0x1F, 0x0, false⟩, -- CTL_SSIZEs
  ⟨0, 6, 0x10C, [(64, 8)], .rw, 0x0, 0xFFFFF, 0x0, false⟩, -- CTL_SHEADs
  ⟨0, 6, 0x110, [(64, 8)], .rw, 0x0, 0xFFFFF, 0x0, false⟩, -- CTL_STAILs
  ⟨0, 6, 0x114, [(64, 8)], .wo, 0x0, 0x3, 0x0, false⟩, -- CTL_SCTLs
  ⟨0, 6, 0x118, [(64, 8)], .ro, 0x0, 0x0, 0x0, false⟩, -- CTL_SSTATs
  ⟨0, 6, 0x11C, [(64, 8)], .ro, 0x0, 0x0, 0x0, false⟩, -- CTL_SHRECs
  ⟨0, 6, 0x120, [(64, 8), (4, 4)], .ro, 0x0, 0x0, 0x0, false⟩, -- CTL_SLOOPs_l
  ⟨0, 6, 0x1000, [(4, 256)], .rw, 0x0, 0xFFFF, 0x0, false⟩, -- CTL_SYNCc
  ⟨0, 6, 0x1400, [(4, 256)], .wo, 0x0, 0xFFFF, 0x0, false⟩, -- CTL_SYNCADDc
  ⟨0, 6, 0x2000, [(8, 64)], .ro, 0x0, 0x0, 0x0, false⟩, -- CTL_SUMk_LO
  ⟨0, 6, 0x2004, [(8, 64)], .ro, 0x0, 0x0, 0x0, false⟩ -- CTL_SUMk_HI
  ]

/-- Registers of the GRG block. -/
def grgRegs : List RegRow := [
  ⟨0, 11, 0x0, [], .rw, 0x0, 0xFFFFFFFF, 0x0, false⟩, -- GRG_KEY_LO
  ⟨0, 11, 0x4, [], .rw, 0x0, 0xFFFFFFFF, 0x0, false⟩, -- GRG_KEY_HI
  ⟨0, 11, 0x8, [], .rw, 0x0, 0xFFFFFFFF, 0x0, false⟩, -- GRG_STEP
  ⟨0, 11, 0xC, [], .ro, 0x0, 0x0, 0x0, false⟩, -- GRG_STAT
  ⟨0, 11, 0x10, [], .rw, 0x0, 0xFFFFFFFF, 0x0, false⟩, -- GRG_TCTR0
  ⟨0, 11, 0x14, [], .rw, 0x0, 0xFFFFFFFF, 0x0, false⟩, -- GRG_TCTR1
  ⟨0, 11, 0x18, [], .rw, 0x0, 0xFFFFFFFF, 0x0, false⟩, -- GRG_TCTR2
  ⟨0, 11, 0x1C, [], .rw, 0x0, 0xFFFFFFFF, 0x0, false⟩, -- GRG_TCTR3
  ⟨0, 11, 0x20, [], .wo, 0x0, 0x1, 0x0, false⟩, -- GRG_TGO
  ⟨0, 11, 0x30, [], .ro, 0x0, 0x0, 0x0, false⟩, -- GRG_TOUT0
  ⟨0, 11, 0x34, [], .ro, 0x0, 0x0, 0x0, false⟩, -- GRG_TOUT1
  ⟨0, 11, 0x38, [], .ro, 0x0, 0x0, 0x0, false⟩, -- GRG_TOUT2
  ⟨0, 11, 0x3C, [], .ro, 0x0, 0x0, 0x0, false⟩ -- GRG_TOUT3
  ]

/-- Registers of the KLN block. -/
def klnRegs : List RegRow := [
  ⟨0, 1, 0x0, [], .rw, 0x0, 0xFFFF, 0x0, false⟩, -- KLN_LPMASK
  ⟨0, 1, 0x1000, [(256, 16)], .ro, 0x0, 0x0, 0x0, false⟩, -- KLN_STAT
  ⟨0, 1, 0x1004, [(256, 16), (4, 4)], .ro, 0x0, 0x0, 0x0, false⟩, -- KLN_PSTATp
  ⟨0, 1, 0x1020, [(256, 16), (8, 4)], .w1c, 0x0, 0x0, 0x80000000, false⟩, -- KLN_FRECp_LO
  ⟨0, 1, 0x1024, [(256, 16), (8, 4)], .ro, 0x0, 0x0, 0x0, false⟩, -- KLN_FRECp_HI
  ⟨0, 1, 0x1040, [(256, 16)], .ro, 0x0, 0x0, 0x0, false⟩, -- KLN_ROWCNT_LO
  ⟨0, 1, 0x1044, [(256, 16)], .ro, 0x0, 0x0, 0x0, false⟩, -- KLN_ROWCNT_HI
  ⟨0, 1, 0x1048, [(256, 16)], .ro, 0x0, 0x0, 0x0, false⟩, -- KLN_WAITNS_LO
  ⟨0, 1, 0x104C, [(256, 16)], .ro, 0x0, 0x0, 0x0, false⟩, -- KLN_WAITNS_HI
  ⟨0, 1, 0x1050, [(256, 16)], .ro, 0x0, 0x0, 0x0, false⟩, -- KLN_LOADCNT
  ⟨0, 1, 0x3000, [(16, 8)], .rw, 0x0, 0xE0000000, 0x0, false⟩, -- KLN_TURNp
  ⟨0, 1, 0x3004, [(16, 8)], .ro, 0x0, 0x0, 0x0, false⟩ -- KLN_TSTATp
  ]

/-- Registers of the MVP block. -/
def mvpRegs : List RegRow := [
  ⟨0, 4, 0x0, [], .ro, 0x0, 0x0, 0x0, false⟩, -- MVP_STAT
  ⟨0, 4, 0x8, [], .w1c, 0x0, 0x0, 0x80000000, false⟩, -- MVP_FREC_LO
  ⟨0, 4, 0xC, [], .ro, 0x0, 0x0, 0x0, false⟩, -- MVP_FREC_HI
  ⟨0, 4, 0x10, [], .ro, 0x0, 0x0, 0x0, false⟩, -- MVP_WAITNS_LO
  ⟨0, 4, 0x14, [], .ro, 0x0, 0x0, 0x0, false⟩, -- MVP_WAITNS_HI
  ⟨0, 4, 0xE000, [], .w1c, 0x0, 0x0, 0x7, false⟩, -- MVP_NUMSTAT
  ⟨0, 4, 0xE004, [], .rw, 0x0, 0xFFFFFFFF, 0x0, false⟩ -- MVP_SATCNT
  ]

/-- Registers of the ACC block. -/
def accRegs : List RegRow := [
  ⟨0, 2, 0x1000, [(512, 16)], .ro, 0x0, 0x0, 0x0, false⟩, -- ACC_STAT
  ⟨0, 2, 0x1004, [(512, 16)], .w1c, 0x0, 0x0, 0x80000000, false⟩, -- ACC_ERR
  ⟨0, 2, 0x1008, [(512, 16)], .rw, 0x0, 0xFFFFFFFF, 0x0, false⟩, -- ACC_CECNT
  ⟨0, 2, 0x100C, [(512, 16)], .rw, 0x0, 0xFFFFFFFF, 0x0, false⟩, -- ACC_UECNT
  ⟨0, 2, 0x1010, [(512, 16)], .ro, 0x0, 0x0, 0x0, false⟩, -- ACC_PARK_LO
  ⟨0, 2, 0x1014, [(512, 16)], .ro, 0x0, 0x0, 0x0, false⟩, -- ACC_PARK_HI
  ⟨0, 2, 0x1018, [(512, 16)], .ro, 0x0, 0x0, 0x0, false⟩, -- ACC_FILL_LO
  ⟨0, 2, 0x101C, [(512, 16)], .ro, 0x0, 0x0, 0x0, false⟩, -- ACC_FILL_HI
  ⟨0, 2, 0x1020, [(512, 16)], .ro, 0x0, 0x0, 0x0, false⟩, -- ACC_HOLDNS_LO
  ⟨0, 2, 0x1024, [(512, 16)], .ro, 0x0, 0x0, 0x0, false⟩, -- ACC_HOLDNS_HI
  ⟨0, 2, 0x1100, [(512, 16), (16, 16)], .rw, 0x0, 0xF1FFFFFF, 0x0, false⟩, -- ACC_TCFGt_LO
  ⟨0, 2, 0x1104, [(512, 16), (16, 16)], .rw, 0x0, 0x1FFFF, 0x0, false⟩, -- ACC_TCFGt_HI
  ⟨0, 2, 0x1108, [(512, 16), (16, 16)], .rw, 0x0, 0xFFFFFFFF, 0x0, false⟩ -- ACC_TCFGt_BK
  ]

/-- Registers of the DRN block. -/
def drnRegs : List RegRow := [
  ⟨0, 3, 0x1000, [(256, 16)], .ro, 0x0, 0x0, 0x0, false⟩, -- DRN_STAT
  ⟨0, 3, 0x1010, [(256, 16), (8, 4)], .w1c, 0x0, 0x0, 0x80000000, false⟩, -- DRN_FRECp_LO
  ⟨0, 3, 0x1014, [(256, 16), (8, 4)], .ro, 0x0, 0x0, 0x0, false⟩, -- DRN_FRECp_HI
  ⟨0, 3, 0x1030, [(256, 16)], .ro, 0x0, 0x0, 0x0, false⟩, -- DRN_ROWCNT_LO
  ⟨0, 3, 0x1034, [(256, 16)], .ro, 0x0, 0x0, 0x0, false⟩, -- DRN_ROWCNT_HI
  ⟨0, 3, 0xE000, [], .w1c, 0x0, 0x0, 0x7, false⟩, -- DRN_NUMSTAT
  ⟨0, 3, 0xE004, [], .rw, 0x0, 0xFFFFFFFF, 0x0, false⟩ -- DRN_SATCNT
  ]

/-- Registers of the STS block. -/
def stsRegs : List RegRow := [
  ⟨0, 9, 0x0, [], .ro, 0x0, 0x0, 0x0, false⟩, -- STS_STAT
  ⟨0, 9, 0x4, [], .wo, 0x0, 0xFFF0003, 0x0, false⟩, -- STS_CTL
  ⟨0, 9, 0x8, [], .rw, 0x0, 0xFFFFFFFF, 0x0, false⟩, -- STS_POOL
  ⟨0, 9, 0xC, [], .rw, 0x0, 0xFFF, 0x0, false⟩, -- STS_POOLN
  ⟨0, 9, 0x10, [], .rw, 0x0, 0xFFFF0000, 0x0, false⟩, -- STS_T1BASE_LO
  ⟨0, 9, 0x14, [], .rw, 0x0, 0xFFFFF, 0x0, false⟩, -- STS_T1BASE_HI
  ⟨0, 9, 0x18, [], .rw, 0x0, 0x7FFFFF, 0x0, false⟩, -- STS_T1N
  ⟨0, 9, 0x20, [], .rw, 0x0, 0xFFFF0000, 0x0, false⟩, -- STS_T2BASE_LO
  ⟨0, 9, 0x24, [], .rw, 0x0, 0xFFFFF, 0x0, false⟩, -- STS_T2BASE_HI
  ⟨0, 9, 0x28, [], .rw, 0x0, 0x3FFFFFF, 0x0, false⟩, -- STS_T2N
  ⟨0, 9, 0x2C, [], .rw, 0x0, 0xFFF, 0x0, false⟩, -- STS_SPILLWM
  ⟨0, 9, 0x30, [], .ro, 0x0, 0x0, 0x0, false⟩, -- STS_AVAIL
  ⟨0, 9, 0x34, [], .ro, 0x0, 0x0, 0x0, false⟩, -- STS_RESV
  ⟨0, 9, 0x38, [], .w1c, 0x0, 0x0, 0x80000000, false⟩ -- STS_ERR
  ]

/-- Registers of the VEC block. -/
def vecRegs : List RegRow := [
  ⟨0, 5, 0x0, [], .ro, 0x0, 0x0, 0x0, false⟩, -- VEC_STAT
  ⟨0, 5, 0x1000, [(256, 16)], .ro, 0x0, 0x0, 0x0, false⟩, -- VEC_CSTATc
  ⟨0, 5, 0x1004, [(256, 16)], .w1c, 0x0, 0x0, 0x7, false⟩, -- VEC_VSTATc
  ⟨0, 5, 0x1008, [(256, 16)], .w1c, 0x0, 0x0, 0x80000000, false⟩, -- VEC_FRECc_LO
  ⟨0, 5, 0x100C, [(256, 16)], .ro, 0x0, 0x0, 0x0, false⟩, -- VEC_FRECc_HI
  ⟨0, 5, 0x1010, [(256, 16)], .ro, 0x0, 0x0, 0x0, false⟩, -- VEC_FRECc_EL
  ⟨0, 5, 0xE000, [], .w1c, 0x0, 0x0, 0x7, false⟩, -- VEC_NUMSTAT
  ⟨0, 5, 0xE004, [], .rw, 0x0, 0xFFFFFFFF, 0x0, false⟩ -- VEC_SATCNT
  ]

/-- Registers of the DMA block. -/
def dmaRegs : List RegRow := [
  ⟨0, 8, 0x0, [], .ro, 0x0, 0x0, 0x0, false⟩, -- DMA_STAT
  ⟨0, 8, 0x1000, [(64, 32)], .ro, 0x0, 0x0, 0x0, false⟩, -- DMA_CSTATn
  ⟨0, 8, 0x1004, [(64, 32)], .wo, 0x0, 0x3, 0x0, false⟩, -- DMA_CCTLn
  ⟨0, 8, 0x1008, [(64, 32)], .w1c, 0x0, 0x0, 0xF, false⟩, -- DMA_CISTn
  ⟨0, 8, 0x100C, [(64, 32)], .ro, 0x0, 0x0, 0x0, false⟩, -- DMA_CLASTn
  ⟨0, 8, 0x1010, [(64, 32)], .ro, 0x0, 0x0, 0x0, false⟩, -- DMA_CRESn_LO
  ⟨0, 8, 0x1014, [(64, 32)], .ro, 0x0, 0x0, 0x0, false⟩, -- DMA_CRESn_HI
  ⟨0, 8, 0x1018, [(64, 32)], .ro, 0x0, 0x0, 0x0, false⟩, -- DMA_CCRCn
  ⟨0, 8, 0x1020, [(64, 32)], .ro, 0x0, 0x0, 0x0, false⟩, -- DMA_CBYTESn_LO
  ⟨0, 8, 0x1024, [(64, 32)], .ro, 0x0, 0x0, 0x0, false⟩, -- DMA_CBYTESn_HI
  ⟨0, 8, 0x1028, [(64, 32), (4, 4)], .ro, 0x0, 0x0, 0x0, false⟩ -- DMA_CLOOPn_l
  ]

/-- Registers of the TIER block. -/
def tierRegs : List RegRow := [
  ⟨8, 0, 0x0, [], .ro, 0x0, 0x0, 0x0, false⟩, -- TIER_STAT
  ⟨8, 0, 0x4, [], .w1c, 0x0, 0x0, 0x80000000, false⟩, -- TIER_ERR
  ⟨8, 0, 0x10, [(16, 5)], .rw, 0x0, 0xFFFF0000, 0x0, false⟩, -- TIER_SEGs_BASE_LO
  ⟨8, 0, 0x14, [(16, 5)], .rw, 0x0, 0xFFFFF, 0x0, false⟩, -- TIER_SEGs_BASE_HI
  ⟨8, 0, 0x18, [(16, 5)], .rw, 0x0, 0x7FFF, 0x0, false⟩, -- TIER_SEGs_N
  ⟨8, 0, 0x1C, [(16, 5)], .ro, 0x0, 0x0, 0x0, false⟩, -- TIER_SEGs_STAT
  ⟨8, 0, 0x100, [], .rw, 0x0, 0x3FFF, 0x0, false⟩, -- TIER_DIRIDX
  ⟨8, 0, 0x104, [], .ro, 0x0, 0x0, 0x0, false⟩, -- TIER_DIRENT
  ⟨8, 0, 0x108, [], .ro, 0x0, 0x0, 0x0, false⟩, -- TIER_DIRTILE
  ⟨8, 0, 0x10C, [], .ro, 0x0, 0x0, 0x0, false⟩, -- TIER_DIRAGE
  ⟨8, 0, 0x110, [], .rw, 0x0, 0x1FFFFFF, 0x0, false⟩, -- TIER_LKUP_LO
  ⟨8, 0, 0x114, [], .rw, 0x0, 0x3FF, 0x0, false⟩, -- TIER_LKUP_HI
  ⟨8, 0, 0x118, [], .ro, 0x0, 0x0, 0x0, false⟩, -- TIER_LKRES
  ⟨8, 0, 0x120, [], .rw, 0x0, 0x3FF, 0x0, false⟩, -- TIER_OBJIDX
  ⟨8, 0, 0x124, [(4, 4)], .ro, 0x0, 0x0, 0x0, false⟩, -- TIER_OBJw
  ⟨8, 0, 0x140, [], .ro, 0x0, 0x0, 0x0, false⟩, -- TIER_MOVED_LO
  ⟨8, 0, 0x144, [], .ro, 0x0, 0x0, 0x0, false⟩ -- TIER_MOVED_HI
  ]

/-- Registers of the MRD block. -/
def mrdRegs : List RegRow := [
  ⟨8, 2, 0x0, [], .ro, 0x0, 0x0, 0x0, false⟩, -- MRD_POP
  ⟨8, 2, 0x4, [], .rw, 0x18, 0xFF, 0x0, false⟩, -- MRD_SCRUB
  ⟨8, 2, 0x1000, [(64, 8)], .ro, 0x0, 0x0, 0x0, false⟩, -- MRD_CSTATm
  ⟨8, 2, 0x1004, [(64, 8)], .rw, 0x0, 0xFFFFFFFF, 0x0, false⟩, -- MRD_CECNTm
  ⟨8, 2, 0x1008, [(64, 8)], .rw, 0x0, 0xFFFFFFFF, 0x0, false⟩, -- MRD_UECNTm
  ⟨8, 2, 0x100C, [(64, 8)], .rw, 0x0, 0xFFFF, 0x0, false⟩, -- MRD_CETHRm
  ⟨8, 2, 0x1010, [(64, 8)], .ro, 0x0, 0x0, 0x0, false⟩, -- MRD_CELASTm
  ⟨8, 2, 0x1018, [(64, 8)], .ro, 0x0, 0x0, 0x0, false⟩, -- MRD_UEADDRm_LO
  ⟨8, 2, 0x101C, [(64, 8)], .ro, 0x0, 0x0, 0x0, false⟩, -- MRD_UEADDRm_HI
  ⟨8, 2, 0x8, [], .ro, 0x0, 0x0, 0x0, false⟩, -- MRD_USTAT
  ⟨8, 2, 0x10, [], .w1c, 0x0, 0x0, 0x80000000, false⟩, -- MRD_UFREC_LO
  ⟨8, 2, 0x14, [], .ro, 0x0, 0x0, 0x0, false⟩, -- MRD_UFREC_HI
  ⟨8, 2, 0xE000, [], .w1c, 0x0, 0x0, 0x7, false⟩, -- MRD_NUMSTAT
  ⟨8, 2, 0xE004, [], .rw, 0x0, 0xFFFFFFFF, 0x0, false⟩ -- MRD_SATCNT
  ]

/-- Registers of the SLP block. -/
def slpRegs : List RegRow := [
  ⟨8, 1, 0x0, [], .ro, 0x0, 0x0, 0x0, false⟩, -- SLP_STAT
  ⟨8, 1, 0x4, [], .rw, 0x18, 0xFF, 0x0, false⟩, -- SLP_SCRUB
  ⟨8, 1, 0x1000, [(256, 8)], .ro, 0x0, 0x0, 0x0, false⟩, -- SLP_SSTATs
  ⟨8, 1, 0x1004, [(256, 8)], .w1c, 0x0, 0x0, 0x80000000, false⟩, -- SLP_FRECs_LO
  ⟨8, 1, 0x1008, [(256, 8)], .ro, 0x0, 0x0, 0x0, false⟩, -- SLP_FRECs_HI
  ⟨8, 1, 0x100C, [(256, 8)], .rw, 0x0, 0xFFFFFFFF, 0x0, false⟩, -- SLP_CECNTs
  ⟨8, 1, 0x1010, [(256, 8)], .rw, 0x0, 0xFFFFFFFF, 0x0, false⟩, -- SLP_UECNTs
  ⟨8, 1, 0x1014, [(256, 8)], .rw, 0x0, 0xFFFF, 0x0, false⟩, -- SLP_CETHRs
  ⟨8, 1, 0x1018, [(256, 8)], .ro, 0x0, 0x0, 0x0, false⟩, -- SLP_UEADDRs
  ⟨8, 1, 0x1020, [(256, 8)], .ro, 0x0, 0x0, 0x0, false⟩, -- SLP_STEPSs_LO
  ⟨8, 1, 0x1024, [(256, 8)], .ro, 0x0, 0x0, 0x0, false⟩, -- SLP_STEPSs_HI
  ⟨8, 1, 0x1028, [(256, 8)], .ro, 0x0, 0x0, 0x0, false⟩, -- SLP_ILWAITs_LO
  ⟨8, 1, 0x102C, [(256, 8)], .ro, 0x0, 0x0, 0x0, false⟩, -- SLP_ILWAITs_HI
  ⟨8, 1, 0xE000, [], .w1c, 0x0, 0x0, 0x7, false⟩, -- SLP_NUMSTAT
  ⟨8, 1, 0xE004, [], .rw, 0x0, 0xFFFFFFFF, 0x0, false⟩ -- SLP_SATCNT
  ]

/-- Registers of the TRS block. -/
def trsRegs : List RegRow := [
  ⟨0, 10, 0x0, [], .ro, 0x0, 0x0, 0x0, false⟩, -- TRS_STAT
  ⟨0, 10, 0x4, [], .rws, 0x0, 0x1, 0x0, false⟩, -- TRS_EPAR
  ⟨0, 10, 0x8, [], .rws, 0x0, 0xFFFFF000, 0x0, false⟩, -- TRS_LSPOL
  ⟨0, 10, 0xC, [], .rws, 0x0, 0xFFFF, 0x0, false⟩, -- TRS_LSLIM
  ⟨0, 10, 0x10, [], .rws, 0x0, 0xFFFFFFFF, 0x0, false⟩, -- TRS_LSSTATE
  ⟨0, 10, 0x14, [], .ro, 0x0, 0x0, 0x0, false⟩, -- TRS_LASTOUT
  ⟨0, 10, 0x18, [], .ro, 0x0, 0x0, 0x0, false⟩, -- TRS_REPSRC
  ⟨0, 10, 0x1C, [], .ro, 0x0, 0x0, 0x0, false⟩, -- TRS_PACKLEN
  ⟨0, 10, 0x20, [], .ro, 0x0, 0x0, 0x0, false⟩, -- TRS_DIGEST_LO
  ⟨0, 10, 0x24, [], .ro, 0x0, 0x0, 0x0, false⟩, -- TRS_DIGEST_HI
  ⟨0, 10, 0x28, [], .w1c, 0x0, 0x0, 0x80000000, false⟩, -- TRS_FREC_LO
  ⟨0, 10, 0x2C, [], .ro, 0x0, 0x0, 0x0, false⟩, -- TRS_FREC_HI
  ⟨0, 10, 0x30, [], .rw, 0x0, 0xFFFFFFFF, 0x0, false⟩, -- TRS_STAB
  ⟨0, 10, 0x34, [], .rw, 0x0, 0x7FF, 0x0, false⟩, -- TRS_STABN
  ⟨0, 10, 0xE000, [], .w1c, 0x0, 0x0, 0x7, false⟩, -- TRS_NUMSTAT
  ⟨0, 10, 0xE004, [], .rw, 0x0, 0xFFFFFFFF, 0x0, false⟩ -- TRS_SATCNT
  ]

/-- Registers of the ING block, part 1. -/
def ingRegsA : List RegRow := [
  ⟨8, 6, 0x0, [], .ro, 0x0, 0x0, 0x0, false⟩, -- ING_STAT
  ⟨8, 6, 0x4, [], .wo, 0x0, 0x1, 0x0, false⟩, -- ING_CTL
  ⟨8, 6, 0x8, [], .rw, 0x0, 0xFFFF0000, 0x0, false⟩, -- ING_BSBASE_LO
  ⟨8, 6, 0xC, [], .rw, 0x0, 0xFFFFF, 0x0, false⟩, -- ING_BSBASE_HI
  ⟨8, 6, 0x10, [], .rw, 0x0, 0x1FFF, 0x0, false⟩, -- ING_BSSIZE
  ⟨8, 6, 0x18, [], .ro, 0x0, 0x0, 0x0, false⟩, -- ING_DONE
  ⟨8, 6, 0x1C, [], .rw, 0x0, 0xFFFFFFFF, 0x0, false⟩, -- ING_BADCNT
  ⟨8, 6, 0x20, [], .w1c, 0x0, 0x0, 0x80000000, false⟩, -- ING_FREC_LO
  ⟨8, 6, 0x24, [], .ro, 0x0, 0x0, 0x0, false⟩, -- ING_FREC_POS
  ⟨8, 6, 0x28, [], .ro, 0x0, 0x0, 0x0, false⟩, -- ING_FREC_SAMP_LO
  ⟨8, 6, 0x2C, [], .ro, 0x0, 0x0, 0x0, false⟩, -- ING_FREC_SAMP_HI
  ⟨8, 6, 0x30, [], .ro, 0x0, 0x0, 0x0, false⟩, -- ING_DECBUSY_LO
  ⟨8, 6, 0x34, [], .ro, 0x0, 0x0, 0x0, false⟩, -- ING_DECBUSY_HI
  ⟨8, 6, 0x38, [], .ro, 0x0, 0x0, 0x0, false⟩, -- ING_FRAMES_LO
  ⟨8, 6, 0x3C, [], .ro, 0x0, 0x0, 0x0, false⟩, -- ING_FRAMES_HI
  ⟨8, 6, 0x80, [], .rw, 0x0, 0xFFFFFFFF, 0x0, false⟩, -- ING_PTKEY_LO
  ⟨8, 6, 0x84, [], .rw, 0x0, 0xFFFFFFFF, 0x0, false⟩, -- ING_PTKEY_HI
  ⟨8, 6, 0x88, [], .rw, 0x0, 0xFFFFFFFF, 0x0, false⟩, -- ING_PTEPOCH
  ⟨8, 6, 0x8C, [], .rw, 0x0, 0xFFFFFFFF, 0x0, false⟩, -- ING_PTN_LO
  ⟨8, 6, 0x90, [], .rw, 0x0, 0xFFFF, 0x0, false⟩, -- ING_PTN_HI
  ⟨8, 6, 0x94, [], .rw, 0x0, 0xFFFFFFFF, 0x0, false⟩, -- ING_PTJ_LO
  ⟨8, 6, 0x98, [], .rw, 0x0, 0xFFFF, 0x0, false⟩, -- ING_PTJ_HI
  ⟨8, 6, 0x9C, [], .wo, 0x0, 0x1, 0x0, false⟩, -- ING_PTGO
  ⟨8, 6, 0xA0, [], .ro, 0x0, 0x0, 0x0, false⟩ -- ING_PTOUT_LO
  ]

/-- Registers of the ING block, part 2. -/
def ingRegsB : List RegRow := [
  ⟨8, 6, 0xA4, [], .ro, 0x0, 0x0, 0x0, false⟩, -- ING_PTOUT_HI
  ⟨8, 6, 0xE000, [], .w1c, 0x0, 0x0, 0x7, false⟩, -- ING_NUMSTAT
  ⟨8, 6, 0xE004, [], .rw, 0x0, 0xFFFFFFFF, 0x0, false⟩ -- ING_SATCNT
  ]

def ingRegs : List RegRow := ingRegsA ++ ingRegsB

/-- Registers of the FAB block. -/
def fabRegs : List RegRow := [
  ⟨8, 3, 0x1000, [(256, 16)], .rw, 0x0, 0xC0000000, 0x0, false⟩, -- FAB_PCTLp
  ⟨8, 3, 0x1004, [(256, 16)], .wo, 0x0, 0x1, 0x0, false⟩, -- FAB_PCMDp
  ⟨8, 3, 0x1008, [(256, 16)], .ro, 0x0, 0x0, 0x0, false⟩, -- FAB_PORT_STATp
  ⟨8, 3, 0x100C, [(256, 16)], .ro, 0x0, 0x0, 0x0, false⟩, -- FAB_PEERp
  ⟨8, 3, 0x1010, [(256, 16)], .rw, 0x0, 0xFFFFFFFF, 0x0, false⟩, -- FAB_CWCEp
  ⟨8, 3, 0x1014, [(256, 16)], .rw, 0x0, 0xFFFFFFFF, 0x0, false⟩, -- FAB_CWUEp
  ⟨8, 3, 0x1018, [(256, 16)], .rw, 0x0, 0xFFFFFFFF, 0x0, false⟩, -- FAB_REPLAYp
  ⟨8, 3, 0x101C, [(256, 16)], .rw, 0x0, 0xFFFFFFFF, 0x0, false⟩, -- FAB_RETRAINp
  ⟨8, 3, 0x1020, [(256, 16)], .ro, 0x0, 0x0, 0x0, false⟩ -- FAB_RTTp
  ]

/-- Registers of the RTE block. -/
def rteRegs : List RegRow := [
  ⟨8, 4, 0x0, [], .ro, 0x0, 0x0, 0x0, false⟩, -- RTE_SELF
  ⟨8, 4, 0x4, [], .wo, 0x0, 0x1, 0x0, false⟩, -- RTE_CTL
  ⟨8, 4, 0x8, [], .rw, 0x3E8, 0xFFFFF, 0x0, false⟩, -- RTE_E2ETMO
  ⟨8, 4, 0xC, [], .rw, 0x20, 0x3F, 0x0, false⟩, -- RTE_MAXHOP
  ⟨8, 4, 0x10, [], .rw, 0x0, 0x7FFF, 0x0, false⟩, -- RTE_TIDX
  ⟨8, 4, 0x18, [], .rw, 0x0, 0xFFFFFFFF, 0x0, false⟩, -- RTE_TENT_LO
  ⟨8, 4, 0x1C, [], .rw, 0x0, 0xFFFFFFFF, 0x0, false⟩, -- RTE_TENT_HI
  ⟨8, 4, 0x20, [], .w1c, 0x0, 0x0, 0x1F, false⟩, -- RTE_DROP
  ⟨8, 4, 0x24, [], .rw, 0x0, 0xFFFFFFFF, 0x0, false⟩, -- RTE_NOROUTE
  ⟨8, 4, 0x28, [], .rw, 0x0, 0xFFFFFFFF, 0x0, false⟩, -- RTE_STALE
  ⟨8, 4, 0x2C, [], .ro, 0x0, 0x0, 0x0, false⟩, -- RTE_OUTST
  ⟨8, 4, 0x30, [], .rw, 0x0, 0xFFFFFFFF, 0x0, false⟩, -- RTE_PAXIS_LO
  ⟨8, 4, 0x34, [], .rw, 0x0, 0xFFFFFFFF, 0x0, false⟩, -- RTE_PAXIS_HI
  ⟨8, 4, 0x44, [(4, 5)], .rw, 0x0, 0xFFFFFFFF, 0x0, false⟩, -- RTE_AXk
  ⟨8, 4, 0x100, [(8, 16)], .rw, 0x0, 0xFFFF0007, 0x0, false⟩, -- RTE_WINe_LO
  ⟨8, 4, 0x104, [(8, 16)], .rw, 0x0, 0xFFFFF, 0x0, false⟩, -- RTE_WINe_HI
  ⟨8, 4, 0x200, [], .rw, 0x0, 0x1, 0x0, false⟩ -- RTE_DIRECT
  ]

/-- Registers of the COL block. -/
def colRegs : List RegRow := [
  ⟨0, 12, 0x0, [], .ro, 0x0, 0x0, 0x0, false⟩, -- COL_STAT
  ⟨0, 12, 0x4, [], .wo, 0x0, 0x1, 0x0, false⟩, -- COL_CTL
  ⟨0, 12, 0x8, [], .rws, 0x0, 0xFF, 0x0, false⟩, -- COL_TRY
  ⟨0, 12, 0xC, [], .rw, 0x8, 0xFFFF, 0x0, false⟩, -- COL_SEAL
  ⟨0, 12, 0x10, [], .ro, 0x0, 0x0, 0x0, false⟩, -- COL_ABORTST
  ⟨0, 12, 0x14, [], .ro, 0x0, 0x0, 0x0, false⟩, -- COL_VOTE
  ⟨0, 12, 0x18, [], .w1c, 0x0, 0x0, 0x80000000, false⟩, -- COL_FREC_LO
  ⟨0, 12, 0x1C, [], .ro, 0x0, 0x0, 0x0, false⟩, -- COL_FREC_HI
  ⟨0, 12, 0x20, [], .ro, 0x0, 0x0, 0x0, false⟩, -- COL_TRUNC_LO
  ⟨0, 12, 0x24, [], .ro, 0x0, 0x0, 0x0, false⟩, -- COL_TRUNC_HI
  ⟨0, 12, 0x28, [], .ro, 0x0, 0x0, 0x0, false⟩, -- COL_TXB_LO
  ⟨0, 12, 0x2C, [], .ro, 0x0, 0x0, 0x0, false⟩, -- COL_TXB_HI
  ⟨0, 12, 0xE000, [], .w1c, 0x0, 0x0, 0x7, false⟩, -- COL_NUMSTAT
  ⟨0, 12, 0xE004, [], .rw, 0x0, 0xFFFFFFFF, 0x0, false⟩ -- COL_SATCNT
  ]

/-- Registers of the HIF block. -/
def hifRegs : List RegRow := [
  ⟨8, 5, 0x0, [], .ro, 0x0, 0x0, 0x0, false⟩, -- HIF_STAT
  ⟨8, 5, 0x4, [], .w1c, 0x0, 0x0, 0xF8000000, false⟩, -- HIF_ERR
  ⟨8, 5, 0x10, [], .rw, 0x0, 0xFFFFF000, 0x0, false⟩, -- HIF_EVBASE_LO
  ⟨8, 5, 0x14, [], .rw, 0x0, 0xFFFFFFFF, 0x0, false⟩, -- HIF_EVBASE_HI
  ⟨8, 5, 0x18, [], .rw, 0x6, 0x87FF001F, 0x0, false⟩, -- HIF_EVCFG
  ⟨8, 5, 0x1C, [], .rw, 0x0, 0xFFFFFFFF, 0x0, false⟩, -- HIF_EVHEAD
  ⟨8, 5, 0x20, [], .ro, 0x0, 0x0, 0x0, false⟩, -- HIF_EVTAIL
  ⟨8, 5, 0x24, [], .rw, 0x0, 0xFFFFFFFF, 0x0, false⟩, -- HIF_EVDROP
  ⟨8, 5, 0x28, [], .rw, 0x0, 0x7FE, 0x0, false⟩, -- HIF_EVFILT
  ⟨8, 5, 0x40, [(4, 16)], .rw, 0x0, 0x800FFFFF, 0x0, false⟩, -- HIF_APERw
  ⟨8, 5, 0x80, [], .ro, 0x0, 0x0, 0x0, false⟩, -- HIF_BADDR_LO
  ⟨8, 5, 0x84, [], .ro, 0x0, 0x0, 0x0, false⟩ -- HIF_BADDR_HI
  ]

/-- Registers of the MGT block. -/
def mgtRegs : List RegRow := [
  ⟨8, 7, 0x0, [], .ro, 0x0, 0x0, 0x0, false⟩, -- MGT_BOOTSTAT
  ⟨8, 7, 0x4, [], .wo, 0x0, 0x1, 0x0, true⟩ -- MGT_BOOTOK
  ]

/-- Registers of the CFG block. -/
def cfgRegs : List RegRow := [
  ⟨8, 9, 0x0, [], .ro, 0x0, 0x0, 0x0, false⟩, -- CFG_STAT
  ⟨8, 9, 0x4, [], .wo, 0x0, 0x1, 0x0, false⟩, -- CFG_CTL
  ⟨8, 9, 0x8, [], .ro, 0x0, 0x0, 0x0, false⟩, -- CFG_PSTAT
  ⟨8, 9, 0x100, [(4, 64)], .ro, 0x0, 0x0, 0x0, false⟩, -- CFG_CURi
  ⟨8, 9, 0x200, [(4, 64)], .rw, 0x0, 0xFFFFFFFF, 0x0, false⟩ -- CFG_STAGEi
  ]

/-- Registers of the SEC block. -/
def secRegs : List RegRow := [
  ⟨8, 8, 0x0, [], .ro, 0x0, 0x0, 0x0, false⟩, -- SEC_STAT
  ⟨8, 8, 0x4, [], .wo, 0x0, 0x1F, 0x0, false⟩, -- SEC_SVNCTL
  ⟨8, 8, 0x10, [], .rw, 0x0, 0xFFFFFF, 0x0, false⟩, -- SEC_FLIDX
  ⟨8, 8, 0x14, [], .ro, 0x0, 0x0, 0x0, false⟩, -- SEC_FLDATA
  ⟨8, 8, 0x20, [], .rw, 0x0, 0xFFFFFFFF, 0x0, false⟩, -- SEC_UPDADDR_LO
  ⟨8, 8, 0x24, [], .rw, 0x0, 0xFFFFF, 0x0, false⟩, -- SEC_UPDADDR_HI
  ⟨8, 8, 0x28, [], .rw, 0x0, 0xFFFFFFFF, 0x0, false⟩, -- SEC_UPDLEN
  ⟨8, 8, 0x2C, [], .wo, 0x0, 0x1, 0x0, false⟩, -- SEC_UPDCTL
  ⟨8, 8, 0x30, [], .ro, 0x0, 0x0, 0x0, false⟩, -- SEC_UPDSTAT
  ⟨8, 8, 0x40, [(4, 8)], .rw, 0x0, 0xFFFFFFFF, 0x0, true⟩, -- SEC_EXTDw
  ⟨8, 8, 0x60, [], .wo, 0x0, 0x7, 0x0, true⟩, -- SEC_EXTCTL
  ⟨8, 8, 0x80, [(4, 8)], .rw, 0x0, 0xFFFFFFFF, 0x0, false⟩, -- SEC_QNONCEw
  ⟨8, 8, 0xA0, [], .wo, 0x0, 0x1, 0x0, false⟩, -- SEC_QCTL
  ⟨8, 8, 0xA4, [], .ro, 0x0, 0x0, 0x0, false⟩, -- SEC_QSTAT
  ⟨8, 8, 0x100, [(32, 8), (4, 8)], .ro, 0x0, 0x0, 0x0, false⟩, -- SEC_Mk_w
  ⟨8, 8, 0x1000, [(4, 685)], .ro, 0x0, 0x0, 0x0, false⟩ -- SEC_QOUTi
  ]

/-- Registers of the PWR block. -/
def pwrRegs : List RegRow := [
  ⟨8, 11, 0x0, [], .ro, 0x0, 0x0, 0x0, false⟩, -- PWR_STAT
  ⟨8, 11, 0x4, [], .ro, 0x0, 0x0, 0x0, false⟩, -- PWR_INV
  ⟨8, 11, 0x8, [], .ro, 0x0, 0x0, 0x0, false⟩, -- PWR_INI
  ⟨8, 11, 0xC, [], .ro, 0x0, 0x0, 0x0, false⟩, -- PWR_INP
  ⟨8, 11, 0x10, [(4, 4)], .rw, 0x2D0, 0x3FF, 0x0, true⟩, -- PWR_VSETd
  ⟨8, 11, 0x20, [(4, 4)], .ro, 0x2D0, 0x0, 0x0, false⟩, -- PWR_VACTd
  ⟨8, 11, 0x30, [], .rw, 0x0, 0xFFF, 0x0, true⟩, -- PWR_PLIM
  ⟨8, 11, 0x40, [(4, 8)], .ro, 0x0, 0x0, 0x0, false⟩, -- PWR_TDIMMm
  ⟨8, 11, 0x60, [(4, 8)], .ro, 0x0, 0x0, 0x0, false⟩, -- PWR_TSTACKs
  ⟨8, 11, 0x80, [(4, 17)], .ro, 0x0, 0x0, 0x0, false⟩, -- PWR_TOPTp
  ⟨8, 11, 0xC4, [], .ro, 0x0, 0x0, 0x0, false⟩, -- PWR_TCOOL
  ⟨8, 11, 0xC8, [], .w1c, 0x0, 0x0, 0x1F, false⟩ -- PWR_TWARN
  ]

/-- Registers of the CONE block. -/
def coneRegs : List RegRow := [
  ⟨0, 13, 0x0, [], .ro, 0x0, 0x0, 0x0, false⟩, -- CONE_DIE
  ⟨0, 13, 0x4, [], .ro, 0x0, 0x0, 0x0, false⟩, -- CONE_VMEAS
  ⟨0, 13, 0x100, [(4, 16)], .ro, 0x0, 0x0, 0x0, false⟩ -- CONE_SITEc
  ]

/-- Registers of the RAS block, part 1. -/
def rasRegsA : List RegRow := [
  ⟨8, 10, 0x0, [], .ro, 0x0, 0x0, 0x0, false⟩, -- RAS_HSTAT
  ⟨8, 10, 0x4, [], .wo, 0x0, 0x1, 0x0, true⟩, -- RAS_DCTL
  ⟨8, 10, 0x8, [], .rw, 0x0, 0xFFFFFFFF, 0x0, true⟩, -- RAS_SGUNIT
  ⟨8, 10, 0xC, [], .rw, 0x0, 0xFFFFF, 0x0, true⟩, -- RAS_SGIDX
  ⟨8, 10, 0x10, [], .wo, 0x0, 0x1, 0x0, true⟩, -- RAS_SGCTL
  ⟨8, 10, 0x14, [], .ro, 0x0, 0x0, 0x0, false⟩, -- RAS_SGSTAT
  ⟨8, 10, 0x18, [], .ro, 0x0, 0x0, 0x0, false⟩, -- RAS_SGDATA
  ⟨8, 10, 0x20, [], .wo, 0x0, 0xC00001FF, 0x0, true⟩, -- RAS_RCTL
  ⟨8, 10, 0x24, [], .ro, 0x0, 0x0, 0x0, false⟩, -- RAS_RSTAT
  ⟨8, 10, 0x28, [], .wo, 0x0, 0xC00FFF03, 0x0, false⟩, -- RAS_HREQ
  ⟨8, 10, 0x2C, [], .wo, 0x0, 0x1, 0x0, true⟩, -- RAS_MGTKICK
  ⟨8, 10, 0x30, [], .rw, 0x0, 0xFFFF0000, 0x0, false⟩, -- RAS_DBUF_LO
  ⟨8, 10, 0x34, [], .rw, 0x0, 0x800FFFFF, 0x0, false⟩, -- RAS_DBUF_HI
  ⟨8, 10, 0x38, [], .rw, 0x0, 0xFFFF, 0x0, false⟩, -- RAS_DBUFSZ
  ⟨8, 10, 0x3C, [], .ro, 0x0, 0x0, 0x0, false⟩, -- RAS_DSEQ
  ⟨8, 10, 0x40, [], .w1c, 0x0, 0x0, 0x7, false⟩, -- RAS_SVC
  ⟨8, 10, 0x44, [], .wo, 0x0, 0x7, 0x0, true⟩, -- RAS_SVCSET
  ⟨8, 10, 0x48, [], .ro, 0x0, 0x0, 0x0, false⟩, -- RAS_MGTRST
  ⟨8, 10, 0x4C, [], .wo, 0x0, 0x80007FFF, 0x0, false⟩, -- RAS_REPCTL
  ⟨8, 10, 0x50, [], .rw, 0x0, 0xFFFFFFFF, 0x0, false⟩, -- RAS_SABSTEP
  ⟨8, 10, 0x54, [], .wo, 0x0, 0x800000FF, 0x0, false⟩, -- RAS_SABCTL
  ⟨8, 10, 0x60, [(4, 4)], .ro, 0x0, 0x0, 0x0, false⟩, -- RAS_DGENd
  ⟨8, 10, 0x1000, [(16, 263)], .rw, 0x0, 0xFFFFFF, 0x0, false⟩, -- RAS_WDPERw
  ⟨8, 10, 0x1004, [(16, 263)], .ro, 0x0, 0x0, 0x80000000, false⟩ -- RAS_WSTATw
  ]

/-- Registers of the RAS block, part 2. -/
def rasRegsB : List RegRow := [
  ⟨8, 10, 0x1008, [(16, 263)], .ro, 0x0, 0x0, 0x0, false⟩ -- RAS_WPROGw
  ]

def rasRegs : List RegRow := rasRegsA ++ rasRegsB

/-- The registers of a block, by owner (0 die, 8 module) and DA[19:16] (R31). -/
def blockRegs : Nat → Nat → List RegRow
  | 0, 6 => ctlRegs
  | 0, 11 => grgRegs
  | 0, 1 => klnRegs
  | 0, 4 => mvpRegs
  | 0, 2 => accRegs
  | 0, 3 => drnRegs
  | 0, 9 => stsRegs
  | 0, 5 => vecRegs
  | 0, 8 => dmaRegs
  | 8, 0 => tierRegs
  | 8, 2 => mrdRegs
  | 8, 1 => slpRegs
  | 0, 10 => trsRegs
  | 8, 6 => ingRegs
  | 8, 3 => fabRegs
  | 8, 4 => rteRegs
  | 0, 12 => colRegs
  | 8, 5 => hifRegs
  | 8, 7 => mgtRegs
  | 8, 9 => cfgRegs
  | 8, 8 => secRegs
  | 8, 11 => pwrRegs
  | 0, 13 => coneRegs
  | 8, 10 => rasRegs
  | _, _ => []

/-- Whether an offset relative to a row's base is one of its registers. -/
def RegRow.covers : List (Nat × Nat) → Nat → Bool
  | [], o => o == 0
  | (s, n) :: l, o => o / s < n && RegRow.covers l (o % s)

/-- A register's key: bits [23:0] of its device address (R31). -/
def regKey (own blk off : Nat) : Nat := own * 2 ^ 20 + blk * 2 ^ 16 + off

/-- The row of a register, none for an offset no table lists (R12). -/
def findReg (key : Nat) : Option RegRow :=
  let own := key / 2 ^ 20
  let off := key % 2 ^ 16
  if own = 8 ∨ own < 4 then
    (blockRegs (if own = 8 then 8 else 0) (key / 2 ^ 16 % 16)).find? (fun r => r.base ≤ off && RegRow.covers r.dims (off - r.base))
  else none

/-- The reset value of a register; `ACC_TCFGt_LO` has EN 1, TSLOTS 256 and TBASE 256t (R120, R145). -/
def regReset (key : Nat) : Word :=
  match findReg key with
  | none => 0
  | some r => if r.blk = 2 ∧ r.own = 0 ∧ r.base = 0x1100 then wd (0x80100000 + 256 * ((key % 2 ^ 16 - 0x1100) % 512 / 16)) else wd r.rst

end Sys2Proof.Machine
end

