-- ==== Sys2Proof/Machine/Numeric.lean ====
section
/-! DEFINITION. Number formats, exact values, rounding, block scales, exact groups and the grog generator (R40 to R72). -/

namespace Sys2Proof.Machine

/-- The eleven formats of R41. -/
inductive Fmt where
  | fp32 | bf16 | fp16 | e4m3 | e5m2 | e3m2 | e2m3 | e2m1 | int8 | int4 | e8m0
  deriving DecidableEq, Repr

/-- The format of a 4-bit format code; 0xB to 0xF name none (R41). -/
def Fmt.ofCode : Nat → Option Fmt
  | 0 => some .fp32 | 1 => some .bf16 | 2 => some .fp16 | 3 => some .e4m3 | 4 => some .e5m2 | 5 => some .e3m2
  | 6 => some .e2m3 | 7 => some .e2m1 | 8 => some .int8 | 9 => some .int4 | 10 => some .e8m0 | _ => none

/-- Width in bits. -/
def Fmt.width : Fmt → Nat
  | .fp32 => 32 | .bf16 => 16 | .fp16 => 16 | .e4m3 => 8 | .e5m2 => 8 | .e3m2 => 6 | .e2m3 => 6 | .e2m1 => 4
  | .int8 => 8 | .int4 => 4 | .e8m0 => 8

/-- Mantissa bits of the bit map. -/
def Fmt.mbits : Fmt → Nat
  | .fp32 => 23 | .bf16 => 7 | .fp16 => 10 | .e4m3 => 3 | .e5m2 => 2 | .e3m2 => 2 | .e2m3 => 3 | .e2m1 => 1
  | .int8 => 0 | .int4 => 0 | .e8m0 => 0

def Fmt.ebits : Fmt → Nat
  | .fp32 => 8 | .bf16 => 8 | .fp16 => 5 | .e4m3 => 4 | .e5m2 => 5 | .e3m2 => 3 | .e2m3 => 2 | .e2m1 => 2
  | .int8 => 0 | .int4 => 0 | .e8m0 => 8

def Fmt.bias : Fmt → Int
  | .fp32 => 127 | .bf16 => 127 | .fp16 => 15 | .e4m3 => 7 | .e5m2 => 15 | .e3m2 => 3 | .e2m3 => 1 | .e2m1 => 1
  | .int8 => 0 | .int4 => 0 | .e8m0 => 127

def Fmt.isInt : Fmt → Bool
  | .int8 => true | .int4 => true | _ => false

/-- Formats with the IEEE arrangement of infinity and NaN (R41). -/
def Fmt.ieee : Fmt → Bool
  | .fp32 => true | .bf16 => true | .fp16 => true | .e5m2 => true | _ => false

/-- R46: formats that are always block-scaled. -/
def Fmt.scaled : Fmt → Bool
  | .e4m3 => true | .e5m2 => true | .e3m2 => true | .e2m3 => true | .e2m1 => true | .int8 => true | .int4 => true | _ => false

/-- The exponent of one unit in the last place of a format's smallest values: its subnormal or integer grid. -/
def Fmt.emin : Fmt → Int
  | .int8 => -6
  | .int4 => -2
  | f => 1 - f.bias - f.mbits

/-- Magnitude code of the largest finite value (R41). -/
def Fmt.maxCode : Fmt → Nat
  | .fp32 => 0x7F7FFFFF | .bf16 => 0x7F7F | .fp16 => 0x7BFF | .e4m3 => 0x7E | .e5m2 => 0x7B | .e3m2 => 0x1F
  | .e2m3 => 0x1F | .e2m1 => 0x7 | .int8 => 127 | .int4 => 7 | .e8m0 => 0xFE

/-- The exponent of the largest finite element value (R50). -/
def Fmt.emax : Fmt → Int
  | .e4m3 => 8 | .e5m2 => 15 | .e3m2 => 4 | .e2m3 => 2 | .e2m1 => 2 | _ => 0

/-- The canonical NaN codes of R54. -/
def Fmt.nanCode : Fmt → Nat
  | .fp32 => 0x7FC00000 | .bf16 => 0x7FC0 | .fp16 => 0x7E00 | .e5m2 => 0x7E | .e4m3 => 0x7F | .e8m0 => 0xFF | _ => 0

/-- The infinity of positive sign (R54). -/
def Fmt.infCode : Fmt → Nat
  | .fp32 => 0x7F800000 | .bf16 => 0x7F80 | .fp16 => 0x7C00 | .e5m2 => 0x7C | _ => 0

/-- The exact value of an element code (R41 to R44). -/
def Fmt.decode (f : Fmt) (code : Nat) : Val :=
  match f with
  | .int8 => let n := sext 8 code; .fin (n < 0) n.natAbs (-6)
  | .int4 => let n := sext 4 code; .fin (n < 0) n.natAbs (-2)
  | .e8m0 => if code % 256 = 0xFF then .nan else .fin false 1 ((code % 256 : Nat) - 127)
  | _ =>
    let m := code % 2 ^ f.mbits
    let e := code / 2 ^ f.mbits % 2 ^ f.ebits
    let s := code / 2 ^ (f.width - 1) % 2 == 1
    if f.ieee && e == 2 ^ f.ebits - 1 then (if m = 0 then .inf s else .nan)
    else if f == .e4m3 && e == 15 && m == 7 then .nan
    else if e = 0 then .fin s m f.emin
    else .fin s (2 ^ f.mbits + m) (e - f.bias - f.mbits)

end Sys2Proof.Machine

namespace Sys2Proof.Val

/-- +0. -/
def zero : Val := .fin false 0 0

def isNan : Val → Bool | .nan => true | _ => false
def isInf : Val → Bool | .inf _ => true | _ => false
def isFinite : Val → Bool | .fin _ _ _ => true | _ => false
def isZero : Val → Bool | .fin _ 0 _ => true | _ => false
/-- Exactly −0. -/
def isNegZero : Val → Bool | .fin true 0 _ => true | _ => false

def neg : Val → Val
  | .nan => .nan
  | .inf s => .inf (!s)
  | .fin s m e => .fin (!s) m e

def abs : Val → Val
  | .nan => .nan
  | .inf _ => .inf false
  | .fin _ m e => .fin false m e

/-- The value times 2^k. -/
def scale (v : Val) (k : Int) : Val :=
  match v with
  | .fin s m e => .fin s m (e + k)
  | v => v

/-- The signed integer of a finite value on the grid 2^g, for g not above its exponent. -/
def onGrid (s : Bool) (m : Nat) (e g : Int) : Int :=
  let n : Int := m * 2 ^ (e - g).toNat
  if s then -n else n

/-- Exact product (R64). -/
def mul : Val → Val → Val
  | .nan, _ => .nan
  | _, .nan => .nan
  | .inf s, .inf t => .inf (s != t)
  | .inf s, .fin t m _ => if m = 0 then .nan else .inf (s != t)
  | .fin t m _, .inf s => if m = 0 then .nan else .inf (s != t)
  | .fin s m e, .fin t n f => .fin (s != t) (m * n) (e + f)

/-- Exact sum; an exact zero is +0 unless both terms are −0 (R65). -/
def add : Val → Val → Val
  | .nan, _ => .nan
  | _, .nan => .nan
  | .inf s, .inf t => if s = t then .inf s else .nan
  | .inf s, .fin _ _ _ => .inf s
  | .fin _ _ _, .inf t => .inf t
  | .fin s m e, .fin t n f =>
    let g := min e f
    let i := onGrid s m e g + onGrid t n f g
    if i = 0 then .fin (s && t && m == 0 && n == 0) 0 g else .fin (i < 0) i.natAbs g

def sub (a b : Val) : Val := add a (neg b)

/-- The exact sum of a group's products (R64): −0 only when every product is −0. -/
def sum : List Val → Val
  | [] => zero
  | [v] => v
  | v :: w :: l => add v (sum (w :: l))

/-- Signed comparison of two values neither of which is NaN: a < b, with −0 equal to +0. -/
def lt : Val → Val → Bool
  | .inf s, .inf t => s && !t
  | .inf s, .fin _ _ _ => s
  | .fin _ _ _, .inf t => !t
  | .fin s m e, .fin t n f => let g := min e f; decide (onGrid s m e g < onGrid t n f g)
  | _, _ => false

/-- Equality of value; NaN equals nothing, and −0 equals +0. -/
def eqv : Val → Val → Bool
  | .inf s, .inf t => s == t
  | .fin s m e, .fin t n f => let g := min e f; decide (onGrid s m e g = onGrid t n f g)
  | _, _ => false

/-- The order of R187 and R181: −0 below +0. -/
def ltz (a b : Val) : Bool := lt a b || (eqv a b && isNegZero a && isZero b && !isNegZero b)

/-- Square of a value. -/
def sq (a : Val) : Val := mul a a

end Sys2Proof.Val

namespace Sys2Proof.Machine

/-- Rounding modes of R51; stochastic rounding carries u, bits [31:8] of its grog word (R59). -/
inductive Rnd where
  | rne | rtz | sr (u : Nat)
  deriving DecidableEq, Repr

/-- A magnitude m * 2^e rounded to a whole number of 2^g (R51, R59). -/
def roundGrid (r : Rnd) (m : Nat) (e g : Int) : Nat :=
  if g ≤ e then m * 2 ^ (e - g).toNat
  else
    let k := (g - e).toNat
    let q := m / 2 ^ k
    let rem := m % 2 ^ k
    match r with
    | .rne => if 2 * rem > 2 ^ k ∨ (2 * rem = 2 ^ k ∧ q % 2 = 1) then q + 1 else q
    | .rtz => q
    | .sr u => if u < rem * 2 ^ 24 / 2 ^ k then q + 1 else q

/-- The grid exponent at magnitude m * 2^e in a format, extended without limit of exponent (R53). -/
def Fmt.grid (f : Fmt) (m : Nat) (e : Int) : Int :=
  if f.isInt then f.emin else max ((Nat.log2 m : Int) + e - f.mbits) f.emin

/-- What a conversion of one element gives: its code, whether it is counted, and whether its block becomes a NaN (R53). -/
structure Conv where
  code    : Nat
  counted : Bool
  blkNan  : Bool
  deriving DecidableEq, Repr

/-- An element code from sign and magnitude code. -/
def Fmt.withSign (f : Fmt) (s : Bool) (mag : Nat) : Nat :=
  if f.isInt then (if s then (2 ^ f.width - mag) % 2 ^ f.width else mag)
  else mag + (if s then 2 ^ (f.width - 1) else 0)

/-- The out-of-range and infinity entries of R53's table. -/
def Fmt.overflow (f : Fmt) (s nosat fromInf : Bool) : Conv :=
  if f.ieee then
    if nosat || fromInf then { code := f.withSign s f.infCode, counted := false, blkNan := false }
    else { code := f.withSign s f.maxCode, counted := true, blkNan := false }
  else if nosat then
    (if f == .e4m3 then { code := 0x7F, counted := false, blkNan := false } else { code := 0, counted := false, blkNan := true })
  else { code := f.withSign s f.maxCode, counted := true, blkNan := false }

/-- Conversion of one value (already divided by its block scale) into a format (R51 to R54, R59). -/
def Fmt.convert (f : Fmt) (r : Rnd) (nosat : Bool) (v : Val) : Conv :=
  match v with
  | .nan =>
    if f.ieee || f == .e4m3 then { code := f.nanCode, counted := false, blkNan := false }
    else { code := 0, counted := false, blkNan := true }
  | .inf s => f.overflow s nosat true
  | .fin s m e =>
    if m = 0 then { code := f.withSign s 0, counted := false, blkNan := false }
    else
      let g := f.grid m e
      let q := roundGrid r m e g
      let mag := (g - f.emin).toNat * 2 ^ f.mbits + q
      if mag > f.maxCode then f.overflow s nosat false
      else { code := f.withSign s mag, counted := false, blkNan := false }

/-- Rounding to nearest even in an arithmetic format, overflow giving an infinity (R65). -/
def Fmt.rne (f : Fmt) (v : Val) : Nat := (f.convert .rne true v).code

/-- R65: one group added to an accumulator code. -/
def accAdd (f : Fmt) (acc : Nat) (g : Val) : Nat := f.rne ((f.decode acc).add g)

/-- floor(log2) of a nonzero finite magnitude. -/
def vlog2 : Val → Int
  | .fin _ m e => Nat.log2 m + e
  | _ => 0

/-- The largest magnitude among the finite values of a block, none if all are zero or none is finite (R50). -/
def blockMax : List Val → Option Val
  | [] => none
  | v :: l =>
    match v.isFinite && !v.isZero, blockMax l with
    | true, none => some v.abs
    | true, some w => some (if w.lt v.abs then v.abs else w)
    | false, r => r

/-- The scale exponent of R50. -/
def blockExp (f : Fmt) (l : List Val) : Int :=
  match blockMax l with
  | none => 0
  | some m => min (max (vlog2 m - f.emax) (-127)) 127

/-- A converted block: scale code, element codes, elements counted, and whether the block is NaN (R50, R53). -/
structure Block where
  scale   : Nat
  codes   : List Nat
  counted : Nat
  blkNan  : Bool
  deriving DecidableEq, Repr

/-- Conversion of a block's values under one rounding per element (R50, R53). -/
def convBlock (f : Fmt) (rs : List Rnd) (nosat : Bool) (l : List Val) : Block :=
  let s := blockExp f l
  let cs := (l.zip rs).map (fun p => f.convert p.2 nosat (p.1.scale (-s)))
  if cs.any (·.blkNan) then { scale := 0xFF, codes := l.map (fun _ => 0), counted := (cs.filter (·.counted)).length, blkNan := true }
  else { scale := (s + 127).toNat, codes := cs.map (·.code), counted := (cs.filter (·.counted)).length, blkNan := false }

/-- An element's value under its block scale (R46, R55). -/
def scaledVal (f : Fmt) (scale code : Nat) : Val :=
  if scale % 256 = 0xFF then .nan else (f.decode code).scale ((scale % 256 : Nat) - 127)

/-- Element k of packed element bytes (R45). -/
def elemAt (f : Fmt) (l : List Byte) (k : Nat) : Nat :=
  match f.width with
  | 32 => ofBytes ((l.drop (4 * k)).take 4)
  | 16 => ofBytes ((l.drop (2 * k)).take 2)
  | 8 => ofBytes ((l.drop k).take 1)
  | 6 => ofBytes ((l.drop (3 * (k / 4))).take 3) / 2 ^ (6 * (k % 4)) % 64
  | _ => ofBytes ((l.drop (k / 2)).take 1) / 2 ^ (4 * (k % 2)) % 16

/-- Bytes that n packed elements occupy; the rest of the last byte is written as zero (DESIGN CHOICE: R45 packs whole bytes only). -/
def Fmt.bytes (f : Fmt) (n : Nat) : Nat := (n * f.width + 7) / 8

/-- Element codes packed into bytes (R45); 6-bit codes by fours, 4-bit codes by twos. -/
def packElems (f : Fmt) (l : List Nat) : List Byte :=
  toBytes (f.bytes l.length) (l.foldr (fun c acc => c % 2 ^ f.width + 2 ^ f.width * acc) 0)

/-- All n element codes of packed bytes. -/
def unpackElems (f : Fmt) (n : Nat) (l : List Byte) : List Nat :=
  let w := ofBytes l
  (List.range n).map (fun k => w / 2 ^ (f.width * k) % 2 ^ f.width)

/-- The group size S and whether the pair of operand formats is one of R62's; the accumulator is FP32 or FP16. -/
def groupSize (a b acc : Fmt) : Option Nat :=
  if a.scaled && b.scaled then (if acc == .fp32 then some 16 else none)
  else if (a == .bf16 && b == .bf16) || (a == .fp16 && b == .fp16) then (if acc == .fp32 || acc == .fp16 then some 8 else none)
  else if a == .fp32 && b == .fp32 then (if acc == .fp32 then some 1 else none)
  else none

/-- R63, R64: the group values of two operand vectors, in ascending K. -/
def groupSums (s : Nat) (xs ws : List Val) : List Val :=
  let ps := (xs.zip ws).map (fun p => p.1.mul p.2)
  (chunks s ((ps.length + s - 1) / s) ps).map Val.sum

/-- One round of grog (R67). -/
def grogRound (k0 k1 : Word) (x : Word × Word × Word × Word) : Word × Word × Word × Word :=
  let p := 0xD8E14A6B * (x.1 ^^^ k0).toNat
  (x.2.1 ^^^ lo32 p, x.2.2.1 ^^^ k1, x.2.2.2 ^^^ hi32 p, x.1)

/-- n rounds of grog, the Weyl increment between rounds. -/
def grogRounds : Nat → Word → Word → Word × Word × Word × Word → Word × Word × Word × Word
  | 0, _, _, x => x
  | n + 1, k0, k1, x => grogRounds n (k0 + 0x6A09E667) (k1 + 0x510E527F) (grogRound k0 k1 x)

/-- grog(key, ctr) of R67. -/
def grog (k0 k1 : Word) (c : Word × Word × Word × Word) : Word × Word × Word × Word := grogRounds 8 k0 k1 c

/-- Where stochastic rounding draws its words: key, stream, tensor id and step (R60). -/
structure Draw where
  k0 : Word
  k1 : Word
  stream : Nat
  tensor : Word
  step : Word
  deriving DecidableEq, Repr

/-- The counter of element index e (R68). -/
def Draw.ctr (d : Draw) (e : Nat) : Word × Word × Word × Word :=
  (wd (e / 4), wd (e / 2 ^ 34 % 2 ^ 14 + d.stream % 2 ^ 16 * 2 ^ 16), d.step, d.tensor)

/-- The grog word of element index e (R68). -/
def Draw.word (d : Draw) (e : Nat) : Word :=
  let x := grog d.k0 d.k1 (d.ctr e)
  match e % 4 with
  | 0 => x.1
  | 1 => x.2.1
  | 2 => x.2.2.1
  | _ => x.2.2.2

/-- The rounding of element e under a 2-bit RMODE (R51, R59); RMODE 3 is refused before a conversion starts. -/
def Draw.rnd (d : Draw) (rmode e : Nat) : Rnd :=
  match rmode with
  | 0 => .rne
  | 1 => .rtz
  | _ => .sr ((d.word e).toNat / 256)

/-- R51, R60: RMODE 3, or a reserved grog stream under SR, is refused with RMODE_RESERVED. -/
def rmodeReserved (rmode : Nat) : Bool := rmode == 3

end Sys2Proof.Machine
end

