-- ==== Sys2Proof/Machine/State.lean ====
section
/-! DEFINITION. The state of HK1: everything the spec gives the module, as plain data, and its value at power-on.
Lists of pairs are sparse maps from a number (a unit, a register, an address) to a value; a key that is not listed
has the default value named where the map is read. -/

namespace Sys2Proof.Machine

/-- Why a step stops. No arm of `exec` answers either fault: the spec gives every command an effect or has it wait. -/
inductive Fault where
  /-- Kept for a memory that is not in its canonical form; raised by nobody. Safe. -/
  | corruptMemory
  deriving DecidableEq, Repr

/-- Why a command has no meaning. -/
inductive Refusal where
  /-- The command with this mnemonic is not modelled yet. Raised by an arm of `exec` only. Safe. -/
  | notModelled (mnemonic : String)
  deriving DecidableEq, Repr

/-- A unit instruction from its dispatch to its completion: the open command it is a part of, the die whose sync
counters its wait condition names, its record, what its unit latched from memory when it was queued, whether its wait condition
has been met (R195), whether LATE_PREFETCH was posted for it (R88), its place in arrival order, how many leaf units it is
for and the lowest of them. -/
structure Cmd where
  cid  : Nat := 0
  die  : Nat := 0
  hdr  : List Word := []
  w    : List Word := []
  desc : List PByte := []
  met  : Bool := false
  late : Bool := false
  ord  : Nat := 0
  parts : Nat := 1
  unit : Nat := 0
  deriving DecidableEq, Repr

/-- A dispatched record until its completion word (R10, R18 to R22): the stream and index it came from, its FPOL, its
target and whether FPOL still acts (R202), the members still to complete, whether one has run (R18), the greatest status so
far, the count of leaves not DONE and the lowest leaf with the greatest status, and its SIGEN, SIGCTR and the die of that counter. -/
structure Open where
  die    : Nat := 0
  stream : Nat := 0
  index  : Nat := 0
  fpol   : Nat := 0
  live   : Bool := true
  left   : Nat := 0
  ran    : Bool := false
  worst  : Nat := 0
  nfail  : Nat := 0
  first  : Nat := 0xFFFFFFFF
  sigen  : Bool := false
  ctr    : Nat := 0
  sigDie : Nat := 0
  deriving DecidableEq, Repr

/-- A completion word as it was reported (R22), with the record it answers. -/
structure Done where
  die    : Nat
  stream : Nat
  index  : Nat
  word   : BitVec 64
  deriving DecidableEq, Repr

/-- An event that has been posted and has not reached HIF yet (R13, R424). -/
structure Event where
  code : Nat := 0
  unit : Nat := 0
  data : Word := 0
  die  : Nat := 0
  time : Nat := 0
  deriving DecidableEq, Repr

/-- A leaf with a pending head request: the indexes on the way to it from the root, how many root grants had been made when the request
became the head, and its DMA channel where it is one (R229). -/
structure ArbLeaf where
  path  : List Nat := []
  since : Nat := 0
  chan  : Option Nat := none
  deriving DecidableEq, Repr

/-- The tree of a destination port (R33 to R36). An input of an arbiter, and a leaf, is named by the indexes on the way to it
from the root. `grants` counts the root grants made; `leaves` holds each leaf with a pending head request; `counts` the leaves last reported behind each input, `credit` the signed credits of each
arbiter by input, and `granted` the leaf that took the last grant. -/
structure ArbTree where
  grants  : Nat := 0
  leaves  : List ArbLeaf := []
  counts  : List (List Nat × Nat) := []
  credit  : List (List Nat × List Int) := []
  granted : Option (List Nat) := none
  deriving DecidableEq, Repr

/-- A timeout that runs (R37): of a watchdog slot since its last progress (R467), a DMA WAIT (R216), a command with a DEADLINE (R88,
R256), a shadow read (R472), a request and a tag that may not be used again yet (R374), an open collective and its seal (R401, R404), a
decode (R346), Synian's start (R437), a training attempt of a port and its RXREADY (R363). -/
inductive Timer where
  | hang (w progress : Nat)
  | wait (die chan cid pc : Nat) (loops : List Nat)
  | late (die ord : Nat)
  | noresp
  | reply (tag : Nat)
  | reuse (tag : Nat)
  | collective (die cid : Nat)
  | seal (die cid : Nat)
  | decode (dec t : Nat)
  | bootok
  | training (port attempt : Nat)
  | ready (port attempt : Nat)
  deriving DecidableEq, Repr

/-- What all units share: the register file (only registers that differ from their reset value are listed), memory and
its poison marks, the symbols of stored code words of tier 1 and tier 2 that have gone bad (by the unit of the mark, R262, R286), the queues of unit instructions, open and completed commands, sync counters (key die * 256 + c),
local time counters, posted events, arbiters, the words of a running grog test by die (R71), the
corrected-error counters whose threshold event has been posted (R265, R289), the local time at which each stack (s) and channel (8 + m) last
crossed its threshold and the tiers (0 tier 1, 1 tier 2) whose scrub interval Synian has made 1 h since power-on (R488), the time since power
good in ns, the local times at which timeouts that run were armed, and two pieces of the model's own: the counter of free values drawn, and, only while an access is
tried in advance to see which busy banks it reaches, those banks. A local time counter is kept in millionths of its unit. -/
structure Core where
  regs    : List (Nat × Word) := []
  mem     : List Host.Cell := []
  pois    : List Nat := []
  flaws   : List (Nat × List Nat) := []
  cap     : Nat := 0x20000000000
  queues  : List (Nat × List Cmd) := []
  opens   : List (Nat × Open) := []
  nextCid : Nat := 1
  nextOrd : Nat := 1
  done    : List Done := []
  sync    : List (Nat × Nat) := []
  ltc     : List (Nat × Nat) := []
  evq     : List Event := []
  arb     : List (Nat × ArbTree) := []
  grg     : List (Nat × List Word) := []
  cePost  : List (Nat × Bool) := []
  crossed : List (Nat × Option Nat) := []
  hourly  : List Nat := []
  now     : Nat := 0
  armed   : List (Timer × Nat) := []
  freeN   : Nat := 0
  watch   : Option (List Nat) := none
  deriving DecidableEq, Repr

/-! Matrix arrays (chapter "Matrix arrays"). -/

/-- A plane: a K by N slice held still in an array (R75). `cols` are its column records; cells beyond them hold zero. -/
structure Plane where
  fmt   : Nat := 0
  pfmt  : Nat := 0
  kbase : Nat := 0
  klen  : Nat := 0
  nlen  : Nat := 0
  cols  : List (List Val) := []
  pois  : List Bool := []
  deriving DecidableEq, Repr

/-- An issued KSTREAM or KCONV: the tag and the format of the plane it is bound to, whether that plane has been replaced since (R81),
rows entered and rows added, the KCONV descriptor it read,
the turn window and pass it fills or takes (R152, R153), and whether it met poisoned data or a ring miss. -/
structure Run where
  cmd   : Cmd := {}
  tag   : Bool := false
  pfmt  : Nat := 0
  gone  : Bool := false
  ent   : Nat := 0
  added : Nat := 0
  desc  : List Word := []
  fill  : Option (Nat × Nat) := none
  take  : Option (Nat × Nat) := none
  pois  : Bool := false
  miss  : Bool := false
  deriving DecidableEq, Repr

/-- A row inside an array (R77): the instruction it belongs to (by arrival order), its index, the group values of each
column, whether each column's sum is poisoned, and how many columns it has left. -/
structure InRow where
  ord  : Nat := 0
  row  : Nat := 0
  tag  : Bool := false
  sums : List (List Val) := []
  pois : List Bool := []
  left : Nat := 0
  deriving DecidableEq, Repr

/-- A partition (R90): its two planes, active tag, whether the shadow plane holds a completed load, whether a swap is
pending and how many columns have swapped, the tag of the last KLOAD (R79), the faulted plane's tag (R95), the issued
instructions and the rows in flight, and the SEQ of the last completed instruction. -/
structure Part where
  active : Plane := {}
  shadow : Plane := {}
  atag   : Bool := false
  svalid : Bool := false
  pend   : Bool := false
  swapped : Nat := 0
  bound  : Option Bool := none
  faulted : Option Bool := none
  runs   : List Run := []
  rows   : List InRow := []
  last   : Nat := 0
  deriving DecidableEq, Repr

/-- The load path of an array, the KLOAD that holds it and the source bytes it has read, in the order of R78. -/
structure Load where
  part : Nat := 0
  cmd  : Cmd := {}
  tag  : Bool := false
  got  : List PByte := []
  deriving DecidableEq, Repr

/-- An array: partition mode, load path, and its counters (R114). -/
structure Arr where
  pmode   : Nat := 0
  load    : Option Load := none
  rowcnt  : Nat := 0
  waitns  : Nat := 0
  loadcnt : Nat := 0
  deriving DecidableEq, Repr

/-- A turn window (R150): accepted passes and those whose last row has entered, taken passes and those whose last row
has entered, and the captured rows, each element with its poison mark. -/
structure Win where
  accepted : Nat := 0
  stored   : Nat := 0
  taken    : Nat := 0
  left     : Nat := 0
  rows     : List (Nat × List (Nat × Bool)) := []
  deriving DecidableEq, Repr

/-- The turn of a pair (R151, R159); a pending write keeps the arrival number from which instructions are held. -/
structure Turn where
  en   : Bool := false
  src  : Bool := false
  tfmt : Bool := false
  terr : Bool := false
  pend : Option (Word × Nat) := none
  fill : Nat := 0
  take : Nat := 0
  w0   : Win := {}
  w1   : Win := {}
  wcnt : Nat := 0
  deriving DecidableEq, Repr

/-- A tile configuration (R120). -/
structure Tile where
  en     : Bool := true
  ring   : Bool := false
  fp16   : Bool := false
  bken   : Bool := false
  tbase  : Nat := 0
  tslots : Nat := 256
  tlrows : Nat := 0
  bkaddr : Word := 0
  deriving DecidableEq, Repr

/-- One quarter of an accumulator row (R119): 64 element codes, the logical row it holds (ring tiles), its poison and
dirty marks and the SEQ of the last instruction that added into it. -/
structure Quarter where
  vals  : List Nat := List.replicate 64 0
  lrow  : Option Nat := none
  pois  : Bool := false
  dirty : Bool := false
  seq   : Option Nat := none
  deriving DecidableEq, Repr

/-- An exact running sum, sum of squares and count, with poison (R138). -/
structure Tap where
  s : Val := Val.zero
  q : Val := Val.zero
  n : Nat := 0
  pois : Bool := false
  deriving DecidableEq, Repr

/-- An issued drain (R140): its command (with the latched descriptor), rows done, the grog position latched when it started
(R70), rows held for OBDIR 1 (R137), running
column reductions, whether it wrote a poisoned element or met a ring miss, and the number of the turn in which the array's drain last
served it (R141). -/
structure DRun where
  cmd  : Cmd := {}
  row  : Nat := 0
  draw : Draw := { k0 := 0, k1 := 0, stream := 0, tensor := 0, step := 0 }
  buf  : List (List (Val × Bool)) := []
  taps : List Tap := []
  pois : Bool := false
  miss : Bool := false
  served : Nat := 0
  deriving DecidableEq, Repr

/-- The accumulator counters of an array that registers show (R145, R146), and the turns its drain has given (R141). -/
structure AccCnt where
  park   : Nat := 0
  fill   : Nat := 0
  holdns : Nat := 0
  drows  : Nat := 0
  turns  : Nat := 0
  deriving DecidableEq, Repr

/-- Arrays, accumulators and drains of the module: `arrs` and `cnts` by array die * 16 + a, `parts` and `drains` by
partition array * 4 + p, `turns` by pair die * 8 + P, tiles and their pending commits by array * 16 + t, quarters by
(array * 4096 + slot) * 4 + q. -/
structure Kiln where
  arrs   : List (Nat × Arr) := []
  parts  : List (Nat × Part) := []
  turns  : List (Nat × Turn) := []
  tiles  : List (Nat × Tile) := []
  tpend  : List (Nat × Option Tile) := []
  quarts : List (Nat × Quarter) := []
  drains : List (Nat × List DRun) := []
  cnts   : List (Nat × AccCnt) := []
  deriving DecidableEq, Repr

/-- The matrix-vector path of a die (R105): the MVMUL being executed (with its descriptor) and the grog position it
latched. -/
structure Mvp where
  run    : Option Cmd := none
  draw   : Draw := { k0 := 0, k1 := 0, stream := 0, tensor := 0, step := 0 }
  last   : Nat := 0
  waitns : Nat := 0
  deriving DecidableEq, Repr

/-! The activation stash (chapter "The backward pass"). -/

/-- A stash frame: pool, tier 1 or tier 2, and its number (R164). -/
inductive Frame where
  | pool (n : Nat)
  | t1 (n : Nat)
  | t2 (n : Nat)
  deriving DecidableEq, Repr

/-- An object of the stash: KIND, FMT, length, the frame of each tile and its age (PUT order, R167). -/
structure StashObj where
  kind  : Nat := 0
  fmt   : Nat := 0
  len   : Nat := 0
  age   : Nat := 0
  tiles : List Frame := []
  deriving DecidableEq, Repr

/-- A tile on its way to another frame (R167). -/
structure StashMove where
  handle : Nat
  tile   : Nat
  dst    : Frame
  deriving DecidableEq, Repr

/-- The stash of a die (R164 to R175): directory by handle, moves in flight, the command being carried out, the
reservation, and what STASH_FULL and STS_STAT report. -/
structure Stash where
  objs    : List (Nat × Option StashObj) := []
  moves   : List StashMove := []
  run     : Option Cmd := none
  resv    : Nat := 0
  stopped : Bool := false
  layer   : Nat := 0
  nextAge : Nat := 0
  last    : Nat := 0
  deriving DecidableEq, Repr

/-! Vector engine and control cores. -/

/-- A lane of a running loop (R179, R184): its registers, for each register the width in bytes of the poisoned data it
was loaded with unchanged (R193), its scratch by word, pc, whether its element has ended, and its PERMs so far. -/
structure Lane where
  x     : List (Nat × Word) := []
  mark  : List (Nat × Nat) := []
  scr   : List (Nat × Word) := []
  pc    : Nat := 0
  ended : Bool := false
  perms : Nat := 0
  deriving DecidableEq, Repr

/-- A summary slot while its loop runs (R187). -/
structure Slot where
  kind : Nat := 0
  acc  : Val := Val.zero
  word : Nat := 0
  n    : Nat := 0
  deriving DecidableEq, Repr

/-- A running loop: its command, the clusters of its group, the core of a single-core loop, the program cached when it
started, its arguments, iteration, lanes, summaries, the grog state latched at its start (R191, R185) and the
cores that have loaded poisoned data (R193). -/
structure VLoop where
  cmd   : Cmd := {}
  group : List Nat := []
  core  : Option Nat := none
  prog  : List Host.Cell := []
  args  : List Word := []
  iter  : Nat := 0
  open_ : Bool := false
  lanes : List (Nat × Lane) := []
  slots : List Slot := []
  k0    : Word := 0
  k1    : Word := 0
  step  : Word := 0
  pcores : List Nat := []
  deriving DecidableEq, Repr

/-- The vector engine: running loops by die * 16 + their first cluster, and the SEQ of the last completed loop of each
cluster. -/
structure Vec where
  loops : List (Nat × Option VLoop) := []
  last  : List (Nat × Nat) := []
  deriving DecidableEq, Repr

/-- The states of R515. -/
inductive StreamState where
  | idle | run | halted | abandoning
  deriving DecidableEq, Repr

/-- A command stream (R515, R204): state, halt cause, head, tail, SEQ of the last record dispatched, record that caused
the last halt, loop registers, the record fetched and not dispatched, whether its wait condition was met, a branch
target that waits for publication (record it left and its offset), and a SETSTEP being carried out. -/
structure Stream where
  state  : StreamState := .idle
  hcause : Nat := 0
  head   : Nat := 0
  tail   : Nat := 0
  last   : Nat := 0
  hrec   : Nat := 0
  loops  : List Word := [0, 0, 0, 0]
  rcd    : Option (List Word) := none
  met    : Bool := false
  ahead  : Option (Nat × Nat) := none
  deriving DecidableEq, Repr

/-- A summary register (R204). -/
structure Summary where
  value : Word := 0
  valid : Bool := false
  kind  : Nat := 0
  deriving DecidableEq, Repr

/-- Control cores: streams by die * 8 + s, summaries by die * 64 + k. -/
structure Ctl where
  streams : List (Nat × Stream) := []
  sums    : List (Nat × Summary) := []
  deriving DecidableEq, Repr

/-! DMA engines. -/

/-- A write of a channel that has been started: the program it is part of, destination, length, its bytes once the source read has answered (a
read through the peer window answers later), and whether it goes through the peer window and has been requested; and for a source read through the peer window the reads still to answer, the
bytes of those answered and whether a flit of an answer meets an uncorrectable on-die network error (R234); and, for a write to the module's own window, the stretches of memory that later writes of the program have
already taken (R225). -/
structure DmaWr where
  id   : Nat := 0
  cid  : Nat := 0
  dst  : Nat := 0
  len  : Nat := 0
  data : Option (List PByte) := none
  peer : Bool := false
  need : List (Nat × Nat) := []
  got  : List (List PByte) := []
  bad  : Bool := false
  taken : List (Nat × Nat) := []
  deriving DecidableEq, Repr

/-- What set the completion latch (R231). -/
inductive Latch where
  | natural
  | fault (cause : Nat)
  | abort
  deriving DecidableEq, Repr

/-- The instruction a channel is moving data for (R214, R221, R222): its words, bytes written in destination order and
in all, and whether it is the scale part (MOVX) of a transposed MOVE, with that MOVE's words. -/
structure DmaMove where
  w     : List Word := []
  pos   : Nat := 0
  total : Nat := 0
  xw    : Option (List Word) := none
  deriving DecidableEq, Repr

/-- An issued program (R210, R231); `first` is instruction 0 as it was fetched before the issue (R209), until the program goes
on from it, `past` says that execution passed instruction 255, `risen` is the local time at which the credit last rose (R228), and `stood`
the instruction in progress when the completion latch was set (R232). -/
structure DmaProg where
  cmd   : Cmd := {}
  lane  : Nat := 0
  first : Option (List Word) := none
  pc    : Nat := 0
  past  : Bool := false
  loops : List Nat := [0, 0, 0, 0]
  soff  : Nat := 0
  doff  : Nat := 0
  scoff : Nat := 0
  dcoff : Nat := 0
  woff  : Nat := 0
  crc   : Nat := 0xFFFFFFFF
  crcPois : Bool := false
  credit : Nat := 0
  risen : Nat := 0
  cur   : Option DmaMove := none
  xdue  : Option (List Word) := none
  met   : Bool := false
  pois  : Bool := false
  latch : Option Latch := none
  stood : Option (List Word) := none
  late  : Bool := false
  deriving DecidableEq, Repr

/-- A channel: issued program, writes not yet arrived (in program order), bytes written since reset, the SEQ of the
issued or last program, and the last program's loop registers and CRC. -/
structure DmaCh where
  prog   : Option DmaProg := none
  writes : List DmaWr := []
  nextWr : Nat := 0
  bytes  : Nat := 0
  seq    : Nat := 0
  loops  : List Nat := [0, 0, 0, 0]
  crc    : Word := 0
  deriving DecidableEq, Repr

/-! Memory tiers. -/

/-- A managed object (R243): words W3 to W6 of its OBJDEF and its segment. -/
structure TierObj where
  w   : List Word := []
  seg : Nat := 0
  deriving DecidableEq, Repr

/-- A directory entry (R250, R251, R260): the tile raised in a frame, its age, its pin and whether the pin was met, and
whether its fill is in flight. -/
structure TierEnt where
  oid  : Nat := 0
  tile : Nat := 0
  age  : Nat := 0
  pin  : Word := 0
  pinMet : Bool := false
  filling  : Bool := false
  deriving DecidableEq, Repr

/-- A tile move in flight (R254): its number, a fill or a MOVE lowering, its tile and frame, where it reads and writes, the command that caused
it, the commands waiting on it and, for a lowering, the directory entry its tile had and the tile's bytes once a fill of the frame
has made it read them. -/
structure TierMove where
  id    : Nat := 0
  fill  : Bool := true
  oid   : Nat := 0
  tile  : Nat := 0
  frame : Nat := 0
  src   : Nat := 0
  dst   : Nat := 0
  cause : Nat := 0
  cids  : List Nat := []
  old   : Option TierEnt := none
  read  : Option (List PByte) := none
  deriving DecidableEq, Repr

/-- A tier command being carried out (R250, R253, R255): tiles handled, moves it still waits for, poison and fault. -/
structure TierRun where
  cmd   : Cmd := {}
  pos   : Nat := 0
  waits : Nat := 0
  pois  : Bool := false
  fault : Bool := false
  deriving DecidableEq, Repr

/-- A pool segment (R246, R250). -/
structure Seg where
  base    : Nat := 0
  n       : Nat := 0
  inval   : Bool := false
  nextAge : Nat := 0
  cur     : Option TierRun := none
  runs    : List TierRun := []
  moves   : List TierMove := []
  last    : Nat := 0
  deriving DecidableEq, Repr

/-- The patrol scrub of a channel (R265): whether a pass is in progress, the local time of die 0 when the last one began, and the lines
that it has read. -/
structure Scrub where
  on    : Bool := false
  start : Option Nat := none
  seen  : List Nat := []
  deriving DecidableEq, Repr

/-- The tier manager: object slots, segments, directory entries by segment * 16384 + frame, bytes moved, and the scrub of each channel of
tier 2 and each stack of tier 1 (channel m, stack 8 + s). -/
structure Tier where
  objs  : List (Nat × Option TierObj) := []
  segs  : List (Nat × Seg) := []
  ents  : List (Nat × Option TierEnt) := []
  moved : Nat := 0
  scrub : List (Nat × Scrub) := []
  deriving DecidableEq, Repr

/-! Near-bank units (chapter "Near-bank slip units"). -/

/-- A member of a running operation (R276, R283): its next result row and index position, the exact sums of the segment it is
in (none before its first contribution) and whether they met poison, what its status record counts, and whether it has ended. -/
structure SlipMem where
  j     : Nat := 0
  pos   : Nat := 0
  acc   : Option (List Val) := none
  pois  : Bool := false
  steps : Nat := 0
  noor  : Nat := 0
  npois : Nat := 0
  fpois : Nat := 0xFFFFFFFF
  cesym : Nat := 0
  done  : Bool := false
  deriving DecidableEq, Repr

/-- The operation a stack runs (R274, R275): its command, the latched descriptor, key and step, the rank of the stack's first
member, and its members by unit number in the stack. -/
structure SlipRun where
  cmd   : Cmd := {}
  D     : List Word := []
  k0    : Word := 0
  k1    : Word := 0
  step  : Word := 0
  rank0 : Nat := 0
  mems  : List (Nat × SlipMem) := []
  deriving DecidableEq, Repr

/-- A stack's near-bank engine. -/
structure SlipStack where
  run  : Option SlipRun := none
  last : Nat := 0
  deriving DecidableEq, Repr

/-- An ordinary access (R284): a DMA write by its channel and number, a stash tile on its way by its handle and tile, a tile move, or the
fault of one, by its segment and number, or what a command does. -/
inductive Ordinary where
  | dmaWrite (die chan wr : Nat)
  | landing (die handle tile : Nat)
  | tile (g id : Nat)
  | tileFault (g id : Nat)
  | cmd (i : Instr)
  deriving DecidableEq, Repr

/-- An ordinary access held at a bank whose unit runs an operation (R284): the unit by stack * 512 + u, and the units at whose banks it
has been served. -/
structure Held where
  unit   : Nat
  passed : List Nat := []
  what   : Ordinary
  deriving DecidableEq, Repr

/-- The near-bank units: engines by stack, and the accesses held at busy banks in arrival order. -/
structure Slip where
  byStack : List (Nat × SlipStack) := []
  held   : List Held := []
  deriving DecidableEq, Repr

/-! Training state (chapter "Parameters, gradients and optimizer state"). -/

/-- A channel's member of a running MUPD (R301): master lines of the range still to write on it, and whether it met
poison. -/
structure MupdMem where
  left : Nat := 0
  pois : Bool := false
  deriving DecidableEq, Repr

/-- Deltas of a line that a MUPD reads through the peer window: reads that have still to answer (the first has been issued) and the
bytes of those answered. -/
structure MupdAsk where
  need : List (Nat × Nat) := []
  got  : List PByte := []
  deriving DecidableEq, Repr

/-- The MUPD that runs: its command, its descriptor, its members by channel, the lines that have been written, the deltas asked of
other modules by line, and whether TRS_POISON has been posted for it. -/
structure MupdRun where
  cmd  : Cmd := {}
  D    : List Word := []
  mems : List (Nat × MupdMem) := []
  lines : List Nat := []
  asks : List (Nat × MupdAsk) := []
  pois : Bool := false
  deriving DecidableEq, Repr

/-- The training state: SEQ of the last completed command of each die, the running MUPD and the SEQ of the last
completed one. -/
structure Train where
  last  : List (Nat × Nat) := []
  mupd  : Option MupdRun := none
  mlast : Nat := 0
  deriving DecidableEq, Repr

/-! Ingest (chapter "Ingest: decode and shuffle"). -/

/-- Where a started sample stands (R344, R345): its index entry is being read, its stream has no room in the buffer yet or is
being read, its decode runs with its bytes, or it has ended with its slot bytes (a bad one with its cause). -/
inductive Stage where
  | index
  | room
  | stream
  | decode
  | ended
  deriving DecidableEq, Repr

/-- A started position: t, its sample index, decoder, stage, index entry as read, stream bytes read, the place of its
stream in the bitstream buffer, the place (offset and length) and the failed decoder it has from an earlier start, the read it waits for, the fault it will meet, its cause (0: OK)
and whether its slot lay in a die in reset when it was written, so that its bytes never arrived (R345). -/
structure Sample where
  t     : Nat := 0
  samp  : Nat := 0
  dec   : Nat := 0
  stage : Stage := .index
  ent   : List PByte := []
  bytes : List PByte := []
  off   : Nat := 0
  place : Option (Nat × Nat) := none
  failed : Option Nat := none
  rid   : Nat := 0
  flt   : SampleFault := .none
  cause : Nat := 0
  lost  : Bool := false
  deriving DecidableEq, Repr

/-- A position to start again (R346, R349): the place its stream holds in the bitstream buffer (offset and length), and the decoder
that failed on it. -/
structure Redo where
  t      : Nat := 0
  place  : Option (Nat × Nat) := none
  failed : Option Nat := none
  deriving DecidableEq, Repr

/-- The running job: command, descriptor, colour block, next position to start (with its free counter met, R195), positions
to start again, positions committed, started samples, the next place in the bitstream buffer and the reads issued. -/
structure IngJob where
  cmd   : Cmd := {}
  D     : List Word := []
  col   : List Word := []
  next  : Nat := 0
  free  : Bool := false
  done  : Nat := 0
  redo  : List Redo := []
  samps : List Sample := []
  bs    : Nat := 0
  deriving DecidableEq, Repr

/-- The ingest engine: its job, SEQ of the last completed one, STOPPED, reads issued, and the registers a perm test in progress
took (R351). -/
structure Ing where
  job  : Option IngJob := none
  last : Nat := 0
  stopped : Bool := false
  rid  : Nat := 0
  test : Option (List Word) := none
  deriving DecidableEq, Repr

/-! Requests to other modules (chapter "Optical fabric and routing"). -/

/-- The unit that issued a request: a DMA write or read, a sample fetch, a replica repair, by the number of its read, or the delta of a
line of a MUPD (R374). -/
inductive Requester where
  | dmaWrite (die chan wr : Nat)
  | dmaRead (die chan wr : Nat)
  | ingest (rid : Nat)
  | repair (rid : Nat)
  | mupd (cid line : Nat)
  deriving DecidableEq, Repr

/-- A request on its way to the router (R374): 0 WR, 1 RD, 2 DRD, its destination module, offset (or device address, for
DRD), length and data. -/
structure PeerReq where
  kind : Nat := 0
  dst  : Nat := 0
  off  : Nat := 0
  len  : Nat := 0
  data : List PByte := []
  who  : Requester := .repair 0
  deriving DecidableEq, Repr

/-- A packet (R365): its eight header words and its data bytes. -/
structure Packet where
  h    : List Word := []
  body : List Byte := []
  deriving DecidableEq, Repr

/-- A packet of which a port has received the header and some slots: the header, slots to come, slots come. -/
structure RxPart where
  h    : List Word := []
  left : Nat := 0
  got  : List (List Word) := []
  deriving DecidableEq, Repr

/-- The partner a port has recorded, and whether it is valid (R379, R382). -/
structure Peer where
  valid  : Bool := false
  module : Nat := 0
  port   : Nat := 0
  kind   : Nat := 0
  gen    : Nat := 0
  deriving DecidableEq, Repr

/-- A fabric port (R356 to R364, R379): state (0 OFF, 1 TRAIN, 2 LINKED, 3 ACTIVE, 4 RETRAIN) and the one to return to;
next FSEQ to send and expected; whether a data flit has been accepted and whether one was discarded since; unacknowledged
data flits, oldest first, each with the time it was last sent, and how many of them have been sent in the running replay;
replays begun from the oldest and the acknowledgements they were begun under; a NAK that asks for one; failed attempts,
locked lanes, lanes whose TRAIN flits have been found, ordered and deskewed, the partner's RXREADY, MODE and RXNEXT as its TRAIN flits
say them, attempts begun, the launch power that the drive of each lane asks for in tenths of a dBm; credits held and to return by class; packets queued, the slots of the one being sent; the packet being
received and those received, each with whether its slots are owed to the partner; the partner; whether no keepalive
has come since training; DUP. -/
structure Port where
  state  : Nat := 0
  former : Nat := 2
  txNext : Nat := 0
  rxNext : Nat := 0
  ackv   : Bool := false
  nak    : Bool := false
  replay : List (Flit × Nat) := []
  sent   : Nat := 0
  replays : Nat := 0
  naks   : List Nat := []
  nakDue : Bool := false
  tries  : Nat := 0
  lock   : Nat := 0
  heard  : Nat := 0
  told   : Option (Bool × Bool × Nat) := none
  attempt : Nat := 0
  drive  : List Nat := []
  cred   : List Nat := [0, 0, 0, 0, 0, 0, 0]
  ret    : List Nat := [0, 0, 0, 0, 0, 0, 0]
  txq    : List Packet := []
  cur    : List (List Word) := []
  part   : Option RxPart := none
  rx     : List (Packet × Bool) := []
  peer   : Peer := {}
  fresh  : Bool := false
  dup    : Bool := false
  rtt    : Nat := 0
  deriving DecidableEq, Repr

/-- A routing table entry (R368). -/
structure RouteEnt where
  valid : Bool := false
  lgen  : Nat := 0
  dl    : Nat := 0
  pm    : Nat := 0
  deriving DecidableEq, Repr

/-- A tag taken by a request (R374): its kind (0 WR, 1 RD, 2 DRD), its destination module and who issued it. -/
structure TagEnt where
  kind : Nat := 0
  dst  : Nat := 0
  who  : Requester := .repair 0
  deriving DecidableEq, Repr

/-- Ports, the routing table by module number, outstanding tags, tags that may not be used again yet, and what Synian
holds of link state (R380): the last SEQNO and the body by origin; and the axis directions that an ABORT of the step held as
aborted has gone out on (R405). -/
structure Fab where
  ports : List (Nat × Port) := []
  table : List (Nat × RouteEnt) := []
  tags  : List (Nat × Option TagEnt) := []
  quar  : List Nat := []
  lsa   : List (Nat × Nat) := []
  lsdb  : List (Nat × List Word) := []
  aborted : List (Nat × Nat) := []
  deriving DecidableEq, Repr

/-! Collectives (chapter "Collective engine"). -/

/-- A piece stream being received (R395): ring, CKIND, round, piece and the packets that have come, by SOFF. -/
structure ColPiece where
  ring  : Nat := 0
  kind  : Nat := 0
  round : Nat := 0
  piece : Nat := 0
  parts : List (Nat × List PByte) := []
  deriving DecidableEq, Repr

/-- What a member decides from the n close records (R399): a fault PLAN, an abort, or flags and vote with the module named
as source and the size of the class COL_VOTE reports. -/
structure ColDecision where
  plan   : Bool := false
  abort  : Bool := false
  nonfin : Bool := false
  vote   : Nat := 0
  srcmod : Nat := 0
  maj    : Nat := 0
  deriving DecidableEq, Repr

/-- An open collective (R401): its command and descriptor, what it latched (grog key and step, LSEXP, TRY, the digest
with its poison, CMODE and KSEL of its contribution, the partners' tags by port), its ring, the flags it has met, the streams being received and the pieces done (ring, kind, round,
piece) with the SOFFs each had, close records by coordinate, whether its own was sent, what was decided, and packets that wait for a trunk
port (each with its direction). -/
structure ColRun where
  cmd    : Cmd := {}
  D      : List Word := []
  k0     : Word := 0
  k1     : Word := 0
  step   : Word := 0
  lsexp  : Int := 0
  try_   : Nat := 0
  digest : Nat := 0
  dgpois : Bool := false
  hdr    : Word := 0
  n      : Nat := 1
  c      : Nat := 0
  gens   : List (Nat × Nat) := []
  nonfin : Bool := false
  range  : Bool := false
  pois   : Bool := false
  recv   : List ColPiece := []
  got    : List (Nat × Nat × Nat × Nat) := []
  soffs  : List ((Nat × Nat × Nat × Nat) × List Nat) := []
  recs   : List (Nat × List Word) := []
  closed : Bool := false
  dec    : Option ColDecision := none
  wait   : List (Nat × Packet) := []
  deriving DecidableEq, Repr

/-- The collective engine of a die, with the ORIGIN of the abort its `COL_ABORTST` holds (R404, R405). -/
structure Col where
  run  : Option ColRun := none
  last : Nat := 0
  origin : Nat := 0
  deriving DecidableEq, Repr

/-! The host interface (chapter "Host interface"). -/

/-- The host link (0 not up since power-on, 1 up, 2 down), whether the module has been ready since power-on (R413), the bus
and device number captured (R437); configuration space by 32-bit register, where it has been written (an unlisted register
holds its reset value, R411), with Memory Space Enable, MSI-X Enable, Function Mask and D3hot apart (R411, R413, R423); the MSI-X table by vector * 4 + word (an
unlisted vector control word is masked, R414) and the pending bits (R423); the Uncorrectable and Correctable Error Status of Advanced Error
Reporting (R411, R413, R419); the event ring's arming, the events dropped since the last EVENT_OVERFLOW record, the next SEQ and the
events that Synian holds, oldest first, each with its SEQ (R424 to R427); the endpoint ID (R428). -/
structure Hif where
  link  : Nat := 0
  ever  : Bool := false
  bdf   : Nat := 0
  cfg   : List (Nat × Option Word) := []
  memEn : Bool := false
  msixEn : Bool := false
  msixMask : Bool := false
  d3    : Bool := false
  msix  : List (Nat × Word) := []
  pba   : List Nat := []
  uncor : Word := 0
  cor   : Word := 0
  armed : Bool := false
  drops : Nat := 0
  seq   : Nat := 0
  held  : List (Nat × List Word) := []
  eid   : Nat := 0
  deriving DecidableEq, Repr

/-! Start-up, configuration and security. -/

/-- An erase or a program of the flash: from a byte address on, so many bytes, erased or with this data. -/
structure FlashOp where
  at_  : Nat := 0
  len  : Nat := 0
  data : Option (List Byte) := none
  deriving DecidableEq, Repr

/-- A firmware update being written (R450): its slot, the result its checks gave (1: passed) and the image. -/
structure Update where
  slot   : Nat := 0
  result : Nat := 0
  image  : List Byte := []
  deriving DecidableEq, Repr

/-- Start-up (R435 to R455): whether Synian runs and has written MGT_BOOTOK, the slot that runs (0 A, 1 B), slots that
failed in this start-up, the running header, PART of the part record; what has been written to the flash (newest first), starts
counted, the floor and the revoke bits blown beyond the factory's; the configuration image being programmed, the update
in progress, the message of the quote being signed and the extensions that wait for it. -/
structure Boot where
  synian  : Bool := false
  bootok  : Bool := false
  slot    : Nat := 0
  failed  : List Nat := []
  hdr     : List Word := []
  part    : Nat := 0
  flash   : List FlashOp := []
  starts  : Nat := 0
  floor   : Nat := 0
  revoked : Nat := 0
  prog    : Option (List Word) := none
  upd     : Option Update := none
  quote   : Option (List Byte) := none
  ext     : List (Nat × List Byte) := []
  deriving DecidableEq, Repr

/-! Hangs, dumps, resets and recovery. -/

/-- A reset request (R476, R477): level 0 engine group, 1 die, 2 module; its target and who asked. -/
structure Reset where
  level  : Nat := 0
  target : Nat := 0
  src    : ResetSource := .synian
  deriving DecidableEq, Repr

/-- A repair in progress (R316, R484, R485): its source, the parts of the regions still to copy
(address and bytes), the regions it copies, and its RESULT once it is decided. -/
structure Repairing where
  source   : Nat := 0
  todo     : List (Nat × Nat) := []
  regions  : List (Nat × Nat) := []
  result   : Nat := 0
  deriving DecidableEq, Repr

/-- Watchdog slots (progress counts, FIRED, by slot W), generation tags of engine groups by slot, fenced domains (slot W,
1000 + D for a die, 2000 for the module), the running reset and the queued requests, the held snapshot's slot, the slots
fired since, the shadow read in progress with its unit and index, units recorded NORESP, DSEQ of the last snapshot collected, the repair in
progress and the reads it has issued, and the local time of the last kick. Synian keeps, by slot, the level of the reset that it owes a slot
that has fired, the level and end of the reset that handled the slot's last hang, and the slots whose automatic resets have stopped (R480). -/
structure Ras where
  prog   : List (Nat × Nat) := []
  fired  : List (Nat × Bool) := []
  gens   : List (Nat × Nat) := []
  fence  : List Nat := []
  run    : Option Reset := none
  queue  : List Reset := []
  snapw  : Option Nat := none
  pend   : List Nat := []
  sgBusy : Bool := false
  sgUnit : Nat := 0
  sgIdx  : Nat := 0
  noresp : List Nat := []
  dseq   : Nat := 0
  repair : Option Repairing := none
  repRid : Nat := 0
  kick   : Nat := 0
  owed   : List (Nat × Option Nat) := []
  hung   : List (Nat × Option (Nat × Nat)) := []
  stopped : List Nat := []
  deriving DecidableEq, Repr

/-! Power, monitors and what leaves the module. -/

/-- Power states of R493. -/
inductive PowerState where
  | off | starting | ready | failed | shutdown
  deriving DecidableEq, Repr

/-- Power: its state, dies held by a thermal trip (R26), the ceilings in mV of the current clamp while it is entered
(R457), and sensors that have posted THERM_WARN (by kind * 64 + index) (R501). -/
structure Pwr where
  state  : PowerState := .off
  held   : List (Nat × Bool) := []
  clamp  : Option (List Nat) := none
  warned : List (Nat × Bool) := []
  deriving DecidableEq, Repr

/-- Something that leaves the module: a host memory write, an MSI-X message, a completion to the host, an MCTP answer, a
register's value as read, the codeword of a flit or the training pattern on a lane of a port, or an AER-visible error answer. -/
inductive Out where
  | hostWrite (addr : Nat) (data : List Byte)
  | msix (vec : Nat) (addr : Nat) (data : Word)
  | hostRead (data : List Byte) (poison : Bool) (ok : Bool)
  | cfgReply (data : Word) (retry : Bool)
  | mctp (units : List (List Byte))
  | regRead (key : Nat) (v : Nat)
  | flit (port : Nat) (f : Flit)
  | prbs (port lane : Nat)
  | event (seq : Nat) (words : List Word)
  deriving DecidableEq, Repr

/-- Everything of the module that the dump path can latch: all state but the snapshot itself and the model's queue of
commands. `inj` holds the requests in the dies' injection queues, oldest first, each with its die, and `injw` those that wait for room
there (R374). -/
structure Device where
  core : Core := {}
  kiln : Kiln := {}
  mvp  : List (Nat × Mvp) := []
  sts  : List (Nat × Stash) := []
  vec  : Vec := {}
  ctl  : Ctl := {}
  dma  : List (Nat × DmaCh) := []
  tier : Tier := {}
  slip : Slip := {}
  train : Train := {}
  ing  : Ing := {}
  fab  : Fab := {}
  col  : List (Nat × Col) := []
  inj  : List (Nat × PeerReq) := []
  injw : List (Nat × PeerReq) := []
  hif  : Hif := {}
  boot : Boot := {}
  ras  : Ras := {}
  pwr  : Pwr := {}
  out  : List Out := []
  deriving DecidableEq, Repr

/-- The state of HK1: the device, the snapshot latched for the dump path (R469), and the commands that are waiting. -/
structure State where
  dev     : Device := {}
  snap    : Option Device := none
  pending : List Instr := []
  deriving DecidableEq, Repr

/-- The machine right after power-on, before the feed is good: every register at its reset value, memory with nothing
listed, every queue empty. -/
def State.reset : State := {}

end Sys2Proof.Machine
end

