-- ==== Sys2Proof/Machine/Ops.lean ====
section
/-! DEFINITION. The named operations every command is written with: registers, events, memory with poison marks, sync
counters, queues, and the completion of commands by their parts. -/

namespace Sys2Proof.Machine

/-! Unit identifiers (R23). -/

def uidOf (root i0 sub i1 i2 : Nat) : Nat := root * 2 ^ 28 + i0 * 2 ^ 23 + sub * 2 ^ 20 + i1 * 2 ^ 12 + i2

def uModule : Nat := uidOf 0 0 0 0xFE 0xFFE
def uDie (d : Nat) : Nat := uidOf 1 d 0 0xFE 0xFFE
def uPair (d p : Nat) : Nat := uidOf 1 d 1 p 0xFFE
def uArray (d a : Nat) : Nat := uidOf 1 d 1 (a / 2) (a % 2)
def uCluster (d w : Nat) : Nat := uidOf 1 d 2 w 0xFFE
def uCore (d w c : Nat) : Nat := uidOf 1 d 2 w c
def uCtl (d : Nat) : Nat := uidOf 1 d 3 0xFE 0xFFE
def uDma (d : Nat) : Nat := uidOf 1 d 4 0xFE 0xFFE
def uChan (d n : Nat) : Nat := uidOf 1 d 4 n 0xFFE
def uStack (s : Nat) : Nat := uidOf 2 s 0 0xFE 0xFFE
def uBank (s c b : Nat) : Nat := uidOf 2 s 1 c b
def uMrd (m : Nat) : Nat := uidOf 3 m 0 0xFE 0xFFE
def uMrdAll : Nat := uidOf 3 0x1F 0 0xFE 0xFFE
def uPort (p : Nat) : Nat := uidOf 4 p 0 0xFE 0xFFE
def uHif : Nat := uidOf 5 0 0 0xFE 0xFFE
def uMgmt : Nat := uidOf 6 0 0 0xFE 0xFFE

/-- The die whose local time counter stamps a unit's events (R16, R425): die 0 for what belongs to no die, as `m*` does. -/
def dieOfUnit (u : Nat) : Nat :=
  let i0 := u / 2 ^ 23 % 32
  match u / 2 ^ 28 with
  | 1 => i0 % 4
  | 2 => i0 / 2 % 4
  | 3 => if i0 = 31 then 0 else i0 / 2 % 4
  | 4 => i0 / 4 % 4
  | _ => 0

/-! Registers. -/

/-- A register of a die's block, and of a module block (R31). -/
def dreg (d blk off : Nat) : Nat := regKey d blk off
def mreg (blk off : Nat) : Nat := regKey 8 blk off

/-- The stored value of a register. -/
def Device.reg (d : Device) (k : Nat) : Word := mget (regReset k) d.core.regs k

/-- A register set by the hardware. -/
def Device.setReg (d : Device) (k : Nat) (v : Word) : Device :=
  { d with core.regs := mset (regReset k) d.core.regs k v }

/-- Two registers set as one 64-bit value. -/
def Device.setReg64 (d : Device) (k n : Nat) : Device := (d.setReg k (lo32 n)).setReg (k + 4) (hi32 n)

/-- Registers whose keys lie in [a, b) return to their reset values. -/
def Device.clearRegs (d : Device) (a b : Nat) : Device :=
  { d with core.regs := d.core.regs.filter (fun p => p.1 < a || b ≤ p.1) }

/-- A fault record with its VALID bit in bit 31 keeps the first fault (R95, R105, R143). -/
def Device.setRecord (d : Device) (k : Nat) (lo hi : Word) : Device :=
  if bit (d.reg k) 31 then d else (d.setReg k lo).setReg (k + 4) hi

/-! Free values. -/

/-- The next free value. -/
def Device.freeWord (d : Device) : Word := Config.freeWord d.core.freeN

def Device.drawn (d : Device) : Device := { d with core.freeN := d.core.freeN + 1 }

/-! Events (R13, R424, R425). -/

/-- The local time count of a die (R37). -/
def Device.time (d : Device) (die : Nat) : Nat := mget 0 d.core.ltc die / 10 ^ 6 % 2 ^ 64

/-- The die whose local time counter a timeout counts on: that of the unit that waits, die 0 for module-level units (R37). -/
def Timer.die : Timer → Nat
  | .hang w _ => if w < 256 then w / 64 else 0
  | .wait die .. => die
  | .late die _ => die
  | .collective die _ | .seal die _ => die
  | .decode dec _ => dec / 12
  | .training p _ | .ready p _ => p / 4
  | _ => 0

/-- Whether a timeout of `n` units of local time has run out since it was armed: the counter's tolerance is the timeout's (R37). -/
def Device.expired (d : Device) (t : Timer) (n : Nat) : Bool :=
  match d.core.armed.lookup t with
  | some s => decide (s + n ≤ d.time t.die)
  | none => false

/-- A timeout runs no longer. -/
def Device.disarm (d : Device) (t : Timer) : Device := { d with core.armed := d.core.armed.filter (fun x => x.1 != t) }

/-- An event is posted: it waits to reach HIF with the time at which it was posted. -/
def Device.post (d : Device) (code unit : Nat) (data : Word) : Device :=
  let die := dieOfUnit unit
  { d with core.evq := d.core.evq ++ [{ code := code, unit := unit, data := data, die := die, time := d.time die }] }

/-! Reset domains and holds (R26, R475, R476). -/

/-- Domain keys: a watchdog slot W for an engine group, 1000 + D for a die, 2000 for the module. -/
def domDie (d : Nat) : Nat := 1000 + d
def domModule : Nat := 2000

/-- Whether the domain of slot W, its die or the module is fenced by a reset (R476). -/
def Device.fenced (d : Device) (w : Nat) : Bool :=
  d.ras.fence.contains domModule || d.ras.fence.contains w || (w < 256 && d.ras.fence.contains (domDie (w / 64)))

/-- Whether a die's domain is in reset (R200, R217). -/
def Device.dieInReset (d : Device) (die : Nat) : Bool :=
  d.ras.fence.contains domModule || d.ras.fence.contains (domDie die)

/-- The timers of watchdog slots run no longer: where they run again they start from zero (R467). -/
def Device.disarmSlots (d : Device) (p : Nat → Bool) : Device :=
  { d with core.armed := d.core.armed.filter (fun x => match x.1 with
      | .hang w _ => !p w
      | _ => true) }

/-- Whether the units of slot W may act: not in reset, and their die not held by a thermal trip (R26). -/
def Device.runs (d : Device) (w : Nat) : Bool :=
  !d.fenced w && !(w < 256 && mget false d.pwr.held (w / 64))

/-- Whether a module-level unit may act. -/
def Device.modRuns (d : Device) : Bool := !d.ras.fence.contains domModule

/-- One event of progress of slot W (R466). -/
def Device.progress (d : Device) (w : Nat) : Device :=
  { d with ras.prog := mset 0 d.ras.prog w ((mget 0 d.ras.prog w + 1) % 2 ^ 32) }

/-- n output columns written: that many events of progress (R466). -/
def Device.progressN (d : Device) (w n : Nat) : Device :=
  { d with ras.prog := mset 0 d.ras.prog w ((mget 0 d.ras.prog w + n) % 2 ^ 32) }

/-- Watchdog slots of R465. -/
def wPair (d a : Nat) : Nat := 64 * d + a / 2
def wCluster (d w : Nat) : Nat := 64 * d + 8 + w
def wDma (d : Nat) : Nat := 64 * d + 24
def wCtl (d : Nat) : Nat := 64 * d + 25
def wMvp (d : Nat) : Nat := 64 * d + 26
def wSts (d : Nat) : Nat := 64 * d + 27
def wTrs (d : Nat) : Nat := 64 * d + 28
def wCol (d : Nat) : Nat := 64 * d + 29
def wStack (s : Nat) : Nat := 64 * (s / 2) + 30 + s % 2
def wPort (p : Nat) : Nat := 64 * (p / 4) + 32 + p % 4
def wSeg (g : Nat) : Nat := 256 + g
def wIng : Nat := 261
def wMupd : Nat := 262

/-! Memory (R28, R29, R513). -/

def regionOf (a : Nat) : Nat := a / 2 ^ 48 % 16

/-- SRAM address word to device address (R107). -/
def sramDA (w : Word) : Nat := fld w 31 30 * 2 ^ 48 + fld w 27 0

/-- The one key of a byte of memory: an address of the 0x5 view is mapped to its address in the 0x4 view (R28). Each bank
holds the 4 KiB pieces of its stack in turn: piece q of bank (C, B) is piece q * 512 + B * 32 + C of the stack. -/
def canonAddr (a : Nat) : Nat :=
  if regionOf a = 5 then
    let s := a / 2 ^ 36 % 8
    let c := a / 2 ^ 31 % 32
    let b := a / 2 ^ 27 % 16
    let o := a % 2 ^ 27
    let so := (o / 4096) * 2 ^ 21 + b * 2 ^ 17 + c * 2 ^ 12 + o % 4096
    4 * 2 ^ 48 + so / 4096 * 2 ^ 15 + s * 4096 + so % 4096
  else a % 2 ^ 52

/-- Bytes of the assigned range of a region that is linear (R29); the 0x5 view is checked by bank. -/
def regionSize (cap : Nat) : Nat → Nat
  | 0 => 0xA000000 | 1 => 0xA000000 | 2 => 0xA000000 | 3 => 0xA000000
  | 4 => 0x6000000000
  | 8 => cap
  | _ => 0

/-- Whether a range of n bytes lies within the assigned range of its first byte's region: memory regions only (R29). -/
def Device.rangeOk (d : Device) (a n : Nat) : Bool :=
  let r := regionOf a
  if a ≥ 2 ^ 52 then false
  else if n = 0 then true
  else if r = 5 then a / 2 ^ 39 % 512 == 0 && a % 2 ^ 27 + n ≤ 0x6000000
  else a % 2 ^ 48 + n ≤ regionSize d.core.cap r

/-- Whether a range of n bytes from an SRAM address word lies in assigned SRAM (R107). -/
def Device.sramOk (d : Device) (w : Word) (n : Nat) : Bool := d.rangeOk (sramDA w) n

/-- The unit of a poison mark that holds a byte: 32 bytes, or the 64-byte line of tier 2 (R513). -/
def poisonUnit (k : Nat) : Nat := if regionOf k = 8 then k / 64 * 2 else k / 32

def unitBytes (k : Nat) : Nat := if regionOf k = 8 then 64 else 32

/-- What an unlisted byte of memory reads as: memory is zeroed before the module is ready (R435). -/
def Memory.dflt : Byte := 0

/-- The canonical form of memory: addresses strictly rising, no listed byte equal to what an unlisted one reads as. -/
abbrev Memory.wf (m : List Host.Cell) : Prop := mwf Memory.dflt m = true

/-- One byte of memory at a device address, with the poison mark of its unit. -/
def Device.readByte (d : Device) (a : Nat) : PByte :=
  let k := canonAddr a
  (mget Memory.dflt d.core.mem k, d.core.pois.contains (poisonUnit k))

/-- n bytes from a device address. -/
def Device.readBytes (d : Device) (a n : Nat) : List PByte := (rangeFrom a n).map d.readByte

/-- Values alone. -/
def values (l : List PByte) : List Byte := l.map Prod.fst

/-- Whether any byte is poisoned. -/
def anyPoison (l : List PByte) : Bool := l.any Prod.snd

/-- Bytes without poison. -/
def clean (l : List Byte) : List PByte := l.map (fun b => (b, false))

/-- Bytes all poisoned or all not. -/
def mark (p : Bool) (l : List Byte) : List PByte := l.map (fun b => (b, p))

/-- One byte's value, with its unit's mark left alone. -/
def Core.pokeByte (c : Core) (a : Nat) (b : Byte) : Core := { c with mem := mset Memory.dflt c.mem (canonAddr a) b }

/-- Values stored from a device address up, marks left alone. -/
def Core.pokeBytes (c : Core) (a : Nat) : List PByte → Core
  | [] => c
  | b :: l => (c.pokeByte a b.1).pokeBytes (a + 1) l

/-- The mark of one unit after a write of `l` from address `a` that reaches it (R513): set by a poisoned byte, cleared by
a write of the whole unit, otherwise kept. The unit's first byte is `u`, as a device address of the same view. -/
def Core.markUnit (c : Core) (u : Nat) (a : Nat) (l : List PByte) : Core :=
  let sz := unitBytes (canonAddr u)
  let part := (l.drop (u - a)).take (u + sz - max u a)
  let key := poisonUnit (canonAddr u)
  if anyPoison part then { c with pois := sinsert key c.pois }
  else if a ≤ u ∧ u + sz ≤ a + l.length then { c with pois := c.pois.filter (fun j => j != key) }
  else c

/-- The marks of n units from address u on. -/
def Core.markUnits (c : Core) (a : Nat) (l : List PByte) : Nat → Nat → Core
  | _, 0 => c
  | u, n + 1 => (c.markUnit u a l).markUnits a l (u + unitBytes (canonAddr u)) n

/-- Memory held by a reset: SRAM with its die, tier 1 and tier 2 with the module (R26, R291, R476). -/
def Device.memHeld (d : Device) (a : Nat) : Bool := if regionOf a < 4 then d.dieInReset (regionOf a) else !d.modRuns

/-- n free bytes from the k-th free value on, each with a free poison mark. -/
def freeBytes (k n : Nat) : List PByte :=
  (rangeFrom k n).map (fun i => (BitVec.ofNat 8 (Config.freeWord i).toNat, bit (Config.freeWord i) 8))

/-! The coders of tier 1 and tier 2 (R262 to R265, R286 to R289). -/

/-- The stack of a tier 1 address in the 0x4 view, or the channel of a tier 2 address, and its offset there (R271). -/
def t1Stack (k : Nat) : Nat := k / 4096 % 8
def t1Offset (k : Nat) : Nat := k % 2 ^ 48 / 2 ^ 15 * 4096 + k % 4096

/-- Pseudo-channel, bank and bank offset of a stack offset (R271). -/
def bankOf (o : Nat) : Nat × Nat × Nat := (o / 2 ^ 12 % 32, o / 2 ^ 17 % 16, o / 2 ^ 21 * 4096 + o % 4096)

/-- An address of tier 1 in the bank-local view (R28). -/
def bankView (a : Nat) : Nat :=
  let b := bankOf (t1Offset a)
  5 * 2 ^ 48 + t1Stack a * 2 ^ 36 + b.1 * 2 ^ 31 + b.2.1 * 2 ^ 27 + b.2.2

def slpReg (s off : Nat) : Nat := mreg 1 (0x1000 + 0x100 * s + off)
def mrdReg (m off : Nat) : Nat := mreg 2 (0x1000 + 0x40 * m + off)

/-- SERVICE_ADVISED (R480, R488): bit k of `RAS_SVC` is set and the event posted, for the stack, channel or slot `who`. -/
def Device.advise (d : Device) (k unit who : Nat) : Device :=
  let r := mreg 10 0x40
  (d.setReg r (setBit (d.reg r) k true)).post 0x0A0B unit (wd ((k + 1) * 2 ^ 28 + who))

/-- Synian's answer to a threshold event, as shipped (R488): the first crossing on a stack or channel makes its tier's scrub interval 1 h
until the next power-on, one within 24 h of the last there asks for service. DESIGN CHOICE: Synian answers at once, and counts the 24 h
from the crossing before, on the counter of die 0. -/
def Device.answerCe (d : Device) (code unit : Nat) : Device :=
  let tier := if code = 0x040D then 0 else 1
  let n := unit / 2 ^ 23 % 32
  let again := match mget none d.core.crossed (8 * tier + n) with
    | some t => decide (d.time 0 ≤ t + 24 * 3600 * 10 ^ 9)
    | none => false
  let d := { d with core.crossed := mset none d.core.crossed (8 * tier + n) (some (d.time 0)) }
  if again then d.advise tier unit n
  else
    let k := mreg (1 + tier) 4
    { d.setReg k (setFld (d.reg k) 7 0 1) with core.hourly := sinsert tier d.core.hourly }

/-- The threshold event, once it is reached, until software writes the counter (R265, R289), and the answer to it. -/
def Device.ceTest (d : Device) (cnt thr code unit : Nat) : Device :=
  let t := fld (d.reg thr) 15 0
  if t ≠ 0 ∧ t ≤ (d.reg cnt).toNat ∧ !mget false d.core.cePost cnt then
    ({ d with core.cePost := mset false d.core.cePost cnt true }.post code unit 0).answerCe code unit
  else d

/-- A counter that holds at 0xFFFF_FFFF rises by one. -/
def Device.count1 (d : Device) (k : Nat) : Device := d.setReg k (wd (satAdd32 (d.reg k).toNat 1))

/-- One corrected error counted. -/
def Device.ceCount (d : Device) (cnt thr code unit : Nat) : Device := (d.count1 cnt).ceTest cnt thr code unit

/-- What the bad symbols of one code word are to its coder. -/
inductive CoderSays where
  | clean
  | corrected
  | miscorrected
  | uncorrectable
  deriving DecidableEq, Repr

/-- Whether an error is of the kind the coder corrects: one symbol of a tier 1 word, symbols of one device of a tier 2 line. -/
def correctable (tier2 : Bool) (l : List Nat) : Bool :=
  if tier2 then l.all (fun s => s / 4 == l.headD 0 / 4) else decide (l.length ≤ 1)

/-- Two bad symbols of a tier 1 word are always told (R286). -/
def mayMistake (tier2 : Bool) (l : List Nat) : Bool := tier2 || decide (3 ≤ l.length)

/-- What the coder of a code word (by its mark's key) says; an error on top of stored poison is uncorrectable (R263, R287). -/
def Device.coderSays (d : Device) (key : Nat) : CoderSays :=
  let l := mget [] d.core.flaws key
  let tier2 := regionOf (32 * key) == 8
  if l = [] then .clean
  else if d.core.pois.contains key then .uncorrectable
  else if correctable tier2 l then .corrected
  else if mayMistake tier2 l && Config.miscorrects d.core.freeN l then .miscorrected
  else .uncorrectable

/-- The bytes of a code word that an error leaves open, with the mark they get. -/
def Device.spoil (d : Device) (key : Nat) (p : Bool) : Device :=
  let a := 32 * key
  let n := unitBytes a
  { d with core := { (d.core.pokeBytes a (freeBytes d.core.freeN n)) with
      freeN := d.core.freeN + n, pois := if p then sinsert key d.core.pois else d.core.pois } }

/-- One code word of tier 1 or tier 2 is read, by a near-bank step or by an ordinary access; the coder answers, counts, and
writes back what it corrects or marks (R263, R264, R287, R288). -/
def Device.meetCoder (step : Bool) (d : Device) (key : Nat) : Device :=
  let a := 32 * key
  let s := t1Stack a
  let b := bankOf (t1Offset a)
  let l := mget [] d.core.flaws key
  let found := d.coderSays key
  let d := { d with core.flaws := mset [] d.core.flaws key [] }
  let fixed (d : Device) : Device :=
    if regionOf a = 8 then (d.setReg (mrdReg s 0x10) (wd ((Config.subchannel a).toNat * 16 + l.headD 0 / 4))).ceCount (mrdReg s 4) (mrdReg s 0xC) 0x040A (uMrd s)
    else d.ceCount (slpReg s 0xC) (slpReg s 0x14) 0x040D (uStack s)
  match found with
  | .clean => d
  | .corrected => fixed d
  | .miscorrected => fixed (d.spoil key false)
  | .uncorrectable =>
    let d := d.spoil key true
    if regionOf a = 8 then ((d.count1 (mrdReg s 8)).setReg64 (mrdReg s 0x18) a).post 0x0409 (uMrd s) 0
    else ((d.count1 (slpReg s 0x10)).setReg (slpReg s 0x18) (wd (b.1 * 2 ^ 26 + b.2.1 * 2 ^ 22 + b.2.2 / 32))).post 0x040C
      (uBank s b.1 b.2.1) (wd ((if step then 2 ^ 31 else 0) + b.2.2))

/-- Whether a range of device addresses, in either view of tier 1, reaches a code word. -/
def reachesWord (key : Nat) (r : Nat × Nat) : Bool :=
  let x := if regionOf r.1 = 5 then bankView (32 * key) else 32 * key
  decide (x < r.1 + r.2 ∧ r.1 < x + unitBytes (32 * key))

/-- The code words with bad symbols that ranges reach. -/
def Device.flawedIn (d : Device) (rs : List (Nat × Nat)) : List Nat :=
  (d.core.flaws.map Prod.fst).filter (fun k => rs.any (reachesWord k))

/-! Busy banks (R284). A unit is stack * 512 + 16 * channel + bank. -/

/-- The units that are running an operation, or at whose banks accesses are held. -/
def Device.busyUnits (d : Device) : List Nat :=
  d.slip.byStack.flatMap (fun x => match x.2.run with
    | some r => (r.mems.filter (fun m => !m.2.done)).map (fun m => x.1 * 512 + m.1)
    | none => []) ++ d.slip.held.map Held.unit

/-- Whether a range of device addresses reaches a unit's bank, in either view: of the 4 KiB pieces of the 0x4 view a bank holds every
4,096th (R28, R271). -/
def reachesUnit (u : Nat) (r : Nat × Nat) : Bool :=
  let (s, c, b) := (u / 512, u % 512 / 16, u % 16)
  if r.2 = 0 then false
  else if regionOf r.1 = 5 then r.1 / 2 ^ 36 % 8 == s && r.1 / 2 ^ 31 % 32 == c && r.1 / 2 ^ 27 % 16 == b
  else if regionOf r.1 = 4 then
    let p0 := r.1 / 4096
    decide ((s + 8 * c + 256 * b + 4096 - p0 % 4096) % 4096 ≤ (r.1 + r.2 - 1) / 4096 - p0)
  else false

/-- An access tried in advance notes the busy banks that it reaches. -/
def Device.watched (d : Device) (rs : List (Nat × Nat)) : Device :=
  match d.core.watch with
  | none => d
  | some l => { d with core.watch := some (l ++ d.busyUnits.filter (fun u => rs.any (reachesUnit u))) }

/-- Ranges of memory are read through the coders. -/
def Device.coder (d : Device) (step : Bool) (rs : List (Nat × Nat)) : Device :=
  (d.flawedIn rs).foldl (Device.meetCoder step) (d.watched rs)

/-- An ordinary access reads n bytes. -/
def Device.fetch (d : Device) (a n : Nat) : Device := d.coder false [(a, n)]

/-- Whether a write of n bytes at a covers a whole code word. -/
def coversWord (key a n : Nat) : Bool :=
  let x := if regionOf a = 5 then bankView (32 * key) else 32 * key
  decide (a ≤ x ∧ x + unitBytes (32 * key) ≤ a + n)

/-- One write of consecutive bytes; into a domain in reset nothing is written (R26). A code word that it covers in part is
read, merged and encoded again (R262, R287). -/
def Device.write (d : Device) (a : Nat) (l : List PByte) : Device :=
  if d.memHeld a then d
  else
  let d := d.watched [(a, l.length)]
  let reached := d.flawedIn [(a, l.length)]
  let d := (reached.filter (fun k => !coversWord k a l.length)).foldl (Device.meetCoder false) d
  let sz := unitBytes (canonAddr a)
  let u := a / sz * sz
  let flaws := d.core.flaws.filter (fun p => !reached.contains p.1)
  { d with core := { ((d.core.pokeBytes a l).markUnits a l u ((a + l.length + sz - 1) / sz - a / sz)) with flaws := flaws } }

/-- n bytes of memory that a rule leaves open: each becomes a free value, whatever holds its domain. -/
def Device.leaveOpen (d : Device) (a n : Nat) : Device :=
  let d := d.watched [(a, n)]
  let l := freeBytes d.core.freeN n
  let sz := unitBytes (canonAddr a)
  { d with core := ((({ d.core with freeN := d.core.freeN + n }).pokeBytes a l).markUnits a l (a / sz * sz) ((a + n + sz - 1) / sz - a / sz)) }

/-- Several ranges left open. -/
def Device.leaveAllOpen (d : Device) (l : List (Nat × Nat)) : Device := l.foldl (fun d x => d.leaveOpen x.1 x.2) d

/-- A list of writes, in order. -/
def Device.writes (d : Device) : List (Nat × List PByte) → Device
  | [] => d
  | (a, l) :: m => (d.write a l).writes m

/-! Sync counters and wait conditions (R194, R195). -/

def Device.sync (d : Device) (die c : Nat) : Nat := mget 0 d.core.sync (die * 256 + c)

/-- The comparison of R195. -/
def ctrMeets (c v : Nat) : Bool := decide ((c + 2 ^ 16 - v % 2 ^ 16) % 2 ^ 16 < 2 ^ 15)

def Device.ctrMet (d : Device) (die c v : Nat) : Bool := ctrMeets (d.sync die c) v

/-- Whether the wait condition in a word W1 (R108) is met now. -/
def Device.w1Met (d : Device) (die : Nat) (w1 : Word) : Bool :=
  !bit w1 31 || d.ctrMet die (fld w1 23 16) (fld w1 15 0)

/-- Word k of a command's record body. -/
def Cmd.word (c : Cmd) (k : Nat) : Word := wordAt c.w k

def Cmd.op (c : Cmd) : Nat := fld (c.word 0) 31 28
def Cmd.part (c : Cmd) : Nat := fld (c.word 0) 27 26
def Cmd.seq (c : Cmd) : Nat := fld (c.word 0) 11 0
/-- The TARGET of the record it came in (R196). -/
def Cmd.target (c : Cmd) : Word := wordAt c.hdr 0
def Cmd.seqWord (c : Cmd) : Word := wd c.seq

/-- Whether a command's wait condition is met or was met while it headed its queue. -/
def Device.cmdMet (d : Device) (c : Cmd) : Bool := c.met || d.w1Met c.die (c.word 1)

/-- The head of a queue with its wait condition latched (R195). -/
def Device.latchHead (d : Device) : List Cmd → List Cmd
  | [] => []
  | c :: q => { c with met := d.cmdMet c } :: q

/-- A stream that holds a control operation latches its wait condition. -/
def Device.latchStream (d : Device) (die : Nat) (s : Stream) : Stream :=
  match s.rcd with
  | none => s
  | some r => { s with met := s.met || d.w1Met die (wordAt r 9) }

/-- A DMA WAIT in progress latches its condition (R216); W0 is that of the instruction at the channel's pc. -/
def dmaWaitMet (d : Device) (w0 : Word) (woff : Nat) : Bool :=
  fld w0 31 28 == 4 && d.ctrMet (fld w0 27 26) (fld w0 23 16) ((fld w0 15 0 + woff) % 2 ^ 16)

def Device.dmaInstrAddr (p : DmaProg) : Nat := sramDA (p.cmd.word 3) + 32 * p.pc

def Device.readWord (d : Device) (a : Nat) : Word := wd (ofBytes (values (d.readBytes a 4)))

/-- W0 of the instruction at the channel's pc, instruction 0 as it was fetched. -/
def Device.dmaWord0 (d : Device) (p : DmaProg) : Word :=
  match p.first with
  | some w => wordAt w 0
  | none => d.readWord (Device.dmaInstrAddr p)

def Device.latchChan (d : Device) (c : DmaCh) : DmaCh :=
  match c.prog with
  | none => c
  | some p => { c with prog := some { p with met := p.met || dmaWaitMet d (d.dmaWord0 p) p.woff } }

/-- A pin of R251 on its counter. -/
def Device.pinMet (d : Device) (e : TierEnt) : Bool :=
  e.pinMet || !bit e.pin 31 || d.ctrMet (fld e.pin 29 28) (fld e.pin 23 16) (fld e.pin 15 0)

/-- The free counter of the next slot of an ingest job (R344). -/
def Device.slotMet (d : Device) (j : IngJob) : Bool :=
  let n := fld (wordAt j.D 14) 31 16
  j.free || (decide (n ≤ j.next) && d.ctrMet (fld (wordAt j.D 15) 29 28) (fld (wordAt j.D 15) 19 12)
    ((fld (wordAt j.D 14) 15 0 + j.next - n + 1) % 65536))

/-- Every waiter latches a condition that is met now; done before any counter changes (R195). -/
def Device.latchWaits (d : Device) : Device :=
  { d with
    core.queues := d.core.queues.map (fun p => (p.1, d.latchHead p.2))
    ctl.streams := d.ctl.streams.map (fun p => (p.1, d.latchStream (p.1 / 8) p.2))
    dma := d.dma.map (fun p => (p.1, d.latchChan p.2))
    tier.ents := d.tier.ents.map (fun p => (p.1, p.2.map (fun e => { e with pinMet := d.pinMet e })))
    ing.job := d.ing.job.map (fun j => { j with free := d.slotMet j }) }

/-- A sync counter takes a value. -/
def Device.putSync (d : Device) (die c v : Nat) : Device :=
  let d := d.latchWaits
  { d with core.sync := mset 0 d.core.sync (die * 256 + c) (v % 2 ^ 16) }

/-- The SIGEN increment of a completing unit, which applies in a reset too (R113, R194, R476). -/
def Device.signal (d : Device) (die c : Nat) : Device := d.putSync die c (d.sync die c + 1)

/-- A write of a sync counter; a die in reset is left unchanged (R200, R217). -/
def Device.setSync (d : Device) (die c v : Nat) : Device := if d.dieInReset die then d else d.putSync die c v

def Device.addSync (d : Device) (die c v : Nat) : Device := d.setSync die c (d.sync die c + v)

/-! Queues of unit instructions. -/

/-- Queue numbers: array partitions and drains by array * 4 + p (array = die * 16 + a), then the other units. -/
def qArr (d a p : Nat) : Nat := (d * 16 + a) * 4 + p
def qDrn (d a p : Nat) : Nat := 256 + (d * 16 + a) * 4 + p
def qMvp (d : Nat) : Nat := 512 + d
def qSts (d : Nat) : Nat := 516 + d
def qVec (d w : Nat) : Nat := 520 + d * 16 + w
def qDma (d n : Nat) : Nat := 584 + d * 32 + n
def qTrs (d : Nat) : Nat := 712 + d
def qCol (d : Nat) : Nat := 716 + d
def qSlp (s : Nat) : Nat := 720 + s
def qTier (g : Nat) : Nat := 728 + g
def qMupd : Nat := 733
def qIng : Nat := 734

/-- How many commands a queue holds. -/
def qDepth (q : Nat) : Nat :=
  if q < 512 then 8 else if q < 516 then 16 else if q < 520 then 32 else if q < 584 then 8 else if q < 712 then 4
  else if q < 728 then 16 else if q < 733 then 32 else if q = 733 then 8 else 4

def Device.queue (d : Device) (q : Nat) : List Cmd := mget [] d.core.queues q

def Device.setQueue (d : Device) (q : Nat) (l : List Cmd) : Device :=
  { d with core.queues := mset [] d.core.queues q l }

def Device.pushCmd (d : Device) (q : Nat) (c : Cmd) : Device := d.setQueue q (d.queue q ++ [c])

def Device.popCmd (d : Device) (q : Nat) : Device := d.setQueue q (d.queue q).tail

/-- An LBND that heads a stash queue releases what remains of the previous reservation (R170). -/
def Device.lbndHead (d : Device) (die : Nat) : Device :=
  match d.queue (qSts die) with
  | [] => d
  | c :: _ => if c.op = 0xD then { d with sts := mset {} d.sts die { (mget {} d.sts die : Stash) with resv := 0 } } else d

/-- The register field LASTSEQ of the unit behind a queue takes the SEQ of a command that has completed there. -/
def Device.noteLast (d : Device) (q seq : Nat) : Device :=
  if q < 256 then { d with kiln.parts := mset {} d.kiln.parts q { (mget {} d.kiln.parts q : Part) with last := seq } }
  else if q < 512 then d
  else if q < 516 then { d with mvp := mset {} d.mvp (q - 512) { (mget {} d.mvp (q - 512) : Mvp) with last := seq } }
  else if q < 520 then { d with sts := mset {} d.sts (q - 516) { (mget {} d.sts (q - 516) : Stash) with last := seq } }
  else if q < 584 then { d with vec.last := mset 0 d.vec.last (q - 520) seq }
  else if q < 712 then d
  else if q < 716 then { d with train.last := mset 0 d.train.last (q - 712) seq }
  else if q < 720 then { d with col := mset {} d.col (q - 716) { (mget {} d.col (q - 716) : Col) with last := seq } }
  else if q < 728 then { d with slip.byStack := mset {} d.slip.byStack (q - 720) { (mget {} d.slip.byStack (q - 720) : SlipStack) with last := seq } }
  else if q < 733 then { d with tier.segs := mset {} d.tier.segs (q - 728) { (mget {} d.tier.segs (q - 728) : Seg) with last := seq } }
  else if q = 733 then { d with train.mlast := seq }
  else { d with ing.last := seq }

/-- The head of a queue, once its wait condition is met. -/
def Device.ready (d : Device) (q : Nat) : Option Cmd :=
  match d.queue q with
  | [] => none
  | c :: _ => if d.cmdMet c then some c else none

/-! Streams that halt (R199, R515). -/

def Device.stream (d : Device) (die s : Nat) : Stream := mget {} d.ctl.streams (die * 8 + s)

def Device.setStream (d : Device) (die s : Nat) (v : Stream) : Device :=
  { d with ctl.streams := mset {} d.ctl.streams (die * 8 + s) v }

/-- A stream halts with a cause at a record, and STREAM_HALT is posted (R199, R206). -/
def Device.haltStream (d : Device) (die s cause index : Nat) : Device :=
  let st := d.stream die s
  (d.setStream die s { st with state := .halted, hcause := cause, hrec := index, rcd := none, met := false }).post 0x0A06 (uCtl die)
    (wd (s * 2 ^ 29 + cause * 2 ^ 26 + index % 2 ^ 20))

/-! Completion by parts (R20 to R22, R113, R199). -/

/-- Statuses of R20. -/
def stDone : Nat := 0
def stPoisoned : Nat := 1
def stAborted : Nat := 2
def stStale : Nat := 3
def stFault : Nat := 4
def stNoresp : Nat := 5

/-- A member's outcome taken into its command's: n parts, the status of the worst, leaves not DONE, and the lowest leaf
with that status. -/
def Open.part (o : Open) (n status nfail first : Nat) : Open :=
  { o with
    left := o.left - n
    ran := o.ran || status != stStale
    worst := max o.worst status
    nfail := o.nfail + nfail
    first := if status = 0 then o.first
             else if status > o.worst then first
             else if status = o.worst then min o.first first else o.first }

/-- The completion word of R22. -/
def Open.completion (o : Open) : BitVec 64 :=
  BitVec.ofNat 64 (o.worst * 2 ^ 60 + min o.nfail 16383 * 2 ^ 46 + (if o.worst = 0 then 0xFFFFFFFF else o.first % 2 ^ 32))

/-- Whether a record's FPOL names a status (R196). -/
def fpolNames (fpol status : Nat) : Bool :=
  (fpol == 1 && status != 0) || (fpol == 2 && (status == stFault || status == stNoresp))

/-- A command whose last part has ended: its completion word, then its SIGEN increment, then its FPOL. DESIGN CHOICE: a stream that is HALTED
for whatever cause is not halted again, and its HCAUSE and record stay (R199 says it of a halt by FPOL). -/
def Device.closeCmd (d : Device) (o : Open) : Device :=
  let d := { d with core.done := d.core.done ++ [{ die := o.die, stream := o.stream, index := o.index, word := o.completion }] }
  let d := if o.sigen then d.signal o.sigDie o.ctr else d
  if o.live && fpolNames o.fpol o.worst && (d.stream o.die o.stream).state != .halted then
    d.haltStream o.die o.stream 2 o.index
  else d

/-- n parts of a command end with a status. -/
def Device.completePart (d : Device) (cid n status nfail first : Nat) : Device :=
  let o := mget {} d.core.opens cid
  if o.left = 0 then d
  else
    let o := o.part n status nfail first
    if o.left = 0 then ({ d with core.opens := mset {} d.core.opens cid {} }).closeCmd o
    else { d with core.opens := mset {} d.core.opens cid o }

/-- A leaf unit's whole command ends with a status. -/
def Device.finish (d : Device) (c : Cmd) (status : Nat) : Device :=
  d.completePart c.cid 1 status (if status = 0 then 0 else 1) c.unit

/-- The summary slots of a vector loop that ends without a result are written as invalid; a value stays what it was (R188). -/
def Device.invalidSlots (d : Device) (c : Cmd) : Device :=
  let die := fld c.target 27 23
  let kinds := fld (c.word 6) 23 0
  { d with ctl.sums := (List.range 8).foldl (fun m k =>
      let kind := kinds / 8 ^ k % 8
      let key := die * 64 + (fld (c.word 6) 31 26 + k)
      if kind = 0 ∨ kind > 5 ∨ fld (c.word 6) 31 26 + k > 63 then m
      else mset {} m key { (mget {} m key : Summary) with valid := false, kind := kind }) d.ctl.sums }

/-! Status records of near-bank members (R273, R276). -/

/-- Numbers an index field names: one, or all n for `*`. -/
def idx (star n v : Nat) : Option (List Nat) := if v = star then some (List.range n) else if v < n then some [v] else none

/-- Near-bank units of one stack that a TARGET under ROOT 0x2 names, as C * 16 + B (R273). -/
def stackUnits (t : Word) : List Nat :=
  let cs := if fld t 22 20 = 0 then List.range 32 else (idx 0xFF 32 (fld t 19 12)).getD []
  let bs := if fld t 22 20 = 0 || fld t 11 0 ≥ 0xFFE then List.range 16 else [fld t 11 0]
  cs.flatMap (fun c => bs.map (fun b => c * 16 + b))

/-- Units of a command's group below stack s, and in all: the rank of R276 counts them in ascending unit number. -/
def groupStacks (c : Cmd) : List Nat := (idx 0x1F 8 (fld c.target 27 23)).getD []
def rankBase (c : Cmd) (s : Nat) : Nat := ((groupStacks c).filter (fun t => decide (t < s))).length * (stackUnits c.target).length

def sSten (c : Cmd) : Bool := bit (c.word 3) 24

/-- The status record of a member. -/
def slipRecord (c : Cmd) (m : SlipMem) (status cause : Nat) : List Word :=
  [wd (status * 2 ^ 28 + cause * 2 ^ 25 + c.seq), wd (min m.npois 0xFFFFFFFF), wd m.fpois, 0, wd (min m.steps 0xFFFFFFFF),
    wd (min m.noor 0xFFFFFFFF), wd (min m.cesym 0xFFFFFFFF), 0]

def Device.slipStatus (d : Device) (c : Cmd) (rank : Nat) (m : SlipMem) (status cause : Nat) : Device :=
  if sSten c then d.write (sramDA (c.word 5) + 32 * rank) (clean (wordsToBytes (slipRecord c m status cause))) else d

/-- Members of a part that end in their queue, or before it, write their records with zero counts; a refused part changes nothing. -/
def Device.idleRecords (d : Device) (q : Nat) (c : Cmd) (status : Nat) : Device :=
  if 720 ≤ q ∧ q < 728 ∧ status ≠ stFault then
    (List.range (stackUnits c.target).length).foldl (fun d k => d.slipStatus c (rankBase c (q - 720) + k) {} status 0) d
  else d

/-- A queued part ends without having run: its completion, and what a vector loop or a near-bank member that is not refused then writes:
invalid slots (R188, R191), status records (R276). -/
def Device.endUnrun (d : Device) (q : Nat) (c : Cmd) (status : Nat) : Device :=
  let d := if 520 ≤ q ∧ q < 584 ∧ status ≠ stFault then d.invalidSlots c else d
  (d.idleRecords q c status).completePart c.cid c.parts status c.parts c.unit

/-- The same for a unit that is not in reset: its LASTSEQ follows. -/
def Device.endQueued (d : Device) (q : Nat) (c : Cmd) (status : Nat) : Device := (d.noteLast q c.seq).endUnrun q c status

/-- Whether no part of a command has run: every part that is still open is in a queue (R18). -/
def Device.unstarted (d : Device) (c : Cmd) : Bool :=
  let o := mget {} d.core.opens c.cid
  !o.ran && o.left == d.core.queues.foldl (fun n p => (p.2.filter (fun x => x.cid == c.cid)).foldl (fun n x => n + x.parts) n) 0

/-- All queued parts of a command leave their queues and end with a status. -/
def Device.pullAll (d : Device) (c : Cmd) (status : Nat) : Device :=
  d.core.queues.foldl (fun d p =>
    let d := d.setQueue p.1 ((d.queue p.1).filter (fun x => x.cid != c.cid))
    (p.2.filter (fun x => x.cid == c.cid)).foldl (fun d x => d.endQueued p.1 x status) d) d

/-- A command refused at issue completes with FAULT and one event is posted (R514). The whole group is refused while none of
its members has started (R18); else the part at the head of queue `q` alone is. -/
def Device.refuse (d : Device) (q : Nat) (c : Cmd) (code unit : Nat) (data : Word) : Device :=
  let d := d.post code unit data
  if d.unstarted c then d.pullAll c stFault else (d.popCmd q).endQueued q c stFault

/-- The other parts of a command, wherever they stand in their queues. -/
def Device.mates (d : Device) (q : Nat) (c : Cmd) : List (Nat × Cmd) :=
  d.core.queues.flatMap (fun p => (p.2.filter (fun x => x.cid == c.cid && p.1 != q)).map (fun x => (p.1, x)))

/-- The commands ahead of a part in its queue. -/
def Device.ahead (d : Device) (q : Nat) (c : Cmd) : List Cmd := (d.queue q).takeWhile (fun x => x.ord != c.ord)

/-- The refusal of a part or, while no part of the command has run, of any other part in its queue: a group refuses before any
member starts (R18). Gives the queue of the part that cannot be carried out, and its event. -/
def Device.groupBad (d : Device) (q : Nat) (c : Cmd) (bad : Nat → Cmd → Option Nat) : Option (Nat × Nat) :=
  match bad q c with
  | some ev => some (q, ev)
  | none => if d.unstarted c then (d.mates q c).findSome? (fun p => (bad p.1 p.2).map (fun ev => (p.1, ev))) else none

/-- The events that refusals name most often. -/
def evSaturation : Nat := 0x0101
def evNonfinite : Nat := 0x0102
def evFormatPair : Nat := 0x0103
def evBlockLayout : Nat := 0x0104
def evRmode : Nat := 0x0105
def evInstrInvalid : Nat := 0x0202
def evOperandPoison : Nat := 0x0203
def evAddrUnassigned : Nat := 0x0401
def evLate : Nat := 0x0402
def evCmdInvalid : Nat := 0x0A07

/-! Numeric status registers (R57, R58). -/

/-- What the conversions of one command add to a block's NUMSTAT and SATCNT. -/
structure NumNote where
  sat    : Nat := 0
  blkNan : Bool := false
  nonfin : Bool := false
  deriving DecidableEq, Repr

def NumNote.join (a b : NumNote) : NumNote :=
  { sat := a.sat + b.sat, blkNan := a.blkNan || b.blkNan, nonfin := a.nonfin || b.nonfin }

/-- Conversions counted in the NUMSTAT at register `k` (SATCNT follows it), with the events of R58 naming `unit`. -/
def Device.note (d : Device) (k unit : Nat) (n : NumNote) : Device :=
  let old := d.reg k
  let v := old ||| wd ((if n.sat > 0 then 1 else 0) + (if n.blkNan then 2 else 0) + (if n.nonfin then 4 else 0))
  let d := (d.setReg k v).setReg (k + 4) (wd (satAdd32 (d.reg (k + 4)).toNat n.sat))
  let d := if n.sat > 0 && !bit old 0 then d.post evSaturation unit 0 else d
  if n.nonfin && !bit old 2 then d.post evNonfinite unit 0 else d

/-! Errors of the host interface (R419, R430, R432). -/

/-- A bit of HIF_ERR is set, with its event on a change from 0 to 1. -/
def Device.hifErr (d : Device) (n code : Nat) (data : Word) : Device :=
  let k := mreg 5 4
  let old := d.reg k
  let d := d.setReg k (setBit old n true)
  if bit old n || code = 0 then d else d.post code uHif data

/-- An error that Advanced Error Reporting logs as an advisory non-fatal one, by its bit of the Uncorrectable Error Status: 12 Poisoned TLP
Received, 20 Unsupported Request (R413, R419). PRESUMED: the bits, from the base specification (log entry 23). -/
def Device.aerLog (d : Device) (n : Nat) : Device :=
  { d with hif.uncor := setBit d.hif.uncor n true, hif.cor := setBit d.hif.cor 13 true }

/-- A poisoned host write is discarded and recorded (R419). -/
def Device.poisonedWrite (d : Device) : Device := (d.hifErr 28 0x0805 0).aerLog 12

/-- Whether BARs are decoded (R411, R413): Memory Space is enabled and the function is in D0. -/
def Device.memSpace (d : Device) : Bool := d.hif.memEn && !d.hif.d3

/-- A host write where BARs are not served is discarded: logged as an Unsupported Request where they are not decoded (R413), without a log
while a module reset runs (R414). -/
def Device.barShut (d : Device) : Device := if d.memSpace then d else d.aerLog 20

/-- Whether a host write to BAR0, BAR4 or a doorbell page is served (R413, R414). -/
def Device.hostOpen (d : Device) : Bool := d.memSpace && !d.ras.fence.contains domModule

/-! The flash (R438). -/

/-- A byte of the flash: what was last erased or programmed there, else what the factory left. -/
def flashAt (a : Nat) : List FlashOp → Byte
  | [] => Config.flashByte a
  | f :: l =>
    if f.at_ ≤ a ∧ a < f.at_ + f.len then
      match f.data with
      | none => 0xFF
      | some b => b.getD (a - f.at_) 0xFF
    else flashAt a l

/-- n bytes of the flash. -/
def Device.flashBytes (d : Device) (a n : Nat) : List Byte := (rangeFrom a n).map (fun k => flashAt k d.boot.flash)

def Device.flashWord (d : Device) (a : Nat) : Word := wd (ofBytes (d.flashBytes a 4))

/-! What leaves the module. -/

def Device.emit (d : Device) (o : Out) : Device := { d with out := d.out ++ [o] }

/-! A command's effect on the device alone, with the queue of waiting commands and the snapshot left as they are. -/

/-- The step of a command whose effect is a function of the device. -/
def onDevice (f : Device → Device) (s : State) : Host.Outcome State Fault Refusal := .next { s with dev := f s.dev }

end Sys2Proof.Machine
end

