-- ==== Sys2Proof/Machine/Operands.lean ====
section
/-! DEFINITION. How commands name and read their operands: records, SRAM address words, packed elements with their
block scales, and the refusal lists of the chapters (R45, R47, R107, R514). -/

namespace Sys2Proof.Machine

/-- The event of the first condition a command breaks (R514). -/
def firstBad : List (Bool × Nat) → Option Nat
  | [] => none
  | (b, e) :: l => if b then some e else firstBad l

/-- A nonzero reserved field of words W0 to W2 (R108), SHARE and PART left to the opcode. -/
def w012Reserved (c : Cmd) (deadline : Bool) : Bool :=
  fld (c.word 0) 15 12 != 0 || fld (c.word 1) 30 24 != 0 || fld (c.word 2) 15 0 != 0 ||
    (!deadline && fld (c.word 2) 31 16 != 0)

/-- SHARE and PART both zero, as most opcodes require. -/
def partShare (c : Cmd) : Bool := fld (c.word 0) 27 25 != 0

/-- Reserved bits [29:28] of an SRAM address word (R107). -/
def awRes (w : Word) : Bool := fld w 29 28 != 0

/-- An SRAM address word that is not a multiple of n bytes. -/
def awMis (n : Nat) (w : Word) : Bool := fld w 27 0 % n != 0

/-- An SRAM range of n bytes at an address word that is not wholly assigned. -/
def Device.sramBad (d : Device) (w : Word) (n : Nat) : Bool := !d.sramOk w n

/-- Rows of n bytes at a pitch from an address word: the span of all of them is not wholly assigned SRAM. -/
def Device.sramRowsBad (d : Device) (w : Word) (rows pitch n : Nat) : Bool :=
  d.sramBad w ((rows - 1) * pitch + n)

/-- One packed element at an address: bits [k*w + w - 1 : k*w] of the little-endian bytes (R45), with its poison mark. -/
def Device.elem (d : Device) (base : Nat) (f : Fmt) (k : Nat) : Nat × Bool :=
  let b := k * f.width
  let l := d.readBytes (base + b / 8) ((b % 8 + f.width + 7) / 8)
  (ofBytes (values l) / 2 ^ (b % 8) % 2 ^ f.width, anyPoison l)

/-- Element k of packed bytes (R45), with its poison mark. -/
def elemOf (l : List PByte) (f : Fmt) (k : Nat) : Nat × Bool :=
  let b := k * f.width
  let x := (l.drop (b / 8)).take ((b % 8 + f.width + 7) / 8)
  (ofBytes (values x) / 2 ^ (b % 8) % 2 ^ f.width, anyPoison x)

/-- The values of n packed elements and their block scales (R46, R55). -/
def valsOf (l scales : List PByte) (f : Fmt) (n : Nat) : List (Val × Bool) :=
  (List.range n).map (fun k =>
    let e := elemOf l f k
    if f.scaled then
      let s := scales.getD (k / 32) (0, false)
      (scaledVal f s.1.toNat e.1, e.2 || s.2)
    else (f.decode e.1, e.2))

/-- The value of element k of a row, its block scale applied where the format carries one (R46, R55). -/
def Device.rowVal (d : Device) (base sbase : Nat) (f : Fmt) (k : Nat) : Val × Bool :=
  let e := d.elem base f k
  if f.scaled then
    let s := d.readByte (sbase + k / 32)
    (scaledVal f s.1.toNat e.1, e.2 || s.2)
  else (f.decode e.1, e.2)

/-- n elements of a row. -/
def Device.rowVals (d : Device) (base sbase : Nat) (f : Fmt) (n : Nat) : List (Val × Bool) :=
  (List.range n).map (d.rowVal base sbase f)

/-- The words of an SRAM descriptor. -/
def Device.descWords (d : Device) (a n : Nat) : List Word := bytesToWords n (values (d.readBytes a (4 * n)))

/-- A format code that is one of R41's; FP32 stands for the codes that are refused. -/
def fmtOf (code : Nat) : Fmt := (Fmt.ofCode code).getD .fp32

/-- Where a die's grog generator stands when a descriptor starts (R60, R70). -/
def Device.draw (d : Device) (die stream : Nat) (tensor : Word) : Draw :=
  { k0 := d.reg (dreg die 11 0), k1 := d.reg (dreg die 11 4), stream := stream, tensor := tensor, step := d.reg (dreg die 11 8) }

/-- Whether a source value is infinite or NaN (R56). -/
def nonFinite (v : Val) : Bool := !v.isFinite

/-- What a row of values becomes in a format: element codes, one scale code per block of 32 for a block-scaled format, and
what the conversion counts (R50 to R56). Poisoned elements become canonical NaNs or make their block a NaN (R139, R105). -/
structure ConvRow where
  codes  : List (Nat × Bool) := []
  scales : List (Nat × Bool) := []
  note   : NumNote := {}
  deriving DecidableEq, Repr

/-- A block of a block-scaled format; a poisoned element makes it a block NaN, and is not counted as a non-finite source (DESIGN
CHOICE, as below). -/
def convPBlock (f : Fmt) (rs : List Rnd) (nosat : Bool) (l : List (Val × Bool)) : ConvRow :=
  let p := l.any (·.2)
  let b := convBlock f rs nosat (l.map (fun x => if x.2 then Val.nan else x.1))
  let b := if p then { b with scale := 0xFF, codes := b.codes.map (fun _ => 0), blkNan := true } else b
  { codes := b.codes.map (fun c => (c, p)), scales := [(b.scale, p)],
    note := { sat := b.counted, blkNan := b.blkNan, nonfin := l.any (fun x => !x.2 && nonFinite x.1) } }

/-- One element of an unscaled format. DESIGN CHOICE: a poisoned element is not counted as a non-finite source (R56, R139). -/
def convPElem (f : Fmt) (r : Rnd) (nosat : Bool) (x : Val × Bool) : ConvRow :=
  if x.2 then { codes := [(f.nanCode, true)] }
  else
    let c := f.convert r nosat x.1
    { codes := [(c.code, false)], note := { sat := c.counted.toNat, nonfin := nonFinite x.1 } }

def ConvRow.join (a b : ConvRow) : ConvRow :=
  { codes := a.codes ++ b.codes, scales := a.scales ++ b.scales, note := a.note.join b.note }

def joinRows (l : List ConvRow) : ConvRow := l.foldr ConvRow.join {}

/-- A row converted: blocks of 32 along it for a block-scaled format, element by element otherwise. -/
def convRow (f : Fmt) (rnd : Nat → Rnd) (nosat : Bool) (l : List (Val × Bool)) : ConvRow :=
  let rs := (List.range l.length).map rnd
  if f.scaled then
    joinRows (((chunks 32 ((l.length + 31) / 32) l).zip (chunks 32 ((l.length + 31) / 32) rs)).map (fun p => convPBlock f p.2 nosat p.1))
  else joinRows ((l.zip rs).map (fun p => convPElem f p.2 nosat p.1))

/-- Packed element bytes with poison: a byte is poisoned if any element in it is (R45, R513). -/
def packPoison (f : Fmt) (l : List (Nat × Bool)) : List PByte :=
  let v := packElems f (l.map Prod.fst)
  let n := l.length
  v.zip ((List.range v.length).map (fun b =>
    (List.range n).any (fun k => (l.getD k (0, false)).2 && decide (k * f.width < 8 * (b + 1) ∧ 8 * b < (k + 1) * f.width))))

/-- Scale bytes with poison. -/
def scaleBytes (l : List (Nat × Bool)) : List PByte := l.map (fun s => (BitVec.ofNat 8 s.1, s.2))

/-- The FP32 value of a word. -/
def f32 (w : Word) : Val := Fmt.fp32.decode w.toNat

/-- A value rounded to nearest even in FP32, as a value (R132). DESIGN CHOICE: where a chapter writes rne32 and says nothing of an overflow,
the result is infinity and is not counted (MUPD's own conversion apart). -/
def rne32 (v : Val) : Val := Fmt.fp32.decode (Fmt.fp32.rne v)

end Sys2Proof.Machine
end

