-- ==== Sys2Proof/Machine/Ecc.lean ====
section
/-! DEFINITION. The messages of MSI-X (R423), and the turns of the patrol scrubs (R265, R289). -/

namespace Sys2Proof.Machine

/-! MSI-X (R423). -/

/-- A word of a vector's table entry; an unwritten entry is masked. -/
def Device.msixWord (d : Device) (vec i : Nat) : Word := mget (if i = 3 then 1 else 0) d.hif.msix (vec * 4 + i)

/-- Whether a vector may send: MSI-X is enabled, and neither the function nor the vector is masked. -/
def Device.msixOpen (d : Device) (vec : Nat) : Bool :=
  d.hif.msixEn && !d.hif.msixMask && !bit (d.msixWord vec 3) 0

def Device.msixSend (d : Device) (vec : Nat) : Device :=
  d.emit (.msix vec (join (d.msixWord vec 0) (d.msixWord vec 1)) (d.msixWord vec 2))

/-- A raise on a vector: a message, or one pending bit while it is masked. -/
def Device.msixRaise (d : Device) (vec : Nat) : Device :=
  if d.msixOpen vec then d.msixSend vec else { d with hif.pba := sinsert vec d.hif.pba }

/-! The patrol scrub of a channel of tier 2 or a stack of tier 1 (R265, R289). -/

/-- Local time, in ns, of an interval of so many hours. -/
def hoursNs (h : Nat) : Nat := h * 3600 * 10 ^ 9

/-- A scrub read of line `i` of `n` at an interval of `h` hours: a pass that is in progress goes on, one begins where the last began an
interval ago, and it ends with its last line; none where this interval has nothing left to read there. -/
def Scrub.turn (x : Scrub) (now i n h : Nat) : Option Scrub :=
  let due := match x.start with
    | none => true
    | some t => decide (t + hoursNs h ≤ now)
  if !x.on && !due then none
  else
    let x : Scrub := if x.on then x else { on := true, start := some now }
    if x.seen.contains i then none
    else if x.seen.length + 1 = n then some { x with on := false, seen := [] }
    else some { x with seen := i :: x.seen }

/-- A scrub reads line i of n of channel or stack k, at an address, as its interval register lets it. -/
def Device.scrubRead (d : Device) (k i n hours a bytes : Nat) : Device :=
  match (mget {} d.tier.scrub k : Scrub).turn (d.time 0) i n (fld (d.reg hours) 7 0) with
  | none => d
  | some x => { d with tier.scrub := mset {} d.tier.scrub k x }.fetch a bytes

end Sys2Proof.Machine
end

