-- ==== Sys2Proof/Machine/Records.lean ====
section
/-! DEFINITION. Command streams: targets of records, dispatch to the queues, control operations, ring registers and sync
counters (R18 to R24, R113, R194 to R202, R204, R420, R515, R516). -/

namespace Sys2Proof.Machine

/-! Targets (R23, R24, R196, R198). -/

/-- A queue that takes a part of a record: the queue, its watchdog slot, how many leaf units it stands for, the lowest of
them, and the unit identifier its Cmd carries. -/
structure Dest where
  q     : Nat
  slot  : Nat
  parts : Nat
  first : Nat
  deriving DecidableEq, Repr

/-- Whether a TARGET names a unit or a group (R23, R24). -/
def targetNames (t : Word) : Bool :=
  let i0 := fld t 27 23
  let sub := fld t 22 20
  let i1 := fld t 19 12
  let i2 := fld t 11 0
  let ends := i1 == 0xFE && i2 == 0xFFE
  match fld t 31 28 with
  | 0 => i0 == 0 && sub == 0 && ends
  | 1 => (idx 0x1F 4 i0).isSome && (match sub with
      | 0 => ends
      | 1 => (idx 0xFF 8 i1).isSome && (i2 == 0xFFE || decide (i2 < 2))
      | 2 => (idx 0xFF 16 i1).isSome && (i2 == 0xFFE || i2 == 0xFFF || decide (i2 < 128))
      | 3 => ends
      | 4 => i2 == 0xFFE && (i1 == 0xFE || (idx 0xFF 32 i1).isSome)
      | _ => false)
  | 2 => (idx 0x1F 8 i0).isSome && (match sub with
      | 0 => ends
      | 1 => (idx 0xFF 32 i1).isSome && (i2 == 0xFFE || i2 == 0xFFF || decide (i2 < 16))
      | _ => false)
  | 3 => (idx 0x1F 8 i0).isSome && sub == 0 && ends
  | 4 => (idx 0x1F 16 i0).isSome && sub == 0 && ends
  | 5 => i0 == 0 && sub == 0 && ends
  | 6 => i0 == 0 && sub == 0 && ends
  | _ => false

/-- The queue of one die's unit that takes an OP addressed to the die itself. -/
def dieDest (d op : Nat) : Option Dest :=
  if op = 1 then some ⟨qTrs d, wTrs d, 1, uDie d⟩
  else if op = 3 then some ⟨qCol d, wCol d, 1, uDie d⟩
  else if op = 8 then some ⟨qMvp d, wMvp d, 1, uDie d⟩
  else if 0xA ≤ op ∧ op ≤ 0xD then some ⟨qSts d, wSts d, 1, uDie d⟩
  else if op = 0xE then some ⟨qTier d, wSeg d, 1, uDie d⟩ else none

/-- The queues of a record's target, for an OP the target accepts; none where it does not accept it. A KCFG enters the queue
of partition 0 whatever its PART (R91). A group of dies takes what each of its dies takes (R10, R18). -/
def destsOf (t : Word) (op part : Nat) : Option (List Dest) :=
  let i0 := fld t 27 23
  let i1 := fld t 19 12
  let i2 := fld t 11 0
  match fld t 31 28 with
  | 0 => if op = 0xD then some [⟨qIng, wIng, 1, uModule⟩] else if op = 0xE then some [⟨qTier 4, wSeg 4, 1, uModule⟩] else none
  | 1 =>
    let d := i0
    match fld t 22 20 with
    | 0 => if i0 = 0x1F then (if op = 8 then none else (List.range 4).mapM (fun d => dieDest d op)) else dieDest d op >>= fun x => some [x]
    | 1 =>
      let ps := (idx 0xFF 8 i1).getD []
      let as := ps.flatMap (fun p => if i2 = 0xFFE then [2 * p, 2 * p + 1] else [2 * p + i2])
      if i0 = 0x1F then none
      else if 1 ≤ op ∧ op ≤ 4 then some (as.map (fun a => ⟨qArr d a (if op = 4 then 0 else part), wPair d a, 1, uArray d a⟩))
      else if op = 6 then some (as.map (fun a => ⟨qDrn d a part, wPair d a, 1, uArray d a⟩)) else none
    | 2 =>
      let ws := (idx 0xFF 16 i1).getD []
      if i0 = 0x1F ∨ op ≠ 7 then none
      else if i2 = 0xFFE then some (ws.map (fun w => ⟨qVec d w, wCluster d w, 128, uCore d w 0⟩))
      else if i2 < 128 ∧ i1 ≠ 0xFF then some [⟨qVec d i1, wCluster d i1, 1, uCore d i1 i2⟩] else none
    | 4 =>
      let ns := if i1 = 0xFE then List.range 32 else (idx 0xFF 32 i1).getD []
      if i0 ≠ 0x1F ∧ op = 9 then some (ns.map (fun n => ⟨qDma d n, wDma d, 1, uChan d n⟩)) else none
    | _ => none
  | 2 =>
    if op = 5 then some (((idx 0x1F 8 i0).getD []).map (fun s =>
      let us := stackUnits t
      ⟨qSlp s, wStack s, us.length, uBank s (us.headD 0 / 16) (us.headD 0 % 16)⟩))
    else none
  | 3 => if op = 2 then some [⟨qMupd, wMupd, ((idx 0x1F 8 i0).getD []).length, uMrd (((idx 0x1F 8 i0).getD []).headD 0)⟩] else none
  | _ => none

/-- An array instruction or drain addressed to arrays of another die than that of its stream is refused (R113). -/
def otherDie (die : Nat) (t : Word) : Bool := fld t 31 28 == 1 && fld t 22 20 == 1 && fld t 27 23 != die

/-! Rings (R196, R201, R204). -/

def ctlReg (die s off : Nat) : Nat := dreg die 6 (0x100 + 0x40 * s + off)

/-- Records of a ring. -/
def Device.ringSize (d : Device) (die s : Nat) : Nat := 2 ^ fld (d.reg (ctlReg die s 8)) 4 0

def Device.recordAddr (d : Device) (die s i : Nat) : Nat :=
  join (d.reg (ctlReg die s 0)) (d.reg (ctlReg die s 4)) + 64 * i

/-- Whether a branch target ahead has been published: the tail has passed it (R201). -/
def aheadReady (size tail : Nat) (a : Nat × Nat) : Bool := decide ((tail + size - a.1 % size) % size > a.2)

/-- The state of a running stream whose head, tail and branch target are known (R515). -/
def Stream.settle (s : Stream) : Stream :=
  match s.state with
  | .run | .idle => { s with state := if s.head = s.tail && s.ahead.isNone && s.rcd.isNone then .idle else .run }
  | _ => s

/-- A stream halts at a refused record: no STREAM_HALT, and CMD_INVALID instead (R198). -/
def Device.refuseRecord (d : Device) (die s : Nat) : Device :=
  let st := d.stream die s
  (d.setStream die s { st with state := .halted, hcause := 3, hrec := st.head, rcd := none, met := false }).post evCmdInvalid
    (uCtl die) (wd (s * 2 ^ 29 + st.head % 2 ^ 20))

/-- RECORD_FETCH (R516). -/
def devRecordFetch (die s : Nat) (d : Device) : Device :=
  let st := d.stream die s
  let ready := match st.ahead with
    | none => st.head != st.tail
    | some a => aheadReady (d.ringSize die s) st.tail a
  if st.state ≠ .run ∨ st.rcd.isSome ∨ !ready ∨ !d.runs (wCtl die) then d
  else
    let a := d.recordAddr die s st.head
    let r := regionOf a
    if r ≥ 0xC || !d.rangeOk a 64 then (d.post evAddrUnassigned (uCtl die) 0).haltStream die s 6 st.head
    else
      let d := d.fetch a 64
      let b := d.readBytes a 64
      if anyPoison b then d.haltStream die s 6 st.head
      else d.setStream die s { st with rcd := some (bytesToWords 16 (values b)), met := false, ahead := none }

/-! Records as fetched. -/

def rH (r : List Word) (k : Nat) : Word := wordAt r k
def rW (r : List Word) (k : Nat) : Word := wordAt r (8 + k)
def rIsCop (r : List Word) : Bool := fld (rW r 0) 31 28 == 0xF
def rCop (r : List Word) : Nat := fld (rW r 0) 27 24
def rFpol (r : List Word) : Nat := fld (rH r 1) 31 30

/-- Nonzero reserved header field, or FPOL 3 (R198). -/
def headerBad (r : List Word) : Bool :=
  (rangeFrom 2 6).any (fun k => rH r k != 0) || fld (rH r 1) 29 0 != 0 || rFpol r == 3

/-- A nonzero reserved field or word of a control operation's body (R200). DESIGN CHOICE: the COND values 4 to 7 of a BRS, which have no
meaning, count as a nonzero reserved field. -/
def copReserved (r : List Word) : Bool :=
  let w := rW r
  let z (l : List Nat) : Bool := l.any (fun k => w k != 0)
  fld (w 0) 23 12 != 0 || fld (w 1) 30 24 != 0 || w 2 != 0 || w 6 != 0 || w 7 != 0 ||
    (match rCop r with
     | 1 => z [3, 4, 5]
     | 2 => fld (w 3) 29 24 != 0 || z [4, 5]
     | 3 => fld (w 3) 29 24 != 0 || z [4, 5]
     | 4 => fld (w 3) 25 25 != 0 || fld (w 3) 21 0 != 0
     | 5 => z [3, 4]
     | 6 => fld (w 3) 31 2 != 0 || z [5]
     | 7 => fld (w 3) 31 2 != 0 || z [4]
     | 8 => z [3, 4, 5]
     | _ => fld (w 3) 29 0 != 0 || z [5])

def rOffset (r : List Word) : Int := sext 32 (rW r 5).toNat

/-- A branch offset outside half the ring (R201). -/
def offsetBad (size : Nat) (r : List Word) : Bool :=
  [4, 5, 7].contains (rCop r) && decide ((rOffset r).natAbs * 2 > size)

/-- Whether a record is refused at dispatch (R198). -/
def recordBad (die size : Nat) (r : List Word) : Bool :=
  headerBad r ||
    (if rIsCop r then rCop r == 0 || decide (rCop r > 9) || rH r 0 != 0 || copReserved r || offsetBad size r
     else !targetNames (rH r 0) || otherDie die (rH r 0) || (destsOf (rH r 0) (fld (rW r 0) 31 28) (fld (rW r 0) 27 26)).isNone)

/-- The head moves past a record that has been dispatched (R197, R204). -/
def Stream.past (st : Stream) (size : Nat) (r : List Word) : Stream :=
  { st with head := (st.head + 1) % size, last := fld (rW r 0) 11 0, rcd := none, met := false }

/-- A record leaves its stream for its queue: the stream goes on, and the control core has made progress. -/
def Device.leaveStream (d : Device) (die s : Nat) (r : List Word) : Device :=
  (d.setStream die s ((d.stream die s).past (d.ringSize die s) r).settle).progress (wCtl die)

/-- The open command of a record. -/
def openOf (die s index : Nat) (r : List Word) (parts : Nat) : Open :=
  let w0 := rW r 0
  let t := rH r 0
  { die := die, stream := s, index := index, fpol := rFpol r, left := parts, sigen := bit w0 24, ctr := fld w0 23 16,
    sigDie := if fld t 31 28 = 1 ∧ fld t 27 23 < 4 then fld t 27 23 else die }

/-- LASTSEQ of the units of a group that are not in reset. -/
def Device.noteLive (d : Device) (ds : List Dest) (seq : Nat) : Device :=
  ds.foldl (fun d x => if d.fenced x.slot then d else d.noteLast x.q seq) d

/-- A part joins its queue, or completes with STALE where its unit is in reset (R19). -/
def Device.enqueue (d : Device) (c : Cmd) (x : Dest) : Device :=
  if d.fenced x.slot then (d.idleRecords x.q c stStale).completePart c.cid x.parts stStale x.parts x.first
  else
    let c := { c with unit := x.first, parts := x.parts, ord := d.core.nextOrd,
                      die := if x.first / 2 ^ 28 = 1 then dieOfUnit x.first else c.die,
                      desc := if c.op = 6 ∧ x.q < 512 then d.readBytes (sramDA (c.word 5)) 128 else [] }
    let d := { d with core.nextOrd := d.core.nextOrd + 1 }.pushCmd x.q c
    if 516 ≤ x.q ∧ x.q < 520 then d.lbndHead (x.q - 516) else d

/-- Whether some queue of a record's group has no room; a unit in reset takes its part at once (R19, R197). -/
def Device.noRoom (d : Device) (ds : List Dest) : Bool :=
  ds.any (fun x => !d.fenced x.slot && decide ((d.queue x.q).length ≥ qDepth x.q))

/-- A well-formed unit record is dispatched (R197). -/
def Device.dispatch (d : Device) (die s : Nat) (r : List Word) (ds : List Dest) : Device :=
  let st := d.stream die s
  let parts := ds.foldl (fun n x => n + x.parts) 0
  let cid := d.core.nextCid
  let c : Cmd := { cid := cid, die := (openOf die s st.head r parts).sigDie, hdr := r.take 8, w := r.drop 8 }
  let d := { d with core.nextCid := cid + 1, core.opens := mset {} d.core.opens cid (openOf die s st.head r parts) }
  let d := d.leaveStream die s r
  -- a vector loop needs every cluster of its group: with one of them in reset the whole loop is stale
  if c.op = 7 ∧ ds.any (fun x => d.fenced x.slot) then
    let d := (d.invalidSlots c).noteLive ds c.seq
    d.completePart cid parts stStale parts ((ds.headD ⟨0, 0, 0, 0⟩).first)
  else ds.foldl (fun d x => d.enqueue c x) d

/-- RECORD_DISPATCH (R197, R198): a unit record goes to its queues when each has room; a bad record halts the stream. -/
def devRecordDispatch (die s : Nat) (d : Device) : Device :=
  let st := d.stream die s
  match st.rcd with
  | none => d
  | some r =>
    if st.state ≠ .run ∨ !d.runs (wCtl die) then d
    else if recordBad die (d.ringSize die s) r then d.refuseRecord die s
    else if rIsCop r then d
    else match destsOf (rH r 0) (fld (rW r 0) 31 28) (fld (rW r 0) 27 26) with
      | none => d
      | some ds =>
        if d.noRoom ds then d
        else d.dispatch die s r ds

/-- Whether a stream waits on a queue, a condition or a branch target (R204). -/
def Device.blocked (d : Device) (die s : Nat) : Bool :=
  let st := d.stream die s
  st.state == .run && (match st.rcd, st.ahead with
    | some r, _ => !recordBad die (d.ringSize die s) r && (if rIsCop r then !st.met && !d.w1Met die (rW r 1)
        else match destsOf (rH r 0) (fld (rW r 0) 31 28) (fld (rW r 0) 27 26) with
          | some ds => d.noRoom ds
          | none => false)
    | none, some a => !aheadReady (d.ringSize die s) st.tail a
    | none, none => false)

/-! Control operations (R200, R201). -/

/-- The well-formed control operation with this COP that a running stream holds, once its wait condition is met. -/
def Device.copReady (d : Device) (die s cop : Nat) : Option (List Word) :=
  let st := d.stream die s
  match st.rcd with
  | none => none
  | some r =>
    if st.state = .run && d.runs (wCtl die) && rIsCop r && rCop r == cop && !recordBad die (d.ringSize die s) r &&
        (st.met || d.w1Met die (rW r 1)) then some r else none

/-- A control operation completes with a status: its completion word, and its FPOL. -/
def Device.copDone (d : Device) (die s index : Nat) (r : List Word) (status : Nat) : Device :=
  ({ d with core.nextCid := d.core.nextCid + 1 }).closeCmd
    { die := die, stream := s, index := index, fpol := rFpol r, worst := status, nfail := if status = 0 then 0 else 1, first := uCtl die }

/-- A control operation that acts and lets the stream go on. -/
def Device.copStep (d : Device) (die s : Nat) (r : List Word) (act : Device → Device) (status : Nat) : Device :=
  let i := (d.stream die s).head
  ((act d).leaveStream die s r).copDone die s i r status

/-- Fetch continues at a record + OFFSET (R201). -/
def Stream.branch (st : Stream) (size : Nat) (off : Int) : Stream :=
  let a := (st.head, off.toNat)
  { st with
    head := (((st.head : Int) + off) % (size : Int)).toNat
    ahead := if off > 0 && !aheadReady size st.tail a then some a else none }

/-- A control operation that branches: the head moves by OFFSET in place of by one. -/
def Device.copBranch (d : Device) (die s : Nat) (r : List Word) (act : Stream → Stream) : Device :=
  let st := d.stream die s
  let st' := (act st).branch (d.ringSize die s) (rOffset r)
  let st' := { st' with last := fld (rW r 0) 11 0, rcd := none, met := false }
  ((d.setStream die s st'.settle).progress (wCtl die)).copDone die s st.head r stDone

/-- WAITC: dispatch of the stream holds until its condition is met. -/
def devWaitc (die s : Nat) (d : Device) : Device :=
  match d.copReady die s 1 with
  | none => d
  | some r => d.copStep die s r id stDone

/-- The status of an operation that names a die: STALE where the die's domain is in reset (R201). -/
def Device.dieStatus (d : Device) (die : Nat) : Nat := if d.dieInReset die then stStale else stDone

/-- SETC. -/
def devSetc (die s : Nat) (d : Device) : Device :=
  match d.copReady die s 2 with
  | none => d
  | some r =>
    let w := rW r 3
    d.copStep die s r (fun d => d.setSync (fld w 31 30) (fld w 23 16) (fld w 15 0)) (d.dieStatus (fld w 31 30))

/-- ADDC. -/
def devAddc (die s : Nat) (d : Device) : Device :=
  match d.copReady die s 3 with
  | none => d
  | some r =>
    let w := rW r 3
    d.copStep die s r (fun d => d.addSync (fld w 31 30) (fld w 23 16) (fld w 15 0)) (d.dieStatus (fld w 31 30))

def Device.summary (d : Device) (die k : Nat) : Summary := mget {} d.ctl.sums (die * 64 + k)

/-- The comparison of a BRS; an FP comparison with NaN meets only NE. -/
def brsMeets (cond : Nat) (fp : Bool) (a b : Word) : Bool :=
  if fp then
    match cond with
    | 0 => (f32 a).eqv (f32 b)
    | 1 => !(f32 a).eqv (f32 b)
    | 2 => (f32 a).lt (f32 b)
    | _ => (f32 b).lt (f32 a) || (f32 a).eqv (f32 b)
  else
    match cond with
    | 0 => a == b
    | 1 => a != b
    | 2 => a.ult b
    | _ => b.ule a

/-- BRS: an invalid summary halts the stream with HCAUSE 4, its head still on the BRS. -/
def devBrs (die s : Nat) (d : Device) : Device :=
  match d.copReady die s 4 with
  | none => d
  | some r =>
    let w := rW r 3
    let m := d.summary die (fld w 31 26)
    if !m.valid then d.haltStream die s 4 (d.stream die s).head
    else if brsMeets (fld w 24 23) (bit w 22) m.value (rW r 4) then d.copBranch die s r id
    else d.copStep die s r id stDone

/-- JUMP. -/
def devJump (die s : Nat) (d : Device) : Device :=
  match d.copReady die s 5 with
  | none => d
  | some r => d.copBranch die s r id

/-- A loop register of a stream. -/
def Device.setLoopReg (d : Device) (die s k : Nat) (v : Word) : Device :=
  let st := d.stream die s
  d.setStream die s { st with loops := st.loops.set k v }

/-- LOOP. -/
def devLoop (die s : Nat) (d : Device) : Device :=
  match d.copReady die s 6 with
  | none => d
  | some r => d.copStep die s r (fun d => d.setLoopReg die s (fld (rW r 3) 1 0) (rW r 4)) stDone

/-- DECBR. -/
def devDecbr (die s : Nat) (d : Device) : Device :=
  match d.copReady die s 7 with
  | none => d
  | some r =>
    let k := fld (rW r 3) 1 0
    let v := ((d.stream die s).loops.getD k 0).toNat - 1
    if v = 0 then d.copStep die s r (fun d => d.setLoopReg die s k 0) stDone
    else d.copBranch die s r (fun st => { st with loops := st.loops.set k (wd v) })

/-- HALT: it completes, the head is past it, and the stream halts with HCAUSE 1. -/
def devHalt (die s : Nat) (d : Device) : Device :=
  match d.copReady die s 8 with
  | none => d
  | some r =>
    let i := (d.stream die s).head
    let d := (d.leaveStream die s r).haltStream die s 1 i
    d.copDone die s i r stDone

/-- SETSTEP (R70, R200). -/
def devSetstep (die s : Nat) (d : Device) : Device :=
  match d.copReady die s 9 with
  | none => d
  | some r =>
    let g := fld (rW r 3) 31 30
    d.copStep die s r (fun d => if d.dieInReset g then d else d.setReg (dreg g 11 8) (rW r 4)) (d.dieStatus g)

/-! Ring registers (R199, R204, R420, R515). -/

/-- STREAM_RESUME (R199). -/
def devStreamResume (die s : Nat) (d : Device) : Device :=
  let st := d.stream die s
  if st.state ≠ .halted ∨ d.dieInReset die then d else d.setStream die s { st with state := .run }.settle

/-- A write of a stream's tail, by a doorbell or of its register (R11, R204, R420, R421): its reserved bits [31:20] are ignored, and an INDEX
beyond the ring is discarded. -/
def Device.tailWrite (d : Device) (die s : Nat) (v : Word) : Device :=
  if d.dieInReset die then d
  else if fld v 19 0 ≥ d.ringSize die s then
    (d.hifErr 31 0 0).post 0x0803 uHif (wd ((8 * die + s) * 2 ^ 27 + fld v 19 0))
  else
    let st := d.stream die s
    d.setStream die s { st with tail := fld v 19 0 }.settle

/-- DOORBELL: a host write of CTL_STAILs (R420), discarded where BARs are not served (R413, R414); a value beyond the ring is discarded (R421). -/
def devDoorbell (die s : Nat) (v : Word) (poison : Bool) (d : Device) : Device :=
  if !d.hostOpen then d.barShut
  else if poison then d.poisonedWrite
  else d.tailWrite die s v

/-- CTL_SHEAD_WRITE: ignored unless the stream is IDLE or HALTED and the value lies in the ring (R204). -/
def devCtlSheadWrite (die s : Nat) (v : Word) (d : Device) : Device :=
  let st := d.stream die s
  let i := fld v 19 0
  if d.dieInReset die ∨ (st.state ≠ .idle ∧ st.state ≠ .halted) ∨ d.ringSize die s ≤ i then d
  else d.setStream die s { st with head := i, ahead := none }.settle

/-- CTL_SYNC_WRITE (R194). -/
def devCtlSyncWrite (die c : Nat) (v : Word) (d : Device) : Device := d.setSync die c (fld v 15 0)

/-- CTL_SYNCADD_WRITE (R194). -/
def devCtlSyncaddWrite (die c : Nat) (v : Word) (d : Device) : Device := d.addSync die c (fld v 15 0)

/-- A host write of a register of a die: discarded where BARs are not served (R413, R414), ignored while the die is in reset (R26). -/
def Device.hostDieWrite (d : Device) (die : Nat) (f : Device → Device) : Device :=
  if !d.hostOpen then d.barShut else if d.dieInReset die then d else f d

end Sys2Proof.Machine
end

