-- ==== Sys2Proof/Machine/Dma.lean ====
section
/-! DEFINITION. DMA engines (R207 to R239), and the abandonment of a stream, which aborts its programs (R202). -/

namespace Sys2Proof.Machine

def Device.chan (d : Device) (die n : Nat) : DmaCh := mget {} d.dma (die * 32 + n)
def Device.setChan (d : Device) (die n : Nat) (v : DmaCh) : Device := { d with dma := mset {} d.dma (die * 32 + n) v }
def Device.setProg (d : Device) (die n : Nat) (p : DmaProg) : Device := d.setChan die n { d.chan die n with prog := some p }

def dmaReg (die n off : Nat) : Nat := dreg die 8 (0x1000 + 0x40 * n + off)

/-- The data word of R239. -/
def dmaData (n cause seq : Nat) : Word := wd (cause * 2 ^ 28 + n * 2 ^ 12 + seq)

/-! Fields of a DSTART (R208). -/
def DmaProg.ien (p : DmaProg) : Bool := bit (p.cmd.word 6) 31
def DmaProg.sten (p : DmaProg) : Bool := bit (p.cmd.word 6) 30
def DmaProg.ivec (p : DmaProg) : Nat := fld (p.cmd.word 6) 26 16
def DmaProg.rate (p : DmaProg) : Nat := fld (p.cmd.word 7) 31 16
/-- The credit cap in bytes; a DEPTH of 0 reads as 1. -/
def creditCap (c : Cmd) : Nat := max 1 (fld (c.word 7) 15 8) * 512

/-- Lane of channel n: its number less the lowest of the group (R211). -/
def dmaLane (c : Cmd) (n : Nat) : Nat := n - (if fld c.target 19 12 ≥ 0xFE then 0 else fld c.target 19 12)

/-- The channels a DSTART is addressed to (R208). -/
def targetChans (t : Word) : List Nat := if fld t 19 12 ≥ 0xFE then List.range 32 else [fld t 19 12]

/-- A signed word added to an offset, modulo 2^52. -/
def addOff (o : Nat) (i : Int) : Nat := wrap 52 ((o : Int) + i)

/-! Interrupts (R227) and faults (R234). -/

/-- Kind k of R227 is raised: its bit, and a message when IEN is set. -/
def Device.dmaRaise (d : Device) (die n : Nat) (p : DmaProg) (k : Nat) : Device :=
  let r := dmaReg die n 8
  let d := d.setReg r (setBit (d.reg r) k true)
  if p.ien then d.msixRaise p.ivec else d

/-- The instruction at the pc, or PCRANGE; instruction 0 is the one fetched before the issue (R209). -/
def Device.dmaFetch (d : Device) (p : DmaProg) : Option (List Word) :=
  let a := Device.dmaInstrAddr p
  if p.pc > 255 then none
  else if p.first.isSome then p.first
  else if !d.rangeOk a 32 then none else some (d.descWords a 8)

/-- The completion latch is set; the instruction in progress is kept with it (R231, R232). -/
def Device.dmaLatch (d : Device) (p : DmaProg) (l : Latch) : DmaProg := { p with latch := some l, stood := d.dmaFetch p }

/-- A fault sets the completion latch (R231, R234). A range or a fetch beyond what is assigned also posts ADDR_UNASSIGNED
(R29). -/
def Device.dmaFault (d : Device) (die n : Nat) (p : DmaProg) (cause : Nat) : Device :=
  let past := cause == 3 && decide (p.pc > 255)
  let p := { d.dmaLatch p (.fault cause) with pc := min p.pc 255, past := past }
  let d := if cause = 2 ∨ (cause = 3 ∧ past = false) then d.post evAddrUnassigned (uChan die n) 0 else d
  (d.setProg die n p).post 0x0303 (uChan die n) (dmaData n cause p.cmd.seq)

/-- The instruction ends, and the next one is in progress. -/
def Device.dmaNext (d : Device) (die n : Nat) (p : DmaProg) : Device :=
  (d.setProg die n { p with pc := p.pc + 1, first := none, cur := none, met := false }).progress (wDma die)

/-! DSTART (R209, R210). -/

def devDstart (die n : Nat) (d : Device) : Device :=
  match d.ready (qDma die n) with
  | none => d
  | some c =>
    if (d.chan die n).prog.isSome ∨ !d.runs (wDma die) then d
    else
      let sten := bit (c.word 6) 30
      let lane := dmaLane c n
      let strec := sramDA (c.word 4)
      let lanes := (targetChans c.target).map (fun k => 32 * dmaLane c k)
      let bad := firstBad [
        (w012Reserved c true || partShare c || fld (c.word 7) 7 0 != 0 || fld (c.word 6) 29 27 != 0 || fld (c.word 6) 15 0 != 0 ||
          awRes (c.word 3) || (sten && awRes (c.word 4)), 0x0304),
        (awMis 32 (c.word 3) || (sten && awMis 32 (c.word 4)), 0x0304),
        (d.sramBad (c.word 3) 32 || (sten && lanes.any (fun o => !d.rangeOk (strec + o) 32)), evAddrUnassigned)]
      match bad with
      | some ev => d.refuse (qDma die n) c ev (uChan die n) (if ev = 0x0304 then dmaData n 0 c.seq else 0)
      | none =>
        let off := addOff 0 ((lane : Int) * sext 32 (c.word 5).toNat)
        let d := d.popCmd (qDma die n)
        d.setChan die n { d.chan die n with
          prog := some { cmd := c, lane := lane, first := some (d.descWords (sramDA (c.word 3)) 8), soff := off, doff := off, credit := creditCap c, risen := d.time die }
          seq := c.seq }

/-! Instructions: dispatch on OPC (R212). -/

/-- Reserved words of an instruction that are nonzero. -/
def anyWord (w : List Word) (ks : List Nat) : Bool := ks.any (fun k => wordAt w k != 0)

/-- One instruction with this OPC, when it is the one in progress; a fetch or an OPC that faults does so whatever is asked. -/
def dmaRow (opc : Nat) (act : Device → DmaProg → List Word → Device) (die n : Nat) (d : Device) : Device :=
  match (d.chan die n).prog with
  | none => d
  | some p =>
    if p.latch.isSome ∨ p.cur.isSome ∨ !d.runs (wDma die) then d
    else match d.dmaFetch p with
      | none => d.dmaFault die n p 3
      | some w =>
        let o := fld (wordAt w 0) 31 28
        if o = 0 ∨ o > 7 ∨ (p.xdue.isSome ∧ o ≠ 2) then d.dmaFault die n p 1
        else if o ≠ opc then d
        else act d p w

/-! MOVE and MOVX: geometry (R213, R214, R221, R222). -/

/-- What a MOVE or MOVX moves: source rows of `cols` elements of `fmt` (bytes for an untransposed MOVE), written as they
are or transposed. -/
structure MoveGeo where
  src    : Nat
  dst    : Nat
  spitch : Nat
  dpitch : Nat
  rows   : Nat
  cols   : Nat
  fmt    : Fmt
  trans  : Bool
  nocrc  : Bool
  irqh   : Bool
  irqf   : Bool

/-- Destination rows and bytes in each. -/
def MoveGeo.drows (g : MoveGeo) : Nat := if g.trans then g.cols else g.rows
def MoveGeo.dbytes (g : MoveGeo) : Nat := if g.trans then g.fmt.bytes g.rows else g.cols
def MoveGeo.sbytes (g : MoveGeo) : Nat := if g.trans then g.fmt.bytes g.cols else g.cols
def MoveGeo.total (g : MoveGeo) : Nat := g.drows * g.dbytes
def MoveGeo.sspan (g : MoveGeo) : Nat := (g.rows - 1) * g.spitch + g.sbytes
def MoveGeo.dspan (g : MoveGeo) : Nat := (g.drows - 1) * g.dpitch + g.dbytes

def mvTrans (w : List Word) : Bool := bit (wordAt w 0) 27
def mvRows (w : List Word) : Nat := fld (wordAt w 0) 15 0 + 1
def mvCols (w : List Word) : Nat := if mvTrans w then fld (wordAt w 1) 15 0 + 1 else (wordAt w 1).toNat
def mvFmt (w : List Word) : Fmt := if mvTrans w then fmtOf (fld (wordAt w 0) 26 23) else .e8m0
/-- Whether a MOVE must be followed by a MOVX: transposed, in a block-scaled format. -/
def mvScaled (w : List Word) : Bool := mvTrans w && (mvFmt w).scaled

def moveGeo (p : DmaProg) (w : List Word) : MoveGeo :=
  let W := wordAt w
  { src := (join (W 2) (wd (fld (W 3) 19 0)) + p.soff) % 2 ^ 52, dst := (join (W 4) (wd (fld (W 5) 19 0)) + p.doff) % 2 ^ 52,
    spitch := (W 6).toNat, dpitch := (W 7).toNat, rows := mvRows w, cols := mvCols w, fmt := mvFmt w, trans := mvTrans w,
    nocrc := bit (W 0) 20, irqh := bit (W 0) 22, irqf := bit (W 0) 21 }

/-- The scale bytes of the MOVE `mw`, by the MOVX `w`. -/
def movxGeo (p : DmaProg) (mw w : List Word) : MoveGeo :=
  let W := wordAt w
  let sbdir := bit (W 0) 27
  { src := (join (W 2) (wd (fld (W 3) 19 0)) + p.scoff) % 2 ^ 52, dst := (sramDA (W 4) + p.dcoff) % 2 ^ 52,
    spitch := (W 5).toNat, dpitch := (W 6).toNat, rows := if sbdir then mvRows mw / 32 else mvRows mw,
    cols := if sbdir then mvCols mw else mvCols mw / 32, fmt := .e8m0, trans := true,
    nocrc := bit (wordAt mw 0) 20, irqh := false, irqf := bit (wordAt mw 0) 21 }

def DmaMove.geo (p : DmaProg) (m : DmaMove) : MoveGeo :=
  match m.xw with
  | none => moveGeo p m.w
  | some mw => movxGeo p mw m.w

/-- Scale bytes that a MOVE's MOVX moves. -/
def scaleCount (w : List Word) : Nat := if mvScaled w then mvRows w * mvCols w / 32 else 0

/-- Whether a whole range lies where it may (R214): in the assigned range of its region, or in one module's window. -/
def Device.moveRangeOk (d : Device) (a n : Nat) : Bool :=
  if regionOf a = 0xE then a / 2 ^ 33 == (a + n - 1) / 2 ^ 33 else d.rangeOk a n

/-- The fault of a MOVE at its start (R212 to R214, R221, R222). `nxt` is the OPC that follows it. -/
def moveFault (d : Device) (p : DmaProg) (w : List Word) (nxt : Nat) : Option Nat :=
  let W := wordAt w
  let g := moveGeo p w
  let res := fld (W 5) 31 20 != 0 || fld (W 3) 31 20 != 0 || fld (W 0) 19 16 != 0
  let plain := !g.trans && (fld (W 0) 26 23 != 0 || W 1 == 0)
  let tr := g.trans && (fld (W 1) 31 16 != 0 || (Fmt.ofCode (fld (W 0) 26 23)).isNone || decide (regionOf g.dst > 3) ||
    (W 2).toNat % 16 != 0 || (W 4).toNat % 16 != 0 || g.spitch % 16 != 0 || g.dpitch % 16 != 0 ||
    (g.fmt.scaled && (g.rows % 32 != 0 || g.cols % 32 != 0 || nxt != 2)))
  if res || plain || tr || regionOf g.src == 0xC || regionOf g.dst == 0xC then some 1
  else if !d.moveRangeOk g.src g.sspan || !d.moveRangeOk g.dst g.dspan then some 2 else none

/-- MOVE starts (R214). -/
def devMove (die n : Nat) (d : Device) : Device :=
  dmaRow 1 (fun d p w =>
    let nxt := match d.dmaFetch { p with pc := p.pc + 1, first := none } with | some v => fld (wordAt v 0) 31 28 | none => 0
    match moveFault d p w nxt with
    | some c => d.dmaFault die n p c
    | none => d.setProg die n { p with cur := some { w := w, total := (moveGeo p w).total } }) die n d

/-- MOVX starts (R222). -/
def devMovx (die n : Nat) (d : Device) : Device :=
  dmaRow 2 (fun d p w =>
    let W := wordAt w
    match p.xdue with
    | none => d.dmaFault die n p 1
    | some mw =>
      let g := movxGeo p mw w
      if W 7 != 0 || fld (W 3) 31 20 != 0 || W 1 != 0 || fld (W 0) 26 0 != 0 || awRes (W 4) || regionOf g.src == 0xC then
        d.dmaFault die n p 1
      else if !d.moveRangeOk g.src g.sspan || !d.moveRangeOk g.dst g.dspan then d.dmaFault die n p 2
      else d.setProg die n { p with cur := some { w := w, total := g.total, xw := some mw } }) die n d

/-! Bursts (R214, R223, R228, R235). -/

/-- Destination address of a position, in destination order. -/
def MoveGeo.daddr (g : MoveGeo) (pos : Nat) : Nat := (g.dst + pos / g.dbytes * g.dpitch + pos % g.dbytes) % 2 ^ 52

/-- Source address of a position of an untransposed MOVE. -/
def MoveGeo.saddr (g : MoveGeo) (pos : Nat) : Nat := (g.src + pos / g.dbytes * g.spitch + pos % g.dbytes) % 2 ^ 52

/-- Bytes of the burst at a position: within one destination row and one aligned 512-byte block; a source in the peer
window keeps to one aligned block too (R366). -/
def MoveGeo.burst (g : MoveGeo) (pos : Nat) : Nat :=
  let k := min (g.dbytes - pos % g.dbytes) (512 - g.daddr pos % 512)
  if !g.trans && regionOf g.src == 0xE then min k (512 - g.saddr pos % 512) else k

/-- The first element of a transposed burst (elements are packed eight at a time), and how many it takes. -/
def MoveGeo.elems (g : MoveGeo) (pos k : Nat) : Nat × Nat :=
  let off := pos % g.dbytes
  let e0 := off * 8 / g.fmt.width / 8 * 8
  (e0, min g.rows (((off + k) * 8 + g.fmt.width - 1) / g.fmt.width) - e0)

/-- A short range (at most 512 bytes) cut where it crosses an aligned 512-byte block, as a packet may not (R366). -/
def blockPieces (a n : Nat) : List (Nat × Nat) :=
  let k := 512 - a % 512
  if n ≤ k then [(a, n)] else [(a, k), (a + k, n - k)]

/-- Bytes that hold one element of a transposed burst in its source row. -/
def MoveGeo.elemBytes (g : MoveGeo) (pos : Nat) : Nat := (pos / g.dbytes * g.fmt.width % 8 + g.fmt.width + 7) / 8

/-- The source reads of a burst: one for a row's bytes, and for each element of a transposed burst one, or two where it crosses
an aligned 512-byte block. -/
def MoveGeo.reads (g : MoveGeo) (pos k : Nat) : List (Nat × Nat) :=
  if g.trans then
    let (e0, m) := g.elems pos k
    (rangeFrom e0 m).flatMap (fun r =>
      blockPieces ((g.src + r * g.spitch + pos / g.dbytes * g.fmt.width / 8) % 2 ^ 52) (g.elemBytes pos))
  else [(g.saddr pos, k)]

/-- The burst's bytes from those its reads returned. -/
def MoveGeo.assemble (g : MoveGeo) (pos k : Nat) (got : List (List PByte)) : List PByte :=
  if g.trans then
    let b := pos / g.dbytes * g.fmt.width
    let (e0, m) := g.elems pos k
    let es := (chunks (g.elemBytes pos) m (got.flatMap id)).map (fun l => (ofBytes (values l) / 2 ^ (b % 8) % 2 ^ g.fmt.width, anyPoison l))
    ((packPoison g.fmt es).drop (pos % g.dbytes - e0 * g.fmt.width / 8)).take k
  else (got.flatMap id).take k

/-- Slots of a request in an injection queue (R365). -/
def PeerReq.slots (r : PeerReq) : Nat := if r.kind = 0 then 1 + (r.len + 31) / 32 else 1

/-- Whether a request of so many slots finds room in a die's injection queue of 2,048 slots, none waiting before it (R374). -/
def Device.injFits (d : Device) (die slots : Nat) : Bool :=
  d.injw.all (fun p => p.1 != die) && decide ((d.inj.filter (fun p => p.1 == die)).foldl (fun n p => n + p.2.slots) 0 + slots ≤ 2048)

/-- Room for a full burst. -/
def Device.injRoom (d : Device) (die : Nat) : Bool := d.injFits die 17

/-- A request enters its die's injection queue, or waits for room there. -/
def Device.inject (d : Device) (die : Nat) (r : PeerReq) : Device :=
  if d.injFits die r.slots then { d with inj := d.inj ++ [(die, r)] } else { d with injw := d.injw ++ [(die, r)] }

/-- Requests that waited for room enter as far as there is any, in their order. -/
def Device.injRefill (d : Device) : Device := d.injw.foldl (fun d x => d.inject x.1 x.2) { d with injw := [] }

/-- A read or write of the peer window at a device address. -/
def peerReq (kind a len : Nat) (data : List PByte) (who : Requester) : PeerReq :=
  { kind := kind, dst := a / 2 ^ 33 % 2 ^ 15, off := a % 2 ^ 33, len := len, data := data, who := who }

/-- A write that has its bytes joins the writes of the channel; through the peer window it becomes a request. -/
def Device.sendOne (d : Device) (die n cid dst : Nat) (data : List PByte) : Device :=
  let ch := d.chan die n
  let peer := regionOf dst == 0xE
  let wr : DmaWr := { id := ch.nextWr, cid := cid, dst := dst, len := data.length, data := some data, peer := peer }
  let d := d.setChan die n { ch with writes := ch.writes ++ [wr], nextWr := ch.nextWr + 1 }
  if peer then d.inject die (peerReq 0 dst data.length data (.dmaWrite die n wr.id)) else d

/-- A write through the peer window keeps each request within an aligned 512-byte block (R366). -/
def Device.sendWrite (d : Device) (die n cid dst : Nat) (data : List PByte) : Device :=
  if regionOf dst = 0xE ∧ dst % 512 + data.length > 512 then
    (d.sendOne die n cid dst (data.take (512 - dst % 512))).sendOne die n cid (dst + (512 - dst % 512)) (data.drop (512 - dst % 512))
  else d.sendOne die n cid dst data

/-- Poisoned data moved by a program: noted once (R235). -/
def Device.notePoison (d : Device) (die n : Nat) (p : DmaProg) (b : Bool) : Device × DmaProg :=
  if b && !p.pois then (d.post 0x0302 (uChan die n) (dmaData n 0 p.cmd.seq), { p with pois := true }) else (d, p)

/-- Whether the byte at a destination address lies in the source range too, in either view of tier 1. -/
def MoveGeo.sourceHolds (g : MoveGeo) (a : Nat) : Bool :=
  let x := if regionOf g.src = 5 then (if regionOf a = 4 then bankView a else a % 2 ^ 52) else canonAddr a
  decide (g.src ≤ x ∧ x < g.src + g.sspan)

/-- The bytes that a burst writes to address a: those within the overlap of the two ranges are left open (R214). -/
def Device.openOverlap (d : Device) (g : MoveGeo) (a : Nat) (data : List PByte) : Device × List PByte :=
  if (rangeFrom a data.length).any g.sourceHolds then
    ({ d with core.freeN := d.core.freeN + data.length },
      ((data.zip (freeBytes d.core.freeN data.length)).zipIdx a).map (fun x => if g.sourceHolds x.2 then (x.1.2.1, x.1.1.2) else x.1.1))
  else (d, data)

/-- The bytes of a burst leave the channel: CRC, credit, byte count, HALF and, with the last byte, the end of the MOVE. -/
def Device.burstLeaves (d : Device) (die n : Nat) (p : DmaProg) (m : DmaMove) (data : List PByte) : Device :=
  let g := m.geo p
  let k := data.length
  let (d, data) := d.openOverlap g (g.daddr m.pos) data
  let (d, p) := d.notePoison die n p (anyPoison data)
  let p := { p with
    crc := if g.nocrc then p.crc else crc32cRun p.crc (values data)
    crcPois := p.crcPois || (!g.nocrc && anyPoison data)
    credit := p.credit - k }
  let d := d.sendWrite die n p.cmd.cid (g.daddr m.pos) data
  let d := d.setChan die n { d.chan die n with bytes := (d.chan die n).bytes + k }
  let m' := { m with pos := m.pos + k }
  let p := { p with cur := some m' }
  let d := (d.setProg die n p).progress (wDma die)
  if p.latch.isSome then d
  else
    let half := (g.total + 1) / 2
    let d := if g.irqh && m.xw.isNone && decide (m.pos < half ∧ half ≤ m'.pos) then d.dmaRaise die n p 0 else d
    if m'.pos < g.total then d
    else if m.xw.isNone && mvScaled m.w then d.dmaNext die n { p with xdue := some m.w }
    else
      let d := if g.irqf then d.dmaRaise die n p 1 else d
      d.dmaNext die n { p with xdue := none }

/-- A source read of the channel through the peer window whose burst has not left. -/
def DmaCh.waiting (ch : DmaCh) : Bool := ch.writes.any (fun w => w.data.isNone)

/-- A burst whose reads have all been answered and that waits for room in the injection queue (R374). -/
def DmaCh.answered (ch : DmaCh) : Option DmaWr := ch.writes.find? (fun w => w.data.isNone && w.need.isEmpty)

/-- A burst whose source reads have been answered leaves the channel. -/
def Device.answeredLeaves (d : Device) (die n : Nat) (p : DmaProg) (m : DmaMove) (w : DmaWr) : Device :=
  let ch := d.chan die n
  (d.setChan die n { ch with writes := ch.writes.filter (fun v => v.id != w.id) }).burstLeaves die n p m ((m.geo p).assemble m.pos w.len w.got)

/-- BURST (R214, R228): a limited channel needs the credit; a burst read through the peer window leaves once it is answered and the injection
queue has room (R374). `feed` says that a flit of its source arrives with an uncorrectable on-die network error (R234). -/
def devBurst (die n : Nat) (feed : Bool) (d : Device) : Device :=
  let ch := d.chan die n
  match ch.prog with
  | none => d
  | some p =>
    match p.cur with
    | none => d
    | some m =>
      let g := m.geo p
      let k := g.burst m.pos
      let rs := g.reads m.pos k
      if !d.runs (wDma die) ∨ fld (wordAt m.w 0) 31 28 > 2 then d
      else match ch.answered with
      | some w => if regionOf (g.daddr m.pos) = 0xE ∧ !d.injRoom die then d else d.answeredLeaves die n p m w
      | none =>
      if p.latch.isSome ∨ ch.waiting then d
      else if p.rate ≠ 0 ∧ p.credit < k then d
      else if (regionOf (g.daddr m.pos) = 0xE ∨ regionOf g.src = 0xE) ∧ !d.injRoom die then d
      else if regionOf g.src = 0xE then
        let r := rs.headD (0, 0)
        let wr : DmaWr := { id := ch.nextWr, cid := p.cmd.cid, len := k, need := rs, bad := feed }
        (d.setChan die n { ch with writes := ch.writes ++ [wr], nextWr := ch.nextWr + 1 }).inject die
          (peerReq 1 r.1 r.2 [] (.dmaRead die n wr.id))
      else
        let d := d.coder false rs
        if feed then d.dmaFault die n p 6
        else d.burstLeaves die n p m (g.assemble m.pos k (rs.map (fun r => d.readBytes r.1 r.2)))

/-- How often a credit is due to rise: once for each 64 ns of local time since it last did (R228). -/
def Device.creditDue (d : Device) (die : Nat) (p : DmaProg) : Nat := (d.time die - p.risen) / 64

/-- CREDIT_TICK (R228): every rise that is due. -/
def devCreditTick (die n : Nat) (d : Device) : Device :=
  match (d.chan die n).prog with
  | none => d
  | some p =>
    let k := d.creditDue die p
    if p.rate = 0 then d
    else d.setProg die n { p with credit := min (creditCap p.cmd) (p.credit + 16 * p.rate * k), risen := p.risen + 64 * k }

/-! Arrival (R224, R225). -/

/-- The pieces of a write that a later write of its program, over canonical addresses [a, b), leaves to it. -/
def cutWrite (a b : Nat) (w : DmaWr) : List DmaWr :=
  match w.data with
  | none => [w]
  | some l =>
    let k := canonAddr w.dst
    if k + l.length ≤ a ∨ b ≤ k then [w]
    else
      let lo := l.take (a - k)
      let hi := l.drop (b - k)
      (if a ≤ k then [] else [{ w with data := some lo, len := lo.length }]) ++
        (if k + l.length ≤ b then [] else [{ w with dst := w.dst + (b - k), data := some hi, len := hi.length }])

/-- A write of n bytes at a canonical address leaves to itself what earlier writes of its program, the first k of the channel, would
still bring there (R225). -/
def Device.supersede (d : Device) (die n k cid a len : Nat) : Device :=
  let ch := d.chan die n
  let before := (ch.writes.take k).flatMap (fun v =>
    if v.cid ≠ cid then [v] else if v.peer then [{ v with taken := v.taken ++ [(a, len)] }] else cutWrite a (a + len) v)
  d.setChan die n { ch with writes := before ++ ch.writes.drop k }

/-- The runs of bytes that lie outside stretches already taken. -/
def untaken (taken : List (Nat × Nat)) (a : Nat) : List PByte → List (Nat × List PByte)
  | [] => []
  | b :: l =>
    let r := untaken taken (a + 1) l
    if taken.any (fun t => decide (t.1 ≤ a ∧ a < t.1 + t.2)) then r
    else match r with
      | (x, m) :: r' => if x = a + 1 then (a, b :: m) :: r' else (a, [b]) :: r
      | [] => [(a, [b])]

/-- A write of a program through the peer window reaches its own module: bytes that later writes of the program have brought stay
(R30, R225). -/
def Device.peerWrite (d : Device) (die n wr a : Nat) (l : List PByte) : Device :=
  let ch := d.chan die n
  match ch.writes.findIdx? (fun v => v.id == wr && v.peer) with
  | none => d.write a l
  | some k =>
    let w := ch.writes.getD k {}
    let c := canonAddr a
    (d.supersede die n k w.cid c l.length).writes ((untaken w.taken c l).map (fun x => (a + (x.1 - c), x.2)))

/-- Write k of those under way takes effect; bytes an earlier write of its program still brings are left out of that one
(R225). -/
def Device.applyWrite (d : Device) (die n k : Nat) : Device :=
  let ch := d.chan die n
  match ch.writes[k]? with
  | none => d
  | some w =>
    match w.data with
    | none => d
    | some l => ((d.setChan die n { ch with writes := ch.writes.eraseIdx k }).supersede die n k w.cid (canonAddr w.dst) l.length).write w.dst l

/-- WRITE_ARRIVAL (R224): a write reaches its memory and takes effect. -/
def devWriteArrival (die n k : Nat) (d : Device) : Device :=
  match (d.chan die n).writes[k]? with
  | none => d
  | some w => if w.data.isNone ∨ w.peer then d else d.applyWrite die n k

/-! Answers from other modules (R374, R234). -/

/-- A source read ends: its burst leaves, once the injection queue has room for a write through the peer window, or the program faults with
PEER_ERROR or FEED_ERROR. -/
def Device.dmaReadAnswer (d : Device) (die n wr : Nat) (ok : Bool) (data : List PByte) : Device :=
  let ch := d.chan die n
  match ch.writes.find? (fun w => w.id == wr && w.data.isNone && !w.need.isEmpty), ch.prog with
  | some w, some p =>
    let rest := ch.writes.filter (fun v => v.id != wr)
    if p.cmd.cid ≠ w.cid then d.setChan die n { ch with writes := rest }
    else if !ok ∨ w.bad then
      let d := d.setChan die n { ch with writes := rest }
      if p.latch.isNone then d.dmaFault die n p (if ok then 6 else 7) else d
    else
      let got := w.got ++ [data]
      match w.need.tail with
      | r :: need =>
        (d.setChan die n { ch with writes := ch.writes.map (fun v => if v.id = wr then { v with got := got, need := r :: need } else v) }).inject die
          (peerReq 1 r.1 r.2 [] (.dmaRead die n wr))
      | [] =>
        let w := { w with got := got, need := [] }
        let d := d.setChan die n { ch with writes := rest }
        match p.cur with
        | none => d
        | some m =>
          if fld (wordAt m.w 0) 31 28 = 6 then
            if p.latch.isSome then d
            else if wd (ofBytes (values (got.flatMap id))) ≠ crc32cValue p.crc ∨ p.crcPois then d.dmaFault die n { p with cur := none } 5
            else d.dmaNext die n p
          else if regionOf ((m.geo p).daddr m.pos) = 0xE ∧ !d.injRoom die then
            d.setChan die n { ch with writes := ch.writes.map (fun v => if v.id = wr then w else v) }
          else d.answeredLeaves die n p m w
  | some _, none => d.setChan die n { ch with writes := ch.writes.filter (fun v => v.id != wr) }
  | none, _ => d

/-- A write through the peer window ends: arrived, or refused or lost. -/
def Device.dmaWriteAnswer (d : Device) (die n wr : Nat) (ok : Bool) : Device :=
  let ch := d.chan die n
  match ch.writes.find? (fun w => w.id == wr && w.peer) with
  | none => d
  | some w =>
    let d := d.setChan die n { ch with writes := ch.writes.filter (fun v => v.id != wr) }
    match ch.prog with
    | some p => if !ok ∧ p.cmd.cid = w.cid ∧ p.latch.isNone then d.dmaFault die n p 7 else d
    | none => d

/-! LOOP, WAIT, SIGNAL, CRC and END (R215 to R220). -/

/-- DMA_LOOP (R215). -/
def devDmaLoop (die n : Nat) (d : Device) : Device :=
  dmaRow 3 (fun d p w =>
    let W := wordAt w
    let count := fld (W 1) 23 0
    let back := fld (W 0) 7 0
    let r := fld (W 0) 27 26
    if W 7 != 0 || fld (W 6) 31 16 != 0 || fld (W 1) 31 24 != 0 || fld (W 0) 25 8 != 0 || count == 0 || back == 0 || decide (back > p.pc) then
      d.dmaFault die n p 1
    else
      let v := (if p.loops.getD r 0 = 0 then count else p.loops.getD r 0) - 1
      let f : Int := if v > 0 then 1 else -((count : Int) - 1)
      let st (k : Nat) : Int := f * sext 32 (W k).toNat
      let p := { p with
        loops := p.loops.set r v, soff := addOff p.soff (st 2), doff := addOff p.doff (st 3), scoff := addOff p.scoff (st 4),
        dcoff := addOff p.dcoff (st 5), woff := wrap 16 ((p.woff : Int) + f * ((fld (W 6) 15 0 : Nat) : Int)), met := false }
      if v > 0 then (d.setProg die n { p with pc := p.pc - back, first := none }).progress (wDma die) else d.dmaNext die n p) die n d

def waitBad (w : List Word) : Bool :=
  fld (wordAt w 0) 25 24 != 0 || fld (wordAt w 1) 31 24 != 0 || anyWord w [2, 3, 4, 5, 6, 7]

/-- WAIT (R216). -/
def devWait (die n : Nat) (d : Device) : Device :=
  dmaRow 4 (fun d p w =>
    if waitBad w then d.dmaFault die n p 1
    else if p.met || dmaWaitMet d (wordAt w 0) p.woff then d.dmaNext die n p else d) die n d

/-- The time limit of the WAIT that a program stands at. -/
def DmaProg.timer (die n : Nat) (p : DmaProg) : Timer := .wait die n p.cmd.cid p.pc p.loops

/-- Channels whose program stands at an unmet WAIT with a limit. -/
def Device.waitTimers (d : Device) : List Timer :=
  d.dma.filterMap (fun x => match x.2.prog with
    | none => none
    | some p =>
      if p.latch.isSome ∨ p.cur.isSome then none
      else match d.dmaFetch p with
        | some w => if fld (wordAt w 0) 31 28 = 4 ∧ fld (wordAt w 1) 23 0 ≠ 0 then some (p.timer (x.1 / 32) (x.1 % 32)) else none
        | none => none)

/-- WAIT_TIMEOUT (R216): the limit of a WAIT that has one runs out first. -/
def devWaitTimeout (die n : Nat) (d : Device) : Device :=
  dmaRow 4 (fun d p w =>
    if waitBad w then d.dmaFault die n p 1
    else if p.met || dmaWaitMet d (wordAt w 0) p.woff || fld (wordAt w 1) 23 0 == 0 ||
        !d.expired (p.timer die n) (1000 * fld (wordAt w 1) 23 0) then d
    else d.dmaFault die n p 4) die n d

/-- SIGNAL (R217): with FLUSH only once every earlier write of the program has arrived. -/
def devSignal (die n : Nat) (d : Device) : Device :=
  dmaRow 5 (fun d p w =>
    let w0 := wordAt w 0
    if bit w0 24 || fld w0 13 0 != 0 || fld (wordAt w 1) 31 16 != 0 || anyWord w [2, 3, 4, 5, 6, 7] then d.dmaFault die n p 1
    else if bit w0 27 && (d.chan die n).writes.any (fun v => v.cid == p.cmd.cid) then d
    else
      let d := d.dmaNext die n p
      let d := if bit w0 26 then d.addSync (fld w0 15 14) (fld w0 23 16) (fld (wordAt w 1) 15 0) else d
      if bit w0 25 then d.dmaRaise die n p 2 else d) die n d

/-- A CRC instruction with this COP, its encoding checked (R220); `a` is its ADDR. -/
def crcRow (cop : Nat) (act : Device → DmaProg → List Word → Nat → Device) (die n : Nat) (d : Device) : Device :=
  dmaRow 6 (fun d p w =>
    let w0 := wordAt w 0
    let a := join (wordAt w 1) (wd (fld (wordAt w 2) 19 0))
    if fld w0 27 26 = 3 ∨ fld w0 25 0 ≠ 0 ∨ fld (wordAt w 2) 31 20 ≠ 0 ∨ anyWord w [3, 4, 5, 6, 7] ∨ a % 4 ≠ 0 then d.dmaFault die n p 1
    else if fld w0 27 26 ≠ cop then d
    else act d p w a) die n d

/-- CRC_RESET. -/
def devCrcReset (die n : Nat) (d : Device) : Device :=
  crcRow 0 (fun d p _ _ => d.dmaNext die n { p with crc := 0xFFFFFFFF, crcPois := false }) die n d

/-- CRC_STORE: 4 bytes as the channel's next burst. -/
def devCrcStore (die n : Nat) (d : Device) : Device :=
  crcRow 1 (fun d p _ a =>
    let da := (a + p.doff) % 2 ^ 52
    if !d.moveRangeOk da 4 then d.dmaFault die n p 2
    else if (p.rate ≠ 0 ∧ p.credit < 4) ∨ (regionOf da = 0xE ∧ !d.injRoom die) then d
    else
      let d := d.sendWrite die n p.cmd.cid da (mark p.crcPois (toBytes 4 (crc32cValue p.crc).toNat))
      let d := d.setChan die n { d.chan die n with bytes := (d.chan die n).bytes + 4 }
      (d.progress (wDma die)).dmaNext die n { p with credit := p.credit - 4 }) die n d

/-- CRC_CHECK: through the peer window the compared bytes are read first. -/
def devCrcCheck (die n : Nat) (feed : Bool) (d : Device) : Device :=
  crcRow 2 (fun d p w a =>
    let sa := (a + p.soff) % 2 ^ 52
    if !d.moveRangeOk sa 4 then d.dmaFault die n p 2
    else if regionOf sa = 0xE then
      if !d.injRoom die then d
      else
        let ch := d.chan die n
        let wr : DmaWr := { id := ch.nextWr, cid := p.cmd.cid, len := 4, need := blockPieces sa 4, bad := feed }
        let d := d.setChan die n { ch with writes := ch.writes ++ [wr], nextWr := ch.nextWr + 1, prog := some { p with cur := some { w := w, total := 4 } } }
        let r := wr.need.headD (sa, 4)
        d.inject die (peerReq 1 r.1 r.2 [] (.dmaRead die n wr.id))
    else
      let d := d.fetch sa 4
      if feed then d.dmaFault die n p 6
      else if wd (ofBytes (values (d.readBytes sa 4))) ≠ crc32cValue p.crc ∨ p.crcPois then d.dmaFault die n p 5
      else d.dmaNext die n p) die n d

/-- DMA_END (R218): natural completion. -/
def devDmaEnd (die n : Nat) (d : Device) : Device :=
  dmaRow 7 (fun d p w =>
    if fld (wordAt w 0) 27 0 != 0 || anyWord w [1, 2, 3, 4, 5, 6, 7] then d.dmaFault die n p 1
    else (d.setProg die n (d.dmaLatch p .natural)).progress (wDma die)) die n d

/-! Abort, purge and completion (R230 to R233). -/

/-- An abort request reaches a channel (R231); one in reset has none that could be aborted (R236). -/
def devDmaAbort (die n : Nat) (d : Device) : Device :=
  if d.fenced (wDma die) then d
  else match (d.chan die n).prog with
  | none => d
  | some p =>
    match p.latch with
    | none => d.setProg die n (d.dmaLatch p .abort)
    | some .abort => d
    | some _ => (d.setProg die n { p with late := true }).post 0x0301 (uChan die n) (dmaData n 0 p.cmd.seq)

/-- PURGE (R230). -/
def devPurge (die n : Nat) (d : Device) : Device :=
  if d.fenced (wDma die) then d
  else
    let q := d.queue (qDma die n)
    q.foldl (fun d c => d.endQueued (qDma die n) c stAborted) (d.setQueue (qDma die n) [])

/-- RESID of R232: bytes of the instruction in progress not yet written, its scale bytes included. -/
def dmaResid (p : DmaProg) : Nat :=
  match p.cur with
  | some m => if fld (wordAt m.w 0) 31 28 = 6 then 0 else (m.geo p).total - m.pos + (if m.xw.isNone then scaleCount m.w else 0)
  | none =>
    match p.xdue with
    | some mw => scaleCount mw
    | none => match p.stood with
      | some w => if p.past then 0 else if fld (wordAt w 0) 31 28 = 1 then (moveGeo p w).total + scaleCount w else 0
      | none => 0

/-- STATUS and CAUSE of a latched program. -/
def DmaProg.status (p : DmaProg) : Nat × Nat :=
  match p.latch with
  | some (.fault c) => (stFault, c)
  | some .abort => (stAborted, 0)
  | _ => (if p.pois then stPoisoned else stDone, 0)

/-- The words of the status record (R233). -/
def dmaRecord (p : DmaProg) : List Word :=
  let (st, cause) := p.status
  let resid := if p.latch = some .natural then 0 else dmaResid p
  [wd (st * 2 ^ 28 + p.late.toNat * 2 ^ 27 + cause * 2 ^ 24 + p.crcPois.toNat * 2 ^ 23 + min p.pc 255 * 2 ^ 12 + p.cmd.seq),
    lo32 resid, wd (resid / 2 ^ 32 % 2 ^ 16), crc32cValue p.crc] ++ (List.range 4).map (fun k => wd (p.loops.getD k 0))

/-- COMPLETING_STEP (R231): status record, completion word with its SIGEN increment, then DONE. -/
def devCompletingStep (die n : Nat) (d : Device) : Device :=
  match (d.chan die n).prog with
  | none => d
  | some p =>
    if p.latch.isNone ∨ (d.chan die n).waiting ∨ !d.runs (wDma die) then d
    else
      let s := dmaRecord p
      let d := if p.sten then
        d.sendWrite die n p.cmd.cid (sramDA (p.cmd.word 4) + 32 * p.lane) (clean (wordsToBytes s)) else d
      let d := d.setReg (dmaReg die n 0xC) (wordAt s 0)
      let d := (d.setReg (dmaReg die n 0x10) (wordAt s 1)).setReg (dmaReg die n 0x14) (wordAt s 2)
      let d := d.setChan die n { d.chan die n with prog := none, seq := p.cmd.seq, loops := p.loops, crc := wordAt s 3 }
      (d.finish p.cmd p.status.1).dmaRaise die n p 3

/-! Abandoning a stream (R202). -/

/-- Whether a command was dispatched by a stream and still acts on it. -/
def Device.ofStream (d : Device) (die s cid : Nat) : Bool :=
  let o := mget {} d.core.opens cid
  o.left != 0 && o.die == die && o.stream == s && o.live

/-- One queue without the unissued instructions among some commands: their parts end with ABORTED. -/
def Device.dropUnissued (d : Device) (cids : List Nat) (q : Nat) : Device :=
  let l := d.queue q
  let out := l.filter (fun c => cids.contains c.cid)
  let d := d.setQueue q (l.filter (fun c => !cids.contains c.cid))
  let d := if 516 ≤ q ∧ q < 520 ∧ (match l with | c :: _ => cids.contains c.cid | [] => false) = true then
    { d with sts := mset {} d.sts (q - 516) { (mget {} d.sts (q - 516) : Stash) with stopped := false } } else d
  let d := if 516 ≤ q ∧ q < 520 then d.lbndHead (q - 516) else d
  out.foldl (fun d c => d.endQueued q c stAborted) d

/-- Completions no longer act on the stream (R202). -/
def Device.detach (d : Device) (die s : Nat) : Device :=
  { d with core.opens := d.core.opens.map (fun p =>
      if p.2.die = die ∧ p.2.stream = s then (p.1, { p.2 with live := false }) else p) }

/-- ABANDON (R202). FPOL no longer acts on what the stream had dispatched when the removed commands complete. -/
def devAbandon (die s : Nat) (d : Device) : Device :=
  if d.dieInReset die then d
  else
    let cids := (d.core.opens.map Prod.fst).filter (fun c => d.ofStream die s c)
    let qs := d.core.queues.map Prod.fst
    let issued := (List.range 128).filter (fun k => match (d.chan (k / 32) (k % 32)).prog with
      | some p => cids.contains p.cmd.cid
      | none => false)
    let d := d.detach die s
    let d := qs.foldl (fun d q => d.dropUnissued cids q) d
    let d := issued.foldl (fun d k => devDmaAbort (k / 32) (k % 32) d) d
    let st := d.stream die s
    d.setStream die s { st with state := .idle, hcause := 5, head := st.tail, rcd := none, met := false, ahead := none }

end Sys2Proof.Machine
end

