-- ==== Sys2Proof/Machine/Arbiter.lean ====
section
/-! DEFINITION. The arbiter trees of the on-die network's destination ports: counts reported upward, credits, urgent requests
(R33 to R36), and the channels that hold no request while they wait for credit (R229). -/

namespace Sys2Proof.Machine

/-- One input of an arbiter at a grant: the leaves reported behind it, and the greatest age among its urgent requests. -/
structure ArbIn where
  count  : Nat := 0
  urgent : Option Nat := none
  deriving DecidableEq, Repr

/-- Credits after the additions of R34, input by input: its count added, or zero where nothing is pending. -/
def addCredits : List Int → List ArbIn → List Int
  | _, [] => []
  | cs, r :: rs => (if r.count > 0 then cs.headD 0 + (r.count : Int) else 0) :: addCredits cs.tail rs

/-- All pending leaves an arbiter has been told of. -/
def arbTotal (ins : List ArbIn) : Nat := ins.foldl (fun n r => n + r.count) 0

/-- The first index with the greatest key among the inputs that have one. -/
def bestInput (key : Nat → ArbIn → Option Int) (ins : List ArbIn) : Option Nat :=
  ((ins.zipIdx).foldl (fun (b : Option (Nat × Int)) (p : ArbIn × Nat) =>
    match key p.2 p.1, b with
    | none, _ => b
    | some k, none => some (p.2, k)
    | some k, some (j, m) => if k > m then some (p.2, k) else some (j, m)) none).map Prod.fst

/-- The input granted: an urgent request first, the oldest of them, else the largest credit of all inputs; the lowest index on a tie. -/
def grantInput (credit : List Int) (ins : List ArbIn) : Option Nat :=
  match bestInput (fun _ r => r.urgent.map (fun a => (a : Int))) ins with
  | some g => some g
  | none => bestInput (fun i _ => some (credit.getD i 0)) ins

/-- Credits after a grant to input g (R34). -/
def chargeCredits (credit : List Int) (ins : List ArbIn) (g : Nat) : List Int := credit.set g (credit.getD g 0 - (arbTotal ins : Int))

/-! The tree. -/

/-- An entry of a list keyed by a place in the tree. -/
def atPath {α : Type} (dflt : α) (l : List (List Nat × α)) (p : List Nat) : α := ((l.find? (fun x => x.1 == p)).map Prod.snd).getD dflt

def ArbTree.pending (t : ArbTree) (p : List Nat) : Bool := t.leaves.any (fun x => x.path == p)

/-- How many inputs the arbiter at a place has, as far as requests and reports tell. -/
def ArbTree.fan (t : ArbTree) (p : List Nat) : Nat :=
  (t.leaves.map ArbLeaf.path ++ t.counts.map Prod.fst).foldl (fun n q =>
    if q.take p.length = p ∧ p.length < q.length then max n (q.getD p.length 0 + 1) else n) 0

/-- Every place above or at a pending leaf, and every place that has reported before; the root is none of them. -/
def ArbTree.places (t : ArbTree) : List (List Nat) :=
  ((t.leaves.flatMap (fun x => (rangeFrom 1 x.path.length).map (fun n => x.path.take n))) ++ t.counts.map Prod.fst).eraseDups

/-- What a place reports: one for a pending leaf, else the sum of what its own inputs had reported. -/
def ArbTree.told (t : ArbTree) (p : List Nat) : Nat :=
  if t.pending p then 1
  else (t.counts.filter (fun x => x.1 != [] && x.1.dropLast == p)).foldl (fun n x => n + x.2) 0

/-- Counts go up one level: an input hears of a leaf at once, and of an arbiter what that one had heard before (R33). -/
def ArbTree.report (t : ArbTree) : ArbTree :=
  { t with counts := (t.places.map (fun p => (p, t.told p))).filter (fun x => x.2 != 0) }

/-- The age of the oldest urgent request at or below a place (R35). -/
def ArbTree.urgent (t : ArbTree) (p : List Nat) : Option Nat :=
  t.leaves.foldl (fun b x =>
    let age := t.grants - x.since
    if x.path.take p.length = p ∧ 63 ≤ age then some (max (b.getD 0) age) else b) none

def ArbTree.inputs (t : ArbTree) (p : List Nat) : List ArbIn :=
  (List.range (t.fan p)).map (fun i => { count := atPath 0 t.counts (p ++ [i]), urgent := t.urgent (p ++ [i]) })

/-- One arbiter grants (R34): its new credits, and the input. -/
def ArbTree.grantAt (t : ArbTree) (p : List Nat) : ArbTree × Option Nat :=
  let ins := t.inputs p
  let cr := addCredits (atPath [] t.credit p) ins
  let g := grantInput cr ins
  let cr := match g with
    | none => cr
    | some g => chargeCredits cr ins g
  ({ t with credit := (p, cr) :: t.credit.filter (fun x => x.1 != p) }, g)

/-- A grant goes down from a place until it meets a pending leaf; where it meets none, nobody takes it. -/
def ArbTree.descend : Nat → ArbTree → List Nat → ArbTree × Option (List Nat)
  | 0, t, _ => (t, none)
  | n + 1, t, p =>
    match t.grantAt p with
    | (t, none) => (t, none)
    | (t, some g) => if t.pending (p ++ [g]) then (t, some (p ++ [g])) else t.descend n (p ++ [g])

/-- A root grant: reports, the grants down the tree, and the leaf's request served. With `late` the leaf withdraws while the
grant is on its way: the slot goes unused and the credits stand (R36). -/
def ArbTree.grant (t : ArbTree) (late : Bool) : ArbTree :=
  let t := t.report
  let (t, g) := t.descend 64 []
  let t := { t with grants := t.grants + 1 }
  match g with
  | none => { t with granted := none }
  | some p => { t with leaves := t.leaves.filter (fun x => x.path != p), granted := if late then none else some p }

/-- Whether a DMA channel waits for credit before its next burst or CRC word (R228). -/
def Device.waitsCredit (d : Device) (die n : Nat) : Bool :=
  match (d.chan die n).prog with
  | none => false
  | some p => p.rate != 0 && p.latch.isNone && (match p.cur with
    | some m => decide (p.credit < (m.geo p).burst m.pos)
    | none => decide (fld (d.dmaWord0 p) 31 26 = 0x19 ∧ p.credit < 4))

/-- Whether a leaf's request is there to be made: a channel that waits for credit holds none (R229). -/
def Device.mayAsk (d : Device) (chan : Option Nat) : Bool :=
  match chan with
  | none => true
  | some n => !d.waitsCredit (n / 32) (n % 32)

/-- Requests that leaves make and withdraw before a grant; one that has a request keeps its age. -/
def ArbTree.update (t : ArbTree) (asks : List LeafAsk) (gone : List (List Nat)) : ArbTree :=
  let l := t.leaves.filter (fun x => !gone.contains x.path)
  let fresh := asks.filter (fun a => a.path != [] && !l.any (fun x => x.path == a.path))
  { t with leaves := fresh.foldl (fun l a =>
      if l.any (fun x => x.path == a.path) then l else l ++ [{ path := a.path, since := t.grants, chan := a.chan.map Fin.val }]) l }

/-- A channel that has come to wait for credit holds its request no longer (R229). -/
def Device.quieten (d : Device) (t : ArbTree) : ArbTree := { t with leaves := t.leaves.filter (fun x => d.mayAsk x.chan) }

/-- ARBITER_GRANT (R33 to R36). -/
def devArbiterGrant (tree : Nat) (asks : List LeafAsk) (gone : List (List Nat)) (late : Bool) (d : Device) : Device :=
  let t : ArbTree := mget {} d.core.arb tree
  { d with core.arb := mset {} d.core.arb tree ((d.quieten (t.update asks gone)).grant late) }

end Sys2Proof.Machine
end

