-- ==== Sys2Proof/Machine/Array.lean ====
section
/-! DEFINITION. Matrix arrays: plane loads, streams, row entry, accumulation, partition faults and tile configuration
(chapters "Matrix arrays" and "Accumulators and the glaze drain", with the pair turn of "The backward pass"). -/

namespace Sys2Proof.Machine

/-! Where arrays and partitions are kept. -/

def arrIx (d a : Nat) : Nat := d * 16 + a
def partIx (d a p : Nat) : Nat := (d * 16 + a) * 4 + p
def pairIx (d a : Nat) : Nat := d * 8 + a / 2
def tileIx (d a t : Nat) : Nat := (d * 16 + a) * 16 + t

def Device.arr (d : Device) (die a : Nat) : Arr := mget {} d.kiln.arrs (arrIx die a)
def Device.setArr (d : Device) (die a : Nat) (v : Arr) : Device := { d with kiln.arrs := mset {} d.kiln.arrs (arrIx die a) v }
def Device.part (d : Device) (die a p : Nat) : Part := mget {} d.kiln.parts (partIx die a p)
def Device.setPart (d : Device) (die a p : Nat) (v : Part) : Device :=
  { d with kiln.parts := mset {} d.kiln.parts (partIx die a p) v }
def Device.turn (d : Device) (die a : Nat) : Turn := mget {} d.kiln.turns (pairIx die a)
def Device.setTurn (d : Device) (die a : Nat) (v : Turn) : Device := { d with kiln.turns := mset {} d.kiln.turns (pairIx die a) v }

/-- Tile t at reset (R120). -/
def Tile.reset (t : Nat) : Tile := { tbase := 256 * t }
def Device.tile (d : Device) (die a t : Nat) : Tile := mget (Tile.reset t) d.kiln.tiles (tileIx die a t)
def Device.setTile (d : Device) (die a t : Nat) (v : Tile) : Device :=
  { d with kiln.tiles := mset (Tile.reset t) d.kiln.tiles (tileIx die a t) v }
def Device.tilePend (d : Device) (die a t : Nat) : Option Tile := mget none d.kiln.tpend (tileIx die a t)
def Device.setTilePend (d : Device) (die a t : Nat) (v : Option Tile) : Device :=
  { d with kiln.tpend := mset none d.kiln.tpend (tileIx die a t) v }
def Device.drains (d : Device) (die a p : Nat) : List DRun := mget [] d.kiln.drains (partIx die a p)
def Device.setDrains (d : Device) (die a p : Nat) (v : List DRun) : Device :=
  { d with kiln.drains := mset [] d.kiln.drains (partIx die a p) v }
def Device.accCnt (d : Device) (die a : Nat) : AccCnt := mget {} d.kiln.cnts (arrIx die a)
def Device.setAccCnt (d : Device) (die a : Nat) (v : AccCnt) : Device :=
  { d with kiln.cnts := mset {} d.kiln.cnts (arrIx die a) v }

/-- Quarter q of the row that begins at a slot (R119). -/
def quartIx (d a slot q : Nat) : Nat := ((d * 16 + a) * 4096 + slot) * 4 + q
def Device.quart (d : Device) (die a slot q : Nat) : Quarter := mget {} d.kiln.quarts (quartIx die a slot q)
def Device.setQuart (d : Device) (die a slot q : Nat) (v : Quarter) : Device :=
  { d with kiln.quarts := mset {} d.kiln.quarts (quartIx die a slot q) v }

/-! Partition modes (R90). -/

def partsOf (pmode : Nat) : Nat := 2 ^ pmode
def widthOf (pmode : Nat) : Nat := 256 / 2 ^ pmode

/-- Plane K of an operand pair (R74). -/
def planeK (a b : Fmt) : Nat :=
  if a == .fp32 then 128 else if a.width = 16 then 256 else if a.width = 4 && b.width = 4 then 1024 else 512

/-- Columns of a partition that receive sums: half of them for FP32 operands (R90, R123). -/
def activeCols (pmode : Nat) (f : Fmt) : Nat := if f == .fp32 then widthOf pmode / 2 else widthOf pmode

/-- Quarters a row of the partition writes (R123). -/
def rowQuarters (pmode p : Nat) (f : Fmt) : List Nat := rangeFrom (p * widthOf pmode / 64) ((activeCols pmode f + 63) / 64)

/-- The plane of a partition that carries a tag (R80). -/
def Part.plane (p : Part) (tag : Bool) : Plane := if tag = p.atag then p.active else p.shadow

/-- Whether the plane of a tag is loaded. -/
def Part.loaded (p : Part) (tag : Bool) : Bool := tag == p.atag || p.svalid

def mrows (c : Cmd) : Nat := fld (c.word 3) 15 0 + 1
def arow0 (c : Cmd) : Nat := fld (c.word 4) 16 0
def isAcc16 (c : Cmd) : Bool := bit (c.word 3) 26
def tileOf (c : Cmd) : Nat := fld (c.word 3) 24 21

/-- How many columns of W no old-tagged row still occupies or will enter (R81). -/
def Part.freeCols (p : Part) (w : Nat) : Nat :=
  if p.runs.any (fun r => r.tag == p.atag && decide (r.ent < mrows r.cmd)) then 0
  else ((p.rows.filter (fun r => r.tag == p.atag)).map (·.left)).foldl min w

/-- The swap is done: the shadow plane is active, the plane it replaces is gone, and a fault of that plane no longer refuses (R81, R95). -/
def Part.swapDone (p : Part) : Part :=
  { p with active := p.shadow, shadow := {}, atag := !p.atag, svalid := false, pend := false, swapped := 0,
           runs := p.runs.map (fun r => if r.tag == p.atag then { r with gone := true } else r),
           faulted := if p.faulted = some (!p.atag) then p.faulted else none }

/-- A KCFG ahead of a command holds it (R91). -/
def Device.cfgAhead (d : Device) (die a : Nat) (c : Cmd) : Bool :=
  (d.queue (qArr die a 0)).any (fun k => k.op == 4 && decide (k.ord < c.ord))

/-- A command held by a waiting KCFG (R91), or by a pending write of KLN_TURNp that was there before it (R151). -/
def Device.cmdHeld (d : Device) (die a : Nat) (c : Cmd) : Bool :=
  d.cfgAhead die a c || (match (d.turn die a).pend with
    | some (_, o) => decide (o ≤ c.ord)
    | none => false)

/-! Tiles (R120, R121, R124, R127). -/

/-- Rows of a tile. -/
def Tile.rows (t : Tile) : Nat := if t.fp16 then t.tslots else t.tslots / 2

/-- The first slot of the row where logical row l lives (R127). -/
def Tile.slot (t : Tile) (l : Nat) : Nat :=
  let r := if t.ring then l % max t.rows 1 else l
  t.tbase + r * (if t.fp16 then 1 else 2)

def Tile.fmt (t : Tile) : Fmt := if t.fp16 then .fp16 else .fp32

/-- Bytes of a row. -/
def Tile.rowBytes (t : Tile) : Nat := if t.fp16 then 512 else 1024

/-- Where quarter q of logical row l lies in the backing (R127). -/
def Tile.backing (t : Tile) (l q : Nat) : Nat := sramDA t.bkaddr + l * t.rowBytes + q * (t.rowBytes / 4)

/-- The REASON for which a commit is refused, 0 for none (R121, R145). DESIGN CHOICE: nonzero bits [29:28] of BKADDR, which R121 does
not list, count as a backing range outside assigned SRAM, and the backing range and the alignment of BKADDR are looked at only with BKEN
set. -/
def Device.tileBad (d : Device) (die a t : Nat) (v : Tile) : Nat :=
  if !v.en then 0
  else if v.tbase + v.tslots > 4096 then 1
  else if v.tslots = 0 ∨ (!v.fp16 ∧ v.tslots % 2 = 1) then 5
  else if (List.range 16).any (fun u => decide (u ≠ t) && (d.tile die a u).en &&
      decide (v.tbase < (d.tile die a u).tbase + (d.tile die a u).tslots ∧ (d.tile die a u).tbase < v.tbase + v.tslots)) then 2
  else if v.bken ∧ !v.ring then 4
  else if v.bken ∧ (d.sramBad v.bkaddr (v.tlrows * v.rowBytes) || awRes v.bkaddr || awMis 16 v.bkaddr) then 3
  else 0

/-! What a part that waits behind others will meet (R18). -/

/-- The KCFG that issues last before a command (R91). -/
def Device.lastCfg (d : Device) (die a : Nat) (c : Cmd) : Option Cmd :=
  ((d.queue (qArr die a 0)).filter (fun k => k.op == 4 && decide (k.ord < c.ord) && fld (k.word 3) 1 0 != 3)).getLast?

/-- The array in the partition mode that a command will meet. -/
def Device.modeFor (d : Device) (die a : Nat) (c : Cmd) : Device :=
  match d.lastCfg die a c with
  | none => d
  | some k => d.setArr die a { d.arr die a with pmode := fld (k.word 3) 1 0 }

/-- The turn of a pair once a write of KLN_TURNp has taken effect; a pair not wholly in one-partition mode leaves EN 0 and sets TERR
(R151). -/
def Device.turnWritten (d : Device) (die pr : Nat) (v : Word) : Turn :=
  let bad := bit v 31 && ((d.arr die (2 * pr)).pmode != 0 || (d.arr die (2 * pr + 1)).pmode != 0)
  { en := bit v 31 && !bad, src := bit v 30, tfmt := bit v 29, terr := bad, wcnt := (d.turn die (2 * pr)).wcnt }

/-- The turn that a command will meet: a pending write that was there before it takes effect first. -/
def Device.turnFor (d : Device) (die a : Nat) (c : Cmd) : Device :=
  match (d.turn die a).pend with
  | none => d
  | some (v, o) => if o ≤ c.ord then d.setTurn die a (d.turnWritten die (a / 2) v) else d

/-- The tile that a command will meet: a pending commit takes effect first (R121). -/
def Device.tileFor (d : Device) (die a t : Nat) : Device :=
  match d.tilePend die a t with
  | none => d
  | some v => if d.tileBad die a t v = 0 then d.setTile die a t v else d

/-- The array, turn and tile that a part of a command will meet when it issues. -/
def Device.foresee (d : Device) (die a : Nat) (c : Cmd) : Device := ((d.modeFor die a c).turnFor die a c).tileFor die a (tileOf c)

/-! Plane loads (R75, R78 to R83). -/

/-- The refusals of R112 for a KLOAD, in its order. DESIGN CHOICE: bits [29:28] of SSRC are looked at for a block-scaled FMT only; an FMT
of E8M0 or a reserved code, which R109 does not name, posts FORMAT_PAIR whatever they hold. -/
def kloadBad (d : Device) (die a : Nat) (c : Cmd) : Option Nat :=
  let pm := (d.arr die a).pmode
  let w3 := c.word 3
  let fmt := Fmt.ofCode (fld w3 31 28)
  let pfmt := Fmt.ofCode (fld w3 27 24)
  let f := fmt.getD .bf16
  let g := pfmt.getD .bf16
  let pair := fmt.isSome && pfmt.isSome && (groupSize f g .fp32).isSome
  let klen := fld w3 22 13 + 1
  let nlen := fld w3 12 5 + 1
  let pitch := fld (c.word 7) 31 16
  firstBad [
    (w012Reserved c true || bit (c.word 0) 25 || fld w3 4 0 != 0 || fld (c.word 4) 31 24 != 0 || awRes (c.word 5) ||
      (f.scaled && awRes (c.word 6)), evInstrInvalid),
    (decide (partsOf pm ≤ c.part), evInstrInvalid),
    ((pair && decide (klen > planeK f g)) || decide (nlen > activeCols pm f) || (f.scaled && klen % 32 != 0), evInstrInvalid),
    (!pair, evFormatPair),
    (bit w3 23 || (f.scaled && fld (c.word 4) 23 0 % 32 != 0), evBlockLayout),
    (awMis 16 (c.word 5) || pitch % 16 != 0, evInstrInvalid),
    (d.sramRowsBad (c.word 5) nlen pitch (f.bytes klen) ||
      (f.scaled && d.sramRowsBad (c.word 6) nlen (fld (c.word 7) 15 0) (klen / 32)), evAddrUnassigned)]

def loadFmt (c : Cmd) : Fmt := fmtOf (fld (c.word 3) 31 28)
def loadK (c : Cmd) : Nat := fld (c.word 3) 22 13 + 1
def loadN (c : Cmd) : Nat := fld (c.word 3) 12 5 + 1

/-- Bytes of a record's elements and of its scales. -/
def loadElemBytes (c : Cmd) : Nat := (loadFmt c).bytes (loadK c)
def loadScaleBytes (c : Cmd) : Nat := if (loadFmt c).scaled then loadK c / 32 else 0

/-- The bytes a KLOAD reads: column records in ascending order, the elements of each before its scales (R78). -/
def loadAddrs (c : Cmd) : List Nat :=
  (List.range (loadN c)).flatMap (fun n =>
    rangeFrom (sramDA (c.word 5) + n * fld (c.word 7) 31 16) (loadElemBytes c) ++
      rangeFrom (sramDA (c.word 6) + n * fld (c.word 7) 15 0) (loadScaleBytes c))

/-- The next bytes of a load, as they stand now. -/
def Device.loadMore (d : Device) (l : Load) (n : Nat) : Load :=
  { l with got := l.got ++ (((loadAddrs l.cmd).drop l.got.length).take n).map d.readByte }

/-- A plane as its KLOAD names it, without its elements. -/
def loadHead (c : Cmd) : Plane :=
  { fmt := fld (c.word 3) 31 28, pfmt := fld (c.word 3) 27 24, kbase := fld (c.word 4) 23 0, klen := loadK c, nlen := loadN c }

/-- The plane a KLOAD's source bytes make (R75). -/
def loadPlane (l : Load) : Plane :=
  let c := l.cmd
  let e := loadElemBytes c
  let cols := (chunks (e + loadScaleBytes c) (loadN c) l.got).map (fun r => valsOf (r.take e) (r.drop e) (loadFmt c) (loadK c))
  { loadHead c with
    cols := cols.map (fun l => l.map Prod.fst), pois := cols.map (fun l => l.any (·.2)) }

/-- Die, array and partition of an array queue. -/
def qDie (q : Nat) : Nat := q % 256 / 64
def qArray (q : Nat) : Nat := q % 64 / 4

/-- The refusal of a KLOAD in an array queue, in the mode it will meet. -/
def Device.partKloadBad (d : Device) (q : Nat) (c : Cmd) : Option Nat := kloadBad (d.modeFor (qDie q) (qArray q) c) (qDie q) (qArray q) c

/-- KLOAD issues (R78, R84): head of its queue, condition met, no swap pending, load path free. -/
def devKload (die a p : Nat) (d : Device) : Device :=
  let ar := d.arr die a
  let pt := d.part die a p
  let q := qArr die a p
  match d.ready q with
  | none => d
  | some c =>
    if c.op ≠ 1 ∨ !d.runs (wPair die a) ∨ pt.pend ∨ ar.load.isSome ∨ d.cmdHeld die a c then d
    else match d.groupBad q c d.partKloadBad with
      | some (b, ev) => d.refuse q c ev (uArray (qDie b) (qArray b)) 0
      | none =>
        let d := d.popCmd q
        let d := d.setArr die a { ar with load := some { part := p, cmd := c, tag := !pt.atag } }
        d.setPart die a p { pt with bound := some (!pt.atag), svalid := false }

/-- The columns that no old-tagged row occupies or will enter have swapped; with all of them the swap is done (R81). -/
def Part.swapTo (p : Part) (w n : Nat) : Part := if w ≤ n then p.swapDone else { p with swapped := max p.swapped n }

/-- Whether a load has read all of its source: the tokens it takes have passed (R78). -/
def Load.isRead (l : Load) : Bool := decide ((loadAddrs l.cmd).length ≤ l.got.length)

/-- LOAD_COMPLETE (R78, R81, R96): with its source read, the shadow plane is loaded and the KLOAD completes; every free column swaps at
once. -/
def devLoadComplete (die a : Nat) (d : Device) : Device :=
  let ar := d.arr die a
  match ar.load with
  | none => d
  | some l =>
    if !d.runs (wPair die a) ∨ !l.isRead then d
    else
      let pt := d.part die a l.part
      let pl := loadPlane l
      let pois := pl.pois.any id
      let w := widthOf ar.pmode
      let pt := { pt with shadow := pl, svalid := true, pend := true, swapped := 0, last := l.cmd.seq }
      let d := (d.setArr die a { ar with load := none, loadcnt := (ar.loadcnt + 1) % 2 ^ 32 }).setPart die a l.part (pt.swapTo w (pt.freeCols w))
      let d := (d.progress (wPair die a))
      let d := if pois then d.post evOperandPoison (uArray die a) 0 else d
      d.finish l.cmd (if pois then stPoisoned else stDone)

/-- COLUMN_SWAP (R81): column `col` swaps once the last old-tagged row has left it; the last column ends the swap. -/
def devColumnSwap (die a p col : Nat) (d : Device) : Device :=
  let pt := d.part die a p
  let w := widthOf (d.arr die a).pmode
  if !d.runs (wPair die a) ∨ !pt.pend ∨ !pt.svalid ∨ col ≠ pt.swapped ∨ pt.freeCols w ≤ col then d
  else d.setPart die a p (pt.swapTo w (col + 1))

/-- The tokens of one nanosecond: at most two, for the live rate is 1.2 G tokens/s at most (R7, R77). -/
def Device.tokens (d : Device) : Nat := d.freeWord.toNat % 3

/-- n tokens in an array: its load reads 256 bytes in each, and its rows go on by a column (R77, R78). -/
def Device.arrayTokens (d : Device) (die a n : Nat) : Device :=
  if n = 0 ∨ !d.runs (wPair die a) then d
  else
    let ar := d.arr die a
    let d := match ar.load with
      | none => d
      | some l => d.setArr die a { ar with load := some (d.loadMore l (256 * n)) }
    (List.range 4).foldl (fun d p =>
      let pt := d.part die a p
      if pt.rows.isEmpty then d
      else d.setPart die a p { pt with rows := pt.rows.map (fun r => { r with left := min 256 (r.left + n) }) }) d

/-! Streams (R79, R84, R98 to R101, R110, R122, R152, R153). -/

/-- The geometry of a KCONV descriptor (R98, R100). -/
structure ConvGeo where
  ibase : Word := 0
  sbase : Word := 0
  c     : Nat := 0
  posp  : Nat := 0
  it    : Nat := 0
  ih    : Nat := 0
  iw    : Nat := 0
  nb    : Nat := 0
  s     : Nat × Nat × Nat := (1, 1, 1)
  dl    : Nat × Nat × Nat := (1, 1, 1)
  k     : Nat × Nat × Nat := (1, 1, 1)
  p0    : Nat × Nat × Nat := (0, 0, 0)
  p1    : Nat × Nat × Nat := (0, 0, 0)
  bpitch : Nat := 0
  deriving DecidableEq, Repr

def convGeo (w : List Word) : ConvGeo :=
  let D := wordAt w
  { ibase := D 0, sbase := D 1, c := fld (D 2) 31 16, posp := fld (D 3) 23 0, it := fld (D 4) 31 16, ih := fld (D 4) 15 0,
    iw := fld (D 5) 31 16, nb := fld (D 5) 15 0,
    s := (fld (D 6) 31 28 + 1, fld (D 6) 27 24 + 1, fld (D 6) 23 20 + 1),
    dl := (fld (D 6) 19 16 + 1, fld (D 6) 15 12 + 1, fld (D 6) 11 8 + 1),
    k := (fld (D 7) 23 16 + 1, fld (D 7) 15 8 + 1, fld (D 7) 7 0 + 1),
    p0 := (fld (D 8) 31 28, fld (D 8) 23 20, fld (D 8) 15 12),
    p1 := (fld (D 8) 27 24, fld (D 8) 19 16, fld (D 8) 11 8),
    bpitch := (D 9).toNat }

/-- A nonzero reserved field of a KCONV descriptor. -/
def convReserved (w : List Word) : Bool :=
  let D := wordAt w
  fld (D 2) 15 0 != 0 || fld (D 3) 31 24 != 0 || fld (D 6) 7 0 != 0 || fld (D 7) 31 24 != 0 || fld (D 8) 7 0 != 0 ||
    (w.drop 10).any (fun x => x != 0)

/-- An output extent (R98); 0 stands for one below 1. -/
def outExtent (i before after_ dil kern stride : Nat) : Nat :=
  if i + before + after_ < dil * (kern - 1) + 1 then 0 else (i + before + after_ - dil * (kern - 1) - 1) / stride + 1

def ConvGeo.ot (g : ConvGeo) : Nat := outExtent g.it g.p0.1 g.p1.1 g.dl.1 g.k.1 g.s.1
def ConvGeo.oh (g : ConvGeo) : Nat := outExtent g.ih g.p0.2.1 g.p1.2.1 g.dl.2.1 g.k.2.1 g.s.2.1
def ConvGeo.ow (g : ConvGeo) : Nat := outExtent g.iw g.p0.2.2 g.p1.2.2 g.dl.2.2 g.k.2.2 g.s.2.2

/-- Alignment of a KCONV descriptor's addresses and pitches (R107). -/
def convMis (w : List Word) : Bool :=
  let g := convGeo w
  awMis 16 g.ibase || g.posp % 16 != 0 || g.bpitch % 16 != 0

/-- The first sentence of R101. -/
def convInvalid (w : List Word) (f : Fmt) (pl : Plane) (p0 rows : Nat) : Bool :=
  let g := convGeo w
  g.c == 0 || g.it == 0 || g.ih == 0 || g.iw == 0 || g.nb == 0 || g.ot == 0 || g.oh == 0 || g.ow == 0 ||
    decide (p0 + rows > g.nb * g.ot * g.oh * g.ow) || decide (pl.kbase + pl.klen > g.k.1 * g.k.2.1 * g.k.2.2 * g.c) ||
    (f.scaled && g.c % 32 != 0)

/-- A byte of the input or scale range outside assigned SRAM (R101). -/
def convFar (d : Device) (w : List Word) (f : Fmt) : Bool :=
  let g := convGeo w
  let pos := g.it * g.ih * g.iw
  d.sramBad g.ibase ((g.nb - 1) * g.bpitch + (pos - 1) * g.posp + f.bytes g.c) ||
    (f.scaled && d.sramBad g.sbase (g.nb * pos * (g.c / 32)))

/-- One input coordinate, none outside its extent (R98). -/
def inCoord (o stride k dil pad ext : Nat) : Option Nat :=
  let v := o * stride + k * dil
  if v < pad ∨ v - pad ≥ ext then none else some (v - pad)

/-- The element at flattened kernel index k of output position p (R98, R99). -/
def Device.convElem (d : Device) (g : ConvGeo) (f : Fmt) (p k : Nat) : Val × Bool :=
  let ow := p % g.ow
  let oh := p / g.ow % g.oh
  let ot := p / (g.ow * g.oh) % g.ot
  let n := p / (g.ow * g.oh * g.ot)
  let c := k % g.c
  let q := k / g.c
  let kw := q % g.k.2.2
  let kh := q / g.k.2.2 % g.k.2.1
  let kt := q / (g.k.2.2 * g.k.2.1)
  match inCoord ot g.s.1 kt g.dl.1 g.p0.1 g.it, inCoord oh g.s.2.1 kh g.dl.2.1 g.p0.2.1 g.ih,
        inCoord ow g.s.2.2 kw g.dl.2.2 g.p0.2.2 g.iw with
  | some it, some ih, some iw =>
    let pos := (it * g.ih + ih) * g.iw + iw
    let base := sramDA g.ibase + n * g.bpitch + pos * g.posp
    let sb := sramDA g.sbase + (((n * g.it + it) * g.ih + ih) * g.iw + iw) * (g.c / 32)
    d.rowVal base sb f c
  | _, _, _ => (Val.zero, false)

/-- Array a is the source of its pair's turn (R150). -/
def Turn.isSource (t : Turn) (a : Nat) : Bool := t.en && (t.src == (a % 2 == 1))
def Turn.isReceiver (t : Turn) (a : Nat) : Bool := t.en && (t.src != (a % 2 == 1))
def Turn.fmtCode (t : Turn) : Nat := if t.tfmt then 2 else 1
def Turn.win (t : Turn) (i : Nat) : Win := if i = 0 then t.w0 else t.w1
def Turn.setWin (t : Turn) (i : Nat) (w : Win) : Turn := if i = 0 then { t with w0 := w } else { t with w1 := w }

/-- Whether the turn can accept all rows of another source pass (R152). -/
def Turn.canAccept (t : Turn) : Bool := decide ((t.win t.fill).accepted < 3)

/-- Whether a window is complete for the receiver's next pass (R153, R154). -/
def Turn.canTake (t : Turn) : Bool := (t.win t.take).stored == 3 && decide ((t.win t.take).taken < 3)

/-- The turn once a pass of array a has been admitted: the source's into the window being filled, the receiver's from the
window being taken; the third pass moves on to the other window (R152, R153). -/
def Turn.letIn (t : Turn) (a : Nat) : Turn :=
  if t.isSource a then
    let w := t.win t.fill
    let t := t.setWin t.fill { w with accepted := w.accepted + 1 }
    if w.accepted + 1 = 3 then { t with fill := 1 - t.fill } else t
  else if t.isReceiver a then
    let w := t.win t.take
    let t := t.setWin t.take { w with taken := w.taken + 1 }
    if w.taken + 1 = 3 then { t with take := 1 - t.take } else t
  else t

/-- The run of a KSTREAM or KCONV as it issues (R79, R98, R152, R153). -/
def newRun (op : Nat) (t : Turn) (a : Nat) (c : Cmd) (tag : Bool) (pfmt : Nat) (desc : List Word) : Run :=
  { cmd := c, tag := tag, pfmt := pfmt, desc := if op = 3 ∧ !bit (c.word 0) 25 then desc else [],
    fill := if t.isSource a then some (t.fill, (t.win t.fill).accepted) else none,
    take := if t.isReceiver a then some (t.take, (t.win t.take).taken) else none }

/-- The refusals of R112, R122, R152 and R153 for a KSTREAM or KCONV; `desc` is the KCONV descriptor. -/
def streamBad (d : Device) (die a : Nat) (c : Cmd) (pl : Plane) (hasPlane : Bool) (desc : List Word) : Option Nat :=
  let pm := (d.arr die a).pmode
  let t := d.turn die a
  let w3 := c.word 3
  let fmt := Fmt.ofCode (fld w3 31 28)
  let f := fmt.getD .fp32
  let pf := fmtOf pl.fmt
  let share := bit (c.word 0) 25
  let conv := c.op == 3
  let tl := d.tile die a (tileOf c)
  let trows := if tl.fp16 then tl.tslots else tl.tslots / 2
  let top := arow0 c + mrows c
  let pair := fmt.isSome && (groupSize pf f .fp32).isSome
  let pitch := fld (c.word 7) 31 16
  let dmis := awMis 64 (c.word 5)
  let dfar := d.sramBad (c.word 5) 64
  let read := !share && conv && !dmis && !dfar
  firstBad [
    (w012Reserved c true || fld w3 20 16 != 0 || fld (c.word 4) 31 17 != 0 || (conv && c.word 7 != 0) || awRes (c.word 5) ||
      (!conv && awRes (c.word 6)) ||
      (read && (convReserved desc || awRes (convGeo desc).ibase || (f.scaled && awRes (convGeo desc).sbase))), evInstrInvalid),
    (decide (partsOf pm ≤ c.part), evInstrInvalid),
    (hasPlane && !pair, evFormatPair),
    (bit w3 27 || (f.scaled && pl.kbase % 32 != 0), evBlockLayout),
    (!hasPlane || fld w3 31 28 != pl.pfmt, evInstrInvalid),
    (isAcc16 c && f.width != 16, evInstrInvalid),
    (!share && ((!conv && (awMis 16 (c.word 5) || pitch % 16 != 0)) || (conv && dmis) || (read && convMis desc)), evInstrInvalid),
    (!share && ((!conv && (d.sramRowsBad (c.word 5) (mrows c) pitch (f.bytes pl.klen) ||
      (f.scaled && d.sramRowsBad (c.word 6) (mrows c) (fld (c.word 7) 15 0) (pl.klen / 32)))) || (conv && dfar)), evAddrUnassigned),
    (read && convInvalid desc f pl (c.word 6).toNat (mrows c), evInstrInvalid),
    (read && convFar d desc f, evAddrUnassigned),
    (tl.fp16 != isAcc16 c || !tl.en, evInstrInvalid),
    (if tl.ring then tl.bken && decide (top > tl.tlrows) else decide (top > trows), evInstrInvalid),
    (t.isSource a && (mrows c != 768 || fld w3 31 28 != t.fmtCode || isAcc16 c || share), evInstrInvalid),
    (t.isReceiver a && (!share || mrows c != 768 || fld w3 31 28 != t.fmtCode || isAcc16 c || c.word 5 != 0 || c.word 6 != 0 ||
      c.word 7 != 0), evInstrInvalid),
    (share && (!t.isReceiver a || pm != 0), evInstrInvalid)]

/-- The plane a partition's next stream is bound to, once that plane is loaded. -/
def Part.boundReady (p : Part) : Bool :=
  match p.bound with
  | none => true
  | some tag => p.loaded tag

/-- The plane a stream will be bound to (R79): that of the last KLOAD ahead of it which is not refused, with no KCFG after it; else that
of the KLOAD that holds the load path for its partition, or the plane bound before. -/
def Device.planeFor (d : Device) (q : Nat) (c : Cmd) : Option Plane :=
  let die := qDie q
  let a := qArray q
  let pt := d.part die a (q % 4)
  let cfg := (d.lastCfg die a c).map Cmd.ord
  let loads := (d.ahead q c).filter (fun k => k.op == 1 && decide (cfg.getD 0 ≤ k.ord) && (d.partKloadBad q k).isNone)
  match loads.getLast?, cfg, (d.arr die a).load with
  | some k, _, _ => some (loadHead k)
  | none, some _, _ => none
  | none, none, some l => if l.part = q % 4 then some (loadHead l.cmd) else pt.bound.map pt.plane
  | none, none, none => pt.bound.map pt.plane

/-- The refusal of a stream in an array queue; one that is bound to a faulted plane is not refused so (R95). -/
def Device.partStreamBad (d : Device) (q : Nat) (c : Cmd) : Option Nat :=
  let pt := d.part (qDie q) (qArray q) (q % 4)
  if (c.op ≠ 2 ∧ c.op ≠ 3) ∨ (pt.bound.isSome ∧ pt.faulted = pt.bound ∧ !(d.ahead q c).any (fun k => k.op == 1)) then none
  else streamBad (d.foresee (qDie q) (qArray q) c) (qDie q) (qArray q) c ((d.planeFor q c).getD {}) (d.planeFor q c).isSome
    (d.descWords (sramDA (c.word 5)) 16)

/-- A KSTREAM or KCONV (by OP) issues (R79, R84, R95, R121): its bound plane is loaded, the stream before it has entered
its last row, its tile has no pending commit, and the turn can serve it. -/
def devStream (op die a p : Nat) (d : Device) : Device :=
  let pt := d.part die a p
  let q := qArr die a p
  match d.ready q with
  | none => d
  | some c =>
    let t := d.turn die a
    let tag := pt.bound.getD false
    if c.op ≠ op ∨ !d.runs (wPair die a) ∨ d.cmdHeld die a c ∨ !pt.boundReady ∨ pt.runs.any (fun r => decide (r.ent < mrows r.cmd)) ∨
        (d.tilePend die a (tileOf c)).isSome then d
    else if pt.bound.isSome ∧ pt.faulted = some tag then
      ((d.popCmd q).finish c stFault).setPart die a p { pt with last := c.seq }
    else match d.groupBad q c d.partStreamBad with
      | some (b, ev) => d.refuse q c ev (uArray (qDie b) (qArray b)) 0
      | none =>
        if (t.isSource a && !t.canAccept) || (t.isReceiver a && !t.canTake) then d
        else
          (((d.popCmd q).setTurn die a (t.letIn a))).setPart die a p
            { pt with runs := pt.runs ++ [newRun op t a c tag (pt.plane tag).fmt (d.descWords (sramDA (c.word 5)) 16)] }

def devKstream (die a p : Nat) (d : Device) : Device := devStream 2 die a p d
def devKconv (die a p : Nat) (d : Device) : Device := devStream 3 die a p d

/-- The refusals of R112 and R151 for a KCFG. -/
def kcfgBad (d : Device) (q : Nat) (c : Cmd) : Option Nat :=
  firstBad [(w012Reserved c true || partShare c || fld (c.word 3) 31 2 != 0 || c.word 4 != 0 || c.word 5 != 0 || c.word 6 != 0 ||
    c.word 7 != 0 || fld (c.word 3) 1 0 == 3 || (((d.turnFor (qDie q) (qArray q) c).turn (qDie q) (qArray q)).en && fld (c.word 3) 1 0 != 0), evInstrInvalid)]

/-- KCFG issues (R91): every earlier instruction of the array has completed and no swap is pending. -/
def devKcfg (die a : Nat) (d : Device) : Device :=
  let ar := d.arr die a
  let q := qArr die a 0
  match d.ready q with
  | none => d
  | some c =>
    let busy := ar.load.isSome || (List.range 4).any (fun p =>
      let pt := d.part die a p
      pt.pend || !pt.runs.isEmpty || (d.queue (qArr die a p)).any (fun x => decide (x.ord < c.ord)))
    if c.op ≠ 4 ∨ !d.runs (wPair die a) ∨ busy ∨ d.cmdHeld die a c then d
    else match d.groupBad q c (kcfgBad d) with
      | some (b, ev) => d.refuse q c ev (uArray (qDie b) (qArray b)) 0
      | none =>
        let d := (d.popCmd q).setArr die a { ar with pmode := fld (c.word 3) 1 0 }
        let d := (List.range 4).foldl (fun d p =>
          let pt := d.part die a p
          d.setPart die a p { last := if p = 0 then c.seq else pt.last }) d
        d.finish c stDone

/-! Accumulator rows (R119, R124, R127 to R129). -/

/-- The logical row a quarter of a tile row holds: on a fixed tile the row itself. -/
def Quarter.holds (t : Tile) (l : Nat) (q : Quarter) : Option Nat := if t.ring then q.lrow else some l

/-- First and last-plus-one accumulator column of a latched drain descriptor's columns. -/
def drainCol0 (desc : List PByte) : Nat := (ofBytes (values ((desc.drop 16).take 4))) / 2 ^ 8 % 256
def drainNCol (desc : List PByte) : Nat := (ofBytes (values ((desc.drop 16).take 4))) % 256 + 1

/-- A drain command that waits for final rows holds quarter q of logical row l with the given SEQ, if it has not read it:
`done` rows are already read (R128). -/
def drainHolds (c : Cmd) (done t l q : Nat) (seq : Option Nat) : Bool :=
  bit (c.word 3) 20 && fld (c.word 3) 24 21 == t && seq == some (fld (c.word 3) 11 0) &&
    decide (fld (c.word 4) 16 0 + done ≤ l ∧ l < fld (c.word 4) 16 0 + fld (c.word 6) 15 0 + 1) &&
    decide (drainCol0 c.desc < (q + 1) * 64 ∧ q * 64 < drainCol0 c.desc + drainNCol c.desc)

/-- Quarter q at the row of logical row l is held by some drain of the partition (R128). -/
def Device.held (d : Device) (die a p t l q : Nat) : Bool :=
  let tl := d.tile die a t
  let qu := d.quart die a (tl.slot l) q
  match qu.holds tl l with
  | none => false
  | some l' =>
    (d.queue (qDrn die a p)).any (fun c => drainHolds c 0 t l' q qu.seq) ||
      (d.drains die a p).any (fun r => drainHolds r.cmd r.row t l' q qu.seq)

/-- A parked quarter's bytes (R126). -/
def Quarter.bytes (t : Tile) (q : Quarter) : List PByte := mark q.pois (packElems t.fmt q.vals)

/-- A quarter read back from the backing (R126). -/
def Device.fillQuarter (d : Device) (t : Tile) (l q : Nat) : Quarter :=
  let b := d.readBytes (t.backing l q) (t.rowBytes / 4)
  { vals := unpackElems t.fmt 64 (values b), lrow := some l, pois := anyPoison b }

/-- One quarter made ready for a row (R129): park, fill, zero or ring miss. Gives the device, the quarter and whether
there was a ring miss. DESIGN CHOICE: where BKADDR is 16 mod 32, neighbouring quarters of a backing share a poison mark as R513
keeps it, and a fill may bring back a mark that R126 would leave out. -/
def Device.prepQuarter (d : Device) (die a t l q : Nat) (zero : Bool) : Device × Quarter × Bool :=
  let tl := d.tile die a t
  let qu := d.quart die a (tl.slot l) q
  let cnt := d.accCnt die a
  let z : Quarter := { lrow := if tl.ring then some l else none }
  if tl.ring && qu.lrow != some l then
    let d := match qu.lrow with
      | some o => if tl.bken && qu.dirty then
          (d.write (tl.backing o q) (qu.bytes tl)).setAccCnt die a { cnt with park := cnt.park + 1 } else d
      | none => d
    if zero then (d, z, false)
    else if tl.bken then
      let cnt := d.accCnt die a
      (d.setAccCnt die a { cnt with fill := cnt.fill + 1 }, d.fillQuarter tl l q, false)
    else (d, { z with pois := true }, true)
  else if zero then (d, { z with dirty := qu.dirty, seq := qu.seq }, false)
  else (d, qu, false)

/-- A row's group values added into a quarter, whose first active column is column j0 of the partition (R65, R124). -/
def addQuarter (f : Fmt) (sums : List (List Val)) (j0 : Nat) (vals : List Nat) : List Nat :=
  (List.range 64).map (fun i =>
    let acc := vals.getD i 0
    match sums[j0 + i]? with
    | none => acc
    | some gs => gs.foldl (fun x g => accAdd f x g) acc)

/-- One quarter of a row added: it becomes dirty and records the instruction's SEQ. -/
def Device.addToQuarter (d : Device) (die a p t l : Nat) (c : Cmd) (r : InRow) (q : Nat) : Device × Bool :=
  let tl := d.tile die a t
  let j0 := q * 64 - p * widthOf (d.arr die a).pmode
  let (d, qu, miss) := d.prepQuarter die a t l q (bit (c.word 3) 25)
  let pois := qu.pois || ((r.pois.drop j0).take 64).any id
  (d.setQuart die a (tl.slot l) q
    { qu with vals := addQuarter tl.fmt r.sums j0 qu.vals, pois := pois, dirty := true, seq := some c.seq }, miss)

/-- All quarters of a row. -/
def Device.addRow (d : Device) (die a p t l : Nat) (c : Cmd) (r : InRow) : List Nat → Device × Bool
  | [] => (d, false)
  | q :: qs =>
    let (d, m) := d.addToQuarter die a p t l c r q
    let (d, m') := d.addRow die a p t l c r qs
    (d, m || m')

/-- The run a row in flight belongs to. -/
def Part.runOf (p : Part) (ord : Nat) : Option Run := p.runs.find? (fun r => r.cmd.ord == ord)

/-- A run replaced. -/
def Part.setRun (p : Part) (r : Run) : Part :=
  { p with runs := p.runs.map (fun x => if x.cmd.ord = r.cmd.ord then r else x) }

/-- The tile is named by no issued instruction or drain (R121). -/
def Device.tileIdle (d : Device) (die a t : Nat) : Bool :=
  (List.range 4).all (fun p =>
    (d.part die a p).runs.all (fun r => tileOf r.cmd != t) && (d.drains die a p).all (fun r => tileOf r.cmd != t))

/-- Whether the oldest row in a partition waits for a held quarter (R129, R130). -/
def Device.rowWaits (d : Device) (die a p : Nat) : Bool :=
  let pt := d.part die a p
  match pt.rows with
  | [] => false
  | r :: _ => match pt.runOf r.ord with
    | none => false
    | some run =>
      (rowQuarters (d.arr die a).pmode p (fmtOf run.pfmt)).any
        (fun q => d.held die a p (tileOf run.cmd) (arow0 run.cmd + r.row) q)

/-- A row has reached its last column: no sum reaches the accumulator before the row is in the column that makes it (R77). -/
def InRow.reached (r : InRow) : Bool := decide (r.sums.length ≤ r.left + 1)

/-- ACCUMULATOR_ADD (R129): the oldest row in the partition is added once it has reached its last column, unless a quarter it writes is
held; errors corrected in the rows read are counted (R145), and the last row's add completes its instruction with DONE or POISONED. -/
def devAccumulatorAdd (die a p fixed : Nat) (d : Device) : Device :=
  let pt := d.part die a p
  match pt.rows with
  | [] => d
  | r :: rest =>
    match pt.runOf r.ord with
    | none => d
    | some run =>
      let c := run.cmd
      let t := tileOf c
      let l := arow0 c + r.row
      let qs := rowQuarters (d.arr die a).pmode p (fmtOf run.pfmt)
      if !d.runs (wPair die a) ∨ !r.reached ∨ d.rowWaits die a p then d
      else
        let ce := dreg die 2 (0x1008 + 0x200 * a)
        let (d, miss) := (d.setReg ce (wd (satAdd32 (d.reg ce).toNat fixed))).addRow die a p t l c r qs
        let d := if miss && !run.miss then d.post 0x0207 (uArray die a) (wd (p * 2 ^ 12 + c.seq)) else d
        let run := { run with added := run.added + 1, miss := run.miss || miss }
        if run.added = mrows c then
          let pt := { pt with rows := rest, runs := pt.runs.filter (fun x => x.cmd.ord != c.ord), last := c.seq }
          (d.setPart die a p pt).finish c (if run.pois || run.miss then stPoisoned else stDone)
        else d.setPart die a p { pt.setRun run with rows := rest }

/-! Row entry (R77, R86, R98, R125, R129, R150 to R154). -/

/-- Element i of receiver row j in pass q (R153). -/
def Win.elem (w : Win) (q j i : Nat) : Nat × Bool :=
  (mget [] w.rows (768 * (j / 256) + 256 * q + i)).getD (j % 256) (0, false)

/-- The element codes and poison of row r of a 16-bit run that fills a turn window: KLEN elements, then +0 (R152). -/
def captureRow (d : Device) (run : Run) (kbase klen r : Nat) : List (Nat × Bool) :=
  let c := run.cmd
  let f := fmtOf (fld (c.word 3) 31 28)
  (List.range 256).map (fun i =>
    if i < klen then
      (if run.desc.isEmpty then d.elem (sramDA (c.word 5) + r * fld (c.word 7) 31 16) f i
       else
         let v := d.convElem (convGeo run.desc) f ((c.word 6).toNat + r) (kbase + i)
         ((f.convert .rne true v.1).code, v.2))
    else (0, false))

/-- The values of row r of a run against its plane: 256 of them from a turn window (R153), KLEN otherwise. -/
def Device.streamRow (d : Device) (t : Turn) (run : Run) (pl : Plane) (r : Nat) : List (Val × Bool) :=
  let c := run.cmd
  let f := fmtOf (fld (c.word 3) 31 28)
  match run.take with
  | some (w, q) => (List.range 256).map (fun i => let e := (t.win w).elem q r i; (f.decode e.1, e.2))
  | none =>
    if run.desc.isEmpty then
      d.rowVals (sramDA (c.word 5) + r * fld (c.word 7) 31 16) (sramDA (c.word 6) + r * fld (c.word 7) 15 0) f pl.klen
    else (List.range pl.klen).map (fun i => d.convElem (convGeo run.desc) f ((c.word 6).toNat + r) (pl.kbase + i))

/-- The row as it travels: the group values of every active column, a missing column's cells holding zero (R64, R75). -/
def enterRow (pl : Plane) (cols : Nat) (c : Cmd) (tag : Bool) (r : Nat) (xs : List (Val × Bool)) : InRow :=
  let f := fmtOf (fld (c.word 3) 31 28)
  let s := (groupSize (fmtOf pl.fmt) f (if isAcc16 c then .fp16 else .fp32)).getD 1
  let v := xs.map Prod.fst
  let px := xs.any (·.2)
  { ord := c.ord, row := r, tag := tag,
    sums := (List.range cols).map (fun j =>
      let col := pl.cols.getD j []
      groupSums s v (col ++ List.replicate (v.length - col.length) Val.zero)),
    pois := (List.range cols).map (fun j => px || pl.pois.getD j false) }

/-- A source pass's row is captured, and a pass that enters its last row is stored or leaves its window (R152 to R154). -/
def Turn.afterRow (t : Turn) (run : Run) (captured : List (Nat × Bool)) (r : Nat) (lastRow : Bool) : Turn :=
  match run.fill, run.take with
  | some (w, p), _ =>
    let win := t.win w
    let win := { win with rows := mset [] win.rows (768 * p + r) captured,
                          stored := if lastRow then win.stored + 1 else win.stored }
    { t.setWin w win with wcnt := if lastRow && win.stored == 3 then (t.wcnt + 1) % 2 ^ 16 else t.wcnt }
  | none, some (w, _) =>
    let win := t.win w
    if lastRow then (if win.left + 1 = 3 then t.setWin w {} else t.setWin w { win with left := win.left + 1 }) else t
  | none, none => t

/-- One row enters (R77). -/
def Device.enterOne (d : Device) (die a p : Nat) : Device :=
  let ar := d.arr die a
  let pt := d.part die a p
  match pt.runs.find? (fun r => decide (r.ent < mrows r.cmd)) with
  | none => d
  | some run =>
    let r := run.ent
    let t := d.turn die a
    let pl := pt.plane run.tag
    let xs := d.streamRow t run pl r
    let row := enterRow pl (activeCols ar.pmode (fmtOf pl.fmt)) run.cmd run.tag r xs
    let pois := row.pois.any id
    let lastRow := decide (r + 1 = mrows run.cmd)
    let t' := t.afterRow run (captureRow d run pl.kbase pl.klen r) r lastRow
    let d := (d.setArr die a { ar with rowcnt := ar.rowcnt + 1 }).setTurn die a t'
    let d := d.setPart die a p { pt.setRun { run with ent := r + 1, pois := run.pois || pois } with rows := pt.rows ++ [row] }
    let d := d.progress (wPair die a)
    let d := if t'.wcnt ≠ t.wcnt then d.progress (wPair die a) else d
    if pois && !run.pois then d.post evOperandPoison (uArray die a) 0 else d

/-- Rows that enter on one token: two in dual-row mode while two remain (R125). -/
def Run.perToken (r : Run) : Nat := if isAcc16 r.cmd && decide (r.ent + 1 < mrows r.cmd) then 2 else 1

/-- Whether a quarter that the next rows of a run would write is held (R129). -/
def Device.entryHeld (d : Device) (die a p : Nat) (run : Run) : Bool :=
  (rangeFrom (arow0 run.cmd + run.ent) run.perToken).any (fun l =>
    (rowQuarters (d.arr die a).pmode p (fmtOf run.pfmt)).any
      (fun q => d.held die a p (tileOf run.cmd) l q))

/-- The run whose rows enter next. -/
def Part.entering (p : Part) : Option Run := p.runs.find? (fun r => decide (r.ent < mrows r.cmd))

/-- Whether some row of a partition waits under R129: one inside it, or the next to enter. -/
def Device.holdsRow (d : Device) (die a p : Nat) : Bool :=
  d.rowWaits die a p || (match (d.part die a p).entering with
    | some run => d.entryHeld die a p run
    | none => false)

/-- Uncorrectable errors that the turn buffer gives for elements of a receiver's next row mark those elements (R156). -/
def Turn.struck (t : Turn) (run : Run) (hit : List Nat) : Turn :=
  match run.take with
  | none => t
  | some (w, q) =>
    t.setWin w (hit.foldl (fun (win : Win) i =>
      let k := 768 * (run.ent / 256) + 256 * q + i
      let row := mget [] win.rows k
      { win with rows := mset [] win.rows k (row.set (run.ent % 256) ((row.getD (run.ent % 256) (0, false)).1, true)) }) (t.win w))

/-- ROW_ENTRY (R77, R86, R130): one row, or the pair of a dual-row token, enters the partition, unless a row waits on a held quarter. -/
def devRowEntry (die a p : Nat) (hit : List (Fin 256)) (d : Device) : Device :=
  match (d.part die a p).entering with
  | none => d
  | some run =>
    if !d.runs (wPair die a) ∨ d.holdsRow die a p then d
    else
      let d := d.setTurn die a ((d.turn die a).struck run (hit.map Fin.val))
      if run.perToken = 2 then (d.enterOne die a p).enterOne die a p
      else d.enterOne die a p

/-! Partition faults (R93 to R95, R156). -/

/-- One quarter of a destination row marked poisoned wherever it lives (R93). -/
def Device.poisonQuarter (d : Device) (die a t l q : Nat) : Device :=
  let tl := d.tile die a t
  let qu := d.quart die a (tl.slot l) q
  if qu.holds tl l = some l then d.setQuart die a (tl.slot l) q { qu with pois := true }
  else if tl.bken then
    let b := d.readBytes (tl.backing l q) (tl.rowBytes / 4)
    d.write (tl.backing l q) (mark true (values b))
  else d

/-- A source pass that ends with FAULT counts as accepted, its missing rows +0 and poisoned; a receiver pass counts as
taken (R156). -/
def Turn.afterFault (t : Turn) (run : Run) : Turn :=
  match run.fill, run.take with
  | some (w, p), _ =>
    if run.ent < mrows run.cmd then
      let win := t.win w
      let rows := (rangeFrom run.ent (768 - run.ent)).foldl
        (fun m r => mset [] m (768 * p + r) (List.replicate 256 (0, true))) win.rows
      let win := { win with rows := rows, stored := win.stored + 1 }
      { t.setWin w win with wcnt := if win.stored == 3 then (t.wcnt + 1) % 2 ^ 16 else t.wcnt }
    else t
  | none, some (w, _) =>
    if run.ent < mrows run.cmd then
      let win := t.win w
      if win.left + 1 = 3 then t.setWin w {} else t.setWin w { win with left := win.left + 1 }
    else t
  | none, none => t

/-- PARTITION_FAULT (R93, R95): the partition's oldest issued instruction is abandoned, its rows in the array discarded,
its destination rows poisoned in its own columns, and it completes with FAULT; streams bound to its plane, while a partition still holds it,
are refused from then on. -/
def devPartitionFault (die a p cause : Nat) (d : Device) : Device :=
  let pt := d.part die a p
  match pt.runs with
  | [] => d
  | run :: rest =>
    if !d.runs (wPair die a) ∨ cause = 0 ∨ cause > 4 then d
    else
      let c := run.cmd
      let qs := rowQuarters (d.arr die a).pmode p (fmtOf run.pfmt)
      let d := (rangeFrom (arow0 c) (mrows c)).foldl
        (fun d l => qs.foldl (fun d q => d.poisonQuarter die a (tileOf c) l q) d) d
      let t' := (d.turn die a).afterFault run
      let d := if t'.wcnt ≠ (d.turn die a).wcnt then d.progress (wPair die a) else d
      let d := d.setTurn die a t'
      let d := d.setPart die a p { pt with runs := rest, rows := pt.rows.filter (fun r => r.ord != c.ord),
                                           faulted := if run.gone then pt.faulted else some run.tag, last := c.seq }
      let lo := wd (2 ^ 31 + cause * 2 ^ 28 + p * 2 ^ 26 + c.seq * 2 ^ 12)
      let d := d.setRecord (dreg die 1 (0x1020 + 0x100 * a + 8 * p)) lo (wd (run.added % 65536))
      let ue := dreg die 2 (0x100C + 0x200 * a)
      let d := if cause = 4 then d.setReg ue (wd (satAdd32 (d.reg ue).toNat 1)) else d
      (d.post 0x0201 (uArray die a) lo).finish c stFault

/-! Tile configuration (R120, R121). -/

/-- The configuration the three registers of tile t spell (R145). -/
def Device.stagedTile (d : Device) (die a t : Nat) (lo : Word) : Tile :=
  let k := dreg die 2 (0x1100 + 0x200 * a + 0x10 * t)
  { en := bit lo 31, ring := bit lo 30, fp16 := bit lo 29, bken := bit lo 28, tslots := fld lo 24 12, tbase := fld lo 11 0,
    tlrows := fld (d.reg (k + 4)) 16 0, bkaddr := d.reg (k + 8) }

/-- A commit is checked and takes effect: every row of the tile (of a tile that is disabled, its rows until then) becomes +0,
unpoisoned, clean and without SEQ, and a ring tile is empty; a refused commit sets ACC_ERR and posts TILE_CFG_REFUSED. -/
def Device.applyTile (d : Device) (die a t : Nat) (v : Tile) : Device :=
  let r := d.tileBad die a t v
  if r = 0 then
    let old := d.tile die a t
    let rows := if v.en then v else { old with tslots := if old.en then old.tslots else 0 }
    let lo := quartIx die a rows.tbase 0
    let hi := quartIx die a (rows.tbase + rows.tslots) 0
    ({ d with kiln.quarts := d.kiln.quarts.filter (fun q => q.1 < lo || hi ≤ q.1) }).setTile die a t v
  else
    let e := wd (2 ^ 31 + r * 2 ^ 28 + t * 2 ^ 24)
    (d.setReg (dreg die 2 (0x1004 + 0x200 * a)) e).post 0x0208 (uArray die a) e

/-- TILE_COMMIT (R121): a write of ACC_TCFGt_LO. -/
def devTileCommit (die a t : Nat) (lo : Word) (d : Device) : Device :=
  let lo := lo &&& 0xF1FFFFFF
  let d := d.setReg (dreg die 2 (0x1100 + 0x200 * a + 0x10 * t)) lo
  let v := d.stagedTile die a t lo
  if d.tileIdle die a t then (d.setTilePend die a t none).applyTile die a t v
  else d.setTilePend die a t (some v)

/-- PENDING_COMMIT (R121): the tile is idle. -/
def devPendingCommit (die a t : Nat) (d : Device) : Device :=
  match d.tilePend die a t with
  | none => d
  | some v => if d.tileIdle die a t then (d.setTilePend die a t none).applyTile die a t v else d

/-! The pair turn (R151). -/

/-- TURN_WRITE: a write of KLN_TURNp is pending. -/
def devTurnWrite (die pr : Nat) (v : Word) (d : Device) : Device :=
  let t := d.turn die (2 * pr)
  d.setTurn die (2 * pr) { t with pend := some (v, match t.pend with | some (_, o) => o | none => d.core.nextOrd) }

/-- Neither array of a pair holds an issued instruction, or one queued before arrival number o. -/
def Device.pairIdle (d : Device) (die pr o : Nat) : Bool :=
  [2 * pr, 2 * pr + 1].all (fun a => (d.arr die a).load.isNone && (List.range 4).all (fun p =>
    (d.part die a p).runs.isEmpty && (d.queue (qArr die a p)).all (fun c => decide (o ≤ c.ord))))

/-- TURN_TAKE_EFFECT: both windows become empty. -/
def devTurnTakeEffect (die pr : Nat) (d : Device) : Device :=
  let t := d.turn die (2 * pr)
  match t.pend with
  | none => d
  | some (v, o) =>
    if !d.runs (wPair die (2 * pr)) ∨ !d.pairIdle die pr o then d
    else d.setTurn die (2 * pr) (d.turnWritten die pr v)

end Sys2Proof.Machine
end

