-- ==== Sys2Proof/Machine/Fabric.lean ====
section
/-! DEFINITION. Fabric ports: packets and flits, the sequenced link with its replay, training, and the choice of a port
(R353 to R371, R377 to R380). -/

namespace Sys2Proof.Machine

def fabReg (p off : Nat) : Nat := mreg 3 (0x1000 + 0x100 * p + off)
def rteReg (off : Nat) : Nat := mreg 4 off

def Device.port (d : Device) (p : Nat) : Port := mget {} d.fab.ports p
def Device.setPort (d : Device) (p : Nat) (v : Port) : Device := { d with fab.ports := mset {} d.fab.ports p v }

/-- Ports in LINKED or ACTIVE state. -/
def Port.up (x : Port) : Bool := x.state == 2 || x.state == 3

def Device.selfMod (d : Device) : Nat := fld (d.reg (rteReg 0)) 14 0
def Device.selfGen (d : Device) : Nat := fld (d.reg (rteReg 0)) 31 24

/-- A counter that holds at 0xFFFF_FFFF, one higher. -/
def Device.count (d : Device) (k : Nat) : Device := d.setReg k (wd (satAdd32 (d.reg k).toNat 1))

/-- A bit of RTE_DROP set, with its event on the change from 0 to 1 (R384). -/
def Device.dropBit (d : Device) (n code : Nat) (data : Word) : Device :=
  let v := d.reg (rteReg 0x20)
  if bit v n then d else (d.setReg (rteReg 0x20) (setBit v n true)).post code uModule data

/-! Packets (R365). -/

def Packet.w (k : Packet) (i : Nat) : Word := wordAt k.h i
def Packet.pt (k : Packet) : Nat := fld (k.w 0) 31 28
def Packet.dst (k : Packet) : Nat := fld (k.w 0) 14 0
def Packet.hops (k : Packet) : Nat := fld (k.w 0) 24 19
def Packet.poison (k : Packet) : Bool := bit (k.w 0) 18
def Packet.src (k : Packet) : Nat := fld (k.w 1) 14 0
def Packet.sgen (k : Packet) : Nat := fld (k.w 1) 31 24
def Packet.rgen (k : Packet) : Nat := fld (k.w 1) 23 16
def Packet.len (k : Packet) : Nat := fld (k.w 2) 9 0
def Packet.tag (k : Packet) : Nat := fld (k.w 2) 31 16
def Packet.rstat (k : Packet) : Nat := fld (k.w 4) 31 28

/-- The credit class of a header (R367). -/
def hdrClass (h0 : Word) : Nat := if fld h0 27 26 = 3 then 6 else 2 * fld h0 27 26 + fld h0 25 25

/-- Data slots that follow a header. -/
def hdrSlots (h : List Word) : Nat :=
  if [1, 4, 5, 8].contains (fld (wordAt h 0) 31 28) then (fld (wordAt h 2) 9 0 + 31) / 32 else 0

def Packet.slots (k : Packet) : Nat := 1 + hdrSlots k.h

/-- The data of a packet as slots of eight words. -/
def Packet.slotWords (k : Packet) : List (List Word) :=
  let n := hdrSlots k.h
  (chunks 32 n (k.body ++ List.replicate (32 * n - k.body.length) 0)).map (bytesToWords 8)

/-- VC of each packet type. -/
def ptVc : Nat → Option Nat
  | 1 => some 0 | 2 => some 1 | 3 => some 0 | 4 => some 1 | 5 => some 2 | 6 => some 3 | 7 => some 3 | 8 => some 3 | 9 => some 0 | _ => none

/-- Packets that are dropped where they arrive (R366, R395). -/
def Packet.bad (k : Packet) : Bool :=
  ptVc k.pt != some (fld (k.w 0) 27 26) || decide (k.len > 512) ||
    ([1, 3, 9].contains k.pt && decide (k.len > 0 ∧ (k.w 3).toNat / 512 ≠ ((k.w 3).toNat + k.len - 1) / 512)) ||
    (k.pt == 5 && (fld (k.w 2) 31 28 == 0 || decide (fld (k.w 2) 31 28 > 4)))

/-- A header's first three words. -/
def mkH0 (pt vc hops dst : Nat) (pois : Bool) : Word := wd (pt * 2 ^ 28 + vc * 2 ^ 26 + hops * 2 ^ 19 + pois.toNat * 2 ^ 18 + dst)
def Device.mkH1 (d : Device) (rgen : Nat) : Word := wd (d.selfGen * 2 ^ 24 + rgen * 2 ^ 16 + d.selfMod)

/-- A packet queued at a port. -/
def Device.queueAt (d : Device) (p : Nat) (k : Packet) : Device := d.setPort p { d.port p with txq := (d.port p).txq ++ [k] }

/-! Choice of a port (R369, R386). -/

def Device.credits (d : Device) (p cls : Nat) : Nat := (d.port p).cred.getD cls 0

/-- The port of a list with the most credit in a class, the lowest number on a tie. -/
def Device.mostCredit (d : Device) (cls : Nat) : List Nat → Option Nat
  | [] => none
  | p :: l => match d.mostCredit cls l with
    | none => some p
    | some q => if d.credits q cls > d.credits p cls then some q else some p

/-- Candidates of a PMASK: its ACTIVE ports, or else its RETRAIN ports. -/
def Device.candidates (d : Device) (pm : Nat) : List Nat :=
  let ps (st : Nat) : List Nat := (List.range 16).filter (fun p => pm / 2 ^ p % 2 == 1 && (d.port p).state == st)
  if (ps 3).isEmpty then ps 4 else ps 3

def Device.route (d : Device) (dst : Nat) : RouteEnt := mget {} d.fab.table dst
def Device.setRoute (d : Device) (dst : Nat) (e : RouteEnt) : Device := { d with fab.table := mset {} d.fab.table dst e }

/-- A routed packet queued at its port, with its level (R369); none where there is no candidate. -/
def Device.tryRoute (d : Device) (k : Packet) : Option Device :=
  let e := d.route k.dst
  if !e.valid then none
  else match d.mostCredit (hdrClass (k.w 0)) (d.candidates e.pm) with
    | none => none
    | some p =>
      let h0 := if e.dl / 2 ^ p % 2 = 1 then setBit (k.w 0) 25 true else k.w 0
      some (d.queueAt p { k with h := k.h.set 0 h0 })

/-! Flits (R355 to R357). -/

/-- CRC of a flit's trailer. -/
def flitCrc (p : Nat) (slots : List (List Word)) (t : List Word) : Word :=
  crc32c (toBytes 3 (p % 2 ^ 19) ++ wordsToBytes (slots.take 19).flatten ++ wordsToBytes (t.take 7))

/-- The trailer's T0 for the port's present state. -/
def Port.t0 (x : Port) (fseq : Nat) : Word :=
  wd (fseq * 2 ^ 20 + (x.rxNext + 4095) % 4096 * 2 ^ 8 + x.ackv.toNat * 2 ^ 7 + x.nak.toNat * 2 ^ 6)

def mkFlit (p : Nat) (slots : List (List Word)) (t : List Word) : Flit :=
  let t := t.take 7
  { wrong := 0, p := BitVec.ofNat 20 p, slots := slots ++ [t ++ [flitCrc p slots t]] }

/-- The CR words of a trailer. -/
def crWords (r : List Nat) : List Word :=
  let w (a b : Nat) : Word := wd (r.getD a 0 % 4096 * 2 ^ 20 + r.getD b 0 % 4096 * 2 ^ 8)
  [w 0 1, w 2 3, w 4 5, wd (r.getD 6 0 % 4096 * 2 ^ 20)]

def trailerWord (f : Flit) (i : Nat) : Word := wordAt (f.slots.getD 19 []) i

/-- Credits a trailer returns. -/
def flitReturns (f : Flit) : List Nat :=
  [fld (trailerWord f 1) 31 20, fld (trailerWord f 1) 19 8, fld (trailerWord f 2) 31 20, fld (trailerWord f 2) 19 8,
    fld (trailerWord f 3) 31 20, fld (trailerWord f 3) 19 8, fld (trailerWord f 4) 31 20]

/-- The 5,140 bits of a flit's message, in order: for each slot its leading bit, then its 32 bytes, each least significant bit first
(R355). -/
def flitBits (f : Flit) : List Bool :=
  (f.slots.zipIdx).flatMap (fun s => f.p.toNat.testBit s.2 :: (wordsToBytes s.1).flatMap (fun b => (List.range 8).map b.toNat.testBit))

/-- The product in GF(2^10) modulo x^10 + x^3 + 1, whose root α generates the field. PRESUMED: IEEE 802.3 Clause 91, which R355 names
and does not quote. -/
def gfMul (a b : Nat) : Nat :=
  (List.range 10).foldl (fun r i =>
    let r := if 512 ≤ r then (2 * r) ^^^ 0x409 else 2 * r
    if b.testBit (9 - i) then r ^^^ a else r) 0

/-- The generator polynomial of RS(544,514), the product of x + α^j for j = 0 to 29, highest power first (PRESUMED, as `gfMul`). -/
def rsGen : List Nat :=
  ((List.range 30).foldl (fun (g : List Nat × Nat) _ =>
    (List.zipWith (fun a b => a ^^^ gfMul g.2 b) (g.1 ++ [0]) (0 :: g.1), gfMul 2 g.2)) ([1], 1)).1

/-- The 30 parity symbols of a message: the remainder of the message times x^30 (PRESUMED, as `gfMul`). -/
def rsParity (g msg : List Nat) : List Nat :=
  msg.foldl (fun r m => let q := m ^^^ r.headD 0; List.zipWith (fun a b => a ^^^ gfMul q b) (r.tail ++ [0]) g.tail) (List.replicate 30 0)

/-- The RS(544,514) codeword that carries a flit on its lane: 514 message symbols of 10 bits, the first bit sent the least significant,
then the parity (R355). -/
def flitCodeword (f : Flit) : List Nat :=
  let msg := (chunks 10 514 (flitBits f)).map ofBits
  msg ++ rsParity rsGen msg

/-- A codeword decodes with at most 15 of its symbols wrong (R355). -/
def flitDecodes (f : Flit) : Bool := decide (f.wrong ≤ 15)

/-- A flit is good when its codeword decodes and its CRC matches (R357). -/
def flitGood (f : Flit) : Bool :=
  flitDecodes f && f.slots.length == 20 && f.slots.all (fun s => s.length == 8) &&
    trailerWord f 7 == flitCrc f.p.toNat f.slots (f.slots.getD 19 [])

/-- The index of the first queued packet that may begin: its class has credit for all of it, and no earlier packet of its
class waits. -/
def pickPacket (cred : List Nat) (held : List Nat) : Nat → List Packet → Option Nat
  | _, [] => none
  | i, k :: l =>
    let c := hdrClass (k.w 0)
    if held.contains c then pickPacket cred held (i + 1) l
    else if k.slots ≤ cred.getD c 0 then some i
    else pickPacket cred (c :: held) (i + 1) l

/-- n slots filled from the packet being sent and the queue: prefix bits and slots, lowest first. -/
def fillSlots : Nat → Port → List (Bool × List Word) × Port
  | 0, x => ([], x)
  | n + 1, x =>
    match x.cur with
    | s :: cur =>
      let r := fillSlots n { x with cur := cur }
      ((false, s) :: r.1, r.2)
    | [] =>
      match pickPacket x.cred [] 0 x.txq with
      | none =>
        let r := fillSlots n x
        ((false, List.replicate 8 0) :: r.1, r.2)
      | some i =>
        let k := x.txq.getD i {}
        let c := hdrClass (k.w 0)
        let r := fillSlots n { x with txq := x.txq.eraseIdx i, cur := k.slotWords, cred := x.cred.set c (x.cred.getD c 0 - k.slots) }
        ((true, (k.h ++ List.replicate 8 0).take 8) :: r.1, r.2)

/-- Whether a port has a packet, or part of one, that it may send. -/
def Port.ready (x : Port) : Bool := !x.cur.isEmpty || (pickPacket x.cred [] 0 x.txq).isSome

/-- The time stamps of flits are those of the local time counter of the port's die. -/
def portDie (p : Nat) : Nat := p / 4

/-- One new data flit: packets within credit, credits returned; kept in the replay buffer (R356 to R358, R360). -/
def Device.sendData (d : Device) (p : Nat) : Device :=
  let (ss, x) := fillSlots 19 (d.port p)
  let pb := ofBits (ss.map Prod.fst) + 2 ^ 19
  let t := [x.t0 x.txNext] ++ crWords x.ret ++ [0, 0]
  let f := mkFlit pb (ss.map Prod.snd) t
  let x := { x with
    txNext := (x.txNext + 1) % 4096
    ret := List.replicate 7 0
    replay := x.replay ++ [(f, d.time (portDie p))]
    sent := x.sent + 1 }
  ((d.setPort p x).emit (.flit p f)).progress (wPort p)

/-- The next flit of a replay: payload and credits unchanged, acknowledgement and CRC current (R359). -/
def Device.resend (d : Device) (p : Nat) (f : Flit) : Device :=
  let x := d.port p
  let t := (x.t0 (fld (trailerWord f 0) 31 20)) :: ((f.slots.getD 19 []).drop 1)
  let g := mkFlit f.p.toNat (f.slots.take 19) t
  ((d.setPort p { x with replay := x.replay.set x.sent (f, d.time (portDie p)), sent := x.sent + 1 }).emit (.flit p g)).progress (wPort p)

/-- A control flit (R356, R363). -/
def Device.sendControl (d : Device) (p : Nat) (c : List Word) : Device :=
  let x := d.port p
  let zero := List.replicate 18 (List.replicate 8 (0 : Word))
  d.emit (.flit p (mkFlit 0 (((c ++ List.replicate 8 0).take 8) :: zero) [x.t0 x.txNext, 0, 0, 0, 0, 0, 0]))

/-- All eight receivers are locked and deskewed (R363). -/
def Port.rxReady (x : Port) : Bool := x.lock == 0xFF && x.heard == 0xFF

/-- The control word of a TRAIN flit of a lane. -/
def Port.trainWord (x : Port) (lane : Nat) : List Word :=
  [wd (2 ^ 28 + (if x.rxReady then 3 else 2) * 2 ^ 26 + x.rxReady.toNat * 2 ^ 25 + (x.state == 4).toNat * 2 ^ 24 + lane * 2 ^ 21),
    wd (x.rxNext * 2 ^ 20)]

/-- What a port sends on one lane in a codeword time (R356): in training, PRBS31 until the lane's receiver has locked, then TRAIN flits
(R363). -/
def Device.sendLane (p lane : Nat) (d : Device) : Device :=
  let x := d.port p
  if x.state = 0 then d
  else if !x.up then (if x.lock.testBit lane then d.sendControl p (x.trainWord lane) else d.emit (.prbs p lane))
  else match x.replay[x.sent]? with
    | some f => d.resend p f.1
    | none => if x.replay.length < 2048 && x.ready then d.sendData p else d.sendControl p [wd (2 * 2 ^ 28)]

/-- Receivers that lock on the partner's pattern in a codeword time: which of them do is open (R363). -/
def Device.lockLanes (d : Device) (p : Nat) : Device :=
  let x := d.port p
  if (x.state = 1 ∨ x.state = 4) ∧ x.lock ≠ 0xFF then (d.setPort p { x with lock := x.lock ||| d.freeWord.toNat % 256 }).drawn else d

/-! Acknowledgement (R358, R359). -/

/-- The acknowledgement of a trailer, and the NAK that asks for a replay. -/
def Device.ackTrailer (d : Device) (p : Nat) (t0 : Word) : Device :=
  let x := d.port p
  let oldest := (x.txNext + 4096 - x.replay.length) % 4096
  let k := if bit t0 7 then (fld t0 19 8 + 4097 - oldest) % 4096 else 0
  let x := if 0 < k ∧ k ≤ x.replay.length then
      let sentAt := (x.replay.getD (k - 1) (({ wrong := 0, p := 0, slots := [] } : Flit), 0)).2
      let rtt := min (d.time (portDie p) - sentAt) 65535
      { x with replay := x.replay.drop k, sent := x.sent - k, replays := 0, naks := [], nakDue := false, rtt := rtt }
    else x
  let id := fld t0 19 8
  d.setPort p (if bit t0 6 && !x.replay.isEmpty && !x.naks.contains id then { x with nakDue := true, naks := id :: x.naks } else x)

/-- A training attempt begins: no lane is locked or deskewed, and nothing is known of the partner. What launch power the laser drive of
each lane asks for is open (R26, R363). -/
def Device.newAttempt (d : Device) (p : Nat) : Device :=
  let x := d.port p
  let drive := (rangeFrom d.core.freeN 8).map (fun i => (Config.freeWord i).toNat % 1024)
  { (d.setPort p { x with lock := 0, heard := 0, told := none, attempt := x.attempt + 1, drive := drive }) with core.freeN := d.core.freeN + 8 }

/-- The launch power of a lane in tenths of a dBm: at most 3.0 dBm (R26). -/
def Port.launch (x : Port) (lane : Nat) : Nat := min 30 (x.drive.getD lane 0)

/-- Whether the laser drive of a port is limited (R26, R382). -/
def Port.clamped (x : Port) : Bool := (List.range 8).any (fun n => x.launch n != x.drive.getD n 0)

/-- A port enters RETRAIN (R362), with its event. -/
def Device.enterRetrain (d : Device) (p cause : Nat) : Device :=
  let x := d.port p
  (((d.setPort p { x with state := 4, former := x.state, tries := 0 }).newAttempt p).count (fabReg p 0x1C)).post 0x0601 (uPort p)
    (wd (cause * 2 ^ 28))

/-- A replay begins, or the port retrains in place of the ninth (R359). -/
def Device.beginReplay (d : Device) (p : Nat) : Device :=
  let x := d.port p
  if x.replays ≥ 8 then (d.setPort p { x with nakDue := false }).enterRetrain p 1
  else (d.setPort p { x with sent := 0, replays := x.replays + 1, nakDue := false }).count (fabReg p 0x18)

/-! Training and port states (R361 to R364). -/

/-- What OFF and TRAIN keep of a port: its partner's record, and received packets, whose slots are no longer owed. -/
def Port.cleared (x : Port) (state : Nat) : Port :=
  { state := state, rx := x.rx.map (fun r => (r.1, false)), peer := x.peer, rtt := x.rtt, attempt := x.attempt,
    drive := if state = 0 then [] else x.drive }

/-- A port goes from RETRAIN to TRAIN (R364). -/
def Device.linkDown (d : Device) (p : Nat) : Device :=
  let x := d.port p
  let n := x.replay.length
  ((d.setPort p { (x.cleared 1) with peer.valid := false }).newAttempt p).post 0x0602 (uPort p) (wd n)

/-- Training completes in FRESH mode: sequence numbers 0, full credit, ADMIT cleared (R362). -/
def Device.freshLink (d : Device) (p : Nat) : Device :=
  let x := (d.port p).cleared 2
  let d := d.setReg (fabReg p 0) (setBit (d.reg (fabReg p 0)) 30 false)
  d.setPort p { x with cred := [2560, 2560, 2560, 2560, 2560, 2560, 1024], lock := 0xFF, fresh := true }

/-- Training completes in RESUME mode: the former state, and a replay from what the partner expects next (R363, R358). -/
def Device.resumeLink (d : Device) (p rxNext : Nat) : Device :=
  let x := d.port p
  let oldest := (x.txNext + 4096 - x.replay.length) % 4096
  let k := (rxNext + 4096 - oldest) % 4096
  let x := if k ≤ x.replay.length then { x with replay := x.replay.drop k } else x
  d.setPort p { x with state := x.former, sent := 0, replays := 0, naks := [], nakDue := false, tries := 0, lock := 0xFF }

/-! Receiving (R356, R358, R366). -/

/-- A received packet's slots are freed: credits to return, if they are owed (R360). -/
def Port.freed (x : Port) (owed : Bool) (k : Packet) : Port :=
  let c := hdrClass (k.w 0)
  if owed then { x with ret := x.ret.set c (x.ret.getD c 0 + k.slots) } else x

/-- A whole packet has come: it waits in the receive buffer, or is dropped (R366). -/
def Device.packetCome (d : Device) (p : Nat) (k : Packet) : Device :=
  if k.bad then
    ((d.setPort p ((d.port p).freed true k)).dropBit 2 0x0607 (wd k.dst)).count (rteReg 0x24)
  else d.setPort p { d.port p with rx := (d.port p).rx ++ [(k, true)] }

/-- One slot of an accepted data flit. -/
def Device.slotCome (d : Device) (p : Nat) (s : Bool × List Word) : Device :=
  let x := d.port p
  if s.1 then
    let n := hdrSlots s.2
    if n = 0 then (d.setPort p { x with part := none }).packetCome p { h := s.2 }
    else d.setPort p { x with part := some { h := s.2, left := n } }
  else match x.part with
    | none => d
    | some r =>
      let got := r.got ++ [s.2]
      if r.left ≤ 1 then
        (d.setPort p { x with part := none }).packetCome p
          { h := r.h, body := (wordsToBytes got.flatten).take (fld (wordAt r.h 2) 9 0) }
      else d.setPort p { x with part := some { r with left := r.left - 1, got := got } }

def Device.slotsCome (d : Device) (p : Nat) : List (Bool × List Word) → Device
  | [] => d
  | s :: l => (d.slotCome p s).slotsCome p l

/-- A flit's codeword counted (R382). -/
def Device.codeword (d : Device) (p : Nat) (f : Flit) : Device :=
  if !flitDecodes f then d.count (fabReg p 0x14) else if f.wrong ≠ 0 then d.count (fabReg p 0x10) else d

/-- DATA_FLIT (R358): a good flit's acknowledgement counts whether the flit is expected or not. -/
def devDataFlit (p : Nat) (f : Flit) (d : Device) : Device :=
  let d := d.codeword p f
  let x := d.port p
  if !x.up ∨ !f.p.toNat.testBit 19 then d
  else if !flitGood f then d.setPort p { x with nak := true }
  else
    let d := d.ackTrailer p (trailerWord f 0)
    let x := d.port p
    if fld (trailerWord f 0) 31 20 ≠ x.rxNext then d.setPort p { x with nak := true }
    else
      let x := { x with rxNext := (x.rxNext + 1) % 4096, ackv := true, nak := false, cred := (x.cred.zip (flitReturns f)).map (fun c => c.1 + c.2) }
      (d.setPort p x).slotsCome p (((List.range 19).map f.p.toNat.testBit).zip f.slots)

/-- CONTROL_FLIT (R363): a TRAIN flit shows that its lane's receiver has locked and found its boundaries, and says what the partner has
reached; an IDLE flit carries an acknowledgement. -/
def devControlFlit (p : Nat) (f : Flit) (d : Device) : Device :=
  let d := d.codeword p f
  let x := d.port p
  if f.p.toNat.testBit 19 ∨ x.state = 0 then d
  else if !flitGood f then (if x.up then d.setPort p { x with nak := true } else d)
  else
    let c0 := wordAt (f.slots.getD 0 []) 0
    match fld c0 31 28 with
    | 1 =>
      let lane := 2 ^ fld c0 23 21
      if x.up then d
      else d.setPort p { x with lock := x.lock ||| lane, heard := x.heard ||| lane,
                                told := some (bit c0 25, bit c0 24, fld (wordAt (f.slots.getD 0 []) 1) 31 20) }
    | 2 => if x.up then d.ackTrailer p (trailerWord f 0) else d
    | _ => d

/-- CREDIT_RETURN (R360): a data flit with the credits to return, within the replay window. -/
def devCreditReturn (p : Nat) (d : Device) : Device :=
  let x := d.port p
  if x.up && x.ret.any (fun c => c != 0) && x.replay.length < 2048 && x.sent == x.replay.length then d.sendData p else d

/-- REPLAY (R359): a NAK has asked for one, or the oldest flit has gone 4 µs since it was last sent. A timed replay is counted with the
acknowledgement that the oldest flit waits for. -/
def devReplay (p : Nat) (d : Device) : Device :=
  let x := d.port p
  match x.replay with
  | [] => d
  | f :: _ =>
    let id := (x.txNext + 8191 - x.replay.length) % 4096
    if !x.up then d
    else if x.nakDue then d.beginReplay p
    else if x.sent ≠ 0 ∧ f.2 + 4000 ≤ d.time (portDie p) then
      (d.setPort p { x with naks := if x.naks.contains id then x.naks else id :: x.naks }).beginReplay p
    else d

/-- LOSS_OF_SIGNAL (R362). -/
def devLossOfSignal (p lane : Nat) (d : Device) : Device :=
  let x := d.port p
  if x.up then d.enterRetrain p 2
  else
    let drop (m : Nat) : Nat := if m.testBit lane then m - 2 ^ lane else m
    d.setPort p { x with lock := drop x.lock, heard := drop x.heard }

/-- RETRAIN (R362). -/
def devRetrain (p : Nat) (d : Device) : Device := if (d.port p).up then d.enterRetrain p 3 else d

/-- PORT_ENABLE (R362): a write of EN 1; in a module that has FAILED every port stays OFF (R497). -/
def devPortEnable (p : Nat) (d : Device) : Device :=
  if d.pwr.state = .failed then d
  else
  let d := d.setReg (fabReg p 0) (setBit (d.reg (fabReg p 0)) 31 true)
  if (d.port p).state = 0 then (d.setPort p ((d.port p).cleared 1)).newAttempt p else d

/-! Keepalives and link state sent (R378, R380). -/

/-- A KA packet. -/
def Device.kaPacket (d : Device) (p : Nat) : Packet :=
  { h := [mkH0 7 3 0 0 false, d.mkH1 0, wd (p * 2 ^ 24 + (d.port p).state * 2 ^ 21), 0, 0, 0, 0, 0] }

/-- KEEPALIVE (R378). -/
def devKeepalive (p : Nat) (d : Device) : Device := if (d.port p).up then d.queueAt p (d.kaPacket p) else d

/-- The records of this module's own links. -/
def Device.linkRecords (d : Device) : List Word :=
  (List.range 16).flatMap (fun p =>
    let r := (d.port p).peer
    if (d.port p).up && r.valid then [wd (p * 2 ^ 28 + (d.port p).state * 2 ^ 25 + r.module), wd (r.port * 2 ^ 28 + r.kind * 2 ^ 24)]
    else [])

/-- An LSA on every LINKED or ACTIVE port but one. -/
def Device.flood (d : Device) (but : Nat) (body : List Byte) : Device :=
  (List.range 16).foldl (fun d p =>
    if (d.port p).up ∧ p ≠ but then
      d.queueAt p { h := [mkH0 8 3 0 0 false, d.mkH1 0, wd body.length, 0, 0, 0, 0, 0], body := body }
    else d) d

/-- Synian sends its own link-state record (R380). -/
def Device.ownLsa (d : Device) : Device :=
  let me := d.selfMod
  let seq := mget 0 d.fab.lsa me + 1
  let l := d.linkRecords
  let w := [wd me, wd seq, wd (l.length / 2), 0, 0, 0, 0, 0] ++ l
  ({ d with fab.lsa := mset 0 d.fab.lsa me seq, fab.lsdb := mset [] d.fab.lsdb me w }).flood 16 (wordsToBytes w)

end Sys2Proof.Machine
end

