-- ==== Sys2Proof/Machine/Network.lean ====
section
/-! DEFINITION. The input-current and junction-temperature limits, local time and the grog test port (R26, R37 to R39, R71,
R456, R457). -/

namespace Sys2Proof.Machine

/-! Limits of the feed and of the junctions (R26, R457). -/

def pwrReg (off : Nat) : Nat := mreg 11 off
def coneReg (die off : Nat) : Nat := dreg die 13 off

/-- Input current over the limit: 64 A, or 3,200 W at the input voltage. -/
def overCurrent (mv ma : Nat) : Bool := decide (64000 < ma) || decide (3200000000 < mv * ma)

/-- The input readings of R462. -/
def Device.setInput (d : Device) (mv ma : Nat) : Device :=
  ((d.setReg (pwrReg 4) (wd (mv % 2 ^ 16))).setReg (pwrReg 8) (wd (ma % 2 ^ 17))).setReg (pwrReg 0xC) (wd (mv * ma / 1000000 % 2 ^ 16))

/-- The clamp's ceiling on a die's supply; far above the window while no clamp is in force. -/
def Device.ceiling (d : Device) (die : Nat) : Nat :=
  match d.pwr.clamp with
  | none => 1023
  | some l => l.getD die 1023

/-- The core supply in force on a die, in mV. -/
def Device.vact (d : Device) (die : Nat) : Nat := fld (d.reg (pwrReg (0x20 + 4 * die))) 9 0

/-- CURRENT_CLAMP (R26): with the input over the limit, the supplies of all dies go down one step of 5 mV together. DESIGN
CHOICE: the clamp may go below the window of a setting, 0.60 V; R26 gives that end for settings only. -/
def devCurrentClamp (mv ma : Nat) (d : Device) : Device :=
  let d := d.setInput mv ma
  if overCurrent mv ma then
    let vs := (List.range 4).map (fun die => d.vact die - 5)
    let d := if d.pwr.clamp.isNone then d.post 0x0A04 uModule (d.reg (pwrReg 0xC)) else d
    let d := { d with pwr.clamp := some vs }
    (List.range 4).foldl (fun d die => d.setReg (pwrReg (0x20 + 4 * die)) (wd (vs.getD die 0))) d
  else d

/-- CLAMP_RELEASE (R26, R457): the load has fallen, and the supplies move back to their settings. -/
def devClampRelease (mv ma : Nat) (d : Device) : Device :=
  let d := d.setInput mv ma
  if overCurrent mv ma then d else { d with pwr.clamp := none }

/-- The temperatures of a die's cones, as last read, in 0.1 °C. -/
def Device.coneTemps (d : Device) (die : Nat) : List Int :=
  (List.range 16).map (fun c => sext 16 (fld (d.reg (coneReg die (0x100 + 4 * c))) 15 0))

/-- Watchdog slots of a die. -/
def dieSlot (die w : Nat) : Bool := decide (w < 256 ∧ w / 64 = die)

/-- THERM_TRIP (R26): a die with a cone at 105 °C is held, and the event is posted on the trip. -/
def devThermTrip (die : Nat) (d : Device) : Device :=
  if (d.coneTemps die).any (fun t => decide (1050 ≤ t)) && !mget false d.pwr.held die then
    (({ d with pwr.held := mset false d.pwr.held die true }).disarmSlots (dieSlot die)).post 0x0A03 (uDie die)
      (wd (fld (d.reg (coneReg die 0)) 15 0 * 2 ^ 16))
  else d

/-- THERM_RELEASE (R26): all cones of the held die read below 100 °C. Its watchdog timers start from zero (R467). -/
def devThermRelease (die : Nat) (d : Device) : Device :=
  if (d.coneTemps die).all (fun t => decide (t < 1000)) then
    ({ d with pwr.held := mset false d.pwr.held die false }).disarmSlots (dieSlot die)
  else d

/-- CONE_REPORT (R456, R462): a cone's rate and temperature and the die's measured supply; CONE_DIE shows the lowest
rate and the highest temperature. -/
def devConeReport (die c : Nat) (rate temp : BitVec 16) (mv : BitVec 10) (d : Device) : Device :=
  let d := d.setReg (coneReg die (0x100 + 4 * c)) (wd (rate.toNat * 2 ^ 16 + temp.toNat))
  let d := d.setReg (coneReg die 4) (wd mv.toNat)
  let rates := (List.range 16).map (fun c => fld (d.reg (coneReg die (0x100 + 4 * c))) 31 16)
  let temps := d.coneTemps die
  let lowest := rates.foldl min (rates.headD 0)
  let highest := temps.foldl max (temps.headD 0)
  d.setReg (coneReg die 0) (wd (lowest * 2 ^ 16 + wrap 16 highest))

/-- A setting of the core supply: rounded down to 5 mV, clamped to the window (R26, R457). -/
def supplySetting (mv : Nat) : Nat := min 800 (max 600 (mv / 5 * 5))

/-- PWR_VSET_WRITE (R457): Synian alone sets it. -/
def devPwrVsetWrite (ag : Agent) (die : Nat) (v : Word) (d : Device) : Device :=
  if ag = .mgmt then d.setReg (pwrReg (0x10 + 4 * die)) (wd (supplySetting (fld v 9 0))) else d

/-- One microsecond of a supply on its way to the lower of its setting and the ceiling (R457). -/
def Device.moveSupply (d : Device) (die : Nat) : Device :=
  let want := min (fld (d.reg (pwrReg (0x10 + 4 * die))) 9 0) (d.ceiling die)
  let v := d.vact die
  d.setReg (pwrReg (0x20 + 4 * die)) (wd (if v < want then min want (v + 5) else max want (v - 5)))

/-! The grog test port (R70, R71). -/

def grgReg (die off : Nat) : Nat := dreg die 11 off

/-- GRG_TEST_EVALUATION (R71): key and counter as they stand; ignored while one is in progress. -/
def devGrgTestEvaluation (die : Nat) (d : Device) : Device :=
  if d.dieInReset die ∨ bit (d.reg (grgReg die 0xC)) 0 then d
  else
    let x := grog (d.reg (grgReg die 0)) (d.reg (grgReg die 4))
      (d.reg (grgReg die 0x10), d.reg (grgReg die 0x14), d.reg (grgReg die 0x18), d.reg (grgReg die 0x1C))
    let d := d.setReg (grgReg die 0xC) 1
    { d with core.grg := mset [] d.core.grg die [x.1, x.2.1, x.2.2.1, x.2.2.2] }

/-- GRG_TEST_DONE (R71): the words appear and TBUSY clears. -/
def devGrgTestDone (die : Nat) (d : Device) : Device :=
  let l := mget [] d.core.grg die
  if bit (d.reg (grgReg die 0xC)) 0 then
    let d := { d with core.grg := mset [] d.core.grg die [] }
    let d := d.setReg (grgReg die 0xC) 0
    (List.range 4).foldl (fun d n => d.setReg (grgReg die (0x30 + 4 * n)) (wordAt l n)) d
  else d

end Sys2Proof.Machine
end

