-- ==== Sys2Proof/Machine/Boot.lean ====
section
/-! DEFINITION. Start-up, the configuration image, firmware images, fuses, measurements and quotes (R433 to R455,
R459 to R463). -/

namespace Sys2Proof.Machine

def mgtReg (off : Nat) : Nat := mreg 7 off
def secReg (off : Nat) : Nat := mreg 8 off
def cfgReg (off : Nat) : Nat := mreg 9 off

/-! The configuration image (R442, R443). -/

/-- Word i of the image in force. -/
def Device.cfgCur (d : Device) (i : Nat) : Word := d.reg (cfgReg (0x100 + 4 * i))

/-- CHECK over words C0 to C62. -/
def cfgCheck (c : List Word) : Word := crc32c (wordsToBytes (c.take 63))

/-- Every reserved field 0 and every field in its range. -/
def cfgRange (c : List Word) : Bool :=
  let w := wordAt c
  let within (x lo hi : Nat) : Bool := decide (lo ≤ x ∧ x ≤ hi)
  fld (w 1) 31 16 == 0 && fld (w 3) 31 15 == 0 && fld (w 4) 31 16 == 0 && within (fld (w 5) 31 16) 0 3200 && within (fld (w 5) 15 0) 600 800 &&
    within (w 6).toNat 10 1000000 && fld (w 7) 31 16 == 0 && within (fld (w 7) 15 8) 1 168 && within (fld (w 7) 7 0) 1 168 &&
    (List.range 6).all (fun i => within (w (8 + i)).toNat 50 10000000) && (List.range 49).all (fun i => w (14 + i) == 0)

/-- REASON of R443: 0 where the image is accepted. CHECK is not tested of a staged image (R445). -/
def cfgReason (c : List Word) (check : Bool) : Nat :=
  if wordAt c 0 ≠ 0x46434B48 then 2
  else if fld (wordAt c 1) 15 0 ≠ 1 then 3
  else if check && wordAt c 63 != cfgCheck c then 4
  else if !cfgRange c then 5 else 0

/-- The factory defaults. -/
def cfgDefaults : List Word :=
  let c : List Word := [0x46434B48, 1, 0, 0x7FFF, 0, 720, 1000, wd (24 * 256 + 24), 10000, 10000, 100000, 100000, 100000, 1000000] ++
    List.replicate 49 0
  c ++ [cfgCheck c]

/-- The image is in force: `CFG_CURi`, the module number, and the initial values it holds. -/
def Device.applyConfig (d : Device) (c : List Word) : Device :=
  let d := (c.zipIdx).foldl (fun d x => d.setReg (cfgReg (0x100 + 4 * x.2)) x.1) d
  let d := d.setReg (rteReg 0) (setFld (d.reg (rteReg 0)) 14 0 (fld (wordAt c 3) 14 0))
  let d := d.setReg (rteReg 8) (wordAt c 6)
  let d := d.setReg (pwrReg 0x30) (wd (fld (wordAt c 5) 31 16))
  let d := d.setReg (mreg 2 4) (setFld (d.reg (mreg 2 4)) 7 0 (fld (wordAt c 7) 15 8))
  d.setReg (mreg 1 4) (setFld (d.reg (mreg 1 4)) 7 0 (fld (wordAt c 7) 7 0))

/-! Firmware images (R447, R448). -/

/-- Words of an image header. -/
def imgSeq (h : List Word) : Nat := (wordAt h 2).toNat
def imgSvn (h : List Word) : Nat := fld (wordAt h 3) 7 0
def imgKey (h : List Word) : Nat := fld (wordAt h 3) 9 8
def imgBody (h : List Word) : Nat := (wordAt h 4).toNat

/-- The rollback floor and the revoked key slots as the fuses hold them now. -/
def Device.floor (d : Device) : Nat := max Config.fuseFloor.val d.boot.floor
def Device.revoked (d : Device) : Nat := Config.fuseRevoked.toNat ||| d.boot.revoked

def headerOk (h : List Word) : Bool :=
  wordAt h 0 == 0x494E5953 && wordAt h 1 == 1 && fld (wordAt h 3) 31 10 == 0 && wordAt h 6 == 0 && wordAt h 7 == 0 &&
    (List.range 32).all (fun i => wordAt h (32 + i) == 0) && decide (1 ≤ imgBody h ∧ imgBody h ≤ 0x1BFE000) &&
    decide ((wordAt h 5).toNat % 4 = 0 ∧ (wordAt h 5).toNat < imgBody h ∧ imgSvn h ≤ 64)

/-- FBREASON of R448 for an image whose bytes `get` reads (offset, count), in the order of its checks, where a read may meet an error: 0
where it verifies. -/
def Device.imageReason (d : Device) (err : ReadError) (get : Nat → Nat → List Byte) : Nat :=
  let hb := get 0 256
  let h := bytesToWords 64 hb
  if err = .header then 7
  else if !headerOk h then 1
  else if (d.revoked).testBit (imgKey h) || sha256 (get 64 32) != Config.fuseHash (imgKey h) then 2
  else if imgSvn h < d.floor then 5
  else if err = .signature then 7
  else if !Config.slhVerify (get 64 32) (get 0x100 7856) hb then 3
  else if err = .body then 7
  else if sha256 (get 0x2000 (imgBody h)) != get 32 32 then 4 else 0

def slotBase (s : Nat) : Nat := if s = 0 then 0x100000 else 0x1D00000
def slotLen : Nat := 28 * 2 ^ 20

def Device.slotGet (d : Device) (s off n : Nat) : List Byte := d.flashBytes (slotBase s + off) n
def Device.imageHeader (d : Device) (s : Nat) : List Word := bytesToWords 64 (d.slotGet s 0 256)

/-- FBREASON of a slot. -/
def Device.slotReason (d : Device) (err : ReadError) (s : Nat) : Nat := d.imageReason err (d.slotGet s)

/-! Measurements (R452). -/

def Device.measurement (d : Device) (k : Nat) : List Byte :=
  wordsToBytes ((List.range 8).map (fun w => d.reg (secReg (0x100 + 0x20 * k + 4 * w))))

def Device.setMeasurement (d : Device) (k : Nat) (l : List Byte) : Device :=
  ((bytesToWords 8 l).zipIdx).foldl (fun d x => d.setReg (secReg (0x100 + 0x20 * k + 4 * x.2)) x.1) d

/-- M = SHA-256(M, d). -/
def Device.extendM (d : Device) (k : Nat) (dg : List Byte) : Device := d.setMeasurement k (sha256 (d.measurement k ++ dg))

/-! Start-up (R435 to R441, R449). -/

/-- `MGT_BOOTSTAT` fields. -/
def Device.bootField (d : Device) (hi lo v : Nat) : Device := d.setReg (mgtReg 0) (setFld (d.reg (mgtReg 0)) hi lo v)

/-- `SEC_STAT` as the running image and the fuses give it; FALLBACK as it stands. -/
def Device.secStat (d : Device) (fallback : Bool) : Device :=
  let h := d.boot.hdr
  d.setReg (secReg 0) (wd (d.boot.slot * 2 ^ 31 + fallback.toNat * 2 ^ 30 + imgSvn h * 2 ^ 22 + d.floor * 2 ^ 14 + imgKey h * 2 ^ 12 +
    d.revoked * 2 ^ 8))

/-- Time since step 1 in units of 10 ms (R441). The steps that POWER_GOOD carries out take no time of the model's. -/
def Device.bootTime (d : Device) : Nat := d.core.now / 10 ^ 7

/-- A boot-log record (R441): written once, at step 10 or at a stop. -/
def Device.bootLog (d : Device) (time : Nat) : Device :=
  let n := Config.bootStarts + d.boot.starts
  let s := d.reg (mgtReg 0)
  let w0 := wd (fld s 27 24 * 2 ^ 28 + fld s 19 16 * 2 ^ 24 + fld (d.reg (cfgReg 0)) 30 28 * 2 ^ 20 + d.boot.slot * 2 ^ 16 + n % 2 ^ 16)
  let l := wordsToBytes ([w0, wd time] ++ List.replicate 6 0)
  { d with boot.flash := { at_ := 0x20000 + 32 * (n % 4096), len := 32, data := some l } :: d.boot.flash }

/-- Every fabric port is OFF (R362, R497). -/
def Device.portsOff (d : Device) : Device :=
  (List.range 16).foldl (fun d p =>
    (d.setReg (fabReg p 0) (setBit (d.reg (fabReg p 0)) 31 false)).setPort p ((d.port p).cleared 0)) d

/-- Start-up stops with a failure code, and the module is FAILED (R437, R497). A module that had become ready has its record already. -/
def Device.bootFail (d : Device) (code : Nat) : Device :=
  let e := (({ d with pwr.state := .failed, boot.synian := false }.bootField 27 24 code).bootField 31 28 2).portsOff
  if d.pwr.state = .ready then e else e.bootLog d.bootTime

/-- An image starts on `mgmt`: M0 to M4 are extended and locked (R435, R449, R452). DESIGN CHOICE: after a fallback they are extended again, from
where they stand, as no measurement register changes but by extension. -/
def Device.startImage (d : Device) (s fb : Nat) : Device :=
  let h := d.imageHeader s
  let fall := !d.boot.failed.isEmpty
  let d := { d with boot.synian := true, boot.bootok := false, boot.slot := s, boot.hdr := h }
  let d := d.bootField 19 16 fb
  let d := d.secStat fall
  let d := d.extendM 0 Config.romHash
  let d := d.extendM 1 (sha256 (wordsToBytes h))
  let d := d.extendM 2 (sha256 (wordsToBytes ((List.range 64).map d.cfgCur)))
  let d := d.extendM 3 (sha256 (d.flashBytes 0 65536))
  let d := d.extendM 4 (sha256 (wordsToBytes [wd (d.floor + d.revoked * 2 ^ 8 + imgKey h * 2 ^ 16 + fb * 2 ^ 24), 0, 0, 0]))
  if fall then d.post 0x0902 uMgmt (wd (fb * 2 ^ 28 + s)) else d

/-- A slot is tried after those that failed with `fb`; where it fails too the other is tried, and with none left the start-up stops. -/
def Device.trySlots (d : Device) (err : Nat → ReadError) (fb : Nat) : List Nat → Device
  | [] => (d.bootField 19 16 fb).bootFail 4
  | s :: l =>
    let r := d.slotReason (err s) s
    if r = 0 then d.startImage s fb
    else ({ d with boot.failed := s :: d.boot.failed }).trySlots err r l

/-- The slot tried first (R449): greater SEQ; A on equal SEQs or where neither header is readable. -/
def Device.firstSlot (d : Device) (err : Nat → ReadError) : Nat :=
  let a := d.imageHeader 0
  let b := d.imageHeader 1
  let good (s : Nat) (h : List Word) : Bool := err s != .header && wordAt h 0 == 0x494E5953
  if good 1 b && (!good 0 a || decide (imgSeq a < imgSeq b)) then 1 else 0

/-- The population check (R261): `MRD_POP` for the sockets' capacities in GiB (0: no answer) and their codes, each 0 no answer, 1 128 GiB,
2 256 GiB, 3 otherwise. PARTMISM compares capacities alone (R267). -/
def socketCode (cap : Nat) (kind : Bool) : Nat :=
  if cap = 0 then 0 else if !kind then 3 else if cap = 128 then 1 else if cap = 256 then 2 else 3

def popWord (caps codes : List Nat) (part : Nat) : Word :=
  let g := caps.headD 0
  let agree := g != 0 && caps.all (fun x => x == g)
  let own := if part = 1 then 128 else if part = 2 then 256 else 0
  wd (((part == 1 || part == 2) && codes.all (fun x => x == part)).toNat * 2 ^ 31 + (agree && g != own).toNat * 2 ^ 16 +
    (codes.zipIdx.map (fun x => x.1 * 4 ^ x.2)).sum)

/-- The part record checked: its magic and its check word (R437, R441). -/
def partOk (l : List Byte) : Bool := wordAt (bytesToWords 4 l) 0 == 0x52504B48 && l.drop 65532 == toBytes 4 (crc32c (l.take 65532)).toNat

/-- POWER_GOOD (R435): steps 1 to 6. -/
def devPowerGood (presence : Bool) (b : BootProbe) (d : Device) : Device :=
  if d.pwr.state ≠ .off ∨ !presence then d
  else
    let d := { d with pwr.state := .starting, core.ltc := [], core.now := 0, core.armed := [], boot.starts := d.boot.starts + 1, boot.failed := [] }
    let d := d.bootField 23 20 3
    if !b.flashOk then d.bootFail 1
    else
      let rec_ := d.flashBytes 0 65536
      if !b.partOk ∨ !partOk rec_ then d.bootFail 2
      else
        let part := fld (wordAt (bytesToWords 4 rec_) 2) 1 0
        let d := ({ d with boot.part := part, core.cap := if part = 1 then 2 ^ 40 else 2 ^ 41 }).bootField 23 20 4
        let caps := (List.range 8).map (fun m => b.dimmCap.getD m 0)
        let pop := popWord caps ((List.range 8).map (fun m => socketCode (caps.getD m 0) (b.dimmKind.getD m false))) part
        let d := d.setReg (mreg 2 0) pop
        if !bit pop 31 then (d.post 0x040B uModule 0).bootFail 3
        else
          let img := bytesToWords 64 (d.flashBytes 0x10000 256)
          let reason : Nat := if b.cfgOk then cfgReason img true else 1
          let d := d.applyConfig (if reason = 0 then img else cfgDefaults)
          let d := d.setReg (cfgReg 0) (if reason = 0 then 0 else wd (2 ^ 31 + reason * 2 ^ 28))
          let d := d.bootField 23 20 6
          let err (s : Nat) : ReadError := b.slotErr.getD s .header
          let s := d.firstSlot err
          let d := d.trySlots err 0 [s, 1 - s]
          if d.boot.synian && reason != 0 then d.post 0x0901 uMgmt (wd (reason * 2 ^ 28)) else d

/-- MGT_BOOTOK_WRITE (R435 step 7, R449): the deadline of R489 starts. -/
def devMgtBootokWrite (v : Word) (d : Device) : Device :=
  if !bit v 0 ∨ !d.boot.synian ∨ d.boot.bootok ∨ d.pwr.state ≠ .starting then d
  else
    let d := ({ d with boot.bootok := true, ras.kick := d.time 0 }).bootField 23 20 7
    let d := (List.range 4).foldl (fun d die => d.setReg (pwrReg (0x10 + 4 * die)) (wd (supplySetting (fld (d.cfgCur 5) 15 0)))) d
    (List.range 16).foldl (fun d p => if bit (d.cfgCur 4) p then devPortEnable p d else d) d

/-- BOOTOK_TIMEOUT (R449): the other image starts unless it has failed; the running one counts as failed. -/
def devBootokTimeout (err : ReadError) (d : Device) : Device :=
  if !d.boot.synian ∨ d.boot.bootok ∨ d.pwr.state ≠ .starting ∨ !d.expired .bootok (2 * 10 ^ 9) then d
  else
    let d := d.disarm .bootok
    let s := d.boot.slot
    let fell := !d.boot.failed.isEmpty
    let d := { d with boot.synian := false, boot.failed := s :: d.boot.failed }
    if fell then (d.bootField 19 16 6).bootFail 4 else d.trySlots (fun _ => err) 6 [1 - s]

/-- Synian writes the scrub intervals: those of the configuration image, or 1 h for a tier that it has answered with SCRUB (R442, R479,
R488). -/
def Device.writeScrubs (d : Device) : Device :=
  let hours (tier dflt : Nat) : Nat := if d.core.hourly.contains tier then 1 else dflt
  let d := d.setReg (mreg 2 4) (setFld (d.reg (mreg 2 4)) 7 0 (hours 1 (fld (d.cfgCur 7) 15 8)))
  d.setReg (mreg 1 4) (setFld (d.reg (mreg 1 4)) 7 0 (hours 0 (fld (d.cfgCur 7) 7 0)))

/-- MODULE_READY (R435 to R437): training and zeroing end; after a module reset Synian writes its policy and READY returns (R483). -/
def devModuleReady (t1ok t2ok : Bool) (tready : Nat) (d : Device) : Device :=
  if d.pwr.state = .ready then
    if !d.modRuns ∨ bit (d.reg (mreg 5 0)) 31 then d
    else
      let d := d.writeScrubs
      { d.setReg (mreg 5 0) (setBit (d.reg (mreg 5 0)) 31 true) with hif.ever := true }
  else if d.pwr.state ≠ .starting ∨ !d.boot.bootok ∨ !d.modRuns then d
  else if !t1ok then (d.bootField 23 20 8).bootFail 5
  else if !t2ok then (d.bootField 23 20 8).bootFail 6
  else
    let d := { d with core.mem := [], core.pois := [], core.flaws := [], pwr.state := .ready, hif.ever := true }
    let d := ((d.bootField 31 28 1).bootField 23 20 10).bootField 15 0 tready
    (d.setReg (mreg 5 0) (setBit (d.reg (mreg 5 0)) 31 true)).bootLog tready

/-! Programming (R445, R446). -/

/-- PROGRAM (R445): the staged words are taken; ignored while BUSY. -/
def devProgram (d : Device) : Device :=
  if d.boot.prog.isSome then d
  else ({ d with boot.prog := some ((List.range 63).map (fun i => d.reg (cfgReg (0x200 + 4 * i)))) }).setReg (cfgReg 8) (wd (2 ^ 31))

/-- The configuration sector erased, then so many of the words programmed. -/
def Device.programConfig (d : Device) (l : List Word) : Device :=
  { d with boot.flash := [{ at_ := 0x10000, len := 4 * l.length, data := some (wordsToBytes l) }, { at_ := 0x10000, len := 4096 }] ++ d.boot.flash }

/-- Programming cut short: some number of words, never the check word (R446). -/
def Device.programCut (d : Device) (l : List Word) : Device := d.drawn.programConfig (l.take (d.freeWord.toNat % 64))

/-- CFG_PROGRAM (R446): programming ends. -/
def devCfgProgram (flashOk : Bool) (d : Device) : Device :=
  match d.boot.prog with
  | none => d
  | some c =>
    let result := if cfgReason c false ≠ 0 then 2 else if !flashOk then 3 else 1
    let d := { d with boot.prog := none }
    let d := if result = 2 then d else if result = 3 then d.programCut c else d.programConfig (c ++ [cfgCheck c])
    (d.setReg (cfgReg 8) (wd (result * 2 ^ 28))).post 0x0903 uMgmt (wd (result * 2 ^ 28))

/-! Updates and fuses (R450, R451). -/

/-- OFFER_UPDATE (R450): Synian reads and checks the offered image. -/
def devOfferUpdate (d : Device) : Device :=
  if d.boot.upd.isSome ∨ !d.boot.synian then d
  else
    let a := join (d.reg (secReg 0x20)) (d.reg (secReg 0x24))
    let n := (d.reg (secReg 0x28)).toNat
    let inside := d.rangeOk a n && [0, 1, 2, 3, 4, 5, 8].contains (regionOf a)
    let d := if inside then d.fetch a n else d
    let img := if inside then values (d.readBytes a n) else []
    let h := bytesToWords 64 (img.take 256)
    let r := d.imageReason .none (fun off k => (img.drop off).take k)
    let result := if !inside then 6 else if r = 5 then 4 else if r ≠ 0 ∨ n ≠ 0x2000 + imgBody h then 2
      else if imgSeq h ≤ imgSeq d.boot.hdr then 3 else 1
    ({ d with boot.upd := some { slot := 1 - d.boot.slot, result := result, image := img } }).setReg (secReg 0x30) (wd (2 ^ 31))

/-- Whether the flash controller refuses an erase or a program of n bytes: it touches the part record, or the slot of the image that runs
(R440). -/
def Device.flashRefused (d : Device) (a n : Nat) : Bool :=
  decide (0 < n) && (decide (a < 65536) || (d.boot.synian && decide (a < slotBase d.boot.slot + slotLen ∧ slotBase d.boot.slot < a + n)))

/-- A slot erased and programmed. -/
def Device.programSlot (d : Device) (s : Nat) (l : List Byte) : Device :=
  { d with boot.flash := [{ at_ := slotBase s, len := l.length, data := some l }, { at_ := slotBase s, len := slotLen }] ++ d.boot.flash }

/-- IMAGE_UPDATE (R450): the slot has been written, read back and checked again, or the image was refused; a slot whose image has come to run meanwhile is
left, with a flash error (R440). -/
def devImageUpdate (flashOk : Bool) (d : Device) : Device :=
  match d.boot.upd with
  | none => d
  | some u =>
    let barred := d.flashRefused (slotBase u.slot) slotLen
    let r := d.imageReason .none (fun off k => (u.image.drop off).take k)
    let result := if u.result ≠ 1 then u.result else if !flashOk ∨ barred then 5 else if r = 5 then 4 else if r ≠ 0 then 2 else 1
    let written := u.result == 1 && flashOk && !barred
    let d := { d with boot.upd := none }
    let d := if written then d.programSlot u.slot u.image else if result = 5 ∧ !barred then d.programSlot u.slot [] else d
    let s := if written then u.slot else 0
    (d.setReg (secReg 0x30) (wd (result * 2 ^ 27 + s * 2 ^ 26))).post 0x0904 uMgmt (wd (result * 2 ^ 28 + s))

/-- RAISE_FLOOR (R451). -/
def devRaiseFloor (d : Device) : Device :=
  let svn := imgSvn d.boot.hdr
  if d.floor < svn then
    (({ d with boot.floor := svn }).secStat (bit (d.reg (secReg 0)) 30)).post 0x0905 uMgmt (wd svn)
  else d

/-- REVOKE (R451): the running image's key slot is left. -/
def devRevoke (mask : BitVec 4) (d : Device) : Device :=
  let m := mask.toNat - (if !d.boot.hdr.isEmpty && mask.toNat.testBit (imgKey d.boot.hdr) then 2 ^ imgKey d.boot.hdr else 0)
  ({ d with boot.revoked := d.boot.revoked ||| m }).secStat (bit (d.reg (secReg 0)) 30)

/-! Extensions and quotes (R452 to R455). -/

/-- EXTEND (R452): M5 to M7; it waits while a quote is being signed. -/
def devExtend (k : Nat) (d : Device) : Device :=
  let dg := wordsToBytes ((List.range 8).map (fun w => d.reg (secReg (0x40 + 4 * w))))
  if k < 5 then d
  else if d.boot.quote.isSome then { d with boot.ext := d.boot.ext ++ [(k, dg)] }
  else d.extendM k dg

/-- Bytes 0 to 319 of a quote (R454). -/
def Device.quoteMessage (d : Device) : List Byte :=
  let h := d.boot.hdr
  let flags := d.boot.slot + 2 * (bit (d.reg (cfgReg 0)) 31).toNat + 4 * (bit (d.reg (secReg 0)) 30).toNat
  [0x48, 0x4B, 0x51, 0x31] ++ toBytes 2 1 ++ toBytes 2 flags ++ (sha256 identityKeys.1).take 8 ++ toBytes 2 d.selfMod ++
    toBytes 1 d.selfGen ++ toBytes 1 d.boot.part ++ toBytes 1 (imgSvn h) ++ toBytes 1 d.floor ++ toBytes 2 0 ++ toBytes 4 (imgSeq h) ++
    toBytes 4 0 ++ wordsToBytes ((List.range 8).map (fun w => d.reg (secReg (0x80 + 4 * w)))) ++ (List.range 8).flatMap d.measurement

/-- QUOTE (R455): the measurements and the nonce are those at the moment GO is written. -/
def devQuote (d : Device) : Device :=
  if d.boot.quote.isSome then d
  else ({ d with boot.quote := some d.quoteMessage }).setReg (secReg 0xA4) (wd (2 ^ 31))

/-- The whole quote: the message and its signature of 2,420 bytes. -/
def Device.signQuote (d : Device) (m : List Byte) : List Byte :=
  m ++ ((Config.mldsaSign identityKeys.2 d.core.freeN (ascii "HK1-QUOTE") m) ++ List.replicate 2420 0).take 2420

/-- A quote is complete: it appears in `SEC_QOUTi`, and the extensions that waited are made. -/
def Device.quoteDone (d : Device) : Device :=
  match d.boot.quote with
  | none => d
  | some m =>
    let d := ((bytesToWords 685 (d.signQuote m)).zipIdx).foldl (fun d x => d.setReg (secReg (0x1000 + 4 * x.2)) x.1) d
    let ext := d.boot.ext
    let d := ({ d.drawn with boot.quote := none, boot.ext := [] }).setReg (secReg 0xA4) (wd (2 ^ 30))
    ext.foldl (fun d x => d.extendM x.1 x.2) d

/-- QUOTE_READY (R455). -/
def devQuoteReady (d : Device) : Device := d.quoteDone

end Sys2Proof.Machine
end

