-- ==== Sys2Proof/Machine/Train.lean ====
section
/-! DEFINITION. The training-state engines and the master update path (R294 to R325). -/

namespace Sys2Proof

/-- A fault that happens in this command: its unit lies among the n. -/
def UnitFault.within (f : UnitFault) (n : Nat) : UnitFault :=
  match f with
  | .none => .none
  | .feedError i => .feedError (min i (n - 1))
  | .unitCheck i => .unitCheck (min i (n - 1))

/-- How many of n units run: the unit of a fault is finished (R321). -/
def UnitFault.units (f : UnitFault) (n : Nat) : Nat :=
  match f with
  | .none => n
  | .feedError i => min (i + 1) n
  | .unitCheck i => min (i + 1) n

def UnitFault.isNone (f : UnitFault) : Bool := match f with | .none => true | _ => false

end Sys2Proof

namespace Sys2Proof.Machine

def trsReg (die off : Nat) : Nat := dreg die 10 off

def cTop (c : Cmd) : Nat := fld (c.word 3) 31 28
def cCount (c : Cmd) : Nat := fld (c.word 5) 10 0 + 1

/-- A device address from a pair of descriptor words (R319). -/
def pairDA (w : Nat → Word) (k : Nat) : Nat := (w k).toNat + fld (w (k + 1)) 19 0 * 2 ^ 32

/-- Nonzero reserved bits in the upper word of such a pair. -/
def pairRes (w : Nat → Word) (k : Nat) : Bool := fld (w (k + 1)) 31 20 != 0

/-! Refusals of R320. -/

/-- Reserved and unused fields of a TRS command. -/
def trsCmdReserved (c : Cmd) : Bool :=
  let t := cTop c
  w012Reserved c true || partShare c || t == 0 || decide (t > 5) || c.word 7 != 0 || fld (c.word 5) 25 11 != 0 || fld (c.word 3) 24 0 != 0 ||
    awRes (c.word 4) || (t != 1 && fld (c.word 3) 27 25 != 0) || (t != 2 && fld (c.word 5) 31 26 != 0) ||
    (t != 2 && t != 4 && fld (c.word 5) 10 0 != 0) || (t == 4 && decide (cCount c > 64)) || (t != 2 && t != 4 && c.word 6 != 0) ||
    ((t == 2 || t == 4) && awRes (c.word 6))

/-- Reserved and unused fields of a descriptor. A KIND of PACK that R317 does not name is taken as reserved. -/
def trsDescReserved (t : Nat) (w : Nat → Word) : Bool :=
  let z (l : List Nat) : Bool := l.any (fun k => w k != 0)
  match t with
     | 1 => pairRes w 0 || pairRes w 2 || pairRes w 4 || pairRes w 6 || fld (w 8) 31 24 != 0 || fld (w 9) 23 0 != 0 ||
         fld (w 12) 31 16 != 0 || z [13, 14, 15]
     | 3 => pairRes w 0 || pairRes w 2 || pairRes w 4 || pairRes w 6 || pairRes w 10 || fld (w 8) 31 24 != 0 || fld (w 9) 26 24 != 0 ||
         z [12, 13, 14, 15]
     | 5 => pairRes w 0 || pairRes w 2 || fld (w 5) 19 0 != 0 || z [9, 12, 13, 14, 15] || fld (w 11) 31 16 != 0 ||
         (fld (w 5) 31 24 == 0 || decide (fld (w 5) 31 24 > 3)) || (fld (w 5) 31 24 == 3 && z [0, 1]) ||
         (fld (w 5) 31 24 == 2 && awRes (w 8)) || (fld (w 5) 31 24 != 2 && w 8 != 0)
     | _ => false

/-- A format a gradient or a record word may have. -/
def gradFmt (k : Nat) : Option Fmt := if k = 0 then some .fp32 else if k = 1 then some .bf16 else none
def recFmt (k : Nat) : Option Fmt :=
  if k = 0 then some .fp32 else if k = 1 then some .bf16 else if k = 2 then some .fp16 else none
def workFmt (k : Nat) : Option Fmt := match Fmt.ofCode k with | some .e8m0 => none | o => o

/-- A range list entry of R313: address, length and whether a reserved field is nonzero. -/
structure RangeEnt where
  da  : Nat
  len : Nat
  res : Bool
  deriving DecidableEq, Repr

def Device.rangeList (d : Device) (a n : Nat) : List RangeEnt :=
  (List.range n).map (fun i =>
    let w := wordAt (d.descWords (a + 16 * i) 4)
    { da := pairDA w 0, len := (w 2).toNat, res := pairRes w 0 || w 3 != 0 })

/-- Block bytes of a contribution (R306). -/
def blkBytes (cmode ksel : Nat) : Nat := match cmode with | 0 => 264 | 1 => 8 + 2 * (4 * 2 ^ ksel) | _ => 34

def qBlocks (w : Nat → Word) : Nat := fld (w 8) 23 0 + 1

/-- Bytes a PACK record may read: its source words. -/
def packRead (w : Nat → Word) : Nat := (((recFmt (fld (w 5) 23 20)).getD .fp32).bytes (w 4).toNat)

/-- The event of the first condition of R320 a TRS command breaks. -/
def trsBad (d : Device) (c : Cmd) : Option Nat :=
  let t := cTop c
  let aw := c.word 4
  let a := sramDA aw
  let isDesc := t == 1 || t == 3 || t == 5
  let nb := if t == 2 || t == 4 then 16 * cCount c else 64
  let out := d.sramBad aw nb
  let w : Nat → Word := if isDesc && !out then wordAt (d.descWords a 16) else fun _ => 0
  let m16 (k : Nat) : Bool := pairDA w k % 16 != 0
  let oob (da n : Nat) : Bool := !d.rangeOk da n
  let wf := (workFmt (fld (w 9) 31 28)).getD .fp32
  let gcen := bit (w 9) 27
  let klen := fld (w 9) 23 0
  let nrec := fld (w 8) 23 0
  let n := qBlocks w
  let kind := fld (w 5) 31 24
  let rl := if t == 4 && !out then d.rangeList a (cCount c) else []
  let main := awMis (if isDesc then 64 else 16) aw || (t == 2 && awMis 32 (c.word 6)) || (t == 4 && awMis 8 (c.word 6))
  if out then firstBad [
      (trsCmdReserved c, 0x0503), (main, 0x0503),
      (t == 1 && rmodeReserved (fld (c.word 3) 27 26), evRmode), (true, evAddrUnassigned)]
  else firstBad [
    (trsCmdReserved c || trsDescReserved t w || rl.any (·.res), 0x0503),
    ((t == 1 && (fld (w 9) 27 26 == 3 || (gradFmt (fld (w 9) 31 28)).isNone)) || (t == 3 && (workFmt (fld (w 9) 31 28)).isNone) ||
      (t == 5 && (recFmt (fld (w 5) 23 20)).isNone), 0x0503),
    (t == 3 && wf.scaled && klen % 32 != 0, 0x0503),
    (t == 3 && gcen && (!wf.scaled || nrec % 32 != 0), 0x0503),
    (main || (t == 1 && (m16 0 || m16 2 || m16 4 || m16 6)) || (t == 3 && (m16 0 || m16 2 || (gcen && m16 6))) ||
      (t == 5 && ((kind != 3 && m16 0) || m16 2 || (kind == 2 && awMis 64 (w 8)))) || rl.any (fun r => r.len % 16 != 0), 0x0503),
    (t == 1 && rmodeReserved (fld (c.word 3) 27 26), evRmode),
    ((t == 1 && (oob (pairDA w 0) (((gradFmt (fld (w 9) 31 28)).getD .fp32).bytes (256 * n)) || oob (pairDA w 2) (264 * n) ||
        oob (pairDA w 4) (264 * n) || oob (pairDA w 6) (64 + n * blkBytes (fld (w 9) 27 26) (fld (w 9) 25 24)))) ||
      (t == 3 && (oob (pairDA w 0) (4 * nrec * klen) || oob (pairDA w 2) (wf.bytes (nrec * klen)) ||
        (wf.scaled && oob (pairDA w 4) (nrec * (klen / 32))) ||
        (gcen && (oob (pairDA w 6) (wf.bytes (nrec * klen)) || oob (pairDA w 10) (nrec / 32 * klen))))) ||
      (t == 5 && (oob (pairDA w 2) (w 7).toNat || (kind != 3 && oob (pairDA w 0) (packRead w)) || (kind == 2 && d.sramBad (w 8) 64))) ||
      (t == 2 && d.sramBad (c.word 6) 32) || (t == 4 && (d.sramBad (c.word 6) 8 || rl.any (fun r => oob r.da r.len))), evAddrUnassigned)]

/-! Issue and completion (R319, R321). -/

/-- The head of a die's TRS queue with one of these TOPs. -/
def Device.trsHead (d : Device) (die : Nat) (tops : List Nat) : Option Cmd :=
  if !d.runs (wTrs die) then none
  else match d.ready (qTrs die) with
    | some c => if tops.contains (cTop c) then some c else none
    | none => none

def Device.trsDone (d : Device) (die : Nat) (c : Cmd) (status : Nat) : Device :=
  let d := d.popCmd (qTrs die)
  ({ d with train.last := mset 0 d.train.last die c.seq }).finish c status

/-- Data word of TRS_INVALID and TRS_POISON. -/
def trsData (c : Cmd) : Word := wd (cTop c * 2 ^ 28 + c.seq)

/-- A die's command is refused, with the group it is a part of while none of it has run (R18, R514). -/
def Device.trsStops (d : Device) (die : Nat) (c : Cmd) : Option (Nat × Nat) := d.groupBad (qTrs die) c (fun _ c => trsBad d c)

def Device.trsRefuse (d : Device) (die : Nat) (c : Cmd) (x : Nat × Nat) : Device :=
  d.refuse (qTrs die) c x.2 (uDie (x.1 - qTrs 0)) (if x.2 = 0x0503 then trsData c else 0)

/-- A command that stops (R321): its fault record is filled, whatever it held. -/
def Device.trsFault (d : Device) (die : Nat) (c : Cmd) (cause index : Nat) : Device :=
  let lo := wd (2 ^ 31 + cause * 2 ^ 28 + cTop c * 2 ^ 24 + c.seq)
  (((d.setReg (trsReg die 0x28) lo).setReg (trsReg die 0x2C) (wd index)).post 0x0504 (uDie die) lo).trsDone die c stFault

/-- TRS_POISON, once for a command that read poisoned data. -/
def Device.trsPoison (d : Device) (die : Nat) (c : Cmd) (p : Bool) : Device :=
  if p then d.post 0x0505 (uDie die) (trsData c) else d

/-- How a command whose n units have run ends: its fault, or normally with a status of at least `status`. -/
def Device.trsEnd (d : Device) (die : Nat) (c : Cmd) (flt : UnitFault) (p : Bool) (status : Nat) : Device :=
  let d := d.trsPoison die c p
  match flt with
  | .none => d.trsDone die c (max status (if p then stPoisoned else stDone))
  | .feedError i => d.trsFault die c 3 i
  | .unitCheck i => d.trsFault die c 4 i

/-- What one unit of work does. -/
structure UnitOut where
  ws     : List (Nat × List PByte) := []
  note   : NumNote := {}
  nonfin : Bool := false
  pois   : Bool := false
  deriving DecidableEq, Repr

/-- n units of work, in order. -/
def Device.runUnits (d : Device) (die n : Nat) (f : Nat → UnitOut) : Device × Bool × Bool :=
  let us := (List.range n).map f
  ((((d.writes (us.flatMap (·.ws))).note (trsReg die 0xE000) (uDie die) (us.foldl (fun a u => a.join u.note) {}))).progressN
    (wTrs die) n, us.any (·.nonfin), us.any (·.pois))

/-! QUANT (R304 to R307). -/

/-- How many of the others of a block of q rank before element i (R306). -/
def topkRank (q : List Val) (i : Nat) : Nat :=
  let v := (q.getD i Val.zero).abs
  let before (j : Nat) (u : Val) : Bool :=
    if u.isNan then !v.isNan || decide (j < i)
    else if v.isNan then false
    else v.lt u || (v.eqv u && decide (j < i))
  (((List.range q.length).zip (q.map Val.abs)).filter (fun p => p.1 != i && before p.1 p.2)).length

/-- Scale codes and element codes of a block of 256 in blocks of 32. -/
def conv256 (f : Fmt) (rnd : Nat → Rnd) (nosat : Bool) (l : List Val) : List Nat × List Nat × NumNote :=
  let bs := ((chunks 32 8 l).zip (List.range 8)).map (fun p => convBlock f ((rangeFrom (32 * p.2) 32).map rnd) nosat p.1)
  (bs.map (·.scale), bs.flatMap (·.codes), { sat := (bs.map (·.counted)).sum, blkNan := bs.any (·.blkNan), nonfin := l.any nonFinite })

def byteList (l : List Nat) : List Byte := l.map (BitVec.ofNat 8)

/-- The bits of a list, eight to a byte, from bit 0. -/
def bitBytes (l : List Bool) : List Byte := byteList ((chunks 8 ((l.length + 7) / 8) l).map ofBits)

/-- The sign bit of an FP32 value. -/
def signBit (v : Val) : Bool := Fmt.fp32.rne v / 2 ^ 31 == 1

/-- The contribution entries of a block and the values they decode to (R306). -/
def contribution (cmode ksel : Nat) (draw : Nat → Rnd) (nosat : Bool) (t : List Val) : List Byte × List Val × NumNote :=
  if cmode = 2 then
    let mean := (Val.sum (t.map Val.abs)).scale (-8)
    let s := Fmt.fp16.convert .rne false mean
    let v := Fmt.fp16.decode s.code
    let bs := t.map signBit
    (toBytes 2 s.code ++ bitBytes bs, bs.map (fun b => if b then v.neg else v), { sat := s.counted.toNat, nonfin := nonFinite mean })
  else
    let (sc, codes, note) := conv256 .e5m2 draw nosat t
    let q := ((List.range 256).zip codes).map (fun p => scaledVal .e5m2 (sc.getD (p.1 / 32) 0) p.2)
    if cmode = 0 then (byteList (sc ++ codes), q, note)
    else
      let k := 4 * 2 ^ ksel
      let sel := (List.range 256).filter (fun i => decide (topkRank q i < k))
      (byteList (sc ++ sel.flatMap (fun i => [i, codes.getD i 0])),
        ((List.range 256).zip q).map (fun p => if sel.contains p.1 then p.2 else Val.zero), note)

/-- Block b of a QUANT. -/
def quantBlock (d : Device) (c : Cmd) (w : Nat → Word) (dr : Draw) (epar : Nat) (shift : Int) (b : Nat) : UnitOut :=
  let n := qBlocks w
  let gf := (gradFmt (fld (w 9) 31 28)).getD .fp32
  let eRd := pairDA w (if epar = 0 then 2 else 4)
  let eWr := pairDA w (if epar = 0 then 4 else 2)
  let cmode := fld (w 9) 27 26
  let ksel := fld (w 9) 25 24
  let elem0 := (w 11).toNat + fld (w 12) 15 0 * 2 ^ 32
  let is := rangeFrom (256 * b) 256
  let gs := is.map (fun i => let e := d.elem (pairDA w 0) gf i; (gf.decode e.1, e.2))
  let es := is.map (d.rowVal eRd (eRd + 256 * n) .e4m3)
  let p := gs.any (·.2) || es.any (·.2)
  let t := (gs.zip es).map (fun x => rne32 (x.1.1.add (x.2.1.scale shift)))
  let (cb, dq, note) := contribution cmode ksel (fun i => dr.rnd (fld (c.word 3) 27 26) ((elem0 + 256 * b + i) % 2 ^ 48)) (bit (c.word 3) 25) t
  let r := (t.zip dq).map (fun x => rne32 (x.1.sub x.2))
  let (esc, ecodes, enote) := conv256 .e4m3 (fun _ => .rne) false r
  let nonfin := gs.any (fun g => nonFinite g.1) || es.any (fun e => nonFinite e.1)
  { ws := [(pairDA w 6 + 64 + blkBytes cmode ksel * b, mark p cb), (eWr + 256 * b, mark p (byteList ecodes)),
      (eWr + 256 * n + 8 * b, mark p (byteList esc))],
    note := note.join enote, nonfin := nonfin, pois := p }

/-- What the first n blocks of a QUANT read. -/
def quantReads (w : Nat → Word) (epar n : Nat) : List (Nat × Nat) :=
  let eRd := pairDA w (if epar = 0 then 2 else 4)
  [(pairDA w 0, ((gradFmt (fld (w 9) 31 28)).getD .fp32).bytes (256 * n)), (eRd, 256 * n), (eRd + 256 * qBlocks w, 8 * n)]

/-- The header of a contribution (R307). -/
def quantHeader (w : Nat → Word) (step : Word) (nonfin : Bool) : List Word :=
  [wd (nonfin.toNat * 2 ^ 31 + fld (w 9) 27 24 * 2 ^ 24 + fld (w 8) 23 0), w 10, step, w 11, wd (fld (w 12) 15 0),
    wd (blkBytes (fld (w 9) 27 26) (fld (w 9) 25 24))] ++ List.replicate 10 0

/-- The signed exponents of TRS_LSSTATE. -/
def lsExp (w : Word) : Int := sext 8 (fld w 7 0)
def elsExp (w : Word) : Int := sext 8 (fld w 15 8)

/-- QUANT; a head with a reserved TOP is refused here too. The header is written once the blocks are. -/
def devQuant (die : Nat) (flt : UnitFault) (d : Device) : Device :=
  match d.trsHead die [1, 0, 6, 7, 8, 9, 10, 11, 12, 13, 14, 15] with
  | none => d
  | some c => match d.trsStops die c with
    | some x => d.trsRefuse die c x
    | none =>
      let w := wordAt (d.descWords (sramDA (c.word 4)) 16)
      let ls := d.reg (trsReg die 0x10)
      let n := qBlocks w
      let flt := flt.within n
      let epar := fld (d.reg (trsReg die 4)) 0 0
      let d := d.coder false (quantReads w epar (flt.units n))
      let (d', nonfin, p) := d.runUnits die (flt.units n) (quantBlock d c w (d.draw die 3 (w 10)) epar (lsExp ls - elsExp ls))
      let d' := if flt.isNone then d'.write (pairDA w 6) (clean (wordsToBytes (quantHeader w (d.reg (dreg die 11 8)) nonfin))) else d'
      d'.trsEnd die c flt p stDone

/-! STEPGATE (R308 to R311). -/

/-- Streams of a die that halt with cause 2, each at its own head; those halted stay as they are (R309). -/
def Device.haltAll (d : Device) (die : Nat) : Device :=
  (List.range 8).foldl (fun d s =>
    let st := d.stream die s
    if st.state = .halted then d else d.haltStream die s 2 st.head) d

/-- 2^k in FP32. -/
def pow2w (k : Int) : Word := wd (Fmt.fp32.rne (.fin false 1 k))

/-- The loss-scale block (R309). -/
def lossBlock (used lsexp : Int) : List Word :=
  [wd (wrap 32 used), pow2w (-used), pow2w (-2 * used), wd (wrap 32 lsexp), pow2w lsexp, 0, 0, 0]

/-- What STEPGATE decides from its records (R309): outcome, and the loss-scale state and EPAR after it. -/
structure Gate where
  outcome : Nat
  lsexp   : Int
  elsexp  : Int
  good    : Nat
  epar    : Nat
  deriving DecidableEq, Repr

/-- The largest vote of the records (R309). -/
def gateVote (recs : List (List Word)) : Nat := (recs.map (fun r => fld (wordAt r 0) 28 27)).foldl max 0

def gate (recs : List (List Word)) (pol lim st : Word) (epar : Nat) : Gate :=
  let q0 (r : List Word) : Word := wordAt r 0
  let vote := gateVote recs
  let used := lsExp st
  let good := fld st 31 16
  let keep (o : Nat) : Gate := { outcome := o, lsexp := used, elsexp := elsExp st, good := good, epar := epar }
  if recs.any (fun r => bit (q0 r) 29) then keep 4
  else if vote ≥ 2 then keep vote
  else if recs.any (fun r => bit (q0 r) 30) then
    { keep 1 with lsexp := max (used - fld pol 15 12) (sext 8 (fld lim 7 0)), good := 0 }
  else
    let g := (good + 1) % 65536
    let grow := fld pol 31 16 != 0 && decide (g ≥ fld pol 31 16)
    { outcome := 0, lsexp := if grow then min (used + 1) (sext 8 (fld lim 15 8)) else used, elsexp := used,
      good := if grow then 0 else g, epar := 1 - epar }

/-- The status a STEPGATE completes with (R309). -/
def gateStatus (outcome : Nat) : Nat := if outcome ≤ 1 then stDone else if outcome = 4 then stAborted else stFault

/-- STEPGATE's changes to registers, the summary and the streams, and its events. -/
def Device.applyGate (d : Device) (die : Nat) (c : Cmd) (recs : List (List Word)) (g : Gate) (p : Bool) : Device :=
  let step := d.reg (dreg die 11 8)
  let used := lsExp (d.reg (trsReg die 0x10))
  let d := d.setReg (trsReg die 0x10) (wd (g.good * 2 ^ 16 + wrap 8 g.elsexp * 2 ^ 8 + wrap 8 g.lsexp))
  let d := d.setReg (trsReg die 4) (wd g.epar)
  let d := d.write (sramDA (c.word 6)) (mark p (wordsToBytes (lossBlock used g.lsexp)))
  let d := { d with ctl.sums := mset {} d.ctl.sums (die * 64 + fld (c.word 5) 31 26) { value := wd g.outcome, valid := true, kind := 4 } }
  let d := d.setReg (trsReg die 0x14) (wd (2 ^ 31 + g.outcome * 2 ^ 28 + fld step 15 0))
  let src := (recs.find? (fun r => fld (wordAt r 0) 28 27 == 2)).map (fun r => fld (wordAt r 2) 14 0)
  let d := if gateVote recs = 2 then d.setReg (trsReg die 0x18) (wd (2 ^ 31 + src.getD 0)) else d
  match g.outcome with
  | 1 => d.post 0x0501 (uDie die) (wd (wrap 8 g.lsexp * 2 ^ 24 + fld step 15 0))
  | 2 => (d.post 0x0502 (uDie die) (wd (2 ^ 31 + fld step 15 0))).haltAll die
  | 3 => (d.post 0x0502 (uDie die) (wd (3 * 2 ^ 30 + fld step 15 0))).haltAll die
  | _ => d

/-- STEPGATE. -/
def devStepgate (die : Nat) (flt : UnitFault) (d : Device) : Device :=
  match d.trsHead die [2] with
  | none => d
  | some c => match d.trsStops die c with
    | some x => d.trsRefuse die c x
    | none =>
      let n := cCount c
      let a := sramDA (c.word 4)
      let flt := flt.within n
      let recs := (List.range n).map (fun i => d.descWords (a + 16 * i) 4)
      let p := anyPoison (d.readBytes a (16 * (flt.units n)))
      let bad := recs.findIdx? (fun r => !bit (wordAt r 0) 31 || wordAt r 1 != d.reg (dreg die 11 8))
      let d' := d.progressN (wTrs die) (flt.units n)
      match flt, bad with
      | .none, some i => (d'.trsPoison die c p).trsFault die c 1 i
      | .none, none =>
        let g := gate recs (d.reg (trsReg die 8)) (d.reg (trsReg die 0xC)) (d.reg (trsReg die 0x10)) (fld (d.reg (trsReg die 4)) 0 0)
        (d'.applyGate die c recs g p).trsEnd die c .none p (gateStatus g.outcome)
      | f, _ => d'.trsEnd die c f p stDone

/-! RDRV (R300). -/

/-- Values converted nearest-even and saturating in blocks of 32 (or one by one), with the marks of what they were made from. -/
def convMarked (f : Fmt) (l : List (Val × Bool)) : List (Nat × Bool) × List (Nat × Bool) × NumNote :=
  if f.scaled then
    let bs := (chunks 32 (l.length / 32) l).map (fun b => (convBlock f (b.map (fun _ => .rne)) false (b.map Prod.fst), b.any (·.2)))
    (bs.flatMap (fun b => b.1.codes.map (fun c => (c, b.2))), bs.map (fun b => (b.1.scale, b.2)),
      { sat := (bs.map (·.1.counted)).sum, blkNan := bs.any (·.1.blkNan), nonfin := l.any (fun x => nonFinite x.1) })
  else
    let cs := l.map (fun x => (f.convert .rne false x.1, x.2))
    (cs.map (fun c => (c.1.code, c.2)), [], { sat := (cs.filter (·.1.counted)).length, nonfin := l.any (fun x => nonFinite x.1) })

/-- The master elements of record n. -/
def masterRow (d : Device) (w : Nat → Word) (n : Nat) : List (Val × Bool) :=
  let k := fld (w 9) 23 0
  (rangeFrom (n * k) k).map (fun i => let e := d.elem (pairDA w 0) .fp32 i; (Fmt.fp32.decode e.1, e.2))

/-- The gradient-side copy of 32 consecutive records: blocks along the records (BDIR 1). -/
def gradSide (f : Fmt) (rows : List (List (Val × Bool))) (k : Nat) : List (List (Nat × Bool)) × List (Nat × Bool) × NumNote :=
  let cols := (List.range k).map (fun j => convMarked f (rows.map (fun r => r.getD j (Val.zero, false))))
  ((List.range 32).map (fun i => cols.map (fun c => c.1.getD i (0, false))), cols.flatMap (·.2.1),
    cols.foldl (fun a c => a.join c.2.2) {})

/-- Record n of an RDRV; the last record of 32 also writes its group of the gradient-side copy. -/
def rdrvRecord (d : Device) (w : Nat → Word) (n : Nat) : UnitOut :=
  let f := (workFmt (fld (w 9) 31 28)).getD .fp32
  let k := fld (w 9) 23 0
  let row := masterRow d w n
  let (codes, scales, note) := convMarked f row
  let base : UnitOut :=
    { ws := [(pairDA w 2 + f.bytes (n * k), packPoison f codes)] ++
        (if f.scaled then [(pairDA w 4 + n * (k / 32), scaleBytes scales)] else []),
      note := note, pois := row.any (·.2) }
  if bit (w 9) 27 && n % 32 == 31 then
    let (rows, gsc, gnote) := gradSide f ((rangeFrom (n - 31) 32).map (masterRow d w)) k
    { base with
      ws := base.ws ++ ((List.range 32).zip rows).map (fun p => (pairDA w 6 + f.bytes ((n - 31 + p.1) * k), packPoison f p.2)) ++
        [(pairDA w 10 + n / 32 * k, scaleBytes gsc)],
      note := note.join gnote }
  else base

/-- RDRV. -/
def devRdrv (die : Nat) (flt : UnitFault) (d : Device) : Device :=
  match d.trsHead die [3] with
  | none => d
  | some c => match d.trsStops die c with
    | some x => d.trsRefuse die c x
    | none =>
      let w := wordAt (d.descWords (sramDA (c.word 4)) 16)
      let n := fld (w 8) 23 0
      let flt := flt.within n
      let d := d.fetch (pairDA w 0) (4 * flt.units n * fld (w 9) 23 0)
      let (d', _, p) := d.runUnits die (flt.units n) (rdrvRecord d w)
      d'.trsEnd die c flt p stDone

/-! DIGEST (R313). -/

/-- DIGEST: a digest of poisoned data carries poison marks. -/
def devDigest (die : Nat) (flt : UnitFault) (d : Device) : Device :=
  match d.trsHead die [4] with
  | none => d
  | some c => match d.trsStops die c with
    | some x => d.trsRefuse die c x
    | none =>
      let n := cCount c
      let flt := flt.within n
      let rl := (d.rangeList (sramDA (c.word 4)) n).take (flt.units n)
      let d := d.coder false (rl.map (fun r => (r.da, r.len)))
      let data := rl.map (fun r => d.readBytes r.da r.len)
      let p := data.any anyPoison || anyPoison (d.readBytes (sramDA (c.word 4)) (16 * n))
      let v := data.foldl (fun r l => crc64Run r (values l)) 0
      let d' := d.progressN (wTrs die) (flt.units n)
      let d' := if flt.isNone then (d'.write (sramDA (c.word 6)) (mark p (toBytes 8 v))).setReg64 (trsReg die 0x20) v else d'
      d'.trsEnd die c flt p stDone

/-! PACK (R317). -/

/-- A chunk of up to 256 elements: bitmap, nonzero words, padding to 16. -/
def packChunk (f : Fmt) (l : List Nat) : List Byte :=
  let bm := bitBytes ((l ++ List.replicate (256 - l.length) 0).map (fun x => x != 0))
  let body := bm ++ (l.filter (fun x => x != 0)).flatMap (fun x => toBytes (f.width / 8) x)
  body ++ List.replicate ((16 - body.length % 16) % 16) 0

/-- The header of a record, its CRC over the whole record with X7 zero. -/
def packHeader (w : Nat → Word) (step : Word) (rlen : Nat) (body : List Byte) : List Byte :=
  let kind := fld (w 5) 31 24
  let pre := [wd (kind * 2 ^ 24 + (if kind = 3 then 0 else fld (w 5) 23 20) * 2 ^ 20 + 1), w 6, step, w 10, wd (fld (w 11) 15 0), w 4, wd rlen]
  let z := wordsToBytes (pre ++ [0])
  wordsToBytes (pre ++ [crc32c (z ++ body)])

/-- The body of a STEP record. -/
def stepBody (d : Device) (die : Nat) : List Byte :=
  let ls := d.reg (trsReg die 0x10)
  let out := fld (d.reg (trsReg die 0x14)) 30 28
  wordsToBytes [wd (out % 8 * 2 ^ 29 + fld ls 15 0), wd (fld ls 31 16 * 2 ^ 16 + fld (d.reg (trsReg die 4)) 0 0),
    d.reg (dreg die 11 0), d.reg (dreg die 11 4), 0, 0, 0, 0]

/-- The chunks of a record's source words, each with whether it met poison. -/
def packChunks (d : Device) (w : Nat → Word) : List (List Byte × Bool) :=
  let f := (recFmt (fld (w 5) 23 20)).getD .fp32
  let n := (w 4).toNat
  (List.range ((n + 255) / 256)).map (fun j =>
    let es := (rangeFrom (256 * j) (min 256 (n - 256 * j))).map (d.elem (pairDA w 0) f)
    (packChunk f (es.map Prod.fst), es.any (·.2)))

/-- Chunks written from a byte position on, up to the first that would pass OCAP: bytes after the start, and the chunk at
which it stopped. -/
def packFit (cap : Nat) : Nat → Nat → List (List Byte × Bool) → List PByte × Option Nat
  | _, _, [] => ([], none)
  | pos, j, (b, p) :: l =>
    if pos + b.length > cap then ([], some j)
    else
      let r := packFit cap (pos + b.length) (j + 1) l
      (mark p b ++ r.1, r.2)

/-- PACK: the body first, the header last. A chunk that did not fit has been read too (R321). -/
def devPack (die : Nat) (flt : UnitFault) (d : Device) : Device :=
  match d.trsHead die [5] with
  | none => d
  | some c => match d.trsStops die c with
    | some x => d.trsRefuse die c x
    | none =>
      let w := wordAt (d.descWords (sramDA (c.word 4)) 16)
      let kind := fld (w 5) 31 24
      let cap := (w 7).toNat
      let step := d.reg (dreg die 11 8)
      let first : List PByte :=
        if kind = 3 then clean (stepBody d die) else if kind = 2 then d.readBytes (sramDA (w 8)) 64 else []
      let d := if kind = 3 then d else d.fetch (pairDA w 0) (packRead w)
      let cs := if kind = 3 then [] else packChunks d w
      let n := if kind = 3 then 1 else cs.length
      let flt := flt.within n
      let (body, stop) := if 32 + first.length > cap then ([], some 0) else packFit cap (32 + first.length) 0 (cs.take (flt.units n))
      let all := if 32 + first.length > cap then [] else first ++ body
      let p := anyPoison first || (cs.take (if 32 + first.length > cap then 0 else min (flt.units n) (stop.elim n (· + 1)))).any (·.2)
      let d' := (d.write (pairDA w 2 + 32) all).progressN (wTrs die) (stop.getD (flt.units n))
      match stop, flt with
      | some j, _ => (d'.trsPoison die c p).trsFault die c 2 j
      | none, .none =>
        let rlen := 32 + all.length
        let w' : Nat → Word := if kind = 3 then (fun k => if k = 4 ∨ k = 6 then 0 else w k) else w
        let d' := d'.write (pairDA w 2) (mark p (packHeader w' step rlen (values all)))
        (d'.setReg (trsReg die 0x1C) (wd rlen)).trsEnd die c .none p stDone
      | none, f => d'.trsEnd die c f p stDone

/-! MUPD (R301 to R303, R324). -/

/-- Lines of one channel among those of R301's ranges that start below a multiple of 64. -/
def linesBelow (m x : Nat) : Nat := x / 32768 * 64 + min (x % 32768 - 4096 * m) 4096 / 64

/-- Lines of a master range of n lines that lie on channel m. -/
def linesOn (m a n : Nat) : Nat := linesBelow m (a + 64 * n) - linesBelow m a

def mRow (w : Nat → Word) : Nat := fld (w 5) 23 0
def mLines (w : Nat → Word) : Nat := fld (w 6) 23 0 * mRow w / 16

/-- The event of the first condition of R320 a MUPD breaks. -/
def mupdBad (d : Device) (c : Cmd) : Option Nat :=
  let aw := c.word 4
  let out := d.sramBad aw 64
  let w : Nat → Word := if out then fun _ => 0 else wordAt (d.descWords (sramDA aw) 16)
  let z (l : List Nat) : Bool := l.any (fun k => w k != 0)
  let xen := bit (c.word 3) 26
  let nb := 64 * mLines w
  let oob (da n : Nat) : Bool := !d.rangeOk da n
  let res := w012Reserved c true || partShare c || cTop c != 1 || fld (c.word 3) 25 0 != 0 || c.word 5 != 0 || c.word 6 != 0 || c.word 7 != 0 || awRes aw
  if out then firstBad [(res, 0x0503), (awMis 64 aw, 0x0503), (true, evAddrUnassigned)]
  else firstBad [
    (res || pairRes w 0 || pairRes w 2 || pairRes w 7 || fld (w 5) 31 24 != 0 || fld (w 6) 31 24 != 0 || z [10, 11, 12, 13, 14, 15], 0x0503),
    (awMis 64 aw || regionOf (pairDA w 0) != 8 || pairDA w 0 % 64 != 0 || pairDA w 2 % 4 != 0 || (w 4).toNat % 4 != 0 ||
      mRow w % 16 != 0 || fld (w 6) 23 0 == 0 ||
      (xen && (regionOf (pairDA w 7) != 8 || pairDA w 7 % 32768 != pairDA w 0 % 32768)), 0x0503),
    (oob (pairDA w 0) nb || (mRow w != 0 && (List.range (fld (w 6) 23 0)).any (fun i => !d.moveRangeOk (pairDA w 2 + i * (w 4).toNat) (4 * mRow w))) ||
      (xen && oob (pairDA w 7) nb), evAddrUnassigned)]

/-- A member ends (R21); with the last one the MUPD does. -/
def Device.mupdMember (d : Device) (r : MupdRun) (m status : Nat) : Device :=
  let r := { r with mems := r.mems.filter (fun p => p.1 != m) }
  let ended := r.mems.isEmpty
  let d := { d with train.mupd := if ended then none else some r, train.mlast := if ended then r.cmd.seq else d.train.mlast }
  d.completePart r.cmd.cid 1 status (if status = 0 then 0 else 1) (uMrd m)

/-- A MUPD stops on a fault (R321): every member that has not ended completes with FAULT. -/
def Device.mupdStop (d : Device) (r : MupdRun) : Device :=
  let n := r.mems.length
  ({ d with train.mupd := none, train.mlast := r.cmd.seq }).completePart r.cmd.cid n stFault n (uMrd ((r.mems.map Prod.fst).headD 0))

/-- Members without a line end at once. -/
def Device.mupdEmpty (d : Device) : List (Nat × MupdMem) → Device
  | [] => d
  | (m, x) :: l =>
    match d.train.mupd with
    | some r => (if x.left = 0 then d.mupdMember r m stDone else d).mupdEmpty l
    | none => d

def mupdChans (c : Cmd) : List Nat := (idx8 (fld c.target 27 23))
where
  idx8 (v : Nat) : List Nat := if v = 0x1F then List.range 8 else [v]

/-- MUPD (R301): the head of the queue issues when none runs. -/
def devMupd (d : Device) : Device :=
  match d.ready qMupd with
  | none => d
  | some c =>
    if d.train.mupd.isSome ∨ !d.runs wMupd then d
    else match mupdBad d c with
      | some ev => d.refuse qMupd c ev c.target.toNat (if ev = 0x0503 then trsData c else 0)
      | none =>
        let D := d.descWords (sramDA (c.word 4)) 16
        let w := wordAt D
        let mems := (mupdChans c).map (fun m => (m, { left := linesOn m (pairDA w 0) (mLines w) : MupdMem }))
        let d := d.popCmd qMupd
        ({ d with train.mupd := some { cmd := c, D := D, mems := mems } }).mupdEmpty mems

/-! Master lines (R302, R303). -/

/-- Where the deltas of a line lie, 64 bytes on. -/
def deltaDA (w : Nat → Word) (line : Nat) : Nat := pairDA w 2 + 16 * line / mRow w * (w 4).toNat + 4 * (16 * line % mRow w)

/-- The reads that bring n bytes through the peer window, each within an aligned 512-byte block (R366). -/
def peerReads (a n : Nat) : List (Nat × Nat) :=
  if a % 512 + n ≤ 512 then [(a, n)] else [(a, 512 - a % 512), (a + (512 - a % 512), n - (512 - a % 512))]

/-- A read of deltas through the peer window, from the die that drives the line's channel. -/
def Device.mupdRead (d : Device) (cid line m : Nat) (r : Nat × Nat) : Device := d.inject (m / 2) (peerReq 1 r.1 r.2 [] (.mupd cid line))

/-- The deltas of a line: as an answer brought them, or as memory holds them. -/
def mupdDeltas (d : Device) (r : MupdRun) (line : Nat) : List PByte :=
  let w := wordAt r.D
  if regionOf (deltaDA w line) = 0xE then (mget {} r.asks line : MupdAsk).got else d.readBytes (deltaDA w line) 64

/-- The 16 elements of one master line: new values, staging words, and what the conversions to FP32 count (R302): to nearest even and
saturating. -/
def mupdLine (d : Device) (r : MupdRun) (line : Nat) : List PByte × List PByte × NumNote :=
  let w := wordAt r.D
  let wden := bit (r.cmd.word 3) 27
  let ds := mupdDeltas d r line
  let els := (List.range 16).map (fun n =>
    let (wb, wp) := d.elem (pairDA w 0) .fp32 (16 * line + n)
    let (db, dp) := elemOf ds .fp32 n
    let v := Fmt.fp32.decode wb
    let dv := Fmt.fp32.decode db
    let w1 := v.sub dv
    let w1 := if wden then w1.sub ((f32 (w 9)).mul v) else w1
    let c := Fmt.fp32.convert .rne false w1
    (wb, c.code, wp || dp, { sat := c.counted.toNat, nonfin := nonFinite dv || nonFinite w1 : NumNote }))
  (els.flatMap (fun e => mark e.2.2.1 (toBytes 4 e.2.1)), els.flatMap (fun e => mark e.2.2.1 (toBytes 4 (e.1 ^^^ e.2.1))),
    els.foldl (fun a e => a.join e.2.2.2) {})

/-- A MUPD stops on a fault at a line (R321). -/
def Device.mupdFault (d : Device) (r : MupdRun) (m line cause : Nat) : Device :=
  let lo := wd (2 ^ 31 + cause * 2 ^ 28 + r.cmd.seq)
  (((d.setReg (mreg 2 0x10) lo).setReg (mreg 2 0x14) (wd (16 * line / mRow (wordAt r.D)))).post 0x0504 (uMrd m) lo).mupdStop r

/-- Deltas asked of another module have come, or have not: a refused or lost read stops the MUPD with FEED_ERROR (DESIGN CHOICE: the
chapter does not say, R374). -/
def Device.mupdAnswer (d : Device) (cid line : Nat) (ok : Bool) (data : List PByte) : Device :=
  match d.train.mupd with
  | none => d
  | some r =>
    let m := t1Stack (pairDA (wordAt r.D) 0 + 64 * line)
    let x : MupdAsk := mget {} r.asks line
    if r.cmd.cid ≠ cid ∨ x.need = [] then d
    else if !ok then d.mupdFault r m line 3
    else
      let x := { need := x.need.tail, got := x.got ++ data : MupdAsk }
      let d := { d with train.mupd := some { r with asks := mset {} r.asks line x } }
      match x.need with
      | [] => d
      | q :: _ => d.mupdRead cid line m q

/-- A line read, updated and written, and its member one line further. -/
def Device.mupdWrite (d : Device) (r : MupdRun) (m line : Nat) (x : MupdMem) (flt : UnitFault) : Device :=
  let w := wordAt r.D
  let da := pairDA w 0 + 64 * line
  let d := d.coder false ((da, 64) :: (if regionOf (deltaDA w line) = 0xE then [] else [(deltaDA w line, 64)]))
  let (new, stg, note) := mupdLine d r line
  let p := anyPoison new
  let d := d.write da new
  let d := if bit (r.cmd.word 3) 26 then d.write (pairDA w 7 + 64 * line) stg else d
  let d := (d.note (mreg 2 0xE000) (uMrd m) note).progress wMupd
  let d := if p && !r.pois then d.post 0x0505 (uMrd m) (trsData r.cmd) else d
  let x := { x with left := x.left - 1, pois := x.pois || p }
  let r := { r with pois := r.pois || p, lines := sinsert line r.lines, asks := mset {} r.asks line {}, mems := r.mems.map (fun q => if q.1 = m then (m, x) else q) }
  match flt with
  | .feedError _ => d.mupdFault r m line 3
  | .unitCheck _ => d.mupdFault r m line 4
  | .none => if x.left = 0 then d.mupdMember r m (if x.pois then stPoisoned else stDone) else { d with train.mupd := some r }

/-- MASTER_LINE_UPDATE (R303): one line of a running MUPD on channel m, as one indivisible operation; deltas that lie in the peer window
are asked for first. -/
def devMasterLineUpdate (m line : Nat) (flt : UnitFault) (d : Device) : Device :=
  match d.train.mupd with
  | none => d
  | some r =>
    let w := wordAt r.D
    match r.mems.find? (fun p => p.1 == m) with
    | none => d
    | some (_, x) =>
      let ask : MupdAsk := mget {} r.asks line
      let peer := regionOf (deltaDA w line) == 0xE
      if line ≥ mLines w ∨ t1Stack (pairDA w 0 + 64 * line) ≠ m ∨ r.lines.contains line ∨ !d.runs wMupd ∨ ask.need ≠ [] then d
      else if peer && ask.got.isEmpty then
        let l := peerReads (deltaDA w line) 64
        { d with train.mupd := some { r with asks := mset {} r.asks line { need := l } } }.mupdRead r.cmd.cid line m (l.headD (0, 0))
      else d.mupdWrite r m line x flt

end Sys2Proof.Machine
end

