-- ==== Sys2Proof/Machine/Collect.lean ====
section
/-! DEFINITION. The collective engines: rings, the exact reduction, the close exchange and aborts (R385 to R409). -/

namespace Sys2Proof.Machine

def colReg (die off : Nat) : Nat := dreg die 12 off
def Device.colOf (d : Device) (die : Nat) : Col := mget {} d.col die
def Device.setCol (d : Device) (die : Nat) (v : Col) : Device := { d with col := mset {} d.col die v }
def Device.setColRun (d : Device) (die : Nat) (r : ColRun) : Device := d.setCol die { d.colOf die with run := some r }

/-! Descriptor (R402), rings and shards (R386, R387). -/

def ColRun.w (r : ColRun) (k : Nat) : Word := wordAt r.D k
def ColRun.op (r : ColRun) : Nat := fld (r.w 6) 31 28
def ColRun.axis (r : ColRun) : Nat := fld (r.w 6) 27 25
def ColRun.dirs (r : ColRun) : Nat := fld (r.w 6) 24 23
def ColRun.ikind (r : ColRun) : Nat := fld (r.w 6) 22 20
def ColRun.ofmt (r : ColRun) : Fmt := fmtOf (fld (r.w 6) 19 16)
def ColRun.dgcmp (r : ColRun) : Bool := bit (r.w 6) 12
def ColRun.rren (r : ColRun) : Bool := bit (r.w 6) 11
def ColRun.nunit (r : ColRun) : Nat := fld (r.w 7) 23 0 + 1
def ColRun.cid (r : ColRun) : Nat := fld (r.w 14) 31 16
/-- EMAX of R391. -/
def ColRun.emax (r : ColRun) : Int := r.lsexp + sext 8 (fld (r.w 6) 7 0)

/-- The ports tagged for an axis, 1 to 5, and a direction; the other tags read as none (R381). -/
def Device.trunk (d : Device) (axis dir : Nat) : List Nat :=
  (List.range 16).filter (fun p =>
    let f := fld (d.reg (rteReg (if p < 8 then 0x30 else 0x34))) (4 * (p % 8) + 3) (4 * (p % 8))
    f / 2 == axis && f % 2 == dir && decide (1 ≤ axis ∧ axis ≤ 5))

/-- The rings of a DIRS value: 0 plus, 1 minus. -/
def ringsOf (dirs : Nat) : List Nat := if dirs = 1 then [0] else if dirs = 2 then [1] else [0, 1]

/-- This member's coordinate on a ring, and the module coordinate of a ring coordinate. -/
def ringCoord (n ring c : Nat) : Nat := if ring = 0 then c else (n - c) % n

/-- Pieces of the tensor, or of one shard of an ALL_GATHER. -/
def ColRun.pieces (r : ColRun) : Nat := (r.nunit + 15) / 16

/-- The first of a ring's pieces, and how many it has. -/
def ColRun.ringPieces (r : ColRun) (ring : Nat) : Nat × Nat :=
  let p := r.pieces
  if r.dirs ≠ 3 then (0, p) else if ring = 0 then (0, (p + 1) / 2) else ((p + 1) / 2, p - (p + 1) / 2)

/-- The pieces of shard s of a ring. An ALL_GATHER shard is one member's input, cut into pieces of its own. -/
def ColRun.shard (r : ColRun) (ring s : Nat) : List Nat :=
  let (a, q) := r.ringPieces ring
  if r.op = 2 then rangeFrom (ringCoord r.n ring s * r.pieces + a) q
  else rangeFrom (a + s * q / r.n) ((s + 1) * q / r.n - s * q / r.n)

/-- Units of a piece, and the first. -/
def ColRun.pieceUnits (r : ColRun) (j : Nat) : Nat := min 16 (r.nunit - 16 * (j % r.pieces))
def ColRun.unit0 (r : ColRun) (j : Nat) : Nat := j / r.pieces * r.nunit + 16 * (j % r.pieces)

/-! Entries (R390, R391). -/

/-- What an element brings into its accumulator. -/
structure Entry where
  a      : Int := 0
  nonfin : Bool := false
  range  : Bool := false
  trunc  : Bool := false
  pois   : Bool := false
  deriving DecidableEq, Repr

/-- The entry of a value v = I * 2^f. -/
def entryOf (emax : Int) (v : Val) (pois : Bool) : Entry :=
  match v with
  | .fin s m f =>
    if !(v.abs.lt (.fin false 1 (emax + 1))) then { range := true, pois := pois }
    else
      let k := f - emax + 110
      let i : Int := if s then -(m : Int) else m
      { a := if k ≥ 0 then i * 2 ^ k.toNat else i / 2 ^ (-k).toNat, trunc := decide (k < 0), pois := pois }
  | _ => { nonfin := true, pois := pois }

/-- The elements of one unit of a contribution (R306): values with poison, none where TOPK did not select one. -/
def Device.contribUnit (d : Device) (hdr : Word) (base u : Nat) : List (Option Val × Bool) :=
  let cmode := fld hdr 27 26
  let nb := blkBytes cmode (fld hdr 25 24)
  let l := d.readBytes (base + nb * u) nb
  let b (i : Nat) : Nat := ((l.getD i (0, false)).1).toNat
  let bp (i : Nat) : Bool := (l.getD i (0, false)).2
  match cmode with
  | 0 => (List.range 256).map (fun i => (some (scaledVal .e5m2 (b (i / 32)) (b (8 + i))), bp (i / 32) || bp (8 + i)))
  | 1 =>
    let k := 4 * 2 ^ fld hdr 25 24
    let sel := (List.range k).map (fun j => (b (8 + 2 * j), b (9 + 2 * j)))
    let p := anyPoison l
    (List.range 256).map (fun i => ((sel.find? (fun e => e.1 == i)).map (fun e => scaledVal .e5m2 (b (i / 32)) e.2), p))
  | _ =>
    let s := Fmt.fp16.decode (b 0 + 256 * b 1)
    let p := bp 0 || bp 1
    (List.range 256).map (fun i =>
      (some (if (b (2 + i / 8)).testBit (i % 8) then s.abs.neg else s.abs), p || bp (2 + i / 8)))

/-- The member's own entries of a piece. -/
def Device.ownEntries (d : Device) (r : ColRun) (j : Nat) : List Entry :=
  let ina := pairDA r.w 0
  (rangeFrom (r.unit0 j) (r.pieceUnits j)).flatMap (fun u =>
    if r.ikind = 0 then
      (d.contribUnit r.hdr (ina + 64) u).map (fun x => match x.1 with
        | some v => entryOf r.emax v x.2
        | none => { pois := x.2 })
    else
      let f : Fmt := if r.ikind = 1 then .bf16 else .fp32
      (rangeFrom (256 * u) 256).map (fun i => let e := d.elem ina f i; entryOf r.emax (f.decode e.1) e.2))

/-- The ranges of memory that the member's own entries of a piece are read from. -/
def ColRun.reads (r : ColRun) (j : Nat) : List (Nat × Nat) :=
  let ina := pairDA r.w 0
  let u := if r.ikind = 0 then blkBytes (fld r.hdr 27 26) (fld r.hdr 25 24) else if r.ikind = 1 then 512 else 1024
  [((if r.ikind = 0 then ina + 64 else ina) + u * r.unit0 j, u * r.pieceUnits j)]

/-- Partial sums of 32 elements with their POIS flag. -/
abbrev Partial := List Int × Bool

def partials (l : List Entry) : List Partial :=
  (chunks 32 (l.length / 32) l).map (fun b => (b.map (·.a), b.any (·.pois)))

def addPartials (x y : List Partial) : List Partial :=
  (x.zip y).map (fun p => ((p.1.1.zip p.2.1).map (fun q => q.1 + q.2), p.1.2 || p.2.2))

/-! Piece streams (R395, R396). -/

/-- Trailing zero bits of a nonzero number, at most n. -/
def trailing : Nat → Nat → Nat
  | 0, _ => 0
  | n + 1, m => if m % 2 = 1 then 0 else trailing n (m / 2) + 1

/-- Bytes that hold a signed value. -/
def signedBytes (v : Int) : Nat :=
  ((rangeFrom 1 16).find? (fun b => decide (-(2 : Int) ^ (8 * b - 1) ≤ v ∧ v < 2 ^ (8 * b - 1)))).getD 16

/-- A partial block as bytes. -/
def encodeBlock (p : Partial) : List PByte :=
  let nz := p.1.filter (fun a => a != 0)
  let sh := if nz.isEmpty then 0 else (nz.map (fun a => trailing 127 a.natAbs)).foldl min 127
  let vs := p.1.map (fun a => a / 2 ^ sh)
  let wb := if nz.isEmpty then 0 else (vs.map signedBytes).foldl max 1
  mark p.2 ([BitVec.ofNat 8 wb, BitVec.ofNat 8 sh, BitVec.ofNat 8 p.2.toNat, 0] ++ vs.flatMap (fun v => toBytes wb (wrap (8 * wb) v)))

/-- What the bytes of a stream are, so far. -/
inductive StreamRes where
  | broken
  | more
  | ok (l : List Partial)

/-- n partial blocks read from bytes. -/
def decodeStream : Nat → List Byte → StreamRes
  | 0, l => if l.isEmpty then .ok [] else .broken
  | n + 1, l =>
    match l with
    | wb :: sh :: fl :: z :: rest =>
      if wb.toNat > 16 ∨ sh.toNat > 127 ∨ z ≠ 0 then .broken
      else
        let k := 32 * wb.toNat
        if rest.length < k then .more
        else
          let vs := (chunks wb.toNat 32 (rest.take k)).map (fun b => if wb.toNat = 0 then 0 else sext (8 * wb.toNat) (ofBytes b) * 2 ^ sh.toNat)
          match decodeStream n (rest.drop k) with
          | .ok t => .ok ((vs, fl.toNat % 2 == 1) :: t)
          | x => x
    | _ => .more

/-! Packets (R395). -/

/-- Words of a COL packet but for DGEN: CKIND, ring, TRY, LEN, CID, step, round, SOFF and piece. -/
def Device.colPacket (d : Device) (kind ring try_ cid step round soff piece : Nat) (data : List PByte) : Packet :=
  { h := [setBit (mkH0 5 2 0 0 (anyPoison data)) 25 (decide (kind > 2)), d.mkH1 0,
      wd (kind * 2 ^ 28 + ring * 2 ^ 26 + try_ * 2 ^ 16 + data.length), 0, 0, wd (cid * 2 ^ 16 + step % 65536),
      wd (round * 2 ^ 16 + soff), wd piece],
    body := values data }

/-- The trunk port a packet leaves on (R386). -/
def Device.trunkPort (d : Device) (axis dir cls : Nat) : Option Nat :=
  d.mostCredit cls ((d.trunk axis dir).filter (fun p => (d.port p).state == 3 || (d.port p).state == 4))

/-- A COL packet leaves on a trunk, with the neighbour's tag as the collective latched it; or waits for a port. -/
def Device.colSend (d : Device) (die : Nat) (r : ColRun) (ring : Nat) (k : Packet) : Device × ColRun :=
  match d.trunkPort r.axis ring (hdrClass (k.w 0)) with
  | none => (d, { r with wait := r.wait ++ [(ring, k)] })
  | some p =>
    let dgen := ((r.gens.find? (fun g => g.1 == p)).map Prod.snd).getD 0
    let k := { k with h := k.h.set 7 (wd (dgen * 2 ^ 24 + (k.w 7).toNat % 2 ^ 24)) }
    let n := if fld (k.w 2) 31 28 ≤ 2 then k.body.length else 0
    let t := colReg die 0x28
    (((d.queueAt p k).setReg64 t ((join (d.reg t) (d.reg (t + 4)) + n) % 2 ^ 64)).progress (wCol die), r)

def Device.colSendAll (d : Device) (die : Nat) (r : ColRun) (ring : Nat) : List Packet → Device × ColRun
  | [] => (d, r)
  | k :: l => let x := d.colSend die r ring k; x.1.colSendAll die x.2 ring l

/-- A piece stream in packets of 512 bytes. -/
def Device.sendStream (d : Device) (die : Nat) (r : ColRun) (ring kind round piece : Nat) (l : List PByte) : Device × ColRun :=
  let n := (l.length + 511) / 512
  d.colSendAll die r ring (((List.range n).zip (chunks 512 n l)).map (fun x =>
    d.colPacket kind ring r.try_ r.cid r.step.toNat round (16 * x.1) piece x.2))

/-! Output (R393, R394). -/

/-- The GATHER stream and the writes of a converted piece: elements, then E5M2 scales. -/
def ColRun.writesOf (r : ColRun) (j : Nat) (l : List PByte) : List (Nat × List PByte) :=
  if r.op = 2 then [(pairDA r.w 2 + 256 * r.unit0 j, l)]
  else
    let e0 := 256 * r.unit0 j
    let n := r.ofmt.bytes (256 * r.pieceUnits j)
    [(pairDA r.w 2 + r.ofmt.bytes e0, l.take n)] ++ (if r.ofmt.scaled then [(pairDA r.w 4 + e0 / 32, l.drop n)] else [])

/-- Bytes of a piece's GATHER stream. -/
def ColRun.gatherLen (r : ColRun) (j : Nat) : Nat :=
  if r.op = 2 then 256 * r.pieceUnits j
  else r.ofmt.bytes (256 * r.pieceUnits j) + (if r.ofmt.scaled then 8 * r.pieceUnits j else 0)

/-- The complete sum of a piece converted: its stream, and what the conversion counts. -/
def ColRun.convert (r : ColRun) (j : Nat) (ps : List Partial) : List PByte × NumNote :=
  let post := f32 (r.w 8)
  let dr : Draw := { k0 := r.k0, k1 := r.k1, stream := 4, tensor := r.w 9, step := r.step }
  let e0 := (r.w 10).toNat + fld (r.w 11) 15 0 * 2 ^ 32 + 256 * r.unit0 j
  let vals := ps.flatMap (fun p => p.1.map (fun a => ((Val.fin (a < 0) a.natAbs (r.emax - 110)).mul post, p.2)))
  let row := convRow r.ofmt (fun i => dr.rnd (fld (r.w 6) 15 14) ((e0 + i) % 2 ^ 48)) (bit (r.w 6) 13) vals
  (packPoison r.ofmt row.codes ++ scaleBytes row.scales, row.note)

/-- A piece's final bytes are written; the first of a collective from poisoned data post COL_POISON (R409). -/
def Device.colWrite (d : Device) (die : Nat) (r : ColRun) (j : Nat) (l : List PByte) : Device × ColRun :=
  let d := d.writes (r.writesOf j l)
  (if anyPoison l && !r.pois then d.post 0x0705 (uDie die) r.cmd.seqWord else d, { r with pois := r.pois || anyPoison l })

/-! Close records (R398, R399). -/

def ColRun.plan (r : ColRun) : Word :=
  crc32c (wordsToBytes [r.w 6, r.w 7] ++ toBytes 2 (fld (r.w 14) 31 16))

/-- The ring close records travel on. -/
def ColRun.closeRing (r : ColRun) : Nat := if r.dirs = 2 then 1 else 0

def colAborted (d : Device) (die step try_ : Nat) : Bool :=
  let v := d.reg (colReg die 0x10)
  bit v 31 && fld v 15 0 == step % 65536 && fld v 23 16 == try_

/-- Whether the module holds (STEP, TRY) as aborted: `COL_ABORTST` of some die names it (R404). -/
def Device.colHeld (d : Device) (step try_ : Nat) : Bool := (List.range 4).any (fun die => colAborted d die step try_)

def Device.closeRecord (d : Device) (r : ColRun) : List Word :=
  let bits := r.nonfin.toNat * 2 ^ 31 + r.range.toNat * 2 ^ 30 + (d.colHeld r.step.toNat r.try_).toNat * 2 ^ 29 +
    r.dgpois.toNat * 2 ^ 28
  [wd (bits + d.selfMod), lo32 (if r.dgcmp then r.digest else 0), hi32 (if r.dgcmp then r.digest else 0), r.plan, 0, 0, 0, 0]

/-- How many records share record k's digest: a poisoned one stands alone. -/
def classSize (recs : List (List Word)) (k : List Word) : Nat :=
  if bit (wordAt k 0) 28 then 1
  else (recs.filter (fun x => !bit (wordAt x 0) 28 && wordAt x 1 == wordAt k 1 && wordAt x 2 == wordAt k 2)).length

/-- What n close records decide for module `me`. -/
def decideClose (recs : List (List Word)) (me : Nat) (dgcmp : Bool) : ColDecision :=
  let n := recs.length
  let w (k : List Word) (i : Nat) : Word := wordAt k i
  let plans := recs.map (fun k => w k 3)
  if plans.any (fun p => p != plans.headD 0) then { plan := true }
  else
    let dec : ColDecision := { abort := recs.any (fun k => bit (w k 0) 29), nonfin := recs.any (fun k => bit (w k 0) 31 || bit (w k 0) 30) }
    if !dgcmp then dec
    else
      let big := (recs.map (classSize recs)).foldl max 0
      if big = n then { dec with maj := n - 1 }
      else
        let maj := recs.filter (fun k => decide (2 * classSize recs k > n))
        if maj.isEmpty then { dec with vote := 3, maj := big - 1 }
        else
          let mods := maj.map (fun k => fld (w k 0) 14 0)
          { dec with vote := if mods.contains me then 1 else 2, srcmod := mods.foldl min 0x7FFF, maj := maj.length - 1 }

/-- The result record of R308. -/
def resultRecord (step : Word) (dec : ColDecision) (abort : Bool) : List Word :=
  [wd (2 ^ 31 + dec.nonfin.toNat * 2 ^ 30 + abort.toNat * 2 ^ 29 + dec.vote * 2 ^ 27), step, wd dec.srcmod, 0]

def Device.writeResult (d : Device) (r : ColRun) (dec : ColDecision) (abort : Bool) : Device :=
  if r.rren then d.write (sramDA (r.w 13)) (clean (wordsToBytes (resultRecord r.step dec abort))) else d

/-- The pieces of its output that this member writes: its own shard's, or all of them. -/
def ColRun.outPieces (r : ColRun) : List Nat :=
  if r.op = 1 then (ringsOf r.dirs).flatMap (fun ring => r.shard ring (ringCoord r.n ring r.c))
  else List.range ((if r.op = 2 then r.n else 1) * r.pieces)

/-- The output of an aborted collective is left open (R405). -/
def Device.outputOpen (d : Device) (r : ColRun) : Device :=
  d.leaveAllOpen (r.outPieces.flatMap (fun j => (r.writesOf j (clean (List.replicate (r.gatherLen j) 0))).map (fun x => (x.1, x.2.length))))

/-- A collective completes. -/
def Device.colDone (d : Device) (die : Nat) (r : ColRun) (status : Nat) : Device :=
  (d.setCol die { d.colOf die with run := none, last := r.cmd.seq }).finish r.cmd status

/-! Aborts (R404, R405). -/

/-- An ABORT packet for a ring direction of an axis. -/
def Device.abortPacket (d : Device) (dir try_ cid : Nat) (step : Word) (cause origin : Nat) : Packet :=
  d.colPacket 4 dir try_ cid step.toNat 0 0 0
    (clean (wordsToBytes [wd (cause * 2 ^ 28 + origin), step, wd try_, 0, 0, 0, 0, 0]))

/-- An ABORT packet leaves on one direction of an axis, where the trunk has a port: with the neighbour's tag as the collective
latched it (R395), or its present one where it belongs to no collective that is open here. The direction counts as served
for the aborted step (R405), and the packet is progress of the engine that sends it (R466), where one does. -/
def Device.sendAbort (d : Device) (by_ : Option Nat) (gens : List (Nat × Nat)) (axis dir : Nat) (k : Packet) : Device :=
  let d := { d with fab.aborted := d.fab.aborted ++ [(axis, dir)] }
  match d.trunkPort axis dir (hdrClass (k.w 0)) with
  | none => d
  | some p =>
    let g := (gens.lookup p).getD (d.port p).peer.gen
    let d := d.queueAt p { k with h := k.h.set 7 (wd (g * 2 ^ 24)) }
    match by_ with | some die => d.progress (wCol die) | none => d

/-- Both directions of an open collective's ring; sent by a die's engine, or by the router on its behalf. -/
def Device.sendAborts (d : Device) (by_ : Option Nat) (r : ColRun) (cause origin : Nat) : Device :=
  if r.n ≤ 1 then d
  else
    let d := d.sendAbort by_ r.gens r.axis 0 (d.abortPacket 0 r.try_ r.cid r.step cause origin)
    d.sendAbort by_ r.gens r.axis 1 (d.abortPacket 1 r.try_ r.cid r.step cause origin)

/-- CAUSE and ORIGIN of the abort that the module holds of (STEP, TRY): of the first die that holds it. -/
def Device.heldAbort (d : Device) (step try_ : Nat) : Nat × Nat :=
  match (List.range 4).find? (fun die => colAborted d die step try_) with
  | some die => (fld (d.reg (colReg die 0x10)) 30 28, (d.colOf die).origin)
  | none => (0, d.selfMod)

/-- (STEP, TRY) held as aborted on a die, with the CAUSE and ORIGIN (R404). -/
def Device.markAborted (d : Device) (step : Word) (try_ cause origin die : Nat) : Device :=
  (d.setReg (colReg die 0x10) (wd (2 ^ 31 + cause * 2 ^ 28 + try_ * 2 ^ 16 + fld step 15 0))).setCol die { d.colOf die with origin := origin }

/-- The open collective of a die, of one step and attempt. -/
def Device.openCol (d : Device) (die step try_ : Nat) : Option ColRun :=
  match (d.colOf die).run with
  | some r => if r.step.toNat % 65536 = step % 65536 ∧ r.try_ = try_ then some r else none
  | none => none

/-- An abort of (STEP, TRY) in the order of R404: marks, ABORT packets (unless they go out otherwise), the open collectives,
events. The collective of `faulted` completes with FAULT. -/
def Device.abortStep (d : Device) (send : Bool) (step : Word) (try_ cause origin : Nat) (faulted : Option Nat) : Device :=
  if d.colHeld step.toNat try_ then d
  else
    let dies := List.range 4
    let opens := dies.filterMap (fun die => (d.openCol die step.toNat try_).map (fun r => (die, r)))
    let d := dies.foldl (fun d die => d.markAborted step try_ cause origin die) { d with fab.aborted := [] }
    let d := if send then opens.foldl (fun d x => d.sendAborts (some x.1) x.2 cause origin) d else d
    let d := opens.foldl (fun d x =>
      let d := d.outputOpen x.2
      if faulted = some x.1 then d.colDone x.1 x.2 stFault else (d.writeResult x.2 (x.2.dec.getD {}) true).colDone x.1 x.2 stAborted) d
    dies.foldl (fun d die =>
      let seq := match opens.find? (fun x => x.1 == die) with | some x => x.2.cmd.seq | none => 0
      if cause = 1 then d.post 0x0701 (uDie die) (wd (fld step 15 0 * 2 ^ 16 + origin))
      else d.post 0x0702 (uDie die) (wd (fld step 15 0 * 2 ^ 16 + cause * 2 ^ 12 + seq))) d

def Device.stepAbort (d : Device) (step : Word) (try_ cause origin : Nat) (faulted : Option Nat) : Device :=
  d.abortStep true step try_ cause origin faulted

/-- A fault of an open collective (R407). -/
def Device.colFault (d : Device) (die : Nat) (r : ColRun) (cause piece : Nat) : Device :=
  let lo := wd (2 ^ 31 + cause * 2 ^ 28 + r.cmd.seq)
  ((d.setRecord (colReg die 0x18) lo (wd piece)).post 0x0704 (uDie die) lo).stepAbort r.step r.try_ 5 d.selfMod (some die)

/-- Open collectives, each with its die. -/
def Device.openCols (d : Device) : List (Nat × ColRun) :=
  (List.range 4).filterMap (fun die => (d.colOf die).run.map (fun r => (die, r)))

/-- The engine learns of a partner's new tag (R375, R404). -/
def Device.colPeerReset (d : Device) (src : Nat) : Device :=
  d.openCols.foldl (fun d x =>
    if x.2.gens.any (fun g => (d.port g.1).peer.valid && (d.port g.1).peer.module == src)
    then d.stepAbort x.2.step x.2.try_ 1 src none else d) d

/-- Whether some trunk an open collective needs has every port in TRAIN or OFF. -/
def Device.trunkLost (d : Device) (r : ColRun) : Bool :=
  decide (r.n > 1) && [0, 1].any (fun dir => (d.trunk r.axis dir).all (fun p => decide ((d.port p).state ≤ 1)))

/-- Ports have gone down (R404, cause LINK). -/
def Device.colLinkCheck (d : Device) : Device :=
  d.openCols.foldl (fun d x => if d.trunkLost x.2 then d.stepAbort x.2.step x.2.try_ 2 d.selfMod none else d) d

/-! Phases (R388). -/

/-- Own entries taken into the flags and counters of a collective. -/
def Device.noteEntries (d : Device) (die : Nat) (r : ColRun) (l : List Entry) : Device × ColRun :=
  let t := colReg die 0x20
  let n := (l.filter (·.trunc)).length
  (d.setReg64 t ((join (d.reg t) (d.reg (t + 4)) + n) % 2 ^ 64),
    { r with nonfin := r.nonfin || l.any (·.nonfin), range := r.range || l.any (·.range) })

/-- A complete sum: converted, written, and sent on its way round the ring in ALL_REDUCE. -/
def Device.sumComplete (d : Device) (die : Nat) (r : ColRun) (ring j : Nat) (ps : List Partial) : Device × ColRun :=
  let (l, note) := r.convert j ps
  let d := d.note (colReg die 0xE000) (uDie die) note
  let (d, r) := d.colWrite die r j l
  if r.op = 3 ∧ r.n > 1 then d.sendStream die r ring 2 0 j l else (d, r)

/-- Everything a member receives: (ring, CKIND, round, piece). -/
def ColRun.expected (r : ColRun) : List (Nat × Nat × Nat × Nat) :=
  (ringsOf r.dirs).flatMap (fun ring =>
    let c := ringCoord r.n ring r.c
    (List.range (r.n - 1)).flatMap (fun t =>
      (if r.op ≠ 2 then (r.shard ring ((c + 2 * r.n - t - 2) % r.n)).map (fun j => (ring, 1, t, j)) else []) ++
      (if r.op ≠ 1 then (r.shard ring ((c + 2 * r.n - t - 1) % r.n)).map (fun j => (ring, 2, t, j)) else [])))

/-- The n records are held: the outcome is decided (R399). -/
def Device.colDecide (d : Device) (die : Nat) (r : ColRun) : Device :=
  let dec := decideClose (r.recs.map Prod.snd) d.selfMod r.dgcmp
  if dec.plan then (d.setColRun die r).colFault die r 1 0
  else
    let d := d.setColRun die { r with dec := some dec }
    if r.dgcmp then
      let d := d.setReg (colReg die 0x14) (wd (dec.vote * 2 ^ 30 + dec.maj % 65536))
      if dec.vote ≠ 0 then d.post 0x0706 (uDie die) (wd (dec.vote * 2 ^ 30 + fld r.step 15 0)) else d
    else d

/-- The round in which the close record of a ring coordinate comes. -/
def ColRun.closeRound (r : ColRun) (from_ : Nat) : Nat := (ringCoord r.n r.closeRing r.c + 2 * r.n - 1 - from_) % r.n

/-- A neighbour's close record is passed on, in the round after the one it came in (R388). -/
def Device.passClose (d : Device) (die : Nat) (r : ColRun) (from_ : Nat) (k : List Word) : Device × ColRun :=
  let t := r.closeRound from_
  if t + 2 < r.n then
    d.colSend die r r.closeRing (d.colPacket 3 r.closeRing r.try_ r.cid r.step.toNat (t + 1) 0 0 (clean (wordsToBytes k)))
  else (d, r)

def Device.passCloses (d : Device) (die : Nat) : ColRun → List (Nat × List Word) → Device × ColRun
  | r, [] => (d, r)
  | r, k :: l => let x := d.passClose die r k.1 k.2; x.1.passCloses die x.2 l

/-- The member's own close record, once every data piece has been received and sent; those of its neighbours that came before follow it
(R388). -/
def Device.colClose (d : Device) (die : Nat) (r : ColRun) : Device :=
  if r.closed ∨ r.dec.isSome ∨ !r.wait.isEmpty ∨ !r.expected.all (fun x => r.got.contains x) then d.setColRun die r
  else
    let ring := r.closeRing
    let c := ringCoord r.n ring r.c
    let k := d.closeRecord r
    let came := (List.range r.n).filterMap (fun t => r.recs.find? (fun x => r.closeRound x.1 == t))
    let r := { r with closed := true, recs := r.recs ++ [(c, k)] }
    let (d, r) := if r.n > 1 then d.colSend die r ring (d.colPacket 3 ring r.try_ r.cid r.step.toNat 0 0 0 (clean (wordsToBytes k))) else (d, r)
    let (d, r) := d.passCloses die r came
    if r.recs.length ≥ r.n then d.colDecide die r else d.setColRun die r

/-! Issue (R401 to R403, R405). -/

/-- The event of the first condition of R403 a collective breaks. -/
def colBad (d : Device) (die : Nat) (c : Cmd) : Option Nat :=
  let aw := c.word 3
  let out := d.sramBad aw 64
  let D := if out then [] else d.descWords (sramDA aw) 16
  let r : ColRun := { D := D }
  let w := r.w
  let ax := d.reg (rteReg (0x40 + 4 * r.axis))
  let n := fld ax 29 15 + 1
  let res := w012Reserved c false || partShare c || c.word 4 != 0 || c.word 5 != 0 || c.word 6 != 0 || c.word 7 != 0 || awRes aw
  let ina := pairDA w 0
  let hOut := !d.rangeOk ina 64
  let H := if r.ikind = 0 && r.op != 2 && !hOut then wordAt (d.descWords ina 16) else fun _ => 0
  let inBytes := if r.op = 2 then 256 * r.nunit else if r.ikind = 0 then 64 + r.nunit * blkBytes (fld (H 0) 27 26) (fld (H 0) 25 24)
    else if r.ikind = 1 then 512 * r.nunit else 1024 * r.nunit
  let outBytes := if r.op = 2 then n * r.nunit * 256 else r.ofmt.bytes (256 * r.nunit)
  if out then firstBad [(res, 0x0703), (awMis 64 aw, 0x0703), (true, evAddrUnassigned)]
  else firstBad [
    (res || pairRes w 0 || pairRes w 2 || pairRes w 4 || fld (w 6) 10 8 != 0 || r.op == 0 || decide (r.op > 3) || r.axis == 0 ||
      decide (r.axis > 5) || r.dirs == 0 || decide (r.ikind > 2) || !([0, 1, 2, 4].contains (fld (w 6) 19 16)) || fld (w 7) 31 24 != 0 ||
      fld (w 11) 31 16 != 0 || (!r.dgcmp && w 12 != 0) || (!r.rren && w 13 != 0) || w 15 != 0 || awRes (w 12) || awRes (w 13) ||
      (!r.ofmt.scaled && (w 4 != 0 || w 5 != 0)) || (r.op == 2 && (fld (w 6) 22 12 != 0 || fld (w 6) 7 0 != 0)), 0x0703),
    (!bit ax 31 || (!bit ax 30 && decide (n > 1)), 0x0703),
    (decide (n > 1) && [0, 1].any (fun dir => !(d.trunk r.axis dir).any (fun p => (d.port p).state == 3)), 0x0703),
    (r.op != 2 && r.ikind == 0 && !hOut && ((rangeFrom 6 10).any (fun k => H k != 0) || fld (H 4) 31 16 != 0 || fld (H 0) 30 28 != 0 ||
      fld (H 0) 27 26 == 3 || fld (H 0) 23 0 + 1 != r.nunit || H 2 != d.reg (dreg die 11 8)), 0x0703),
    (awMis 64 aw || ina % 64 != 0 || pairDA w 2 % 16 != 0 || (r.dgcmp && awMis 8 (w 12)) || (r.rren && awMis 16 (w 13)), 0x0703),
    (rmodeReserved (fld (w 6) 15 14), evRmode),
    (!d.rangeOk ina inBytes || !d.rangeOk (pairDA w 2) outBytes || (r.ofmt.scaled && !d.rangeOk (pairDA w 4) (8 * r.nunit)) ||
      (r.dgcmp && d.sramBad (w 12) 8) || (r.rren && d.sramBad (w 13) 16), evAddrUnassigned)]

/-- Own contributions to the first round of a ring: each piece's partials sent (R388). -/
def Device.sendFirst (d : Device) (die ring : Nat) : ColRun → List Nat → Device × ColRun
  | r, [] => (d, r)
  | r, j :: l =>
    let d := d.coder false (r.reads j)
    let es := d.ownEntries r j
    let x := d.noteEntries die r es
    let y := x.1.sendStream die x.2 ring 1 0 j ((partials es).flatMap encodeBlock)
    y.1.sendFirst die ring y.2 l

/-- A collective of one member: its own sums are complete. -/
def Device.sumAlone (d : Device) (die ring : Nat) : ColRun → List Nat → Device × ColRun
  | r, [] => (d, r)
  | r, j :: l =>
    let d := d.coder false (r.reads j)
    let es := d.ownEntries r j
    let x := d.noteEntries die r es
    let y := x.1.sumComplete die x.2 ring j (partials es)
    y.1.sumAlone die ring y.2 l

/-- The input shard of an ALL_GATHER: written to its place and sent. -/
def Device.gatherFirst (d : Device) (die ring : Nat) : ColRun → List Nat → Device × ColRun
  | r, [] => (d, r)
  | r, j :: l =>
    let a := pairDA r.w 0 + 256 * (16 * (j % r.pieces))
    let d := d.fetch a (r.gatherLen j)
    let b := d.readBytes a (r.gatherLen j)
    let x := d.colWrite die r j b
    let y := if r.n > 1 then x.1.sendStream die x.2 ring 2 0 j b else x
    y.1.gatherFirst die ring y.2 l

/-- The pieces a member works on when its collective opens, on one ring (R388). -/
def ColRun.firstPieces (r : ColRun) (ring : Nat) : List Nat :=
  let c := ringCoord r.n ring r.c
  if r.op = 2 then r.shard ring c else if r.n = 1 then r.shard ring 0 else r.shard ring ((c + r.n - 1) % r.n)

/-- What an open collective does at once on one ring. -/
def Device.openRing (d : Device) (die ring : Nat) (r : ColRun) : Device × ColRun :=
  if r.op = 2 then d.gatherFirst die ring r (r.firstPieces ring)
  else if r.n = 1 then d.sumAlone die ring r (r.firstPieces ring)
  else d.sendFirst die ring r (r.firstPieces ring)

/-- What a collective latches when it opens (R401). -/
def Device.colLatch (d : Device) (die : Nat) (c : Cmd) : ColRun :=
  let D := d.descWords (sramDA (c.word 3)) 16
  let w := wordAt D
  let ax := d.reg (rteReg (0x40 + 4 * fld (w 6) 27 25))
  let dg := d.readBytes (sramDA (w 12)) 8
  let dgcmp := bit (w 6) 12
  let ports := d.trunk (fld (w 6) 27 25) 0 ++ d.trunk (fld (w 6) 27 25) 1
  let hdr := if fld (w 6) 22 20 = 0 ∧ fld (w 6) 31 28 ≠ 2 then d.readWord (pairDA w 0) else 0
  { cmd := c, D := D, k0 := d.reg (dreg die 11 0), k1 := d.reg (dreg die 11 4), step := d.reg (dreg die 11 8),
    lsexp := lsExp (d.reg (trsReg die 0x10)), try_ := fld (d.reg (colReg die 8)) 7 0,
    digest := if dgcmp then ofBytes (values dg) else 0, dgpois := dgcmp && anyPoison dg, hdr := hdr,
    n := fld ax 29 15 + 1, c := fld ax 14 0,
    gens := ports.map (fun p => (p, (d.port p).peer.gen)), nonfin := bit hdr 31 }

/-- The contribution header of a collective is read (R401). -/
def Device.colHeader (d : Device) (c : Cmd) : Device :=
  if d.sramBad (c.word 3) 64 then d
  else
    let w := wordAt (d.descWords (sramDA (c.word 3)) 16)
    if fld (w 6) 22 20 = 0 ∧ fld (w 6) 31 28 ≠ 2 ∧ d.rangeOk (pairDA w 0) 64 then d.fetch (pairDA w 0) 64 else d

/-- A fault of the engine that its data do not decide. -/
def checkCause (x : CoreCheck) : Option Nat := match x with | .ok => none | .feedError => some 2 | .coreCheck => some 3

/-- The head of a die's COL queue, of one of these OPs, issues, is refused, or completes at once as aborted. DESIGN CHOICE: an
engine that meets a check in its work at issue (R407) has done all of that work; the piece in progress is the last. -/
def Device.colIssue (d : Device) (die : Nat) (chk : CoreCheck) (ops : List Nat) : Device :=
  match d.ready (qCol die) with
  | none => d
  | some c =>
    let op := if d.sramBad (c.word 3) 64 then 0 else fld (wordAt (d.descWords (sramDA (c.word 3)) 16) 6) 31 28
    if !ops.contains op ∨ (d.colOf die).run.isSome ∨ !d.runs (wCol die) then d
    else
      let d := d.colHeader c
      match d.groupBad (qCol die) c (fun q c => colBad d (q - 716) c) with
      | some (q, ev) => d.refuse (qCol die) c ev (uDie (q - 716)) (if ev = 0x0703 then c.seqWord else 0)
      | none =>
        let r := d.colLatch die c
        let d := d.popCmd (qCol die)
        if d.colHeld r.step.toNat r.try_ then
          let a := d.heldAbort r.step.toNat r.try_
          (((d.sendAborts (some die) r a.1 a.2).outputOpen r).writeResult r {} true).colDone die r stAborted
        else
          let x := (ringsOf r.dirs).foldl (fun x ring => x.1.openRing die ring x.2) (d, r)
          match checkCause chk with
          | some cause => (x.1.setColRun die x.2).colFault die x.2 cause (((ringsOf r.dirs).flatMap r.firstPieces).getLastD 0)
          | none => x.1.colClose die x.2

/-- REDUCE_SCATTER; a collective with a reserved OP is refused here too. -/
def devReduceScatter (die : Nat) (chk : CoreCheck) (d : Device) : Device := d.colIssue die chk [1, 0, 4, 5, 6, 7, 8, 9, 10, 11, 12, 13, 14, 15]
/-- ALL_GATHER. -/
def devAllGather (die : Nat) (chk : CoreCheck) (d : Device) : Device := d.colIssue die chk [2]
/-- ALL_REDUCE. -/
def devAllReduce (die : Nat) (chk : CoreCheck) (d : Device) : Device := d.colIssue die chk [3]

/-! Packets that arrive (R389, R395 to R399, R405). -/

/-- The first received packet of a port that satisfies a test, taken out of the buffer; its slots are freed (R360). -/
def Device.takeRx (d : Device) (p : Nat) (f : Packet → Bool) : Option (Packet × Device) :=
  let x := d.port p
  match x.rx.findIdx? (fun r => f r.1) with
  | none => none
  | some i =>
    let r := x.rx.getD i ({}, false)
    some (r.1, d.setPort p ({ x with rx := x.rx.eraseIdx i }.freed r.2 r.1))

def colKind (k : Packet) : Nat := fld (k.w 2) 31 28
def colTry (k : Packet) : Nat := fld (k.w 2) 23 16
def colRing (k : Packet) : Nat := fld (k.w 2) 27 26
def colStep (k : Packet) : Nat := fld (k.w 5) 15 0
def colCid (k : Packet) : Nat := fld (k.w 5) 31 16

/-- The die whose engine has a packet's (CID, STEP, TRY) open. -/
def Device.colDie (d : Device) (k : Packet) : Option (Nat × ColRun) :=
  d.openCols.find? (fun x => x.2.cid == colCid k && x.2.step.toNat % 65536 == colStep k && x.2.try_ == colTry k)

/-- Whether a packet is dropped under R397. -/
def Device.colStale (d : Device) (p : Nat) (k : Packet) : Bool :=
  fld (k.w 7) 31 24 != d.selfGen || (colKind k != 4 && d.colHeld (colStep k) (colTry k)) ||
    (match d.colDie k with
     | some (_, r) => (match r.gens.find? (fun g => g.1 == p) with | some g => g.2 != k.sgen | none => true)
     | none => false)

/-- The first COL packet of a kind that can be taken: it is stale, or some engine has it open. -/
def Device.takeCol (d : Device) (p kind : Nat) : Option (Packet × Device) :=
  d.takeRx p (fun k => k.pt == 5 && colKind k == kind && (d.colStale p k || kind == 4 || (d.colDie k).isSome))

/-- The bytes of a stream from SOFF 0 up, as far as they have come. -/
def contiguous : Nat → Nat → List (Nat × List PByte) → List PByte
  | 0, _, _ => []
  | n + 1, pos, l =>
    match l.find? (fun x => x.1 * 32 == pos) with
    | none => []
    | some x => if x.2.isEmpty then [] else x.2 ++ contiguous n (pos + x.2.length) l

/-- A data packet joins its piece stream; none where it repeats one already received, or is none of this member's. -/
def ColRun.addPart (r : ColRun) (k : Packet) : Option (ColRun × List PByte) :=
  let ring := colRing k
  let kind := colKind k
  let round := fld (k.w 6) 31 16
  let piece := fld (k.w 7) 23 0
  let soff := fld (k.w 6) 15 0
  let key := (ring, kind, round, piece)
  if r.got.contains key ∨ !r.expected.contains key then none
  else
    let same (x : ColPiece) : Bool := x.ring == ring && x.kind == kind && x.round == round && x.piece == piece
    let old := (r.recv.find? same).getD { ring := ring, kind := kind, round := round, piece := piece }
    if old.parts.any (fun x => x.1 == soff) then none
    else
      let new := { old with parts := old.parts ++ [(soff, mark k.poison k.body)] }
      some ({ r with recv := r.recv.filter (fun x => !same x) ++ [new] }, contiguous new.parts.length 0 new.parts)

/-- The piece stream a data packet belongs to: ring, CKIND, round and piece. -/
def colKey (k : Packet) : Nat × Nat × Nat × Nat := (colRing k, colKind k, fld (k.w 6) 31 16, fld (k.w 7) 23 0)

/-- The packets that have come of a packet's piece stream, by SOFF. -/
def ColRun.partsOf (r : ColRun) (k : Packet) : List (Nat × List PByte) :=
  ((r.recv.find? (fun x => (x.ring, x.kind, x.round, x.piece) == colKey k)).map (·.parts)).getD []

/-- A packet beyond the end of a stream that its heads have shown complete: its length disagrees with them (R407). -/
def ColRun.overrun (r : ColRun) (k : Packet) : Bool :=
  match r.soffs.lookup (colKey k) with | some l => !l.contains (fld (k.w 6) 15 0) | none => false

/-- A complete stream has n bytes but packets of it lie beyond them. -/
def ColRun.longer (r : ColRun) (k : Packet) (n : Nat) : Bool :=
  decide (n < ((r.partsOf k).map (fun x => x.2.length)).foldl (· + ·) 0)

/-- A piece stream is done. -/
def ColRun.pieceDone (r : ColRun) (k : Packet) : ColRun :=
  { r with
    got := r.got ++ [colKey k]
    soffs := r.soffs ++ [(colKey k, (r.partsOf k).map Prod.fst)]
    recv := r.recv.filter (fun x => !((x.ring, x.kind, x.round, x.piece) == colKey k)) }

/-- A REDUCE packet for an open collective. -/
def Device.reducePart (d : Device) (die : Nat) (r : ColRun) (k : Packet) (x : CoreCheck) : Device :=
  let piece := fld (k.w 7) 23 0
  let round := fld (k.w 6) 31 16
  if r.overrun k then (d.progress (wCol die)).colFault die r 4 piece
  else match r.addPart k with
  | none => d
  | some (r, bytes) =>
    let d := (d.setColRun die r).progress (wCol die)
    match checkCause x with
    | some c => d.colFault die r c piece
    | none => match decodeStream (8 * r.pieceUnits piece) (values bytes) with
      | .broken => d.colFault die r 4 piece
      | .more => if bytes.length % 32 = 0 then d else d.colFault die r 4 piece
      | .ok ps =>
        if r.longer k bytes.length then d.colFault die r 4 piece
        else
          let r := r.pieceDone k
          let d := d.coder false (r.reads piece)
          let es := d.ownEntries r piece
          let (d, r) := d.noteEntries die r es
          let ps := addPartials ps (partials es)
          let (d, r) := if round + 2 < r.n then d.sendStream die r (colRing k) 1 (round + 1) piece (ps.flatMap encodeBlock)
            else d.sumComplete die r (colRing k) piece ps
          d.colClose die r

/-- COL_REDUCE. -/
def devColReduce (p : Nat) (x : CoreCheck) (d : Device) : Device :=
  match d.takeCol p 1 with
  | none => d
  | some (k, d') =>
    if d.colStale p k then d'.count (rteReg 0x28)
    else match d'.colDie k with
      | none => d'
      | some (die, r) => d'.reducePart die r k x

/-- A GATHER packet for an open collective. -/
def Device.gatherPart (d : Device) (die : Nat) (r : ColRun) (k : Packet) (x : CoreCheck) : Device :=
  let piece := fld (k.w 7) 23 0
  let round := fld (k.w 6) 31 16
  if r.overrun k then (d.progress (wCol die)).colFault die r 4 piece
  else match r.addPart k with
  | none => d
  | some (r, bytes) =>
    let d := (d.setColRun die r).progress (wCol die)
    match checkCause x with
    | some c => d.colFault die r c piece
    | none =>
      if bytes.length > r.gatherLen piece ∨ (bytes.length = r.gatherLen piece ∧ r.longer k bytes.length) then d.colFault die r 4 piece
      else if bytes.length < r.gatherLen piece then d
      else
        let (d, r) := d.colWrite die (r.pieceDone k) piece bytes
        let (d, r) := if round + 2 < r.n then d.sendStream die r (colRing k) 2 (round + 1) piece bytes else (d, r)
        d.colClose die r

/-- COL_GATHER. -/
def devColGather (p : Nat) (x : CoreCheck) (d : Device) : Device :=
  match d.takeCol p 2 with
  | none => d
  | some (k, d') =>
    if d.colStale p k then d'.count (rteReg 0x28)
    else match d'.colDie k with
      | none => d'
      | some (die, r) => d'.gatherPart die r k x

/-- A close record for an open collective: kept, passed on once this member has sent its own, and the outcome decided with the last. -/
def Device.closePart (d : Device) (die : Nat) (r : ColRun) (k : Packet) (x : CoreCheck) : Device :=
  let round := fld (k.w 6) 31 16
  let ring := r.closeRing
  let c := ringCoord r.n ring r.c
  let from_ := (c + 2 * r.n - round - 1) % r.n
  if round + 1 ≥ r.n ∨ colRing k ≠ ring ∨ r.recs.any (fun x => x.1 == from_) then d
  else
    let d := d.progress (wCol die)
    let w := bytesToWords 8 k.body
    let r := { r with recs := r.recs ++ [(from_, w)] }
    match checkCause x with
    | some c => d.colFault die r c 0
    | none =>
      if !r.closed then d.setColRun die r
      else
        let (d, r) := d.passClose die r from_ w
        if r.recs.length ≥ r.n then d.colDecide die r else d.setColRun die r

/-- COL_CLOSE. -/
def devColClose (p : Nat) (x : CoreCheck) (d : Device) : Device :=
  match d.takeCol p 3 with
  | none => d
  | some (k, d') =>
    if d.colStale p k then d'.count (rteReg 0x28)
    else match d'.colDie k with
      | none => d'
      | some (die, r) => d'.closePart die r k x

/-- The timeouts of an open collective (R400, R404). -/
def Device.colTimers (d : Device) (die : Nat) : List Timer :=
  match (d.colOf die).run with
  | none => []
  | some r => .collective die r.cmd.cid :: (if r.dec.isSome then [.seal die r.cmd.cid] else [])

/-- SEAL_EXPIRY (R400): the record is written and the collective completes. -/
def devSealExpiry (die : Nat) (d : Device) : Device :=
  match (d.colOf die).run with
  | none => d
  | some r => match r.dec with
    | none => d
    | some dec =>
      if !d.expired (.seal die r.cmd.cid) (1000 * fld (d.reg (colReg die 0xC)) 15 0) then d
      else if dec.abort then ((d.outputOpen r).writeResult r dec true).colDone die r stAborted
      else
        (d.writeResult r dec false).colDone die r (if r.pois then stPoisoned else stDone)

/-- ABORT_PACKET (R405): R404 where the step is not held as aborted yet, and the packet goes on in its direction on the ring it
came on, once for each ring and direction. -/
def devAbortPacket (p : Nat) (d : Device) : Device :=
  match d.takeCol p 4 with
  | none => d
  | some (k, d') =>
    if d.colStale p k then d'.count (rteReg 0x28)
    else
      let a := bytesToWords 8 k.body
      let step := wordAt a 1
      let try_ := fld (wordAt a 2) 7 0
      let cause := fld (wordAt a 0) 30 28
      let origin := fld (wordAt a 0) 14 0
      let d := d'.stepAbort step try_ cause origin none
      let axis := fld (d.reg (rteReg (if p < 8 then 0x30 else 0x34))) (4 * (p % 8) + 3) (4 * (p % 8) + 1)
      if d.fab.aborted.contains (axis, colRing k) then d
      else d.sendAbort none [] axis (colRing k) { d.abortPacket (colRing k) try_ (colCid k) step cause origin with body := k.body }

/-- COLLECTIVE_TIMEOUT (R404): the limit of a collective that has one runs out, in units of 16 µs from its issue. -/
def devCollectiveTimeout (die : Nat) (d : Device) : Device :=
  match (d.colOf die).run with
  | none => d
  | some r =>
    let tmo := fld (r.w 14) 15 0
    if tmo = 0 ∨ !d.expired (.collective die r.cmd.cid) (16000 * tmo) then d else d.stepAbort r.step r.try_ 3 d.selfMod none

/-- HOST_ABORT (R404). -/
def devHostAbort (die : Nat) (d : Device) : Device :=
  match (d.colOf die).run with
  | none => d
  | some r => d.stepAbort r.step r.try_ 4 d.selfMod none

/-- Packets that waited for a trunk port try again. -/
def Device.flushCol (d : Device) (die : Nat) : Device :=
  match (d.colOf die).run with
  | none => d
  | some r =>
    if r.wait.isEmpty then d
    else
      let x := r.wait.foldl (fun x k => x.1.colSend die x.2 k.1 k.2) (d, { r with wait := [] })
      x.1.colClose die x.2

end Sys2Proof.Machine
end

