-- ==== Sys2Proof/Machine/Elementary.lean ====
section
/-! DEFINITION. The functions that R133 and R181 give to 2 units in the last place of FP32: their values in fixed point with 512
fractional bits, and the results the bound allows. DEDUCED: the bound is taken of this value, whose own error is below 2^-200. -/

namespace Sys2Proof.Machine

/-- One, in fixed point. -/
def fx1 : Nat := 2 ^ 512

def fxMul (a b : Nat) : Nat := a * b / fx1
def fxDiv (a b : Nat) : Nat := a * fx1 / b

/-- A finite value's magnitude in fixed point. -/
def fxOf : Val → Nat
  | .fin _ m e => if 0 ≤ e + 512 then m * 2 ^ (e + 512).toNat else m / 2 ^ (-(e + 512)).toNat
  | _ => 0

/-- Newton's steps to a square root from above. -/
def sqrtSteps (n : Nat) : Nat → Nat → Nat
  | 0, x => x
  | k + 1, x => sqrtSteps n k ((x + n / x) / 2)

/-- The square root of a number, to the unit. -/
def isqrt (n : Nat) : Nat := if n = 0 then 0 else sqrtSteps n 24 (2 ^ (Nat.log2 n / 2 + 1))

/-- t + t x / d₁ + t x² / (d₁ d₂) + …, for n divisors d from `d`, `step` apart. -/
def powerSum (x step : Nat) : Nat → Nat → Nat → Nat
  | 0, t, _ => t
  | n + 1, t, d => if t = 0 then 0 else t + powerSum x step n (fxMul t x / d) (d + step)

/-- w + w³/3 + w⁵/5 + …, the inverse hyperbolic tangent, for w at most 1/3; `p` is the power of w reached. -/
def atanhSum (w2 : Nat) : Nat → Nat → Nat → Nat
  | 0, _, _ => 0
  | n + 1, p, k => if p = 0 then 0 else p / k + atanhSum w2 n (fxMul p w2) (k + 2)

def atanhFx (w : Nat) : Nat := atanhSum (fxMul w w) 400 w 1

/-- The arc tangent of 1 / q, with its sign alternating. -/
def atanInv (q : Nat) : Nat → Nat → Nat → Int
  | 0, _, _ => 0
  | n + 1, p, k => ((p / k : Nat) : Int) - atanInv q n (p / (q * q)) (k + 2)

def ln2Fx : Nat := 2 * atanhFx (fx1 / 3)
def piFx : Nat := (16 * atanInv 5 120 (fx1 / 5) 1 - 4 * atanInv 239 40 (fx1 / 239) 1).toNat

/-- ln(1 + y) for y from 0 to 1. -/
def log1pFx (y : Nat) : Nat := 2 * atanhFx (fxDiv y (2 * fx1 + y))

/-- e^-x for x not negative: e^(n ln 2 - x) scaled back by 2^n. -/
def expNeg (x : Nat) : Nat :=
  if 400 * fx1 ≤ x then 0
  else
    let n := x / ln2Fx + 1
    powerSum (n * ln2Fx - x) 1 200 fx1 1 / 2 ^ n

/-- 1 / (1 + e^-z), of a signed z. -/
def sigmoidFx (neg : Bool) (z : Nat) : Nat :=
  let e := expNeg z
  if neg then fxDiv e (fx1 + e) else fxDiv fx1 (fx1 + e)

/-- The same times its complement. -/
def sigmoidSlope (z : Nat) : Nat :=
  let e := expNeg z
  fxDiv (fxDiv e (fx1 + e)) (fx1 + e)

def tanhFx (z : Nat) : Nat := let e := expNeg (2 * z); fxDiv (fx1 - e) (fx1 + e)

/-- The standard normal density, and its distribution above zero less one half; from 20 on what is missing to one half is below 2^-280. -/
def normalFx (z : Nat) : Nat := fxDiv (expNeg (fxMul z z / 2)) (isqrt (2 * piFx * fx1))
def normalHalf (z : Nat) : Nat :=
  if 20 * fx1 ≤ z then fx1 / 2 else fxMul (normalFx z) (powerSum (fxMul z z) 2 3000 z 3)

/-- The distribution at a signed z. -/
def normalAt (neg : Bool) (z : Nat) : Nat := if neg then fx1 / 2 - normalHalf z else fx1 / 2 + normalHalf z

/-- The error function, of a value not negative: 2 / √π e^-x² (x + 2x³/3 + 4x⁵/15 + …); from 12 on
what is missing to 1 is below 2^-200. -/
def erfFx (x : Nat) : Nat :=
  if 12 * fx1 ≤ x then fx1
  else min fx1 (fxMul (fxDiv (2 * expNeg (fxMul x x)) (isqrt (piFx * fx1))) (powerSum (2 * fxMul x x) 2 3000 x 3))

/-- u = 0.797 884 56 (z + 0.044 715 z³) of R133, twice, and its slope, twice. -/
def geluArg (z : Nat) : Nat := 2 * (79788456 * (z + 44715 * fxMul (fxMul z z) z / 1000000) / 100000000)
def geluSlope (z : Nat) : Nat := 2 * (79788456 * (fx1 + 3 * 44715 * fxMul z z / 1000000) / 100000000)

/-- A signed fixed-point number. -/
def fxSigned (neg : Bool) (z : Nat) : Int := if neg then -(z : Int) else z

/-- f(z) of the ACT codes that R133 does not mark exact. -/
def actFx (code : Nat) (neg : Bool) (z : Nat) : Int :=
  match code with
  | 3 => fxSigned neg (fxMul z (sigmoidFx neg (geluArg z)))
  | 4 => fxSigned neg (fxMul z (normalAt neg z))
  | 5 => fxSigned neg (fxMul z (sigmoidFx neg z))
  | 6 => sigmoidFx neg z
  | 7 => fxSigned neg (tanhFx z)
  | _ => ((if neg then 0 else z) + log1pFx (expNeg z) : Nat)

/-- f'(z) of the same. -/
def actSlopeFx (code : Nat) (neg : Bool) (z : Nat) : Int :=
  match code with
  | 3 => sigmoidFx neg (geluArg z) + fxSigned neg (fxMul (fxMul z (geluSlope z)) (sigmoidSlope (geluArg z)))
  | 4 => normalAt neg z + fxSigned neg (fxMul z (normalFx z))
  | 5 => sigmoidFx neg z + fxSigned neg (fxMul z (sigmoidSlope z))
  | 6 => sigmoidSlope z
  | 7 => 4 * sigmoidSlope (2 * z)
  | _ => sigmoidFx neg z

/-- The integer part and the fraction of the base-2 logarithm of m 2^e, as one signed number. -/
def log2Fx (m : Nat) (e : Int) : Int :=
  let k := Nat.log2 m
  (e + k) * fx1 + fxDiv (log1pFx (m * fx1 / 2 ^ k - fx1)) ln2Fx

/-- 2^x of a signed x within the range of FP32. -/
def exp2Fx (neg : Bool) (x : Nat) : Nat :=
  if neg then expNeg (fxMul x ln2Fx)
  else
    let n := x / fx1 + 1
    2 ^ n * expNeg (fxMul (n * fx1 - x) ln2Fx)

/-- The FN functions of R181, outside the special inputs of R512. -/
def fspecFx (fn : Nat) (v : Val) : Int :=
  match v with
  | .fin s m e =>
    let z := fxOf v
    match fn with
    | 0 => fxSigned s (2 ^ (512 - e).toNat / m)
    | 1 => isqrt (2 ^ (1024 - e).toNat / m)
    | 2 => exp2Fx s z
    | 3 => log2Fx m e
    | 4 => fxSigned s (tanhFx z)
    | _ => fxSigned s (erfFx z)
  | _ => 0

/-- The magnitude of an FP32 code in fixed point, infinity as the value that follows the largest. -/
def fxCode (c : Nat) : Nat := if c / 2 ^ 23 = 0 then c * 2 ^ (512 - 149) else (2 ^ 23 + c % 2 ^ 23) * 2 ^ (c / 2 ^ 23 - 1 + 512 - 149)

/-- A unit in the last place of FP32 at a fixed-point number. -/
def fxUlp (x : Nat) : Nat := 2 ^ max (512 - 149) (Nat.log2 x - 23)

/-- The FP32 code of the magnitude nearest a fixed-point number. -/
def nearest32 (x : Nat) : Nat := Fmt.fp32.rne (.fin false x (-512))

/-- A result within 2 units in the last place: `pick` chooses among the nearest code and the two on either side of it that the bound
allows, and the sign of a zero. -/
def within2 (y : Int) (pick : Nat) : Word :=
  let x := y.natAbs
  let c := nearest32 x
  let n := c + pick % 5 - 2
  let far := (fxCode n : Int) - x
  let r := if c + pick % 5 < 2 ∨ 0x7F800000 < n ∨ 2 * fxUlp x < far.natAbs then c else n
  setBit (wd r) 31 (if r = 0 then decide (pick / 5 % 2 = 1) else decide (y < 0))

/-- f(z) and f'(z) of a finite z, for an ACT code that R133 does not mark exact. -/
def actNear (code : Nat) (z : Val) : Word :=
  within2 (actFx code (z.lt Val.zero) (fxOf z)) (Config.actPick code (wd (Fmt.fp32.rne z)))
def actSlopeNear (code : Nat) (z : Val) : Word :=
  within2 (actSlopeFx code (z.lt Val.zero) (fxOf z)) (Config.actSlopePick code (wd (Fmt.fp32.rne z)))

/-- FSPEC outside the special inputs of R512. -/
def fspecNear (fn : Nat) (a : Word) : Word := within2 (fspecFx fn (f32 a)) (Config.fspecPick fn a)

end Sys2Proof.Machine
end

