-- ==== Sys2Proof/Machine/Drain.lean ====
section
/-! DEFINITION. The glaze drain: its descriptor, the stages of R131, reductions, poison, completion and faults (chapter
"Accumulators and the glaze drain"). -/

namespace Sys2Proof.Machine

/-- The words of a latched drain descriptor (R144). -/
def DRun.desc (r : DRun) : List Word := bytesToWords 32 (values r.cmd.desc)

/-! Descriptor fields. -/

structure DrainF where
  oaddr : Word
  osaddr : Word
  opitch : Nat
  side : Nat
  biasen : Bool
  scmode : Nat
  rtap : Nat
  raxis : Bool
  rkind : Nat
  epos : Bool
  eop : Nat
  dsrc : Nat
  dfn : Nat
  act : Nat
  obdir : Bool
  nosat : Bool
  rmode : Nat
  ofmt : Nat
  ncol : Nat
  col0 : Nat
  sfmt : Nat
  dfmt : Nat
  efmt : Nat
  bfmt : Nat
  deriving DecidableEq, Repr

def drainF (w : List Word) : DrainF :=
  let D := wordAt w
  let d3 := D 3
  let d4 := D 4
  { oaddr := D 0, osaddr := D 1, opitch := (D 2).toNat, side := fld d3 1 0, biasen := bit d3 2, scmode := fld d3 4 3,
    rtap := fld d3 6 5, raxis := bit d3 7, rkind := fld d3 10 8, epos := bit d3 11, eop := fld d3 13 12, dsrc := fld d3 15 14,
    dfn := fld d3 19 16, act := fld d3 23 20, obdir := bit d3 24, nosat := bit d3 25, rmode := fld d3 27 26, ofmt := fld d3 31 28,
    ncol := fld d4 7 0 + 1, col0 := fld d4 15 8, sfmt := fld d4 19 16, dfmt := fld d4 23 20, efmt := fld d4 27 24,
    bfmt := fld d4 31 28 }

/-- Bytes of one reduction record (R138). -/
def recBytes (rkind : Nat) : Nat := if rkind ≤ 2 then 4 else 8

def drowsOf (c : Cmd) : Nat := fld (c.word 6) 15 0 + 1
def drow0 (c : Cmd) : Nat := fld (c.word 4) 16 0

/-- OBDIR 1 forms blocks down columns: only for a block-scaled OFMT (R137). -/
def DrainF.down (f : DrainF) : Bool := f.obdir && (fmtOf f.ofmt).scaled

/-- The refusals of R144, in its order, then RMODE and address ranges; what the descriptor says counts only where it could be
read. DESIGN CHOICE: addresses and pitches of an operand that is not in use (EOP 0, DSRC 0, SIDE 0, RKIND 0, no bias or scale vector) are not
held to their alignment or to assigned SRAM. -/
def drainBad (d : Device) (die a : Nat) (c : Cmd) : Option Nat :=
  let w := bytesToWords 32 (values c.desc)
  let D := wordAt w
  let f := drainF w
  let pm := (d.arr die a).pmode
  let tl := d.tile die a (tileOf c)
  let rows := drowsOf c
  let of := fmtOf f.ofmt
  let sf := fmtOf f.sfmt
  let df := fmtOf f.dfmt
  let ef := fmtOf f.efmt
  let bf := fmtOf f.bfmt
  let off := d.sramBad (c.word 5) 128
  let read := !awMis 128 (c.word 5) && !off
  let res := w012Reserved c true || bit (c.word 0) 25 || c.word 7 != 0 || fld (c.word 6) 31 16 != 0 || fld (c.word 4) 31 17 != 0 ||
    fld (c.word 3) 31 25 != 0 || fld (c.word 3) 19 12 != 0 || awRes (c.word 5)
  let dres := (w.drop 22).any (fun x => x != 0) || fld (D 21) 31 16 != 0 || [0, 1, 6, 7, 8, 10, 11, 13, 14, 16].any (fun k => awRes (D k))
  let rval := f.dsrc == 3 || f.eop == 3 || f.scmode == 3 || f.side == 3 || f.rtap == 3 || decide (f.rkind > 4) || decide (f.act > 8) ||
    decide (f.dfn > 8) || [f.ofmt, f.dfmt, f.sfmt, f.efmt, f.bfmt].any (fun x => decide (x > 10))
  firstBad [
    (res || (read && (dres || rval)), evInstrInvalid),
    (!tl.en, evInstrInvalid),
    (if tl.ring then tl.bken && decide (drow0 c + rows > tl.tlrows) else decide (drow0 c + rows > tl.rows), evInstrInvalid),
    (decide (partsOf pm ≤ c.part) || (read && (decide (f.col0 < c.part * widthOf pm) ||
      decide (f.col0 + f.ncol > (c.part + 1) * widthOf pm))), evInstrInvalid),
    (read && (of == .e8m0 || (f.dsrc == 1 && df == .e8m0) || (f.side == 1 && sf == .e8m0)), evInstrInvalid),
    (read && (decide (f.efmt > 2) || decide (f.bfmt > 1)), evInstrInvalid),
    (read && f.dsrc == 2 && f.dfn != 1 && f.dfn != 2, evInstrInvalid),
    (read && f.ncol % 32 != 0 && ((of.scaled && !f.obdir) || (f.dsrc == 1 && df.scaled) || (f.side == 1 && sf.scaled)), evInstrInvalid),
    (read && f.obdir && rows % 32 != 0, evInstrInvalid),
    (read && f.ncol % 8 != 0 && (f.side == 2 || f.dsrc == 2), evInstrInvalid),
    (awMis 128 (c.word 5) || (read && (awMis 16 f.oaddr || f.opitch % 16 != 0 || (f.scmode == 2 && awMis 16 (D 6)) ||
      (f.biasen && awMis 16 (D 7)) || (f.eop != 0 && (awMis 16 (D 8) || (D 9).toNat % 16 != 0)) ||
      (f.dsrc != 0 && (awMis 16 (D 10) || (D 12).toNat % 16 != 0)) || (f.side != 0 && (awMis 16 (D 13) || (D 15).toNat % 16 != 0)) ||
      (f.rkind != 0 && awMis 16 (D 16)))), evInstrInvalid),
    (read && rmodeReserved f.rmode, evRmode),
    (off || (read && (d.sramRowsBad f.oaddr rows f.opitch (of.bytes f.ncol) ||
      (of.scaled && d.sramBad f.osaddr (if f.obdir then rows / 32 * f.ncol else rows * (f.ncol / 32))) ||
      (f.scmode == 2 && d.sramBad (D 6) (4 * f.ncol)) || (f.biasen && d.sramBad (D 7) (bf.bytes f.ncol)) ||
      (f.eop != 0 && d.sramRowsBad (D 8) rows (D 9).toNat (ef.bytes f.ncol)) ||
      (f.dsrc == 1 && (d.sramRowsBad (D 10) rows (D 12).toNat (df.bytes f.ncol) || (df.scaled && d.sramBad (D 11) (rows * (f.ncol / 32))))) ||
      (f.dsrc == 2 && d.sramRowsBad (D 10) rows (D 12).toNat (f.ncol / 8)) ||
      (f.side == 1 && (d.sramRowsBad (D 13) rows (D 15).toNat (sf.bytes f.ncol) || (sf.scaled && d.sramBad (D 14) (rows * (f.ncol / 32))))) ||
      (f.side == 2 && d.sramRowsBad (D 13) rows (D 15).toNat (f.ncol / 8)) ||
      (f.rkind != 0 && d.sramBad (D 16) ((if f.raxis then f.ncol else rows) * recBytes f.rkind)))), evAddrUnassigned)]

/-- The refusal of a drain in a drain queue, on the tile it will meet. -/
def Device.partDrainBad (d : Device) (q : Nat) (c : Cmd) : Option Nat :=
  if c.op = 6 then drainBad (d.tileFor (qDie q) (qArray q) (tileOf c)) (qDie q) (qArray q) c else none

/-- DRAIN (R140): the head of the drain queue issues with its latched, checked descriptor. -/
def devDrain (die a p : Nat) (d : Device) : Device :=
  match d.ready (qDrn die a p) with
  | none => d
  | some c =>
    if c.op ≠ 6 ∨ !d.runs (wPair die a) ∨ (d.tilePend die a (tileOf c)).isSome then d
    else match d.groupBad (qDrn die a p) c d.partDrainBad with
      | some (b, ev) => d.refuse (qDrn die a p) c ev (uArray (qDie b) (qArray b)) 0
      | none =>
        let f := drainF (bytesToWords 32 (values c.desc))
        let run : DRun := { cmd := c, draw := d.draw die 0 (wordAt (bytesToWords 32 (values c.desc)) 17), served := (d.accCnt die a).turns,
                            taps := if f.rkind ≠ 0 ∧ f.raxis then List.replicate f.ncol {} else [] }
        (d.popCmd (qDrn die a p)).setDrains die a p (d.drains die a p ++ [run])

/-! Activations (R133, R134). -/

def one : Val := .fin false 1 0

/-- z > 0. -/
def isPos (z : Val) : Bool := Val.zero.lt z

/-- The limits of the inexact functions at plus and minus infinity (R133). -/
def actLimit (code : Nat) (neg : Bool) : Val :=
  if neg then (if code = 7 then one.neg else Val.zero)
  else if code = 6 ∨ code = 7 then one else .inf false

def actDerivLimit (code : Nat) (neg : Bool) : Val :=
  if neg then Val.zero else if code = 6 ∨ code = 7 then Val.zero else one

/-- f(z) (R133). -/
def actF (code : Nat) (alpha z : Val) : Val :=
  match z with
  | .nan => .nan
  | z =>
    match code with
    | 0 => z
    | 1 => if isPos z then z else Val.zero
    | 2 => if isPos z then z else if z.isInf && alpha.isZero then Val.zero else rne32 (alpha.mul z)
    | _ => match z with
      | .inf s => actLimit code s
      | z => f32 (actNear code z)

/-- f'(z) (R133). DESIGN CHOICE: f' of LEAKY_RELU at minus infinity is ALPHA as it stands, −0 too. -/
def actD (code : Nat) (alpha z : Val) : Val :=
  match z with
  | .nan => .nan
  | z =>
    match code with
    | 0 => one
    | 1 => if isPos z then one else Val.zero
    | 2 => if isPos z then one else alpha
    | _ => match z with
      | .inf s => actDerivLimit code s
      | z => f32 (actSlopeNear code z)

/-! One row (R131 to R139). -/

/-- What the drain computes of one element: z (for the side output), y before conversion, and its poison. -/
structure DElem where
  z : Val
  y : Val
  p : Bool
  deriving DecidableEq, Repr

/-- Bit k of packed one-bit data at an address (R136). -/
def Device.bitAt (d : Device) (base k : Nat) : Bool × Bool :=
  let b := d.readByte (base + k / 8)
  (b.1.toNat / 2 ^ (k % 8) % 2 == 1, b.2)

/-- Element j (column COL0 + j) of drained row r through the stages of R131, from its accumulator value. -/
def drainElem (d : Device) (w : List Word) (f : DrainF) (r j : Nat) (acc : Val × Bool) : DElem :=
  let D := wordAt w
  let alpha := Fmt.bf16.decode (fld (D 19) 31 16)
  let sc : Val × Bool := match f.scmode with
    | 1 => (f32 (D 5), false)
    | 2 => d.rowVal (sramDA (D 6)) 0 .fp32 j
    | _ => (one, false)
  let bias : Val × Bool := if f.biasen then d.rowVal (sramDA (D 7)) 0 (fmtOf f.bfmt) j else (Val.zero, false)
  let e : Val × Bool := if f.eop ≠ 0 then d.rowVal (sramDA (D 8) + r * (D 9).toNat) 0 (fmtOf f.efmt) j else (Val.zero, false)
  let z := if f.scmode ≠ 0 ∨ f.biasen then rne32 ((acc.1.mul sc.1).add bias.1) else acc.1
  let ew (v : Val) : Val := if f.eop = 1 then rne32 (v.add e.1) else if f.eop = 2 then rne32 (v.mul e.1) else v
  let z := if f.epos then z else ew z
  let y := actF f.act alpha z
  let dv : Val × Bool := match f.dsrc with
    | 1 =>
      let x := d.rowVal (sramDA (D 10) + r * (D 12).toNat) (sramDA (D 11) + r * (f.ncol / 32)) (fmtOf f.dfmt) j
      (actD f.dfn alpha x.1, x.2)
    | 2 =>
      let b := d.bitAt (sramDA (D 10) + r * (D 12).toNat) j
      (if b.1 then one else if f.dfn = 2 then alpha else Val.zero, b.2)
    | _ => (one, false)
  let y := if f.dsrc ≠ 0 then rne32 (y.mul dv.1) else y
  let y := if f.epos then ew y else y
  { z := z, y := y, p := acc.2 || sc.2 || bias.2 || e.2 || dv.2 }

/-- Whether the row may be read: under WAITSEQ 1 every quarter it covers holds it with SEQ equal to LASTSEQ (R140). -/
def Device.rowFinal (d : Device) (die a : Nat) (c : Cmd) (col0 ncol l : Nat) : Bool :=
  let tl := d.tile die a (tileOf c)
  !bit (c.word 3) 20 || (rangeFrom (col0 / 64) ((col0 + ncol - 1) / 64 - col0 / 64 + 1)).all (fun q =>
    let qu := d.quart die a (tl.slot l) q
    qu.holds tl l == some l && qu.seq == some (fld (c.word 3) 11 0))

/-- Quarter q of logical row l as a drain reads it, and whether it was a ring miss (R140). -/
def Device.drainQuarter (d : Device) (die a t l q : Nat) : Quarter × Bool :=
  let tl := d.tile die a t
  let qu := d.quart die a (tl.slot l) q
  if qu.holds tl l = some l then (qu, false)
  else if tl.bken then (d.fillQuarter tl l q, false)
  else ({ pois := true }, true)

/-- The value of accumulator column n of a row, given its quarters from q0 on. -/
def quarterVal (f : Fmt) (qs : List Quarter) (q0 n : Nat) : Val × Bool :=
  let qu := qs.getD (n / 64 - q0) {}
  (f.decode (qu.vals.getD (n % 64) 0), qu.pois)

/-- One value taken into a running reduction (R138); a poisoned value makes it NaN. DESIGN CHOICE: a zero sum is −0 where every value
is −0, and +0 otherwise; R138 gives the exact sum and no sign of a zero. -/
def Tap.take (t : Tap) (x : Val × Bool) : Tap :=
  let v := if x.2 then Val.nan else x.1
  { s := if t.n = 0 then v else t.s.add v, q := if t.n = 0 then v.sq else t.q.add v.sq, n := t.n + 1, pois := t.pois || x.2 }

/-- A finite value times k divided by n, rounded once to FP32 nearest-even. -/
def divRne (v : Val) (n : Nat) : Val :=
  match v with
  | .fin s m e =>
    let k := Nat.log2 (max n 1) + 40
    let q := m * 2 ^ k / max n 1
    rne32 (.fin s (2 * q + (if m * 2 ^ k % max n 1 = 0 then 0 else 1)) (e - k - 1))
  | v => v

/-- n Q − S². -/
def Tap.spread (t : Tap) : Val := ((Val.fin false t.n 0).mul t.q).sub t.s.sq

/-- The record of a reduction (R138), as FP32 codes. -/
def Tap.record (t : Tap) (rkind : Nat) : List PByte :=
  let bad := t.s.isNan || t.q.isNan
  let enc (v : Val) : List Byte := toBytes 4 (Fmt.fp32.rne (if bad then Val.nan else v))
  let vars := if t.s.isFinite then divRne t.spread (t.n * t.n) else Val.nan
  mark t.pois (match rkind with
    | 1 => enc t.s
    | 2 => enc t.q
    | 3 => enc t.s ++ enc t.q
    | _ => enc (divRne t.s t.n) ++ enc vars)

/-- Drained rows r0, r0 + 1, ... with their converted codes and scales, and the values RTAP 2 taps. -/
structure DOut where
  writes : List (Nat × List PByte) := []
  taps   : List (List (Val × Bool)) := []
  note   : NumNote := {}
  deriving DecidableEq, Repr

/-- The converted value of an element (RTAP 2). -/
def tap2 (f : Fmt) (scale : Nat × Bool) (c : Nat × Bool) : Val × Bool :=
  (if f.scaled then scaledVal f scale.1 c.1 else f.decode c.1, c.2)

/-- Row r converted with blocks along N (OBDIR 0, R137). -/
def outRow (w : List Word) (f : DrainF) (dr : Draw) (r : Nat) (ys : List (Val × Bool)) : DOut :=
  let D := wordAt w
  let fm := fmtOf f.ofmt
  let e0 := (D 18).toNat + fld (D 19) 15 0 * 2 ^ 32
  let erow := (D 20).toNat + fld (D 21) 15 0 * 2 ^ 32
  let c := convRow fm (fun j => dr.rnd f.rmode (e0 + r * erow + j)) f.nosat ys
  let data := (sramDA f.oaddr + r * f.opitch, packPoison fm c.codes)
  { writes := if fm.scaled then [data, (sramDA f.osaddr + r * (f.ncol / 32), scaleBytes c.scales)] else [data],
    taps := [(List.range f.ncol).map (fun j => tap2 fm (c.scales.getD (j / 32) (127, false)) (c.codes.getD j (0, false)))],
    note := c.note }

/-- 32 rows from row r0 converted with blocks down the columns (OBDIR 1, R137). -/
def outGroup (w : List Word) (f : DrainF) (dr : Draw) (r0 : Nat) (rows : List (List (Val × Bool))) : DOut :=
  let D := wordAt w
  let fm := fmtOf f.ofmt
  let e0 := (D 18).toNat + fld (D 19) 15 0 * 2 ^ 32
  let erow := (D 20).toNat + fld (D 21) 15 0 * 2 ^ 32
  let cols := (List.range f.ncol).map (fun j =>
    convPBlock fm ((List.range 32).map (fun i => dr.rnd f.rmode (e0 + (r0 + i) * erow + j))) f.nosat
      (rows.map (fun row => row.getD j (Val.zero, false))))
  let code (j i : Nat) : Nat × Bool := ((cols.getD j {}).codes).getD i (0, false)
  { writes := (List.range 32).map (fun i =>
        (sramDA f.oaddr + (r0 + i) * f.opitch, packPoison fm ((List.range f.ncol).map (fun j => code j i)))) ++
      [(sramDA f.osaddr + r0 / 32 * f.ncol, scaleBytes (cols.flatMap (·.scales)))],
    taps := (List.range 32).map (fun i => (List.range f.ncol).map (fun j => tap2 fm ((cols.getD j {}).scales.getD 0 (127, false)) (code j i))),
    note := (joinRows cols).note }

/-- The side output of row r (R136). -/
def sideRow (w : List Word) (f : DrainF) (r : Nat) (zs : List (Val × Bool)) : DOut :=
  let D := wordAt w
  match f.side with
  | 1 =>
    let fm := fmtOf f.sfmt
    let c := convRow fm (fun _ => .rne) false zs
    let data := (sramDA (D 13) + r * (D 15).toNat, packPoison fm c.codes)
    { writes := if fm.scaled then [data, (sramDA (D 14) + r * (f.ncol / 32), scaleBytes c.scales)] else [data], note := c.note }
  | 2 =>
    let bytes := (chunks 8 (f.ncol / 8) zs).map (fun l =>
      (BitVec.ofNat 8 (ofBits (l.map (fun x => isPos x.1 && !x.2))), l.any (·.2)))
    { writes := [(sramDA (D 13) + r * (D 15).toNat, bytes)] }
  | _ => {}

/-- Reductions of tapped rows, the first of them drained row r0: row records at once, column sums into `taps` (R138). -/
def reduceRows (w : List Word) (f : DrainF) (r0 : Nat) (taps : List Tap) (rows : List (List (Val × Bool))) :
    List (Nat × List PByte) × List Tap :=
  if f.rkind = 0 then ([], taps)
  else if f.raxis then
    ([], rows.foldl (fun ts row => (ts.zip row).map (fun p => p.1.take p.2)) taps)
  else
    (((List.range rows.length).zip rows).map (fun p =>
      (sramDA (wordAt w 16) + (r0 + p.1) * recBytes f.rkind, (p.2.foldl Tap.take {}).record f.rkind)), taps)

/-- Everything one row segment does to its run: the writes, the run and what its conversions count. -/
def segment (w : List Word) (f : DrainF) (run : DRun) (es : List DElem) : List (Nat × List PByte) × DRun × NumNote :=
  let r := run.row
  let ys := es.map (fun e => (e.y, e.p))
  let side := sideRow w f r (es.map (fun e => (e.z, e.p)))
  let buf := if f.down then run.buf ++ [ys] else []
  let out := if f.down then (if buf.length = 32 then outGroup w f run.draw (r - 31) buf else {}) else outRow w f run.draw r ys
  let tapped := match f.rtap with
    | 0 => [es.map (fun e => (e.z, e.p))]
    | 1 => [ys]
    | _ => out.taps
  let (recs, taps) := reduceRows w f (r + 1 - tapped.length) run.taps tapped
  let lastRow := decide (r + 1 = drowsOf run.cmd)
  let colRecs := if lastRow && f.raxis && f.rkind != 0 then
      ((List.range f.ncol).zip taps).map (fun p => (sramDA (wordAt w 16) + p.1 * recBytes f.rkind, p.2.record f.rkind)) else []
  (side.writes ++ out.writes ++ recs ++ colRecs,
    { run with row := r + 1, buf := if buf.length = 32 then [] else buf, taps := taps, pois := run.pois || es.any (·.p) },
    side.note.join out.note)

/-- A read under WAITSEQ 1 clears the dirty marks of the quarters it covers (R128). -/
def Device.cleanRow (d : Device) (die a t l q0 nq : Nat) : Device :=
  (rangeFrom q0 nq).foldl (fun d q =>
    let tl := d.tile die a t
    d.setQuart die a (tl.slot l) q { d.quart die a (tl.slot l) q with dirty := false }) d

/-- The next row of an issued drain is there to read (R140). -/
def Device.rowReady (d : Device) (die a : Nat) (run : DRun) : Bool :=
  let f := drainF run.desc
  decide (run.row < drowsOf run.cmd) && d.rowFinal die a run.cmd f.col0 f.ncol (drow0 run.cmd + run.row)

/-- Whether it is a drain's turn: of the array's issued drains with a row ready it was served longest ago (R141). -/
def Device.drainTurn (d : Device) (die a : Nat) (run : DRun) : Bool :=
  d.rowReady die a run && (List.range 4).all (fun p => (d.drains die a p).all (fun x =>
    !d.rowReady die a x || decide (run.served < x.served ∨ (run.served = x.served ∧ run.cmd.ord ≤ x.cmd.ord))))

/-- A resident row that reads uncorrectable is poisoned in the quarters that were read (R139). -/
def Device.poisonRow (d : Device) (die a t l q0 nq : Nat) : Device :=
  (rangeFrom q0 nq).foldl (fun d q =>
    let tl := d.tile die a t
    let qu := d.quart die a (tl.slot l) q
    if qu.holds tl l = some l then d.setQuart die a (tl.slot l) q { qu with pois := true } else d) d

/-- DRAIN_ROW_SEGMENT (R141): the k-th issued drain of the partition reads its next row, once final and in its turn. -/
def devDrainRowSegment (die a p k : Nat) (ecc : EccOutcome) (d : Device) : Device :=
  match (d.drains die a p)[k]? with
  | none => d
  | some run =>
    let c := run.cmd
    let w := run.desc
    let f := drainF w
    let l := drow0 c + run.row
    let t := tileOf c
    if !d.runs (wPair die a) ∨ !d.drainTurn die a run then d
    else
      let tl := d.tile die a t
      let q0 := f.col0 / 64
      let nq := (f.col0 + f.ncol - 1) / 64 - q0 + 1
      let kc := dreg die 2 (0x1008 + 0x200 * a)
      let d := match ecc with
        | .clean => d
        | .corrected => d.count1 kc
        | .uncorrectable => (d.poisonRow die a t l q0 nq).count1 (kc + 4)
      let rd := (rangeFrom q0 nq).map (d.drainQuarter die a t l)
      let miss := rd.any (·.2)
      let es := (List.range f.ncol).map (fun j =>
        drainElem d w f run.row j (quarterVal tl.fmt (rd.map Prod.fst) q0 (f.col0 + j)))
      let (ws, run', note) := segment w f run es
      let d := d.writes ws
      let d := if bit (c.word 3) 20 then d.cleanRow die a t l q0 nq else d
      let cnt := d.accCnt die a
      let d := (d.setAccCnt die a { cnt with drows := cnt.drows + 1, turns := cnt.turns + 1 }).progress (wPair die a)
      let d := d.note (dreg die 3 0xE000) (uArray die a) note
      let data := wd (p * 2 ^ 12 + c.seq)
      let d := if run'.pois && !run.pois then d.post 0x0205 (uArray die a) data else d
      let d := if miss && !run.miss then d.post 0x0207 (uArray die a) data else d
      d.setDrains die a p ((d.drains die a p).set k { run' with miss := run.miss || miss, served := cnt.turns + 1 })

/-- DRAIN_COMPLETE (R142): every row of the k-th issued drain has been written. -/
def devDrainComplete (die a p k : Nat) (d : Device) : Device :=
  match (d.drains die a p)[k]? with
  | none => d
  | some run =>
    if !d.runs (wPair die a) ∨ run.row < drowsOf run.cmd then d
    else (d.setDrains die a p ((d.drains die a p).eraseIdx k)).finish run.cmd (if run.pois || run.miss then stPoisoned else stDone)

/-- DRAIN_FAULT (R143): the drain stops, releases its holds and completes with FAULT. -/
def devDrainFault (die a p k cause : Nat) (d : Device) : Device :=
  match (d.drains die a p)[k]? with
  | none => d
  | some run =>
    if !d.runs (wPair die a) ∨ (cause ≠ 2 ∧ cause ≠ 3) then d
    else
      let lo := wd (2 ^ 31 + cause * 2 ^ 28 + p * 2 ^ 26 + run.cmd.seq * 2 ^ 12)
      let d := d.setDrains die a p ((d.drains die a p).eraseIdx k)
      let d := d.setRecord (dreg die 3 (0x1010 + 0x100 * a + 8 * p)) lo
        (wd ((drow0 run.cmd + run.row - run.buf.length) % 2 ^ 17))
      (d.post 0x0206 (uArray die a) lo).finish run.cmd stFault

end Sys2Proof.Machine
end

