-- ==== Sys2Proof/Machine/Hostif.lean ====
section
/-! DEFINITION. The host interface: configuration space, function resets, apertures, MSI-X and the event ring
(R411 to R427, R431, R432). -/

namespace Sys2Proof.Machine

def hifReg (off : Nat) : Nat := mreg 5 off

/-! The link and configuration space (R411 to R413, R437). -/

/-- SPEED, WIDTH and FLIT of `HIF_STAT`. -/
def Device.linkFields (d : Device) (speed width : Nat) (flit : Bool) : Device :=
  d.setReg (hifReg 0) (setBit (setFld (setFld (d.reg (hifReg 0)) 27 24 speed) 23 18 width) 17 flit)

/-- LINK_UP (R413): the link comes up for the first time since power-on. -/
def devLinkUp (speed width : Nat) (flit : Bool) (d : Device) : Device :=
  if d.hif.link = 0 then ({ d with hif.link := 1 }).linkFields speed width flit else d

/-- LINK_STATE (R432): another speed or width, or the return of the link after it was down. -/
def devLinkState (speed width : Nat) (flit : Bool) (d : Device) : Device :=
  let v := d.reg (hifReg 0)
  let back := d.hif.link == 2
  if d.hif.link ≠ 0 ∧ (back ∨ fld v 27 24 ≠ speed ∨ fld v 23 18 ≠ width) then
    ((({ d with hif.link := 1 }).linkFields speed width flit).post 0x0804 uHif (wd (speed * 2 ^ 24 + width % 64 * 2 ^ 18 + back.toNat)))
  else d

/-- The PCI Device ID of the part record (R411, R441). -/
def Device.deviceId (d : Device) : Nat := fld (d.flashWord 0xC) 15 0

/-- The Device Serial Number: bytes 0 to 7 of SHA-256(pk) (R453). -/
def serialNumber : List Word := bytesToWords 2 (sha256 identityKeys.1)

/-- The capabilities of R411 in PCI configuration space and in extended configuration space, each with its ID. PRESUMED: the IDs, from
the base specification (log entry 23). -/
def capIds : List (Nat × Nat) := [(Config.pmCap - 1, 0x01), (Config.pcieCap, 0x10), (Config.msixCap, 0x11)]
def extCapIds : List (Nat × Nat) :=
  [(Config.aerCap, 0x0001), (Config.dsnCap, 0x0003), (Config.secondaryCap, 0x0019), (Config.dlfCap, 0x0025), (Config.phy16Cap, 0x0026),
    (Config.marginCap, 0x0027), (Config.phy32Cap, 0x002A), (Config.phy64Cap, 0x0031)]

/-- The byte offset of the capability after one, 0 after the last. -/
def nextCap (r : Nat) : List (Nat × Nat) → Nat
  | a :: b :: l => if a.1 = r then 4 * b.1 else nextCap r (b :: l)
  | _ => 0

/-- The header of a capability: its ID and the next one's place. DESIGN CHOICE: the capabilities stand in the order of the two lists. -/
def capHeader (r : Nat) (v : Word) : Word :=
  match capIds.find? (fun c => c.1 == r), extCapIds.find? (fun c => c.1 == r) with
  | some c, _ => setFld v 15 0 (nextCap r capIds % 256 * 256 + c.2)
  | none, some c => setFld (setFld v 15 0 c.2) 31 20 (nextCap r extCapIds)
  | none, none => v

/-- The fields of the standard capabilities that R411 and R415 fix: an endpoint, 512 bytes of payload, FLR, 64.0 GT/s by 16 without ASPM,
10-bit tags as completer without LTR or TPH; No_Soft_Reset, and no PME, D1 or D2; the MSI-X table of 2,048 vectors at 0x0 and the PBA at 0x8000 of
BAR2. PRESUMED: the fields' places, from the base specification (log entry 23). -/
def capField (r : Nat) (v : Word) : Word :=
  if r = Config.pcieCap then setFld v 23 20 0
  else if r = Config.pcieCap + 1 then setBit (setFld v 2 0 2) 28 true
  else if r = Config.pcieCap + 3 then setFld (setFld v 11 4 16) 3 0 6
  else if r = Config.pcieCap + 9 then setFld (setFld v 13 11 0) 17 16 1
  else if r = Config.pmCap then setBit v 3 true
  else if r + 1 = Config.pmCap then setFld v 31 25 0
  else if r = Config.msixCap then setFld v 26 16 0x7FF
  else if r = Config.msixCap + 1 then 2
  else if r = Config.msixCap + 2 then 0x8002
  else v

/-- A 32-bit register of configuration space. BARs are those of R415; the enables kept apart are put into their registers. -/
def Device.cfgWord (d : Device) (r : Nat) : Word :=
  let v := (mget none d.hif.cfg r).getD (Config.cfgReset r)
  let v := match r with
    | 0 => wd (d.deviceId * 2 ^ 16 + Config.vendorId.toNat)
    | 1 => setBit (setBit v 1 d.hif.memEn) 20 true
    | 2 => wd (0x12000000 + fld (Config.cfgReset 2) 7 0)
    | 4 => (mget none d.hif.cfg r).getD 4
    | 6 => (mget none d.hif.cfg r).getD 4
    | 8 => 0xC
    | 5 => (mget none d.hif.cfg r).getD 0
    | 7 => (mget none d.hif.cfg r).getD 0
    | 9 => (mget none d.hif.cfg r).getD 0
    | 3 => setFld v 23 16 0
    | 12 => 0
    | 13 => setFld v 7 0 (4 * (Config.pmCap - 1))
    | 15 => setFld v 15 8 0
    | _ => capField r (capHeader r v)
  let v := if r = Config.dsnCap + 1 then wordAt serialNumber 0 else if r = Config.dsnCap + 2 then wordAt serialNumber 1 else v
  let v := if r = Config.aerCap + 1 then d.hif.uncor else if r = Config.aerCap + 4 then d.hif.cor else v
  let v := if r = Config.msixCap then setBit (setBit v 31 d.hif.msixEn) 30 d.hif.msixMask else v
  if r = Config.pmCap then setFld v 1 0 (if d.hif.d3 then 3 else 0) else v

/-- Vectors that are pending and may send now do so, each with a single message (R423). -/
def Device.msixFlush (d : Device) : Device :=
  d.hif.pba.foldl (fun d v => if d.msixOpen v then ({ d with hif.pba := d.hif.pba.filter (fun u => u != v) }).msixSend v else d) d

/-- A configuration write. -/
def Device.cfgWrite (d : Device) (r : Nat) (v : Word) : Device :=
  let keep : Word := match r with
    | 4 => (v &&& 0xFF000000) ||| 4
    | 6 => (v &&& 0xFFFC0000) ||| 4
    | 5 => v
    | 7 => v
    | 9 => v &&& 0xFFFFFFF0
    | _ => Config.cfgWrite r (d.cfgWord r) v
  let d := { d with hif.cfg := mset none d.hif.cfg r (some keep) }
  let d := if r = Config.aerCap + 1 then { d with hif.uncor := d.hif.uncor &&& ~~~v } else d
  let d := if r = Config.aerCap + 4 then { d with hif.cor := d.hif.cor &&& ~~~v } else d
  let d := if r = 1 then { d with hif.memEn := bit v 1 } else d
  let d := if r = Config.pmCap ∧ (fld v 1 0 = 0 ∨ fld v 1 0 = 3) then { d with hif.d3 := fld v 1 0 == 3 } else d
  if r = Config.msixCap then ({ d with hif.msixEn := bit v 31, hif.msixMask := bit v 30 }).msixFlush else d

/-- CONFIG_REQUEST (R413, R437): Retry Status until the module has been ready once; every Type 0 write is captured from. -/
def devConfigRequest (write : Bool) (r : Nat) (v : Word) (bdf : BitVec 16) (d : Device) : Device :=
  let d := if write then { d with hif.bdf := bdf.toNat / 8 } else d
  if !d.hif.ever then d.emit (.cfgReply 0 true)
  else if write then (d.cfgWrite r v).emit (.cfgReply 0 false)
  else d.emit (.cfgReply (d.cfgWord r) false)

/-! Function resets (R414). -/

/-- What an FLR, a hot reset and a link down do: every HIF register but `HIF_STAT` at its reset value, configuration space in its reset
state, every vector masked, nothing pending, the ring disabled; FLRCNT counts it. -/
def Device.functionReset (d : Device) : Device :=
  let v := d.reg (hifReg 0)
  let d := (d.clearRegs (hifReg 4) (hifReg 0x10000)).setReg (hifReg 0) (setFld v 15 0 (fld v 15 0 + 1))
  { d with hif := { d.hif with
      cfg := []
      memEn := false
      msixEn := false
      msixMask := false
      d3 := false
      uncor := 0
      cor := 0
      msix := d.hif.msix.filter (fun x => x.1 % 4 != 3)
      pba := []
      armed := false
      drops := 0 } }

/-- FLR (R414). -/
def devFlr (d : Device) : Device := d.functionReset

/-- HOT_RESET (R414). -/
def devHotReset (d : Device) : Device := d.functionReset

/-- HOST_LINK_DOWN (R414): as an FLR, and the link is down. -/
def devHostLinkDown (d : Device) : Device :=
  if d.hif.link = 1 then (({ d with hif.link := 2 }).functionReset).linkFields 0 0 false else d

/-! Apertures (R417 to R419). -/

/-- A host read of n bytes where BARs are not served: an Unsupported Request (R413), or ones (R414). -/
def Device.barShutRead (d : Device) (n : Nat) : Device :=
  if d.memSpace then d.emit (.hostRead (List.replicate n 0xFF) false true) else (d.aerLog 20).emit (.hostRead [] false false)

/-- A host read of BAR0 (R413, R414): n bytes of a value where BAR0 is served. -/
def Device.bar0Read (d : Device) (n v : Nat) : Device :=
  if d.hostOpen then d.emit (.hostRead (toBytes n v) false true) else d.barShutRead n

/-- A refused BAR4 access: its reason and offset are latched. -/
def Device.apRefused (d : Device) (off reason : Nat) : Device :=
  let d := d.hifErr 30 0x0802 (wd (reason * 2 ^ 28))
  let d := d.setReg (hifReg 4) (setFld (d.reg (hifReg 4)) 3 0 reason)
  d.setReg64 (hifReg 0x80) off

/-- The device address of a BAR4 offset, and the reason the access of n bytes is refused (0: served). -/
def Device.aperture (d : Device) (off n : Nat) : Nat × Nat :=
  let r := d.reg (hifReg (0x40 + 4 * (off / 2 ^ 32)))
  let a := fld r 19 0 * 2 ^ 32 + off % 2 ^ 32
  (a, if !bit r 31 then 1
      else if !([0, 1, 2, 3, 4, 5, 8].contains (regionOf a)) then 2
      else if !d.rangeOk a n then 3 else 0)

/-- APERTURE_ACCESS (R413, R414, R417, R419): a request that crosses an aperture's end is malformed and reaches none. -/
def devApertureAccess (write : Bool) (off : Nat) (data : List Byte) (len : Nat) (poison : Bool) (d : Device) : Device :=
  let n := if write then data.length else len
  if off ≥ 2 ^ 36 ∨ off % 2 ^ 32 + n > 2 ^ 32 then d
  else if !d.hostOpen then (if write then d.barShut else d.barShutRead n)
  else
    let (a, reason) := d.aperture off n
    let d := if write && poison then d.poisonedWrite else d
    if reason ≠ 0 then
      let d := d.apRefused off reason
      if write then d else (d.aerLog 20).emit (.hostRead [] false false)
    else if write then d.write a (mark poison data)
    else
      let d := d.fetch a n
      let l := d.readBytes a n
      let d := if anyPoison l then d.aerLog 12 else d
      d.emit (.hostRead (values l) (anyPoison l) true)

/-! MSI-X (R423). -/

/-- A word of the MSI-X table is written; of vector control only the mask bit is kept. -/
def Device.msixPoke (d : Device) (k : Nat) (v : Word) : Device :=
  let c : Bool := k % 4 == 3
  { d with hif.msix := mset (if c then 1 else 0) d.hif.msix k (if c then v &&& 1 else v) }

/-- The die and stream whose doorbell page holds a BAR2 offset (R415). -/
def doorbellPage (off : Nat) : Option (Nat × Nat) :=
  if 0x10000 ≤ off ∧ off < 0x30000 then some ((off - 0x10000) / 0x8000, (off - 0x10000) / 0x1000 % 8) else none

/-- A word of the MSI-X table or the PBA at a BAR2 offset. -/
def Device.msixPeek (d : Device) (off : Nat) : Word :=
  if off < 0x8000 then d.msixWord (off / 16) (off / 4 % 4)
  else if off < 0x8100 then wd (ofBits ((List.range 32).map (fun b => d.hif.pba.contains ((off - 0x8000) / 4 * 32 + b))))
  else 0

/-- A host access to a doorbell page (R413, R414, R419, R420): a 32-bit access at its offset 0 is one of INDEX. DESIGN CHOICE: INDEX reads as
it stands while a module reset runs, of which R414 says nothing. -/
def devPageAccess (die s off : Nat) (write : Bool) (width : Nat) (v : BitVec 64) (poison : Bool) (d : Device) : Device :=
  let first := off % 0x1000 == 0 && width == 4
  if write then
    if !d.hostOpen then d.barShut
    else if poison then d.poisonedWrite
    else if first then d.tailWrite die s (lo32 v.toNat) else d
  else d.emit (.hostRead (if first then toBytes 4 (d.stream die s).tail else List.replicate width 0) false true)

/-- MSIX_TABLE_ACCESS (R415, R419, R420, R423): an access to BAR2, which holds the table, the PBA and the doorbell pages. -/
def devMsixTableAccess (write : Bool) (off width : Nat) (v : BitVec 64) (poison : Bool) (d : Device) : Device :=
  if !d.memSpace then (if write then d.barShut else d.barShutRead width)
  else match doorbellPage off with
  | some (die, s) => devPageAccess die s off write width v poison d
  | none =>
    let fits := (width == 4 || width == 8) && off % width == 0
    if write then
      if poison then d.poisonedWrite
      else if !fits ∨ off ≥ 0x8000 then d
      else
        let d := d.msixPoke (off / 4) (lo32 v.toNat)
        (if width = 8 then d.msixPoke (off / 4 + 1) (hi32 v.toNat) else d).msixFlush
    else if !fits then d.emit (.hostRead (List.replicate width 0) false true)
    else
      let l := wordsToBytes [d.msixPeek off] ++ (if width = 8 then wordsToBytes [d.msixPeek (off + 4)] else [])
      d.emit (.hostRead l false true)

/-! The event ring (R424 to R427). -/

def Device.ringEn (d : Device) : Bool := bit (d.reg (hifReg 0x18)) 31
def Device.ringVec (d : Device) : Nat := fld (d.reg (hifReg 0x18)) 26 16
def Device.ringLog (d : Device) : Nat := fld (d.reg (hifReg 0x18)) 4 0
def Device.evHead (d : Device) : Nat := (d.reg (hifReg 0x1C)).toNat
def Device.evTail (d : Device) : Nat := (d.reg (hifReg 0x20)).toNat

/-- The ring is full (R426). -/
def Device.ringFull (d : Device) : Bool := (d.evTail + 2 ^ 32 - d.evHead) % 2 ^ 32 == 2 ^ d.ringLog

/-- An event record (R425). -/
def Device.record (d : Device) (e : Event) (seq : Nat) (phase : Nat) : List Word :=
  [wd (e.code * 2 ^ 16 + fld (d.reg (mreg 4 0)) 31 24 * 2 ^ 8 + phase), wd e.unit, e.data, wd seq, lo32 e.time, hi32 e.time, wd (e.die % 4), 0]

/-- An event takes its SEQ and reaches Synian, which holds the last 4,096 (R424). -/
def Device.toSynian (d : Device) (e : Event) : Device × Nat :=
  let seq := d.hif.seq
  let w := d.record e seq 0
  let held := d.hif.held ++ [(seq, w)]
  (({ d with hif.seq := (seq + 1) % 2 ^ 32, hif.held := held.drop (held.length - 4096) }).emit (.event seq w), seq)

/-- A record is written to the ring, and the message of R427 goes out. -/
def Device.toRing (d : Device) (e : Event) (seq : Nat) : Device :=
  let t := d.evTail
  let n := 2 ^ d.ringLog
  let base := join (d.reg (hifReg 0x10)) (d.reg (hifReg 0x14))
  let d := (d.emit (.hostWrite (base + 32 * (t % n)) (wordsToBytes (d.record e seq (1 - t / n % 2))))).setReg (hifReg 0x20) (wd (t + 1))
  if d.hif.armed then ({ d with hif.armed := false }).msixRaise d.ringVec else d

/-- After drops, EVENT_OVERFLOW is the first record once there is space (R426). -/
def Device.overflowRecord (d : Device) : Device :=
  if d.hif.drops = 0 ∨ !d.ringEn ∨ d.ringFull then d
  else
    let e : Event := { code := 0x0801, unit := uHif, data := wd (min d.hif.drops 0xFFFFFFFF), die := 0, time := d.time 0 }
    let (d, seq) := ({ d with hif.drops := 0 }).toSynian e
    d.toRing e seq

/-- An event reaches HIF: filtered, dropped on a full ring, or written (R424, R426, R431). -/
def Device.eventCame (d : Device) (e : Event) : Device :=
  let (d, seq) := d.toSynian e
  let cls := e.code / 256
  if !d.ringEn ∨ d.ras.fence.contains domModule ∨ (1 ≤ cls ∧ cls ≤ 10 ∧ bit (d.reg (hifReg 0x28)) cls) then d
  else if d.ringFull then
    let d := d.setReg (hifReg 0x24) (wd (satAdd32 (d.reg (hifReg 0x24)).toNat 1))
    ({ d with hif.drops := d.hif.drops + 1 }).hifErr 29 0 0
  else d.toRing e seq

/-- EVENT_RECORD_WRITE (R424): the oldest posted event reaches HIF. -/
def devEventRecordWrite (d : Device) : Device :=
  match d.core.evq with
  | [] => d
  | e :: l => ({ d with core.evq := l }).eventCame e

/-- All events posted so far reach Synian and no ring: while a module reset fences HIF (R414), and before a ring is enabled (R424). -/
def Device.drainEvents (d : Device) : Device :=
  (d.core.evq).foldl (fun d e => (d.toSynian e).1) { d with core.evq := [] }

/-- LOG2 as a write leaves it (R431). -/
def clampLog (v : Word) : Nat := min 16 (max 6 (fld v 4 0))

/-- A write of HIF_EVCFG (R424): EN going to 1 starts the ring at 0 and arms its interrupt; with EN 1 it sets the vector alone while
the ring runs; with EN 0 it disables the ring. What was posted before EN went to 1 never reaches the ring. -/
def Device.evcfgWrite (d : Device) (v : Word) : Device :=
  if !bit v 31 then d.setReg (hifReg 0x18) (wd (fld v 26 16 * 2 ^ 16 + (if d.ringEn then d.ringLog else clampLog v)))
  else if d.ringEn then d.setReg (hifReg 0x18) (setFld (d.reg (hifReg 0x18)) 26 16 (fld v 26 16))
  else
    let d := d.setReg (hifReg 0x18) (wd (2 ^ 31 + fld v 26 16 * 2 ^ 16 + clampLog v))
    let d := ((d.setReg (hifReg 0x1C) 0).setReg (hifReg 0x20) 0).drainEvents
    ({ d with hif.armed := true }).overflowRecord

/-- A write of HIF_EVHEAD (R426, R427). -/
def Device.evheadWrite (d : Device) (v : Word) : Device :=
  if (v.toNat + 2 ^ 32 - d.evHead) % 2 ^ 32 > (d.evTail + 2 ^ 32 - d.evHead) % 2 ^ 32 then d.hifErr 27 0 0
  else
    let d := d.setReg (hifReg 0x1C) v
    let late := d.evTail != v.toNat
    let d := { d with hif.armed := !late }
    (if late then d.msixRaise d.ringVec else d).overflowRecord

/-- EVENT_RING_ENABLE (R424): a write of `HIF_EVCFG` with EN 1 while EN is 0. -/
def devEventRingEnable (v : Word) (d : Device) : Device :=
  if !d.hostOpen then d.barShut else if d.ringEn ∨ !bit v 31 then d else d.evcfgWrite v

/-- EVENT_RING_DISABLE (R424). -/
def devEventRingDisable (v : Word) (d : Device) : Device :=
  if !d.hostOpen then d.barShut else if bit v 31 then d else d.evcfgWrite v

/-- EVENT_RING_VEC_CHANGE (R424). -/
def devEventRingVecChange (v : Word) (d : Device) : Device :=
  if !d.hostOpen then d.barShut else if !d.ringEn ∨ !bit v 31 then d else d.evcfgWrite v

/-- HIF_EVHEAD_WRITE (R426, R427). -/
def devHifEvheadWrite (v : Word) (d : Device) : Device := if !d.hostOpen then d.barShut else d.evheadWrite v

end Sys2Proof.Machine
end

