-- ==== Sys2Proof/Machine/Ingest.lean ====
section
/-! DEFINITION. The ingest engine: the keyed shuffle, jobs, samples and their slots (R326 to R352). -/

namespace Sys2Proof.Machine

def ingReg (off : Nat) : Nat := mreg 6 off

/-! The keyed shuffle (R339). -/

/-- One of the six rounds. -/
def feistelRound (k0 k1 epoch : Word) (h : Nat) (s : Nat × Nat) (round : Nat) : Nat × Nat :=
  let f := (grog k0 k1 (wd s.2, wd (h * 2 ^ 24), wd round, epoch)).1.toNat % 2 ^ h
  (s.2, s.1 ^^^ f)

def feistel (k0 k1 epoch : Word) (h x : Nat) : Nat :=
  let s := (List.range 6).foldl (feistelRound k0 k1 epoch h) (x / 2 ^ h, x % 2 ^ h)
  s.1 * 2 ^ h + s.2

/-- The walk from y: its end, and the evaluations taken. A walk of a bijection of 2^m numbers ends within 2^m of them. -/
def permWalk (k0 k1 epoch : Word) (n h : Nat) : Nat → Nat → Nat → Nat × Nat
  | 0, y, c => (y, c)
  | fuel + 1, y, c =>
    let y := feistel k0 k1 epoch h y
    if y < n then (y, c + 1) else permWalk k0 k1 epoch n h fuel y (c + 1)

/-- perm(key, epoch, n, j) and its Feistel evaluations. -/
def perm (k0 k1 epoch : Word) (n j : Nat) : Nat × Nat :=
  if n ≤ 1 then (0, 0)
  else
    let b := Nat.log2 (n - 1) + 1
    let h := (b + b % 2) / 2
    permWalk k0 k1 epoch n h (2 ^ (2 * h)) j 0

/-! Descriptor (R342) and geometry (R335, R337). -/

/-- A job's descriptor word. -/
def IngJob.d (j : IngJob) (k : Nat) : Word := wordAt j.D k

def dPair (w : Nat → Word) (k hi : Nat) : Nat := (w k).toNat + fld (w (k + 1)) hi 0 * 2 ^ 32

/-- Sizes that follow from a descriptor. -/
structure IngGeo where
  fmt  : Fmt
  f    : Nat
  p    : Nat
  ch   : Nat
  ow   : Nat
  oh   : Nat
  rows : Nat
  k    : Nat
  sOff : Nat
  size : Nat
  deriving DecidableEq, Repr

def ingFmt (k : Nat) : Option Fmt := if [0, 1, 2, 3, 4, 8].contains k then Fmt.ofCode k else none

def ingGeo (w : Nat → Word) : IngGeo :=
  let fmt := (ingFmt (fld (w 18) 31 28)).getD .fp32
  let f := 2 ^ fld (w 18) 24 23
  let p := 8 * 2 ^ fld (w 18) 22 21
  let ch := if bit (w 18) 20 then 3 else 1
  let ow := fld (w 16) 31 16 / f
  let oh := fld (w 16) 15 0 / f
  let rows := fld (w 19) 15 0 * (oh / p) * (ow / p)
  let k := ch * p * p
  let sOff := (0x1000 + fmt.bytes (rows * k) + 4095) / 4096 * 4096
  { fmt := fmt, f := f, p := p, ch := ch, ow := ow, oh := oh, rows := rows, k := k, sOff := sOff,
    size := if fmt.scaled then sOff + rows * (k / 32) else 0x1000 + fmt.bytes (rows * k) }

def ingN (w : Nat → Word) : Nat := dPair w 2 15 + 1
def ingPos (w : Nat → Word) (t : Nat) : Nat := dPair w 7 15 + t * (w 9).toNat
def ingSlots (w : Nat → Word) : Nat := fld (w 14) 31 16

/-- The event of the first condition of R343 a job breaks. -/
def ingBad (d : Device) (c : Cmd) : Option Nat :=
  let out := d.sramBad (c.word 3) 128
  let w : Nat → Word := if out then fun _ => 0 else wordAt (d.descWords (sramDA (c.word 3)) 32)
  let res := w012Reserved c false || partShare c || c.word 4 != 0 || c.word 5 != 0 || c.word 6 != 0 || c.word 7 != 0 || awRes (c.word 3)
  let cOut := d.sramBad (w 22) 64
  let noBuf := fld (d.reg (ingReg 0x10)) 12 0 == 0
  let g := ingGeo w
  let w16 := w 16
  let w17 := w 17
  let ob := dPair w 11 19
  let odd (x : Nat) : Bool := x % 2 == 1
  if out then firstBad [(res, 0x0411), (awMis 128 (c.word 3) || noBuf, 0x0411), (true, evAddrUnassigned)]
  else firstBad [
    (res || fld (w 1) 31 20 != 0 || fld (w 3) 31 16 != 0 || fld (w 8) 31 16 != 0 || fld (w 12) 31 20 != 0 || fld (w 15) 11 0 != 0 ||
      fld (w 18) 18 0 != 0 || (rangeFrom 23 9).any (fun k => w k != 0) || fld (w 18) 24 23 == 3 || fld (w 18) 22 21 == 3 || awRes (w 22) ||
      (!cOut && wordAt (d.descWords (sramDA (w 22)) 16) 15 != 0), 0x0411),
    ((ingFmt (fld (w 18) 31 28)).isNone || fld (w 18) 27 26 == 2, 0x0411),
    (w 10 == 0 || w 9 == 0 || ingSlots w == 0 || fld (w 19) 31 16 == 0 || fld (w 19) 15 0 == 0 || decide (ingSlots w > 32768), 0x0411),
    (decide (ingPos w ((w 10).toNat - 1) ≥ ingN w), 0x0411),
    (odd (fld w16 31 16) || odd (fld w16 15 0) || odd (fld w17 31 16) || odd (fld w17 15 0) || fld w16 31 16 == 0 || fld w16 15 0 == 0 ||
      decide (fld w16 31 16 > 4096 ∨ fld w16 15 0 > 4096) || g.ow % g.p != 0 || g.oh % g.p != 0, 0x0411),
    (decide ((w 13).toNat < g.size), 0x0411),
    (awMis 128 (c.word 3) || dPair w 0 19 % 32 != 0 || ob % 65536 != 0 || (w 13).toNat % 65536 != 0 || awMis 64 (w 22) ||
      [5, 0xC, 0xE].contains (regionOf ob) || noBuf, 0x0411),
    (rmodeReserved (fld (w 18) 27 26), evRmode),
    (cOut || !d.moveRangeOk (dPair w 0 19) (32 * ingN w) || !d.rangeOk ob (ingSlots w * (w 13).toNat), evAddrUnassigned)]

/-! The job (R341, R345, R348). -/

def Device.ingFinish (d : Device) (c : Cmd) (status : Nat) : Device :=
  ({ d with ing.job := none, ing.last := c.seq }).finish c status

/-- INGEST_JOB. -/
def devIngestJob (d : Device) : Device :=
  match d.ready qIng with
  | none => d
  | some c =>
    if d.ing.job.isSome ∨ !d.runs wIng then d
    else match ingBad d c with
      | some ev => d.refuse qIng c ev uModule (if ev = 0x0411 then c.seqWord else 0)
      | none =>
        let D := d.descWords (sramDA (c.word 3)) 32
        let col := d.descWords (sramDA (wordAt D 22)) 16
        ({ (d.popCmd qIng) with ing.job := some { cmd := c, D := D, col := col } }).setReg (ingReg 0x18) 0

def Device.setJob (d : Device) (j : IngJob) : Device := { d with ing.job := some j }

def IngJob.put (j : IngJob) (s : Sample) : IngJob := { j with samps := j.samps.map (fun x => if x.t = s.t then s else x) }

/-! Slots (R335 to R338, R347). -/

/-- The luma or chroma average of an output pixel (R335). -/
def boxAvg (pix : Nat → Nat → Nat) (x0 y0 n : Nat) : Nat :=
  ((List.range n).foldl (fun s j => (List.range n).foldl (fun s i => s + pix (x0 + i) (y0 + j)) s) 0 + n * n / 2) / (n * n)

def vNat (n : Nat) : Val := .fin false n 0

/-- Channel c of output pixel (x, y) of a frame (R335). -/
def ingPixel (j : IngJob) (codec : Nat) (bytes : List Byte) (info : Config.Decoded) (frame x y c : Nat) : Val :=
  let f := (ingGeo j.d).f
  let g := max (f / 2) 1
  let cx0 := fld (j.d 17) 31 16
  let cy0 := fld (j.d 17) 15 0
  let pix (pl a b : Nat) : Nat := Config.decodeSample codec bytes frame pl a b
  let luma := boxAvg (pix 0) (cx0 + f * x) (cy0 + f * y) f
  let chroma (pl : Nat) : Nat :=
    if info.chroma.isNone then 2 ^ (info.depth - 1) else boxAvg (pix pl) ((cx0 + f * x) / 2) ((cy0 + f * y) / 2) g
  let m (k : Nat) : Val := f32 (wordAt j.col k)
  let term (k v : Nat) : Val := (m (3 * c + k)).mul ((vNat v).sub (m (9 + k)))
  rne32 ((((term 0 luma).add (term 1 (chroma 1))).add (term 2 (chroma 2))).add (m (12 + c)))

/-- Element k of row r of a slot (R337). -/
def ingElem (j : IngJob) (codec : Nat) (bytes : List Byte) (info : Config.Decoded) (r k : Nat) : Val :=
  let g := ingGeo j.d
  let px := r % (g.ow / g.p)
  let py := r / (g.ow / g.p) % (g.oh / g.p)
  let n := r / (g.ow / g.p) / (g.oh / g.p)
  let frame := (j.d 20).toNat + n * fld (j.d 19) 31 16
  ingPixel j codec bytes info frame (px * g.p + k % g.p) (py * g.p + k / g.p % g.p) (k / (g.p * g.p))

/-- Words of an index entry (R332), and whether it can be used. -/
def Sample.e (s : Sample) (k : Nat) : Word := wordAt (bytesToWords 8 (values s.ent)) k
def Sample.readable (s : Sample) : Bool := s.ent.length == 32 && !anyPoison s.ent
def Sample.len (s : Sample) : Nat := (s.e 2).toNat
def Sample.src (s : Sample) : Nat := join (s.e 0) (wd (fld (s.e 1) 19 0))
def Sample.codec (s : Sample) : Nat := fld (s.e 3) 31 28
def entryBad (s : Sample) (bs : Nat) : Bool :=
  !s.readable || s.e 6 != 0 || s.e 7 != 0 || fld (s.e 3) 27 0 != 0 || fld (s.e 1) 31 20 != 0 || s.codec == 0 || decide (s.codec > 3) ||
    s.len == 0 || decide (2 * s.len > bs)

/-- The last frame a sample delivers (R334). -/
def lastFrame (j : IngJob) : Nat := (j.d 20).toNat + (fld (j.d 19) 15 0 - 1) * fld (j.d 19) 31 16

/-- Whether a stream keeps to the profiles, levels and formats of R328, and to frame_mbs_only_flag 1 in AVC (R329). -/
def formatOk (codec : Nat) (i : Config.Decoded) : Bool :=
  match codec with
  | 1 => [.constrainedBaseline, .main, .high].contains i.profile && decide (i.level ≤ 52) && i.depth == 8 && i.chroma != some false && i.frameMbsOnly
  | 2 => ((i.profile == .main && i.depth == 8) || (i.profile == .main10 && (i.depth == 8 || i.depth == 10))) && i.tier == 0 &&
      decide (i.level ≤ 52) && i.chroma == some true
  | _ => i.profile == .main && i.tier == 0 && decide (i.level ≤ 15) && (i.depth == 8 || i.depth == 10) && i.chroma != some false

/-- The picture size limits of R328. -/
def sizeOk (i : Config.Decoded) : Bool := decide (i.width ≤ 4096 ∧ i.height ≤ 4096 ∧ i.width * i.height ≤ 8912896)

/-- How a decode ends: its cause, 0 for a sample that is delivered (R346). DESIGN CHOICE: where several hold, the first in the order
UNSUPPORTED, SYNTAX, GEOMETRY, SHORT. -/
def decodeCause (j : IngJob) (codec : Nat) (i : Config.Decoded) : Nat :=
  if !formatOk codec i || !sizeOk i then 3
  else if i.breach || !i.access then 4
  else if i.changes ∨ fld (j.d 17) 31 16 + fld (j.d 16) 31 16 > i.width ∨ fld (j.d 17) 15 0 + fld (j.d 16) 15 0 > i.height then 6
  else if i.nframes ≤ lastFrame j then 5
  else 0

/-- Frames decoded: none after the last that is delivered, and all up to it for a sample that is (R334). -/
def framesOf (j : IngJob) (cause : Nat) (i : Config.Decoded) : Nat :=
  if cause = 0 then lastFrame j + 1 else min i.decoded (lastFrame j + 1)

/-- The slot header (R338). -/
def slotHeader (j : IngJob) (s : Sample) (pic nf rows : Nat) (crc : Word) : List Word :=
  let pos := ingPos j.d s.t
  [wd ((if s.cause = 0 then 0 else 2 ^ 28) + s.cause * 2 ^ 24 + (if s.readable then s.codec else 0) * 2 ^ 20), lo32 s.samp,
    wd (s.samp / 2 ^ 32 % 65536), lo32 pos, wd (pos / 2 ^ 32 % 65536), j.d 6, (if s.readable then s.e 4 else 0),
    (if s.readable then s.e 5 else 0), wd pic, wd nf, wd rows, crc, 0, 0, 0, 0]

def slotDA (j : IngJob) (t : Nat) : Nat := dPair j.d 11 19 + t % ingSlots j.d * (j.d 13).toNat

/-- The slots of positions that have started and are not committed. -/
def IngJob.openSlots (j : IngJob) : List (Nat × Nat) := (rangeFrom j.done (j.next - j.done)).map (fun t => (slotDA j t, (j.d 13).toNat))

/-- Rows and scales written, then the header. -/
def Device.writeSlot (d : Device) (j : IngJob) (s : Sample) (rows scales : List Byte) (pic nf : Nat) : Device :=
  let g := ingGeo j.d
  let a := slotDA j s.t
  ((d.write (a + 0x1000) (clean rows)).write (a + g.sOff) (clean scales)).write a
    (clean (wordsToBytes (slotHeader j s pic nf g.rows (crc32c (rows ++ scales)))))

/-- A sample ends (R346, R347): a bad one under MARK leaves zero rows, one under STOP leaves its slot alone. The picture size
of a sample that timed out or failed in its decoders is open, but a function of what R327 lets a slot depend on. -/
def Device.endSample (d : Device) (j : IngJob) (s : Sample) : Device :=
  let g := ingGeo j.d
  let bytes := values s.bytes
  let info := Config.decodeInfo s.codec bytes (lastFrame j)
  let s := { s with stage := .ended, lost := d.memHeld (slotDA j s.t) }
  let d := d.setJob (j.put s)
  if s.cause = 0 then
    let rows := (List.range g.rows).map (fun r => convRow g.fmt (fun _ => if fld (j.d 18) 27 26 = 0 then .rne else .rtz) (bit (j.d 18) 25)
      ((List.range g.k).map (fun k => (ingElem j s.codec bytes info r k, false))))
    let d := d.note (ingReg 0xE000) uModule (rows.foldl (fun n r => n.join r.note) {})
    d.writeSlot j s (packElems g.fmt (rows.flatMap (fun r => r.codes.map Prod.fst))) (rows.flatMap (fun r => values (scaleBytes r.scales)))
      (info.width % 65536 * 65536 + info.height % 65536) (fld (j.d 19) 15 0)
  else if bit (j.d 18) 19 then d
  else
    let pic := if s.cause ≤ 3 then 0 else if s.cause ≤ 6 then info.width % 65536 * 65536 + info.height % 65536
      else (Config.pictureSize j.D j.col (values s.ent) bytes).toNat
    d.writeSlot j s (List.replicate (g.fmt.bytes (g.rows * g.k)) 0) (if g.fmt.scaled then List.replicate (g.rows * (g.k / 32)) 0x7F else []) pic 0

/-- Frames decoded are counted (R350, R466). -/
def Device.framesDone (d : Device) (n : Nat) : Device :=
  (d.setReg64 (ingReg 0x38) ((join (d.reg (ingReg 0x38)) (d.reg (ingReg 0x3C)) + n) % 2 ^ 64)).progressN wIng n

/-- The place of a sample's stream in the buffer, with its length rounded up to 32 (R333). -/
def Sample.held (s : Sample) : Option (Nat × Nat) :=
  match s.stage with
  | .stream | .decode => some (s.off, (s.len + 31) / 32 * 32)
  | .ended => if s.cause = 0 then some (s.off, (s.len + 31) / 32 * 32) else none
  | _ => s.place

/-- A sample gives up its decoder and starts again later; its stream keeps its place. -/
def IngJob.again (j : IngJob) (s : Sample) (failed : Option Nat) : IngJob :=
  { j with redo := (j.redo.filter (fun r => decide (r.t < s.t))) ++ [{ t := s.t, place := s.held, failed := failed }] ++
             j.redo.filter (fun r => decide (s.t < r.t)),
           samps := j.samps.filter (fun x => x.t != s.t) }

/-- The decode of a sample ends by itself. A residue check that fails starts the sample again on another decoder, in silence, and ends
it the second time (R346). -/
def Device.decodeEnds (d : Device) (j : IngJob) (s : Sample) : Device :=
  let info := Config.decodeInfo s.codec (values s.bytes) (lastFrame j)
  if s.flt = .decoder then
    match s.failed with
    | none => d.setJob (j.again s (some s.dec))
    | some _ => d.endSample j { s with cause := 8 }
  else
    let cause := decodeCause j s.codec info
    (d.framesDone (framesOf j cause info)).endSample j { s with cause := cause }

/-! Index entries and streams (R332, R333). -/

def bufSize (d : Device) : Nat := fld (d.reg (ingReg 0x10)) 12 0 * 2 ^ 20
def bufBase (d : Device) : Nat := join (d.reg (ingReg 8)) (d.reg (ingReg 0xC))

/-- What the buffer holds: the streams of samples that are neither committed nor marked bad (R333). -/
def IngJob.places (j : IngJob) : List (Nat × Nat) := j.samps.filterMap Sample.held ++ j.redo.filterMap Redo.place

/-- Whether two stretches of the ring have no byte in common. -/
def ringApart (size : Nat) (a b : Nat × Nat) : Bool :=
  decide (b.2 ≤ (a.1 + size - b.1 % size) % size ∧ a.2 ≤ (b.1 + size - a.1 % size) % size)

/-- A place for n bytes that overwrites no stream: after the last one placed, or after another that is held (R333). -/
def IngJob.findPlace (j : IngJob) (size n : Nat) : Option Nat :=
  (j.bs :: j.places.map (fun x => (x.1 + x.2) % size)).find? (fun o => j.places.all (ringApart size (o, n)))

/-- Whether the buffer lies in assigned memory (R29). -/
def Device.bufOk (d : Device) : Bool := d.rangeOk (bufBase d) (bufSize d)

/-- Stream bytes put into the ring. -/
def Device.putRing (d : Device) (off : Nat) (l : List PByte) : Device :=
  let n := min l.length (bufSize d - off)
  (d.write (bufBase d + off) (l.take n)).write (bufBase d) (l.drop n)

/-- The job ends before its last commit: slots not committed are left open. -/
def Device.ingStop (d : Device) (j : IngJob) (status : Nat) (stopped : Bool) : Device :=
  let d := (d.leaveAllOpen j.openSlots).ingFinish j.cmd status
  { d with ing.stopped := stopped }

/-- A read of the peer window for a sample: at most up to the next 512-byte block. -/
def Device.ingRead (d : Device) (j : IngJob) (s : Sample) (a n : Nat) : Device :=
  let s := { s with rid := d.ing.rid }
  let d := { d with ing.rid := d.ing.rid + 1 }
  (d.setJob (j.put s)).inject (s.dec / 12) (peerReq 1 a (min n (512 - a % 512)) [] (.ingest s.rid))

/-- All stream bytes of a sample are there: the decode runs, or the fetch was bad. -/
def Device.streamThere (d : Device) (j : IngJob) (s : Sample) : Device :=
  let d := d.putRing s.off s.bytes
  if anyPoison s.bytes ∨ s.flt = .fetch then d.endSample j { s with cause := 2 } else d.setJob (j.put { s with stage := .decode })

/-- The bytes of a stream are read; a range that is not assigned touches nothing, posts ADDR_UNASSIGNED and is a fetch that failed
(R29, R346). -/
def Device.readStream (d : Device) (j : IngJob) (s : Sample) : Device :=
  let s := { s with stage := .stream, bytes := [], place := none }
  let j := j.put s
  if regionOf s.src = 0xE ∧ d.moveRangeOk s.src s.len then d.ingRead j s s.src s.len
  else if d.rangeOk s.src s.len then
    let d := d.fetch s.src s.len
    d.streamThere j { s with bytes := d.readBytes s.src s.len }
  else (d.post evAddrUnassigned uModule 0).endSample j { s with cause := 2 }

/-- The stream of a sample is fetched, once the buffer has a place for it; one that starts again has its place already. A buffer beyond
assigned memory ends the job (R29). -/
def Device.fetchStream (d : Device) (j : IngJob) (s : Sample) : Device :=
  let n := (s.len + 31) / 32 * 32
  if !d.bufOk then (d.post evAddrUnassigned uModule 0).ingStop j stFault false
  else match s.place.filter (fun p => p.2 == n) with
    | some p => d.readStream j { s with off := p.1 }
    | none =>
      let s := { s with place := none }
      match (j.put s).findPlace (bufSize d) n with
      | none => d.setJob (j.put { s with stage := .room })
      | some o => d.readStream { j with bs := (o + n) % bufSize d } { s with off := o }

/-- An index entry has been read. -/
def Device.entryThere (d : Device) (j : IngJob) (s : Sample) : Device :=
  if entryBad s (bufSize d) then d.endSample j { s with cause := 1 } else d.fetchStream j s

/-- A read of the peer window ends for the sample that waits on it (R346, R374). -/
def Device.ingAnswer (d : Device) (rid : Nat) (ok : Bool) (data : List PByte) : Device :=
  match d.ing.job with
  | none => d
  | some j => match j.samps.find? (fun s => s.rid == rid && (s.stage == .index || s.stage == .stream)) with
    | none => d
    | some s =>
      if s.stage = .index then
        if ok then d.entryThere j { s with ent := data } else d.endSample j { s with cause := 1 }
      else if !ok then d.endSample j { s with cause := 2 }
      else
        let s := { s with bytes := s.bytes ++ data }
        if s.bytes.length ≥ s.len then d.streamThere j s
        else d.ingRead j s (s.src + s.bytes.length) (s.len - s.bytes.length)

/-! Starting and committing (R344, R345). -/

/-- A position is started on a decoder, with what an earlier start left; the limit of its decode starts anew (R346). -/
def Device.startSample (d : Device) (j : IngJob) (r : Redo) (dec : Nat) (flt : SampleFault) : Device :=
  let pos := ingPos j.d r.t
  let s : Sample := { t := r.t, samp := (perm (j.d 4) (j.d 5) (j.d 6) (ingN j.d) pos).1, dec := dec, flt := flt, rid := d.ing.rid,
                      place := r.place, failed := r.failed }
  let j := { j with samps := j.samps.filter (fun x => x.t != r.t) ++ [s] }
  let d := d.disarm (.decode dec r.t)
  let a := dPair j.d 0 19 + 32 * s.samp
  if regionOf a = 0xE then d.ingRead j s a 32
  else
    let d := d.fetch a 32
    d.entryThere j { s with ent := d.readBytes a 32 }

/-- Whether a decoder may work: its die is neither in reset nor held (R26, R349). -/
def Device.decoderRuns (d : Device) (dec : Nat) : Bool := !d.dieInReset (dec / 12) && !mget false d.pwr.held (dec / 12)

/-- A decode that a decoder has finished ends before it takes another sample; one that waits for room tries again. -/
def Device.freeDecoder (d : Device) (dec : Nat) : Device :=
  match d.ing.job with
  | none => d
  | some j => match j.samps.find? (fun s => s.dec == dec && s.stage != .ended) with
    | none => d
    | some s => match s.stage with
      | .decode => d.decodeEnds j s
      | .room => d.fetchStream j s
      | _ => d

/-- SAMPLE_START: a position to restart, else the next one, on a free decoder (R344, R349). -/
def devSampleStart (dec : Nat) (flt : SampleFault) (d : Device) : Device :=
  if !d.runs wIng ∨ !d.decoderRuns dec then d
  else
    let d := d.freeDecoder dec
    match d.ing.job with
    | none => d
    | some j =>
      if j.samps.any (fun s => s.dec == dec && s.stage != .ended) then d
      else match j.redo.find? (fun r => r.failed != some dec) with
        | some r => d.startSample { j with redo := j.redo.filter (fun x => x.t != r.t) } r dec flt
        | none =>
          if j.next ≥ (j.d 10).toNat ∨ (j.next ≥ ingSlots j.d ∧ !d.slotMet j) then d
          else d.startSample { j with next := j.next + 1, free := false } { t := j.next } dec flt

/-- What a bad sample leaves in the registers, with its event (R347): under MARK a record that is held stays. -/
def Device.badSample (d : Device) (j : IngJob) (s : Sample) : Device :=
  let lo := wd (2 ^ 31 + s.cause * 2 ^ 27 + s.dec * 2 ^ 21 + j.cmd.seq)
  let d := if bit (d.reg (ingReg 0x20)) 31 && !bit (j.d 18) 19 then d
    else ((d.setReg (ingReg 0x20) lo).setReg (ingReg 0x24) (wd s.t)).setReg64 (ingReg 0x28) (s.samp % 2 ^ 48)
  d.post 0x0412 uModule (wd (s.cause * 2 ^ 28 + s.dec * 2 ^ 22 + s.t % 2 ^ 22))

/-- The decode of the next position to commit, if it runs, ends. -/
def Device.endNext (d : Device) : Device :=
  match d.ing.job with
  | none => d
  | some j => match j.samps.find? (fun s => s.t == j.done && s.stage == .decode) with
    | some s => if d.decoderRuns s.dec then d.decodeEnds j s else d
    | none => d

/-- The next position is committed once its sample has ended and its slot has arrived, or the job stops at it. -/
def Device.commitNext (d : Device) : Device :=
  match d.ing.job with
  | none => d
  | some j => match j.samps.find? (fun s => s.t == j.done && s.stage == .ended) with
    | none => d
    | some s =>
      if s.cause ≠ 0 ∧ bit (j.d 18) 19 then
        (d.badSample j s).ingStop j stFault true
      else if s.lost then d
      else
        let d := if s.cause = 0 then d
          else (d.badSample j s).setReg (ingReg 0x1C) (wd (satAdd32 (d.reg (ingReg 0x1C)).toNat 1))
        let j := { j with done := j.done + 1, samps := j.samps.filter (fun x => x.t != s.t) }
        let d := ((d.setJob j).setReg (ingReg 0x18) (wd j.done)).progress wIng
        let d := d.addSync (fld (j.d 15) 31 30) (fld (j.d 15) 27 20) 1
        if j.done ≥ (j.d 10).toNat then { (d.ingFinish j.cmd stDone) with ing.stopped := false } else d

/-- SAMPLE_COMMIT (R345): the next position, if its decode has ended or ends now. -/
def devSampleCommit (d : Device) : Device := if d.runs wIng then d.endNext.commitNext else d

/-- DECODE_TIMEOUT (R346): the limit of a decode that has one has run out. -/
def devDecodeTimeout (dec : Nat) (d : Device) : Device :=
  match d.ing.job with
  | none => d
  | some j => match j.samps.find? (fun s => s.dec == dec && s.stage == .decode) with
    | none => d
    | some s =>
      if j.d 21 = 0 ∨ !d.decoderRuns dec ∨ !d.expired (.decode dec s.t) (1000 * (j.d 21).toNat) then d
      else d.endSample j { s with cause := 7 }

/-- Decodes whose limit runs. -/
def Device.decodeTimers (d : Device) : List Timer :=
  match d.ing.job with
  | none => []
  | some j => if j.d 21 = 0 then [] else (j.samps.filter (fun s => s.stage == .decode)).map (fun s => .decode s.dec s.t)

/-- ING_ABORT (R348). -/
def devIngAbort (d : Device) : Device :=
  match d.ing.job with
  | none => d
  | some j => if d.runs wIng then d.ingStop j stAborted false else d

/-! The perm test (R351). -/

/-- PERM_TEST_EVALUATION: ignored while one is in progress. -/
def devPermTestEvaluation (d : Device) : Device :=
  match d.ing.test with
  | some _ => d
  | none =>
    let d := d.setReg (ingReg 0xA4) (setBit (d.reg (ingReg 0xA4)) 31 true)
    { d with ing.test := some ([0x80, 0x84, 0x88, 0x8C, 0x90, 0x94, 0x98].map (fun o => d.reg (ingReg o))) }

/-- PERM_TEST_DONE. -/
def devPermTestDone (d : Device) : Device :=
  match d.ing.test with
  | none => d
  | some t =>
    let w := wordAt t
    let n := dPair w 3 15 + 1
    let j := dPair w 5 15
    let r := if j ≥ n then (0, 0) else perm (w 0) (w 1) (w 2) n j
    let d := (d.setReg (ingReg 0xA0) (lo32 r.1)).setReg (ingReg 0xA4) (wd (min r.2 0x7FFF * 2 ^ 16 + r.1 / 2 ^ 32 % 65536))
    { d with ing.test := none }

end Sys2Proof.Machine
end

