-- ==== Sys2Proof/Machine/Link.lean ====
section
/-! DEFINITION. Port transitions that other units feel, keepalives, generation tags and link-state records
(R361 to R364, R375, R376, R378 to R380). -/

namespace Sys2Proof.Machine

/-! Generation tags (R375, R376). -/

/-- Synian or hardware learns a module's tag: its entry takes it, and a change is told to the collective engine and to a
repair that copies from that module (R375, R485). -/
def Device.learnTag (d : Device) (src sgen : Nat) : Device :=
  let e := d.route src
  let far := (sgen + 256 - e.lgen) % 256
  let d := d.setRoute src { e with lgen := sgen }
  if 1 ≤ far ∧ far ≤ 127 then
    let d := (d.post 0x0606 uModule (wd (sgen * 2 ^ 24 + src))).colPeerReset src
    match d.ras.repair with
    | some r => if r.source = src ∧ r.result = 0 then { d with ras.repair := some { r with result := 2 } } else d
    | none => d
  else d

/-- R375 for a packet with these SRC and SGEN; FORCE of a GENANN takes the tag whatever it is. False: dropped and counted. -/
def Device.acceptTag (d : Device) (src sgen : Nat) (force : Bool) : Device × Bool :=
  let far := (sgen + 256 - (d.route src).lgen) % 256
  if far ≤ 127 || force then (d.learnTag src sgen, true) else (d.count (rteReg 0x28), false)

/-! Training and enabling (R362 to R364). -/

/-- TRAINING_COMPLETE (R363): both sides have been RXREADY for 1 µs, in the mode and with the RXNEXT that the partner's flits gave; a
completion with others is none of this port. RESUME only where this port and its partner both send it; a port in RETRAIN whose partner
starts afresh first loses its link (R364). -/
def devTrainingComplete (p : Nat) (resume : Bool) (rxNext : Nat) (d : Device) : Device :=
  let x := d.port p
  if x.told ≠ some (true, resume, rxNext) || !x.rxReady || !d.expired (.ready p x.attempt) 1000 then d
  else match x.state with
    | 1 => d.freshLink p
    | 4 => if resume then d.resumeLink p rxNext else ((d.linkDown p).colLinkCheck).freshLink p
    | _ => d

/-- TRAINING_ATTEMPT_TIMEOUT (R363, R364): 250 µs have passed, and the next attempt begins; in RETRAIN the fourth failed attempt takes
the port to TRAIN. -/
def devTrainingAttemptTimeout (p : Nat) (d : Device) : Device :=
  let x := d.port p
  if (x.state ≠ 1 ∧ x.state ≠ 4) ∨ !d.expired (.training p x.attempt) 250000 then d
  else if x.state = 1 then d.newAttempt p
  else if x.tries ≥ 3 then (d.linkDown p).colLinkCheck
  else (d.setPort p { x with tries := x.tries + 1 }).newAttempt p

/-- The timeouts that run on a port. -/
def Device.portTimers (d : Device) (p : Nat) : List Timer :=
  let x := d.port p
  if x.state ≠ 1 ∧ x.state ≠ 4 then []
  else .training p x.attempt :: (match x.told with
    | some (true, _, _) => if x.rxReady then [.ready p x.attempt] else []
    | _ => [])

/-- PORT_DISABLE (R362): a write of EN 0. -/
def devPortDisable (p : Nat) (d : Device) : Device :=
  let d := d.setReg (fabReg p 0) (setBit (d.reg (fabReg p 0)) 31 false)
  (d.setPort p ((d.port p).cleared 0)).colLinkCheck

/-- ADMIT (R362): Synian writes ADMIT. -/
def devPortAdmit (p : Nat) (v : Bool) (d : Device) : Device :=
  let d := d.setReg (fabReg p 0) (setBit (d.reg (fabReg p 0)) 30 v)
  let x := d.port p
  if v && x.state == 2 && !x.dup then d.setPort p { x with state := 3 }
  else if !v && x.state == 3 then d.setPort p { x with state := 2 }
  else d

/-- CODEWORD_TIME (R356): packets that waited for a trunk port join its queue, receivers in training may lock, and each lane sends one
codeword. -/
def devCodewordTime (p : Nat) (d : Device) : Device :=
  let d := (List.range 4).foldl Device.flushCol d
  (List.range 8).foldl (fun d lane => d.sendLane p lane) (d.lockLanes p)

/-! Keepalives (R379). -/

/-- A partner in the layout of `FAB_PEERp` (R382). -/
def Peer.word (r : Peer) : Word := wd (r.valid.toNat * 2 ^ 31 + r.kind * 2 ^ 27 + r.port * 2 ^ 23 + r.gen * 2 ^ 15 + r.module)

/-- The identity a KA carries (R378). -/
def Packet.identity (k : Packet) : Peer :=
  { valid := true, module := k.src, port := fld (k.w 2) 27 24, kind := fld (k.w 2) 31 28, gen := k.sgen }

/-- Whether a keepalive comes from the partner that is recorded. -/
def Peer.same (q r : Peer) : Bool := q.valid && q.module == r.module && q.port == r.port && q.kind == r.kind

/-- The partner's identity is recorded; where another was recorded, the port goes to LINKED with ADMIT cleared (R379). -/
def Device.recordPeer (d : Device) (p : Nat) (r : Peer) : Device :=
  let x := d.port p
  if x.peer.same r then d
  else if !x.peer.valid then d.setPort p { x with peer := r }
  else
    let d := d.setReg (fabReg p 0) (setBit (d.reg (fabReg p 0)) 30 false)
    (d.setPort p { x with peer := r, state := if x.state = 3 then 2 else x.state }).post 0x0604 (uPort p) r.word

/-- A KA's effects, row by row of R379. -/
def Device.keepaliveCame (d : Device) (p : Nat) (r : Peer) : Device :=
  let old := (d.port p).peer
  let d := d.recordPeer p r
  let x := d.port p
  let d := if x.fresh then (d.setPort p { x with fresh := false }).post 0x0603 (uPort p) r.word else d
  let x := d.port p
  let dup := r.module == d.selfMod && r.kind == 0
  let d := d.setPort p { x with dup := dup, state := if dup && x.state == 3 then 2 else x.state }
  let d := if dup then d.post 0x0605 (uPort p) r.word else d
  let d := d.setPort p { d.port p with peer := r }
  if old.same r && r.gen == old.gen then d else (d.acceptTag r.module r.gen false).1

/-- KA (R379): the first keepalive that a port holds. -/
def devKa (p : Nat) (d : Device) : Device :=
  match d.takeRx p (fun k => k.pt == 7) with
  | none => d
  | some (k, d) => if (d.port p).up then d.keepaliveCame p k.identity else d

/-! Link state (R380). -/

/-- LSA (R380): Synian keeps and forwards a record whose SEQNO exceeds the last one it holds for its origin. -/
def devLsa (p : Nat) (d : Device) : Device :=
  match d.takeRx p (fun k => k.pt == 8) with
  | none => d
  | some (k, d) =>
    let w := bytesToWords (k.body.length / 4) k.body
    let origin := fld (wordAt w 0) 14 0
    let seq := (wordAt w 1).toNat
    if (mget [] d.fab.lsdb origin).isEmpty || decide (mget 0 d.fab.lsa origin < seq) then
      ({ d with fab.lsa := mset 0 d.fab.lsa origin seq, fab.lsdb := mset [] d.fab.lsdb origin w }).flood p k.body
    else d

end Sys2Proof.Machine
end

