-- ==== Sys2Proof/Machine/Router.lean ====
section
/-! DEFINITION. The router and the peer window: routes, requests with their tags, the service of arriving requests, and
the answers to the units that asked (R30, R368 to R376). -/

namespace Sys2Proof.Machine

/-- A packet was dropped under R369: the bit of `RTE_DROP`, its event, and the count. -/
def Device.routeDrop (d : Device) (n dst : Nat) : Device := (d.dropBit n 0x0607 (wd dst)).count (rteReg 0x24)

/-- The HOPS of a packet that issues here (R369, R383). -/
def Device.maxHop (d : Device) : Nat := max 1 (fld (d.reg (rteReg 0xC)) 5 0)

/-! Building packets. -/

/-- A reply to a request: WACK, or RDR with its data (R365, R374). -/
def Device.replyTo (d : Device) (k : Packet) (rstat : Nat) (data : List PByte) : Packet :=
  let pt := if k.pt = 1 then 2 else 4
  { h := [mkH0 pt 1 d.maxHop k.src (anyPoison data), d.mkH1 k.sgen, wd (k.tag * 2 ^ 16 + data.length), 0, wd (rstat * 2 ^ 28), 0, 0, 0]
    body := values data }

/-- A request as a packet. -/
def Device.requestPacket (d : Device) (r : PeerReq) (tag : Nat) : Packet :=
  let pt := match r.kind with | 0 => 1 | 1 => 3 | _ => 9
  { h := [mkH0 pt 0 d.maxHop r.dst (anyPoison r.data), d.mkH1 0, wd (tag * 2 ^ 16 + r.len), lo32 r.off, hi32 r.off, 0, 0, 0]
    body := values r.data }

/-- A GENANN (R376). -/
def Device.genannPacket (d : Device) (dst : Nat) (force : Bool) : Packet :=
  { h := [mkH0 6 3 d.maxHop dst false, d.mkH1 0, wd (force.toNat * 2 ^ 16), 0, 0, 0, 0, 0] }

/-! Repair reads (R316, R485). -/

/-- The next read of a repair: at most to the end of the 512-byte block. With nothing left the repair ends with RESULT 1. -/
def Device.repairNext (d : Device) (r : Repairing) : Device :=
  match r.todo.dropWhile (fun x => x.2 == 0) with
  | [] => { d with ras.repair := some { r with todo := [], result := 1 } }
  | (a, n) :: l =>
    let rid := d.ras.repRid + 1
    ({ d with ras.repair := some { r with todo := (a, n) :: l }, ras.repRid := rid }).inject 0
      { kind := 2, dst := r.source, off := a, len := min n (512 - a % 512), who := .repair rid }

/-- A read of a repair ends: its bytes are written, or RESULT is decided: 2 lost, 3 poisoned, 4 refused. -/
def Device.repairAnswer (d : Device) (rid : Nat) (rstat : Option Nat) (data : List PByte) : Device :=
  match d.ras.repair with
  | none => d
  | some r =>
    if r.result ≠ 0 ∨ rid ≠ d.ras.repRid then d
    else match rstat with
      | none => { d with ras.repair := some { r with result := 2 } }
      | some 0 =>
        if anyPoison data then { d with ras.repair := some { r with result := 3 } }
        else match r.todo with
          | [] => d
          | (a, n) :: l => (d.write a data).repairNext { r with todo := (a + data.length, n - max 1 data.length) :: l }
      | some _ => { d with ras.repair := some { r with result := 4 } }

/-! Answers (R374). -/

/-- The unit that issued a request learns how it ended: RSTAT, or none where it was lost. -/
def Device.answer (d : Device) (who : Requester) (rstat : Option Nat) (data : List PByte) : Device :=
  let ok := rstat == some 0
  match who with
  | .dmaWrite die chan wr => d.dmaWriteAnswer die chan wr ok
  | .dmaRead die chan wr => d.dmaReadAnswer die chan wr ok data
  | .ingest rid => d.ingAnswer rid ok data
  | .repair rid => d.repairAnswer rid rstat data
  | .mupd cid line => d.mupdAnswer cid line ok data

/-- A reply that R375 has accepted: to the unit that asked, or dropped and counted. -/
def Device.replyCame (d : Device) (k : Packet) : Device :=
  match mget none d.fab.tags k.tag with
  | none => d.count (rteReg 0x28)
  | some e =>
    if k.rgen ≠ d.selfGen ∨ (k.pt = 2) ≠ (e.kind = 0) then d.count (rteReg 0x28)
    else ({ d with fab.tags := mset none d.fab.tags k.tag none }).answer e.who (some k.rstat) (mark k.poison k.body)

/-! Service of requests (R372, R373). -/

/-- OFFSET, or the device address of a DRD. -/
def Packet.offset (k : Packet) : Nat := (k.w 3).toNat + fld (k.w 4) 19 0 * 2 ^ 32

/-- A slice's window registers. -/
def Device.winLo (d : Device) (e : Nat) : Word := d.reg (rteReg (0x100 + 8 * e))
def Device.winHi (d : Device) (e : Nat) : Word := d.reg (rteReg (0x104 + 8 * e))

/-- The device address a request reaches, or the RSTAT of its refusal. -/
def Device.reach (d : Device) (k : Packet) : Nat × Nat :=
  let e := k.offset / 2 ^ 29 % 16
  let a := if k.pt = 9 then k.offset
    else (fld (d.winLo e) 31 16 * 2 ^ 16 + fld (d.winHi e) 19 0 * 2 ^ 32 + k.offset % 2 ^ 29) % 2 ^ 52
  let allowed := if k.pt = 9 then bit (d.reg (rteReg 0x200)) 0
    else bit (d.winLo e) 0 && bit (d.winLo e) (if k.pt = 1 then 1 else 2)
  if !allowed then (a, 1)
  else if !([0, 1, 2, 3, 4, 5, 8].contains (regionOf a) && d.rangeOk a k.len) then (a, 2)
  else (a, 0)

/-- A WR, RD or DRD for this module: its bytes are written or read, and the reply it gets; memory held by a reset refuses it. `own` is
the DMA write (die, channel, number) that a WR of this module is. -/
def Device.serve (d : Device) (own : Option (Nat × Nat × Nat)) (k : Packet) : Device × Packet :=
  let (a, rstat) := d.reach k
  let refused (n : Nat) : Device × Packet := (d.dropBit 3 0x0609 (wd (n * 2 ^ 28 + k.src)), d.replyTo k n [])
  if rstat ≠ 0 then refused rstat
  else if d.memHeld a then refused 1
  else if k.pt = 1 then
    let l := mark k.poison (k.body.take k.len)
    (match own with | some w => d.peerWrite w.1 w.2.1 w.2.2 a l | none => d.write a l, d.replyTo k 0 [])
  else
    let d := d.fetch a k.len
    (d, d.replyTo k 0 (d.readBytes a k.len))

/-! Local delivery and sending (R30, R369, R371). -/

/-- A reply for this module, delivered locally. -/
def Device.localReply (d : Device) (k : Packet) : Device :=
  let (d, ok) := d.acceptTag k.src k.sgen false
  if ok then d.replyCame k else d

/-- A reply goes out; with no way to its destination it is dropped in silence but for the count. -/
def Device.sendReply (d : Device) (k : Packet) : Device :=
  if k.dst = d.selfMod then d.localReply k
  else match d.tryRoute k with
    | some d => d
    | none => d.routeDrop 0 k.dst

/-- A request for this module: R375, its service, and its reply. -/
def Device.serveHere (d : Device) (own : Option (Nat × Nat × Nat)) (k : Packet) : Device :=
  let (d, ok) := d.acceptTag k.src k.sgen false
  if ok then
    let (d, r) := d.serve own k
    d.sendReply r
  else d

/-- A packet dropped under R369; the UNREACH reply of R371 goes out where a route to SRC has a candidate port. -/
def Device.dropRouted (d : Device) (n : Nat) (k : Packet) : Device :=
  let d := d.routeDrop n k.dst
  if [1, 3, 9].contains k.pt then
    let r := d.replyTo k 3 []
    if (d.route k.src).valid && !(d.candidates (d.route k.src).pm).isEmpty then d.sendReply r else d
  else d

/-! The rows. -/

/-- ROUTED_PACKET_ARRIVAL (R369): a packet in transit. -/
def devRoutedPacketArrival (p : Nat) (d : Device) : Device :=
  match d.takeRx p (fun k => [1, 2, 3, 4, 6, 9].contains k.pt && k.dst != d.selfMod) with
  | none => d
  | some (k, d) =>
    if !(d.route k.dst).valid then d.dropRouted 0 k
    else if k.hops = 0 then d.dropRouted 1 k
    else match d.tryRoute { k with h := k.h.set 0 (setFld (k.w 0) 24 19 (k.hops - 1)) } with
      | some d => d
      | none => d.dropRouted 0 k

/-- The first packet of a type that a port holds for this module. -/
def Device.takeMine (d : Device) (p pt : Nat) : Option (Packet × Device) :=
  d.takeRx p (fun k => k.pt == pt && k.dst == d.selfMod)

/-- WR (R372). -/
def devWr (p : Nat) (d : Device) : Device :=
  match d.takeMine p 1 with
  | none => d
  | some (k, d) => d.serveHere none k

/-- RD (R372). -/
def devRd (p : Nat) (d : Device) : Device :=
  match d.takeMine p 3 with
  | none => d
  | some (k, d) => d.serveHere none k

/-- DRD (R373). -/
def devDrd (p : Nat) (d : Device) : Device :=
  match d.takeMine p 9 with
  | none => d
  | some (k, d) => d.serveHere none k

/-- WACK (R374). -/
def devWack (p : Nat) (d : Device) : Device :=
  match d.takeMine p 2 with
  | none => d
  | some (k, d) => d.localReply k

/-- RDR (R374). -/
def devRdr (p : Nat) (d : Device) : Device :=
  match d.takeMine p 4 with
  | none => d
  | some (k, d) => d.localReply k

/-- GENANN (R376). -/
def devGenann (p : Nat) (d : Device) : Device :=
  match d.takeMine p 6 with
  | none => d
  | some (k, d) => (d.acceptTag k.src k.sgen (bit (k.w 2) 16)).1

/-- The lowest number from `t` on, within `n` tries, that is no tag outstanding or waiting to be used again (R374). -/
def Device.freeTag (d : Device) : Nat → Nat → Option Nat
  | 0, _ => none
  | n + 1, t =>
    if t ≥ 65536 then none
    else if (mget none d.fab.tags t).isNone && !d.fab.quar.contains t then some t
    else d.freeTag n (t + 1)

/-- The DMA write that a request is. -/
def Requester.write : Requester → Option (Nat × Nat × Nat)
  | .dmaWrite die chan wr => some (die, chan, wr)
  | _ => none

/-- PEER_REQUEST (R374): the oldest request in the injection queues takes a tag and leaves; one that crosses an aligned
512-byte block is dropped (R366). -/
def devPeerRequest (d : Device) : Device :=
  match d.inj with
  | [] => d
  | (_, r) :: l =>
    match d.freeTag (d.fab.tags.length + d.fab.quar.length + 1) 0 with
    | none => d
    | some t =>
      let d := { d.disarm (.reply t) with inj := l, fab.tags := mset none d.fab.tags t (some { kind := r.kind, dst := r.dst, who := r.who }) }
      let d := d.injRefill
      let k := d.requestPacket r t
      if k.bad then d.routeDrop 2 k.dst
      else if r.dst = d.selfMod then d.serveHere r.who.write k
      else match d.tryRoute k with
        | some d => d
        | none => d.dropRouted 0 k

/-- The end-to-end timeout in ns. -/
def Device.e2eTmo (d : Device) : Nat := 1000 * fld (d.reg (rteReg 8)) 19 0

/-- Tags whose reply is awaited, and tags that may not be used again yet. -/
def Device.tagTimers (d : Device) : List Timer :=
  d.fab.tags.filterMap (fun x => x.2.map (fun _ => .reply x.1)) ++ d.fab.quar.map .reuse

/-- E2E_TIMEOUT (R374): a request has had no reply within the timeout, and is lost. -/
def devE2eTimeout (tag : Nat) (d : Device) : Device :=
  match mget none d.fab.tags tag with
  | none => d
  | some e =>
    if !d.expired (.reply tag) d.e2eTmo then d
    else
      (({ d with fab.tags := mset none d.fab.tags tag none, fab.quar := sinsert tag d.fab.quar }).dropBit 4 0x0608 (wd e.dst)).answer
        e.who none []

/-- TAG_REUSE (R374): twice the timeout has passed since the tag's request was lost. -/
def devTagReuse (tag : Nat) (d : Device) : Device :=
  if d.expired (.reuse tag) (2 * d.e2eTmo) then { d with fab.quar := d.fab.quar.filter (fun t => t != tag) } else d

/-- A GENANN for every VALID entry (R376). -/
def Device.announceAll (d : Device) (force : Bool) : Device :=
  (d.fab.table.filter (fun e => e.2.valid)).foldl (fun d e =>
    let k := d.genannPacket e.1 force
    if e.1 = d.selfMod then (d.acceptTag k.src k.sgen force).1
    else match d.tryRoute k with
      | some d => d
      | none => d.routeDrop 0 e.1) d

/-- ANNOUNCE (R376): Synian writes `RTE_CTL.ANNOUNCE`. -/
def devAnnounce (d : Device) : Device := d.announceAll true

/-- TABLE_ENTRY_WRITE (R368): a 64-bit write of `RTE_TENT`; LGEN stays. -/
def devTableEntryWrite (v : BitVec 64) (d : Device) : Device :=
  let i := fld (d.reg (rteReg 0x10)) 14 0
  let n := v.toNat
  d.setRoute i { valid := n.testBit 63, lgen := (d.route i).lgen, dl := n / 2 ^ 32 % 2 ^ 16, pm := n % 2 ^ 16 }

end Sys2Proof.Machine
end

