-- ==== Sys2Proof/Machine/Vector.lean ====
section
/-! DEFINITION. The vector engine: loops, iterations, the scalar cores' instructions, summaries and lane faults
(R177 to R193, R203, R205, R511, R512). -/

namespace Sys2Proof.Machine

/-! Loops and the clusters they run on (R182, R183, R191). -/

def vecReg (die off : Nat) : Nat := dreg die 5 off
def vecWin (die w off : Nat) : Nat := vecReg die (0x1000 + 0x100 * w + off)

/-- The clusters a TARGET names, and the core of a single-core target. -/
def targetClusters (t : Word) : List Nat := if fld t 19 12 = 0xFF then List.range 16 else [fld t 19 12]
def targetCore (t : Word) : Option Nat := if fld t 11 0 = 0xFFE then none else some (fld t 11 0)

def VLoop.vl (l : VLoop) : Nat := fld (l.cmd.word 5) 31 21 + 1
def VLoop.len (l : VLoop) : Nat := (l.cmd.word 4).toNat
def VLoop.pstream (l : VLoop) : Nat := fld (l.cmd.word 5) 15 0
/-- CVL of the iteration that runs or starts next (R183). -/
def VLoop.cvl (l : VLoop) : Nat := min l.vl (l.len - l.iter * l.vl)
def VLoop.kind (l : VLoop) (k : Nat) : Nat := fld (l.cmd.word 6) (3 * k + 2) (3 * k)
def VLoop.sumbase (l : VLoop) : Nat := fld (l.cmd.word 6) 31 26

/-- The leaf cores of a loop: how many, and the lowest. -/
def VLoop.leaves (l : VLoop) : Nat := match l.core with | some _ => 1 | none => 128 * l.group.length
def VLoop.lowest (l : VLoop) (die : Nat) : Nat := uCore die (l.group.headD 0) (l.core.getD 0)

/-- The lane a core carries (R182). -/
def VLoop.laneOf (l : VLoop) (w c : Nat) : Option Nat :=
  match l.core with
  | some k => if k = c then some 0 else none
  | none => match l.group.findIdx? (· == w) with
    | some i => some (128 * i + c)
    | none => none

/-- The cluster and core of a lane. -/
def VLoop.clusterOf (l : VLoop) (lane : Nat) : Nat := l.group.getD (lane / 128) 0
def VLoop.coreOf (l : VLoop) (lane : Nat) : Nat := match l.core with | some k => k | none => lane % 128

/-- The registers an element starts with (R184). -/
def VLoop.laneInit (l : VLoop) (lane : Nat) : Lane :=
  let base : List (Nat × Word) := [(1, wd (l.iter * l.vl + lane)), (2, wd lane), (3, wd l.cvl), (4, wd l.iter)]
  let args := (List.range 8).map (fun k => (24 + k, wordAt l.args k))
  { x := (base ++ args).foldl (fun m p => mset 0 m p.1 p.2) [] }

def VLoop.lane (l : VLoop) (lane : Nat) : Lane := mget (l.laneInit lane) l.lanes lane
def VLoop.setLane (l : VLoop) (lane : Nat) (v : Lane) : VLoop := { l with lanes := mset (l.laneInit lane) l.lanes lane v }

/-- The running loop of a cluster, with its key. -/
def Device.loopAt (d : Device) (die w : Nat) : Option (Nat × VLoop) :=
  d.vec.loops.findSome? (fun p => match p.2 with
    | some l => if p.1 / 16 = die && l.group.contains w then some (p.1, l) else none
    | none => none)

def Device.setLoop (d : Device) (key : Nat) (l : Option VLoop) : Device :=
  { d with vec.loops := mset none d.vec.loops key l }

/-! Summaries (R187, R188). -/

/-- What a slot holds before any contribution. -/
def slotInit (kind : Nat) : Slot :=
  { kind := kind, acc := if kind = 2 then .inf true else if kind = 3 then .inf false else Val.zero }

/-- The larger and the smaller of two values, −0 below +0, NaN if either is NaN (R187, R511). -/
def maxVal (a b : Val) : Val := if a.isNan || b.isNan then .nan else if a.ltz b then b else a
def minVal (a b : Val) : Val := if a.isNan || b.isNan then .nan else if b.ltz a then b else a

/-- A contribution; none past the limit of a SUM slot. -/
def Slot.add (s : Slot) (f i : Word) : Option Slot :=
  match s.kind with
  | 1 => if s.n ≥ 2 ^ 40 then none else some { s with acc := s.acc.add (f32 f), n := s.n + 1 }
  | 2 => some { s with acc := maxVal s.acc (f32 f), n := s.n + 1 }
  | 3 => some { s with acc := minVal s.acc (f32 f), n := s.n + 1 }
  | 4 => some { s with word := s.word ||| i.toNat, n := s.n + 1 }
  | 5 => some { s with word := if i = 0 then s.word else min (s.word + 1) 0xFFFFFFFF, n := s.n + 1 }
  | _ => some s

def Slot.value (s : Slot) : Word := if s.kind ≤ 3 then wd (Fmt.fp32.rne s.acc) else wd s.word

/-- The summaries of a loop that ends; an invalid slot keeps what its value was. -/
def Device.writeSummaries (d : Device) (die : Nat) (l : VLoop) (valid : Bool) : Device :=
  let m := (List.range 8).foldl (fun m k =>
    if l.kind k = 0 then m
    else
      let key := die * 64 + (l.sumbase + k)
      let old : Summary := mget {} m key
      let v := if valid then (l.slots.getD k (slotInit 0)).value else old.value
      mset {} m key { value := v, valid := valid, kind := l.kind k }) d.ctl.sums
  { d with ctl.sums := m }

/-- A loop ends: its summaries, then its members' parts. A faulted core ends with FAULT, a core that loaded poison with
POISONED, every other with DONE. -/
def Device.endLoop (d : Device) (key : Nat) (l : VLoop) (faulted : Option Nat) : Device :=
  let die := key / 16
  let pc := l.pcores.filter (fun u => faulted != some u)
  let d := d.writeSummaries die l faulted.isNone
  let d := d.setLoop key none
  let d := { d with vec.last := l.group.foldl (fun m w => mset 0 m (die * 16 + w) l.cmd.seq) d.vec.last }
  let nf := if faulted.isSome then 1 else 0
  let d := if pc.length = 0 then d else d.completePart l.cmd.cid pc.length stPoisoned pc.length (pc.headD 0)
  let d := if l.leaves - pc.length - nf = 0 then d else d.completePart l.cmd.cid (l.leaves - pc.length - nf) stDone 0 0
  match faulted with
  | none => d
  | some u => d.completePart l.cmd.cid 1 stFault 1 u

/-- A lane faults and stops its loop (R192). -/
def Device.laneFault (d : Device) (key : Nat) (l : VLoop) (lane cause : Nat) : Device :=
  let die := key / 16
  let w := l.clusterOf lane
  let c := l.coreOf lane
  let lo := wd (2 ^ 31 + cause * 2 ^ 28 + c * 2 ^ 21 + l.cmd.seq)
  let k := vecWin die w 8
  let d := if cause = 3 then d.post evAddrUnassigned (uCore die w c) 0 else d
  let d := if bit (d.reg k) 31 then d else d.setReg (k + 8) (wd (l.iter * l.vl + lane))
  let d := d.setRecord k lo (wd ((l.lane lane).pc % 2 ^ 14))
  (d.post 0x0A05 (uCluster die w) lo).endLoop key l (some (uCore die w c))

/-! VLOOP and iterations. -/

/-- The refusals of R191, with R182 and R187. DESIGN CHOICE: a LEN of 0 and a PROG that is not a multiple of 4 bytes, which R191 does not
list, are refused with CMD_INVALID. -/
def vloopBad (d : Device) (c : Cmd) : Option Nat :=
  let w5 := c.word 5
  let w6 := c.word 6
  let t := c.target
  let cap := match targetCore t with | some _ => 1 | none => 128 * (targetClusters t).length
  let kinds := (List.range 8).map (fun k => (k, fld w6 (3 * k + 2) (3 * k)))
  let args := bit w5 20
  let ps := fld w5 15 0
  firstBad [
    (w012Reserved c true || partShare c || fld w6 25 24 != 0 || fld w5 19 16 != 0 || awRes (c.word 3) || awMis 4 (c.word 3) ||
      (args && awRes (c.word 7)) || c.word 4 == 0 || (fld t 19 12 == 0xFF && (targetCore t).isSome), evCmdInvalid),
    (decide (fld w5 31 21 + 1 > cap), evCmdInvalid),
    (kinds.any (fun p => decide (p.2 > 5) || (p.2 != 0 && decide (fld w6 31 26 + p.1 > 63))), evCmdInvalid),
    (ps != 0 && decide (ps < 0x8000), evRmode),
    (d.sramBad (c.word 3) 4 || (args && d.sramBad (c.word 7) 32), evAddrUnassigned)]

/-- A loop leaves the queues of all its members. -/
def Device.popAll (d : Device) (die : Nat) (ws : List Nat) : Device := ws.foldl (fun d w => d.popCmd (qVec die w)) d

/-- The 64 KiB of program a cluster caches when a loop starts (R179). -/
def Device.snapProg (d : Device) (w3 : Word) : List Host.Cell :=
  let a := sramDA w3
  d.core.mem.filter (fun p => a ≤ p.1 && p.1 < a + 65536)

/-- VLOOP (R191, R195): issues when it heads the queue of every member, its condition is met there and no member runs a
loop. -/
def devVloop (die w : Nat) (d : Device) : Device :=
  match d.ready (qVec die w) with
  | none => d
  | some c =>
    let ws := targetClusters c.target
    let heads := ws.all (fun v => match d.ready (qVec die v) with | some k => k.cid == c.cid | none => false)
    if !heads || ws.any (fun v => (d.loopAt die v).isSome || !d.runs (wCluster die v)) then d
    else
      let l : VLoop :=
        { cmd := c, group := ws, core := targetCore c.target, prog := d.snapProg (c.word 3),
          args := if bit (c.word 5) 20 then d.descWords (sramDA (c.word 7)) 8 else [],
          slots := (List.range 8).map (fun k => slotInit (fld (c.word 6) (3 * k + 2) (3 * k))),
          k0 := d.reg (dreg die 11 0), k1 := d.reg (dreg die 11 4), step := d.reg (dreg die 11 8) }
      match vloopBad d c with
      | some ev => d.refuse (qVec die w) c ev c.target.toNat (if ev = evCmdInvalid then c.seqWord else 0)
      | none => (d.popAll die ws).setLoop (die * 16 + ws.headD 0) (some l)

/-- ITERATION_START (R183): every lane of the previous iteration has ended. -/
def devIterationStart (die w : Nat) (d : Device) : Device :=
  match d.loopAt die w with
  | none => d
  | some (key, l) =>
    if l.open_ || l.group.any (fun v => !d.runs (wCluster die v)) then d
    else d.setLoop key (some { l with open_ := true, lanes := [] })

/-- After an END: the iteration ends once every active lane has ended, and the last iteration ends the loop. -/
def Device.iterationEnd (d : Device) (key : Nat) (l : VLoop) : Device :=
  if (List.range l.cvl).all (fun i => (l.lane i).ended) then
    let die := key / 16
    let d := l.group.foldl (fun d w => d.progress (wCluster die w)) d
    let l := { l with open_ := false, lanes := [], iter := l.iter + 1 }
    if l.iter * l.vl ≥ l.len then d.endLoop key l none else d.setLoop key (some l)
  else d.setLoop key (some l)

/-! Instruction words (R180) and a lane's registers. -/

def iOpc (w : Word) : Nat := fld w 31 26
def iRd (w : Word) : Nat := fld w 25 21
def iRa (w : Word) : Nat := fld w 20 16
def iRb (w : Word) : Nat := fld w 15 11
def iRc (w : Word) : Nat := fld w 10 6
def iFn (w : Word) : Nat := fld w 5 0
def iImm (w : Word) : Int := sext 16 (fld w 15 0)

/-- The opcodes of R181. -/
def opcListed (n : Nat) : Bool :=
  [0x01, 0x02, 0x03, 0x08, 0x09, 0x0A, 0x0B, 0x0C, 0x10, 0x11, 0x12, 0x14, 0x15, 0x16, 0x18, 0x19, 0x1A, 0x1B, 0x20, 0x24,
    0x28, 0x29, 0x2A, 0x2B, 0x2C, 0x2D, 0x3F].contains n

/-- A register read as a float, and as an integer: poisoned data reads as the canonical NaN or as 0 (R193). -/
def Lane.f (l : Lane) (r : Nat) : Word := if r = 0 then 0 else mget 0 l.x r
def Lane.i (l : Lane) (r : Nat) : Word := if mget 0 l.mark r = 0 then l.f r else 0
def Lane.v (l : Lane) (r : Nat) : Val := f32 (l.f r)

/-- A register written, with the width of the poisoned load it holds unchanged (0: none); `x0` ignores writes (R179). -/
def Lane.set (l : Lane) (r : Nat) (v : Word) (width : Nat := 0) : Lane :=
  if r = 0 then l else { l with x := mset 0 l.x r v, mark := mset 0 l.mark r width }

def Lane.next (l : Lane) : Lane := { l with pc := l.pc + 1 }

/-- A lane that goes on at an instruction index relative to its own. -/
def Lane.hop (l : Lane) (i : Int) : Lane := { l with pc := wrap 32 ((l.pc : Int) + i) }

/-- The canonical NaN of FP32. -/
def nan32 : Word := wd 0x7FC00000

/-- The FP32 word of a value, rounded to nearest even. -/
def w32 (v : Val) : Word := wd (Fmt.fp32.rne v)

/-- What a lane has before it when it executes an instruction. -/
structure LaneCtx where
  d    : Device
  die  : Nat
  l    : VLoop
  lane : Lane
  ins  : Word

/-- What one instruction does: a fault, or the lane after it with the device, the summary slots and whether the lane
loaded poisoned data. -/
inductive LaneOut where
  | fault (cause : Nat)
  | ok (lane : Lane) (d : Device) (slots : List Slot) (pois : Bool)

def LaneCtx.go (x : LaneCtx) (lane : Lane) : LaneOut := .ok lane x.d x.l.slots false

/-- A register result, and the next instruction. -/
def LaneCtx.res (x : LaneCtx) (v : Word) : LaneOut := x.go (x.lane.set (iRd x.ins) v).next

def LaneCtx.ia (x : LaneCtx) : Word := x.lane.i (iRa x.ins)
def LaneCtx.ib (x : LaneCtx) : Word := x.lane.i (iRb x.ins)
def LaneCtx.ic (x : LaneCtx) : Word := x.lane.i (iRc x.ins)
def LaneCtx.va (x : LaneCtx) : Val := x.lane.v (iRa x.ins)
def LaneCtx.vb (x : LaneCtx) : Val := x.lane.v (iRb x.ins)
def LaneCtx.vc (x : LaneCtx) : Val := x.lane.v (iRc x.ins)

/-! The instructions (R181). -/

/-- IALU by FN. -/
def ialu (fn : Nat) (a b : Word) : Option Word :=
  match fn with
  | 0x00 => some (a + b)
  | 0x01 => some (a - b)
  | 0x02 => some (a &&& b)
  | 0x03 => some (a ||| b)
  | 0x04 => some (a ^^^ b)
  | 0x05 => some (a <<< (b.toNat % 32))
  | 0x06 => some (a >>> (b.toNat % 32))
  | 0x07 => some (a.sshiftRight (b.toNat % 32))
  | 0x08 => some (a * b)
  | 0x09 => some (hi32 (a.toNat * b.toNat))
  | 0x0A => some (if a.toInt ≤ b.toInt then a else b)
  | 0x0B => some (if a.toInt ≤ b.toInt then b else a)
  | 0x0C => some (if a.toInt < b.toInt then 1 else 0)
  | 0x0D => some (if a.toNat < b.toNat then 1 else 0)
  | _ => none

def LaneCtx.opt (x : LaneCtx) : Option Word → LaneOut
  | some v => x.res v
  | none => .fault 1

def opIalu (x : LaneCtx) : LaneOut := x.opt (ialu (iFn x.ins) x.ia x.ib)

def immWord (w : Word) : Word := BitVec.ofInt 32 (iImm w)

def opAddi (x : LaneCtx) : LaneOut := x.res (x.ia + immWord x.ins)

def opLui (x : LaneCtx) : LaneOut := if iRa x.ins ≠ 0 then .fault 1 else x.res (wd (fld x.ins 15 0 * 2 ^ 16))

/-- FALU by FN, with R511's special values. -/
def falu (fn : Nat) (a b : Val) (wa : Word) : Option Word :=
  match fn with
  | 0x00 => some (w32 (a.add b))
  | 0x01 => some (w32 (a.sub b))
  | 0x02 => some (w32 (a.mul b))
  | 0x03 => some (w32 (minVal a b))
  | 0x04 => some (w32 (maxVal a b))
  | 0x05 => some (if a.isNan then nan32 else setBit wa 31 false)
  | 0x06 => some (if a.isNan then nan32 else setBit wa 31 (!bit wa 31))
  | 0x07 => some (if a.lt b then 1 else 0)
  | 0x08 => some (if a.eqv b then 1 else 0)
  | _ => none

def opFalu (x : LaneCtx) : LaneOut := x.opt (falu (iFn x.ins) x.va x.vb (x.lane.f (iRa x.ins)))

def opFfma (x : LaneCtx) : LaneOut := x.res (w32 ((x.va.mul x.vb).add x.vc))

/-- One half of a BFMA2, h 0 or 1: the BF16 code of RA.h * RB.h + RC.h. -/
def bfmaHalf (a b c : Word) (h : Nat) : Nat :=
  let g (w : Word) : Val := Fmt.bf16.decode (fld w (16 * h + 15) (16 * h))
  Fmt.bf16.rne (((g a).mul (g b)).add (g c))

def opBfma2 (x : LaneCtx) : LaneOut :=
  let a := x.lane.f (iRa x.ins)
  let b := x.lane.f (iRb x.ins)
  let c := x.lane.f (iRc x.ins)
  x.res (wd (bfmaHalf a b c 0 + 2 ^ 16 * bfmaHalf a b c 1))

/-- Whether a value is negative and not zero. -/
def negNonzero (v : Val) : Bool := v.lt Val.zero

/-- FSPEC at its special inputs (R512), and RSQRT of 1, which is exactly 1 (R312). -/
def fspecSpecial (fn : Nat) (a : Word) : Option Word :=
  let v := f32 a
  let s := bit a 31
  let infw (s : Bool) : Word := setBit (wd 0x7F800000) 31 s
  let zw (s : Bool) : Word := setBit 0 31 s
  let one (s : Bool) : Word := setBit (wd 0x3F800000) 31 s
  if v.isNan then some nan32
  else match fn with
    | 0 => if v.isZero then some (infw s) else if v.isInf then some (zw s) else none
    | 1 => if v.isZero then some (infw s) else if s then some nan32 else if v.isInf then some 0
           else if v.eqv (.fin false 1 0) then some (one false) else none
    | 2 => if v.isZero then some (one false)
           else if !(v.lt (.fin false 128 0)) then some (infw false)
           else if !(Val.lt (.fin true 150 0) v) then some 0 else none
    | 3 => if v.isZero then some (infw true) else if s then some nan32
           else if v.eqv (.fin false 1 0) then some 0 else if v.isInf then some (infw false) else none
    | _ => if v.isInf then some (one s) else if v.isZero then some (zw s) else none

/-- FSPEC: elsewhere the result lies within 2 units in the last place (R181), and which one it is is open. -/
def opFspec (x : LaneCtx) : LaneOut :=
  let fn := iFn x.ins
  let a := x.lane.f (iRa x.ins)
  if fn > 5 then .fault 1 else x.res ((fspecSpecial fn a).getD (fspecNear fn a))

/-- A result of a conversion, with its NUMSTAT note (R56, R57). DESIGN CHOICE: the vector block of a die has no identifier of its own,
and its events 0x0101 and 0x0102 name the die (R58). -/
def LaneCtx.converted (x : LaneCtx) (v : Word) (n : NumNote) : LaneOut :=
  .ok ((x.lane.set (iRd x.ins) v).next) (x.d.note (vecReg x.die 0xE000) (uDie x.die) n) x.l.slots false

/-- CVT from the low 16 bits of RA to FP32; exact, and a non-finite source is noted (R56). -/
def LaneCtx.widen (x : LaneCtx) (f : Fmt) : LaneOut :=
  let v := f.decode (fld (x.lane.f (iRa x.ins)) 15 0)
  x.converted (w32 v) { nonfin := nonFinite v }

/-- CVT (R189). DESIGN CHOICE: RMODE 0b11 in a vector program is the lane fault ILLEGAL and posts no RMODE_RESERVED (R51). -/
def opCvt (x : LaneCtx) : LaneOut :=
  let fn := iFn x.ins
  let rmode := fn / 16
  let nosat := fn / 8 % 2 == 1
  if rmodeReserved rmode || (rmode == 2 && fn / 4 % 2 == 1 && x.l.pstream == 0) then .fault 1
  else if fn % 4 = 2 then x.widen .bf16
  else if fn % 4 = 3 then x.widen .fp16
  else
    let f : Fmt := if fn % 4 = 0 then .bf16 else .fp16
    let dr : Draw := { k0 := x.l.k0, k1 := x.l.k1, stream := if fn / 4 % 2 = 1 then x.l.pstream else 1, tensor := x.ib, step := x.l.step }
    let e := x.ic.toNat + fld (x.lane.i 23) 15 0 * 2 ^ 32
    let c := f.convert (dr.rnd rmode e) nosat x.va
    x.converted (wd c.code) { sat := c.counted.toNat, nonfin := nonFinite x.va }

/-- The effective address of a load or store. -/
def LaneCtx.ea (x : LaneCtx) : Word := x.ia + immWord x.ins

/-- The fault of an access of n bytes at an SRAM address word, if any: its alignment, then its range. -/
def accessFault (d : Device) (a : Word) (align n : Nat) : Option Nat :=
  if a.toNat % align ≠ 0 then some 2
  else if awRes a || d.sramBad a n then some 3 else none

/-- A load of n bytes (R181, R193). -/
def opLoad (n : Nat) (x : LaneCtx) : LaneOut :=
  match accessFault x.d x.ea n n with
  | some c => .fault c
  | none =>
    let b := x.d.readBytes (sramDA x.ea) n
    let p := anyPoison b
    let v := if p then (if n = 4 then nan32 else 0) else wd (ofBytes (values b))
    .ok ((x.lane.set (iRd x.ins) v (if p then n else 0)).next) x.d x.l.slots p

/-- A store of n bytes; only the very word that was loaded from poisoned data carries its mark (R193). -/
def opStore (n : Nat) (x : LaneCtx) : LaneOut :=
  match accessFault x.d x.ea n n with
  | some c => .fault c
  | none =>
    let r := iRd x.ins
    let b := mark (mget 0 x.lane.mark r == n) (toBytes n (x.lane.f r).toNat)
    .ok x.lane.next (x.d.write (sramDA x.ea) b) x.l.slots false

def opLdw (x : LaneCtx) : LaneOut := opLoad 4 x
def opLdh (x : LaneCtx) : LaneOut := opLoad 2 x
def opLdb (x : LaneCtx) : LaneOut := opLoad 1 x
def opStw (x : LaneCtx) : LaneOut := opStore 4 x
def opSth (x : LaneCtx) : LaneOut := opStore 2 x
def opStb (x : LaneCtx) : LaneOut := opStore 1 x

/-- The fault of a scratch access. -/
def scratchFault (a : Word) : Option Nat :=
  if a.toNat % 4 ≠ 0 then some 2 else if a.toNat ≥ 4096 then some 3 else none

def opLdl (x : LaneCtx) : LaneOut :=
  match scratchFault x.ea with
  | some c => .fault c
  | none => x.res (mget 0 x.lane.scr (x.ea.toNat / 4))

def opStl (x : LaneCtx) : LaneOut :=
  match scratchFault x.ea with
  | some c => .fault c
  | none => x.go { x.lane with scr := mset 0 x.lane.scr (x.ea.toNat / 4) (x.lane.f (iRd x.ins)), pc := x.lane.pc + 1 }

/-- LDQ: the FP32 value of an element of a narrow tensor with its block scale, converted under the saturating default
(R53, R55, R56). -/
def opLdq (x : LaneCtx) : LaneOut :=
  let fn := iFn x.ins
  match Fmt.ofCode (fn % 16) with
  | none => .fault 1
  | some f =>
    if fn / 16 ≠ 0 ∨ !f.scaled then .fault 1
    else
      let k := x.ic.toNat
      let ea := x.ia
      let sa := x.ib
      if awRes ea || awRes sa || !x.d.rangeOk (sramDA ea + k * f.width / 8) ((k * f.width % 8 + f.width + 7) / 8)
        || !x.d.rangeOk (sramDA sa + k / 32) 1 then .fault 3
      else
        let v := x.d.rowVal (sramDA ea) (sramDA sa) f k
        if v.2 then .ok ((x.lane.set (iRd x.ins) nan32 8).next) x.d x.l.slots true
        else
          let c := Fmt.fp32.convert .rne false v.1
          x.converted (wd c.code) { sat := c.counted.toNat, nonfin := nonFinite v.1 }

/-- What RA contributes as a floating-point value: a value read from poisoned data contributes the canonical NaN (R188). -/
def Lane.contribution (l : Lane) (r : Nat) : Word := if mget 0 l.mark r = 0 then l.f r else nan32

/-- SUMX: RA contributes to a slot (R187, R188). -/
def opSumx (x : LaneCtx) : LaneOut :=
  let fn := iFn x.ins
  if iRd x.ins ≠ 0 ∨ iRb x.ins ≠ 0 ∨ iRc x.ins ≠ 0 ∨ fn / 8 ≠ 0 then .fault 1
  else match (x.l.slots.getD fn (slotInit 0)).add (x.lane.contribution (iRa x.ins)) x.ia with
    | none => .fault 1
    | some s => .ok x.lane.next x.d (x.l.slots.set fn s) false

/-- A branch: format B has RA in [25:21] and RB in [20:16]. -/
def opBranch (taken : Word → Word → Bool) (x : LaneCtx) : LaneOut :=
  x.go (if taken (x.lane.i (iRd x.ins)) (x.lane.i (iRa x.ins)) then x.lane.hop (iImm x.ins) else x.lane.next)

def opBeq (x : LaneCtx) : LaneOut := opBranch (fun a b => a == b) x
def opBne (x : LaneCtx) : LaneOut := opBranch (fun a b => a != b) x
def opBlt (x : LaneCtx) : LaneOut := opBranch (fun a b => a.slt b) x
def opBltu (x : LaneCtx) : LaneOut := opBranch (fun a b => a.ult b) x

def opJal (x : LaneCtx) : LaneOut :=
  if iRa x.ins ≠ 0 then .fault 1
  else x.go (let l := x.lane.set (iRd x.ins) (wd (x.lane.pc + 1)); l.hop (iImm x.ins))

def opJr (x : LaneCtx) : LaneOut :=
  if iRd x.ins ≠ 0 ∨ iRb x.ins ≠ 0 ∨ iRc x.ins ≠ 0 ∨ iFn x.ins ≠ 0 then .fault 1
  else x.go { x.lane with pc := x.ia.toNat }

def opEnd (x : LaneCtx) : LaneOut :=
  if fld x.ins 25 0 ≠ 0 then .fault 1 else x.go { x.lane with ended := true }

/-! A lane's next instruction. -/

/-- What a lane's fetch finds: a fault of the fetch or of its opcode, or the instruction (R179, R181, R192). -/
def fetchIns (d : Device) (l : VLoop) (lane : Lane) : Nat ⊕ Word :=
  let a := sramDA (l.cmd.word 3) + 4 * lane.pc
  if lane.pc ≥ 16384 then .inl 4
  else if !d.rangeOk a 4 then .inl 3
  else
    let w := wd (ofBytes ((rangeFrom a 4).map (mget Memory.dflt l.prog)))
    if opcListed (iOpc w) then .inr w else .inl 1

/-- The lane of a core that may execute now: its iteration runs, it lies below CVL and has not ended. -/
def Device.activeLane (d : Device) (die w c : Nat) : Option (Nat × VLoop × Nat) :=
  match d.loopAt die w with
  | none => none
  | some (key, l) =>
    match l.laneOf w c with
    | none => none
    | some i => if l.open_ && decide (i < l.cvl) && !(l.lane i).ended && l.group.all (fun v => d.runs (wCluster die v))
                then some (key, l, i) else none

/-- A lane's loop after an instruction. -/
def Device.laneDone (d : Device) (key : Nat) (l : VLoop) (i : Nat) (lane : Lane) (slots : List Slot) (pois : Bool) : Device :=
  let die := key / 16
  let w := l.clusterOf i
  let l := { l.setLane i lane with slots := slots, pcores := if pois then sinsert (uCore die w (l.coreOf i)) l.pcores else l.pcores }
  let d := if pois then d.setReg (vecWin die w 4) (setBit (d.reg (vecWin die w 4)) 0 true) else d
  if lane.ended then d.iterationEnd key l else d.setLoop key (some l)

/-- One instruction of one core, if it is the one with this opcode; a fetch that faults, an unlisted opcode and a check
that fails stop the loop whatever the opcode. -/
def laneRow (opc : Nat) (op : LaneCtx → LaneOut) (die w c : Nat) (chk : CoreCheck) (d : Device) : Device :=
  match d.activeLane die w c with
  | none => d
  | some (key, l, i) =>
    match fetchIns d l (l.lane i) with
    | .inl cause => d.laneFault key l i cause
    | .inr ins =>
      if iOpc ins ≠ opc then d
      else match chk with
        | .feedError => d.laneFault key l i 5
        | .coreCheck => d.laneFault key l i 6
        | .ok => match op { d := d, die := die, l := l, lane := l.lane i, ins := ins } with
          | .fault cause => d.laneFault key l i cause
          | .ok lane d slots pois => d.laneDone key l i lane slots pois

def devIalu := laneRow 0x01 opIalu
def devAddi := laneRow 0x02 opAddi
def devLui := laneRow 0x03 opLui
def devFalu := laneRow 0x08 opFalu
def devFfma := laneRow 0x09 opFfma
def devBfma2 := laneRow 0x0A opBfma2
def devFspec := laneRow 0x0B opFspec
def devCvt := laneRow 0x0C opCvt
def devLdw := laneRow 0x10 opLdw
def devLdh := laneRow 0x11 opLdh
def devLdb := laneRow 0x12 opLdb
def devStw := laneRow 0x14 opStw
def devSth := laneRow 0x15 opSth
def devStb := laneRow 0x16 opStb
def devLdl := laneRow 0x18 opLdl
def devStl := laneRow 0x19 opStl
def devLdq := laneRow 0x1A opLdq
def devSumx := laneRow 0x24 opSumx
def devBeq := laneRow 0x28 opBeq
def devBne := laneRow 0x29 opBne
def devBlt := laneRow 0x2A opBlt
def devBltu := laneRow 0x2B opBltu
def devJal := laneRow 0x2C opJal
def devJr := laneRow 0x2D opJr
def devEnd := laneRow 0x3F opEnd

/-! Permutation (R186) and block stores (R190): rendezvous of lanes. -/

/-- The instruction a lane stands before, if its fetch succeeds. -/
def insAt (d : Device) (l : VLoop) (i : Nat) : Option Word :=
  if (l.lane i).ended then none else match fetchIns d l (l.lane i) with
    | .inr w => some w
    | .inl _ => none

/-- The instruction with an opcode that a lane below CVL stands before. -/
def standsAt (d : Device) (l : VLoop) (opc i : Nat) : Option Word :=
  if i < l.cvl then (match insAt d l i with
    | some u => if iOpc u = opc then some u else none
    | none => none) else none

/-- What lane i receives: the source's RA, +0 past CVL (OOR), +0 from a lane that has ended (PSKEW). -/
def permValue (d : Device) (l : VLoop) (i : Nat) : Word × Bool × Bool :=
  match insAt d l i with
  | none => (0, false, false)
  | some w =>
    let j := ((l.lane i).i (iRb w)).toNat
    if j ≥ l.cvl then (0, true, false)
    else match insAt d l j with
      | none => (0, false, true)
      | some u => ((l.lane j).f (iRa u), false, false)

/-- A lane past a PERM that gave it v. -/
def Lane.permuted (ln : Lane) (u v : Word) : Lane := { (ln.set (iRd u) v).next with perms := ln.perms + 1 }

/-- The cause of a check that fails on a core (R192). -/
def laneCheck (chk : CoreCheck) : Option Nat := match chk with | .ok => none | .feedError => some 5 | .coreCheck => some 6

/-- The lane of core c that a failed check stops before an instruction with this opcode. -/
def checkedLane (d : Device) (l : VLoop) (opc w c : Nat) (chk : CoreCheck) : Option (Nat × Nat) :=
  match laneCheck chk, l.laneOf w c with
  | some cause, some i => (standsAt d l opc i).map (fun _ => (i, cause))
  | _, _ => none

/-- PERM (R186): every active lane that has not ended stands at a PERM. A lane whose PERM has reserved bits set faults at once. -/
def devPerm (die w c : Nat) (chk : CoreCheck) (d : Device) : Device :=
  match d.loopAt die w with
  | none => d
  | some (key, l) =>
    let live := (List.range l.cvl).filter (fun i => !(l.lane i).ended)
    let at_ := standsAt d l 0x20
    let bad := live.find? (fun i => match at_ i with | some u => fld u 10 0 != 0 | none => false)
    if !l.open_ || live.isEmpty || l.group.any (fun v => !d.runs (wCluster die v)) then d
    else match (bad.map (fun i => (i, 1))).or (checkedLane d l 0x20 w c chk) with
      | some (i, cause) => d.laneFault key l i cause
      | none =>
        if live.any (fun i => (at_ i).isNone) then d
        else
          let vs := live.map (fun i => (i, permValue d l i))
          let l' := vs.foldl (fun m (i, v, _, _) => m.setLane i ((l.lane i).permuted ((at_ i).getD 0) v)) l
          let d := vs.foldl (fun d (i, _, o, p) =>
            let k := vecWin die (l.clusterOf i) 4
            d.setReg k (d.reg k ||| wd ((if o then 2 else 0) + (if p then 4 else 0)))) d
          d.setLoop key (some l')

/-- A QST whose fields or whose loop's VL break R190: the lane faults as soon as it stands there. -/
def qstIllegal (l : VLoop) (w : Word) : Bool :=
  match Fmt.ofCode (iFn w % 16) with
  | none => true
  | some f => iFn w / 32 != 0 || !f.scaled || l.vl % 32 != 0

/-- Whether lane i's QST reaches beyond assigned SRAM: its element, its block's scale, and the zero elements of the block's lanes
from CVL on. -/
def qstAddr (d : Device) (l : VLoop) (i : Nat) (w : Word) : Bool :=
  let f := fmtOf (iFn w % 16)
  let rb := (l.lane i).i (iRb w)
  let rc := (l.lane i).i (iRc w)
  let tail := (rangeFrom (i / 32 * 32) 32).filter (fun k => decide (l.cvl ≤ k))
  awRes rb || awRes rc || (i :: tail).any (fun k => !d.rangeOk (sramDA rb + k * f.width / 8) ((k * f.width % 8 + f.width + 7) / 8)) || !d.rangeOk (sramDA rc + i / 32) 1

/-- Values of a block's lanes: those at their QST, zero at or above CVL, and free values for lanes that ended before it. -/
def qstVals (d : Device) (l : VLoop) (ins : Nat → Option Word) : List Nat → Nat → List (Val × Bool)
  | [], _ => []
  | i :: is, n =>
    match ins i with
    | some u => ((l.lane i).v (iRa u), false) :: qstVals d l ins is n
    | none => if i < l.cvl then (f32 (Config.freeWord n), false) :: qstVals d l ins is (n + 1)
              else (Val.zero, false) :: qstVals d l ins is n

/-- What a QST says of its whole block: format and rounding, and the scale base. -/
def qstBlock (l : VLoop) (i : Nat) (w : Word) : Nat × Word := (iFn w % 32, (l.lane i).i (iRc w))

/-- The elements of a block that belong to one base address: the others' bits there stay as they are. -/
def Device.putElems (d : Device) (f : Fmt) (blk : Nat) (codes : List (Nat × Bool)) (bases : List Word) (base : Word) : Device :=
  let new := (codes.zip bases).zipIdx.map (fun x => if x.1.2 = base then x.1.1 else d.elem (sramDA base) f (32 * blk + x.2))
  d.write (sramDA base + blk * 4 * f.width) (packPoison f new)

/-- QST (R190): the block's active lanes that have not ended all stand at a QST. Each writes its own element at its own base. Where
they differ in the format, the rounding or the scale base, which of them the block follows is open. -/
def devQst (die w blk c : Nat) (chk : CoreCheck) (d : Device) : Device :=
  match d.loopAt die w with
  | none => d
  | some (key, l) =>
    let lanes := rangeFrom (32 * blk) 32
    let live := lanes.filter (fun i => i < l.cvl && !(l.lane i).ended)
    let at_ := standsAt d l 0x1B
    let bad := live.findSome? (fun i => match at_ i with | some u => if qstIllegal l u then some (i, 1) else none | none => none)
    if !l.open_ || live.isEmpty || l.group.any (fun v => !d.runs (wCluster die v)) then d
    else match bad.or ((checkedLane d l 0x1B w c chk).filter (fun x => live.contains x.1)) with
      | some (i, cause) => d.laneFault key l i cause
      | none =>
        if live.any (fun i => (at_ i).isNone) then d
        else match live.find? (fun i => qstAddr d l i ((at_ i).getD 0)) with
          | some i => d.laneFault key l i 3
          | none =>
            let u i := (at_ i).getD 0
            let same := live.all (fun i => qstBlock l i (u i) == qstBlock l (live.headD 0) (u (live.headD 0)))
            let i0 := if same then live.headD 0 else live.getD (d.freeWord.toNat % live.length) 0
            let d := if same then d else d.drawn
            let f := fmtOf (iFn (u i0) % 16)
            let r : Rnd := if iFn (u i0) / 16 % 2 = 1 then .rtz else .rne
            let ended := (lanes.filter (fun i => i < l.cvl && (l.lane i).ended)).length
            let row := convPBlock f (List.replicate 32 r) false (qstVals d l at_ lanes d.core.freeN)
            let bases := lanes.map (fun i => let j := if live.contains i then i else i0; (l.lane j).i (iRb (u j)))
            let d := { d with core.freeN := d.core.freeN + ended }
            let d := bases.dedup.foldl (fun d b => d.putElems f blk row.codes bases b) d
            let d := d.write (sramDA ((l.lane i0).i (iRc (u i0))) + blk) (scaleBytes row.scales)
            let d := d.note (vecReg die 0xE000) (uDie die) row.note
            d.setLoop key (some (live.foldl (fun m i => m.setLane i (l.lane i).next) l))

end Sys2Proof.Machine
end

