-- ==== Sys2Proof/Machine/Mvp.lean ====
section
/-! DEFINITION. The matrix-vector path (R102 to R106, R112, R115). -/

namespace Sys2Proof.Machine

def Device.mvpOf (d : Device) (die : Nat) : Mvp := mget {} d.mvp die
def Device.setMvp (d : Device) (die : Nat) (v : Mvp) : Device := { d with mvp := mset {} d.mvp die v }

def mvM (c : Cmd) : Nat := fld (c.word 3) 15 13 + 1
def mvK (c : Cmd) : Nat := fld (c.word 4) 31 16 + 1
def mvN (c : Cmd) : Nat := fld (c.word 4) 15 0 + 1
def mvX (c : Cmd) : Fmt := fmtOf (fld (c.word 3) 31 28)
def mvW (c : Cmd) : Fmt := fmtOf (fld (c.word 3) 27 24)
def mvY (c : Cmd) : Fmt := fmtOf (fld (c.word 3) 23 20)
def mvAcc (c : Cmd) : Fmt := if bit (c.word 3) 19 then .fp16 else .fp32

/-- The refusals of R112 for an MVMUL, in its order. DESIGN CHOICE: R112's rule on KLEN is taken for K of a block-scaled X or W too,
whose scales are K / 32 bytes. -/
def mvmulBad (d : Device) (c : Cmd) : Option Nat :=
  let w3 := c.word 3
  let ok4 (k : Nat) : Bool := (Fmt.ofCode k).isSome
  let x := mvX c
  let w := mvW c
  let y := mvY c
  let D := wordAt (d.descWords (sramDA (c.word 5)) 16)
  let m := mvM c
  let k := mvK c
  let n := mvN c
  let pair := ok4 (fld w3 31 28) && ok4 (fld w3 27 24) && (groupSize x w .fp32).isSome
  let mis := awMis 64 (c.word 5)
  let off := d.sramBad (c.word 5) 64
  let read := !mis && !off
  firstBad [
    (w012Reserved c true || partShare c || fld w3 11 0 != 0 || c.word 6 != 0 || c.word 7 != 0 || awRes (c.word 5) ||
      (read && (D 14 != 0 || D 15 != 0 || fld (D 13) 31 16 != 0 || fld (D 11) 31 16 != 0 || (List.range 6).any (fun k => awRes (D k)))),
      evInstrInvalid),
    ((x.scaled || w.scaled) && k % 32 != 0, evInstrInvalid),
    (!pair, evFormatPair),
    (bit w3 19 && (x.width != 16 || w.width != 16), evInstrInvalid),
    (mis || (read && (awMis 16 (D 0) || awMis 16 (D 2) || awMis 16 (D 4) || (D 6).toNat % 16 != 0 || (D 7).toNat % 16 != 0 ||
      (D 8).toNat % 16 != 0)), evInstrInvalid),
    (off || (read && (d.sramRowsBad (D 0) m (D 6).toNat (x.bytes k) || d.sramRowsBad (D 2) n (D 7).toNat (w.bytes k) ||
      d.sramRowsBad (D 4) m (D 8).toNat (y.bytes n) || (x.scaled && d.sramBad (D 1) (m * (k / 32))) ||
      (w.scaled && d.sramBad (D 3) (n * (k / 32))) || (y.scaled && d.sramBad (D 5) (m * (n / 32))))), evAddrUnassigned),
    (!ok4 (fld w3 23 20) || y == .e8m0 || (y.scaled && n % 32 != 0), evInstrInvalid),
    (rmodeReserved (fld w3 18 17), evRmode)]

/-- MVMUL (R102, R84): the head of the queue issues once the previous MVMUL of the die is complete. DESIGN CHOICE: an MVMUL has no
array, and its events name the die (R117). -/
def devMvmul (die : Nat) (d : Device) : Device :=
  let mv := d.mvpOf die
  match d.ready (qMvp die) with
  | none => d
  | some c =>
    if c.op ≠ 8 ∨ !d.runs (wMvp die) ∨ mv.run.isSome then d
    else match mvmulBad d c with
      | some ev => d.refuse (qMvp die) c ev (uDie die) 0
      | none =>
        let desc := d.readBytes (sramDA (c.word 5)) 64
        let tid := wordAt (bytesToWords 16 (values desc)) 9
        (d.popCmd (qMvp die)).setMvp die
          { mv with run := some { c with desc := desc }, draw := d.draw die (if bit (c.word 3) 12 then 0 else 1) tid }

/-- Element (m, n) of Y before conversion: one accumulator over the whole K range (R103), and its poison. -/
def mvElem (c : Cmd) (x w : List (Val × Bool)) : Val × Bool :=
  let s := (groupSize (mvX c) (mvW c) (mvAcc c)).getD 1
  let gs := groupSums s (x.map Prod.fst) (w.map Prod.fst)
  ((mvAcc c).decode (gs.foldl (fun a g => accAdd (mvAcc c) a g) 0), x.any (·.2) || w.any (·.2))

/-- The writes of Y's columns below n1 (a multiple of 32 for a block-scaled Y), what they count, and whether any poison
was met. DESIGN CHOICE: X and W are read as they stand when the instruction completes or faults; R102 gives no moment. -/
def mvOutput (d : Device) (mv : Mvp) (c : Cmd) (n1 : Nat) : List (Nat × List PByte) × NumNote × Bool :=
  let D := wordAt (bytesToWords 16 (values c.desc))
  let k := mvK c
  let y := mvY c
  let e0 := (D 10).toNat + fld (D 11) 15 0 * 2 ^ 32
  let erow := (D 12).toNat + fld (D 13) 15 0 * 2 ^ 32
  let ws := (List.range n1).map (fun n => d.rowVals (sramDA (D 2) + n * (D 7).toNat) (sramDA (D 3) + n * (k / 32)) (mvW c) k)
  let rows := (List.range (mvM c)).map (fun m =>
    let x := d.rowVals (sramDA (D 0) + m * (D 6).toNat) (sramDA (D 1) + m * (k / 32)) (mvX c) k
    (m, ws.map (fun w => mvElem c x w)))
  let conv := rows.map (fun r => (r.1, r.2, convRow y (fun n => mv.draw.rnd (fld (c.word 3) 18 17) (e0 + r.1 * erow + n)) (bit (c.word 3) 16) r.2))
  (conv.flatMap (fun r =>
      let data := (sramDA (D 4) + r.1 * (D 8).toNat, packPoison y r.2.2.codes)
      if y.scaled then [data, (sramDA (D 5) + r.1 * (mvN c / 32), scaleBytes r.2.2.scales)] else [data]),
    conv.foldl (fun a r => a.join r.2.2.note) {},
    rows.any (fun r => r.2.any (·.2)))

/-- MVMUL_COMPLETE (R103, R105): Y is written with its conversions and the instruction completes once. -/
def devMvmulComplete (die : Nat) (d : Device) : Device :=
  let mv := d.mvpOf die
  match mv.run with
  | none => d
  | some c =>
    if !d.runs (wMvp die) then d
    else
      let (ws, note, pois) := mvOutput d mv c (mvN c)
      let d := (d.writes ws).note (dreg die 4 0xE000) (uDie die) note
      let d := d.progressN (wMvp die) (mvN c)
      let d := if pois then d.post evOperandPoison (uDie die) 0 else d
      (d.setMvp die { mv with run := none, last := c.seq }).finish c (if pois then stPoisoned else stDone)

/-- MVP_FAULT (R105). DESIGN CHOICE: the operands read are those of the columns written, so poison elsewhere in X or W posts nothing. The columns below `nidx` have been written (whole blocks of a block-scaled Y), the rest keep
their contents, and the instruction completes with FAULT. PLANE_PARITY does not occur (R115). -/
def devMvpFault (die cause nidx : Nat) (d : Device) : Device :=
  let mv := d.mvpOf die
  match mv.run with
  | none => d
  | some c =>
    if !d.runs (wMvp die) ∨ cause < 2 ∨ cause > 4 ∨ nidx ≥ mvN c then d
    else
      let n1 := if (mvY c).scaled then nidx / 32 * 32 else nidx
      let (ws, note, pois) := mvOutput d mv c n1
      let d := (d.writes ws).note (dreg die 4 0xE000) (uDie die) note
      let d := d.progressN (wMvp die) n1
      let lo := wd (2 ^ 31 + cause * 2 ^ 28 + c.seq * 2 ^ 12)
      let d := d.setRecord (dreg die 4 8) lo (wd (n1 % 65536))
      let d := if pois then d.post evOperandPoison (uDie die) 0 else d
      ((d.post 0x0204 (uDie die) 0).setMvp die { mv with run := none, last := c.seq }).finish c stFault

end Sys2Proof.Machine
end

