-- ==== Sys2Proof/Machine/Slip.lean ====
section
/-! DEFINITION. The near-bank units: GATHER, REDUCE, MOMENT, their steps, and the patrol scrub of tier 1 (R269 to R293); the
interlock with ordinary accesses stands in Interlock. -/

namespace Sys2Proof.Machine

def Device.slipStack (d : Device) (s : Nat) : SlipStack := mget {} d.slip.byStack s
def Device.setSlipStack (d : Device) (s : Nat) (v : SlipStack) : Device :=
  { d with slip.byStack := mset {} d.slip.byStack s v }

/-- Device address, in the 0x5 view, of a bank offset of unit u of a stack (R28). -/
def bankDA (s u off : Nat) : Nat := 5 * 2 ^ 48 + s * 2 ^ 36 + u / 16 * 2 ^ 31 + u % 16 * 2 ^ 27 + off

def bankBytes : Nat := 0x6000000

/-! Commands (R273). -/
def sSop (c : Cmd) : Nat := fld (c.word 3) 31 28
def sRmode (c : Cmd) : Nat := fld (c.word 3) 27 26
def sNosat (c : Cmd) : Bool := bit (c.word 3) 25
def sCount (c : Cmd) : Nat := fld (c.word 6) 23 0

/-! Descriptor words (R277). -/
def SlipRun.d (r : SlipRun) (k : Nat) : Word := wordAt r.D k
def SlipRun.off (r : SlipRun) (k : Nat) : Nat := fld (r.d k) 26 0
def SlipRun.elem0 (r : SlipRun) : Nat := (r.d 14).toNat + fld (r.d 15) 15 0 * 2 ^ 32

/-- A range of n bytes from a bank offset word: aligned to 32 bytes and within the bank (R272). -/
def bankRangeBad (w : Word) (n : Nat) : Bool := w.toNat % 32 != 0 || decide (fld w 26 0 + n > bankBytes)

/-- Formats a near-bank operation may name. -/
def slipFmt (k : Nat) : Option Fmt :=
  match Fmt.ofCode k with
  | some .fp32 => some .fp32
  | some .bf16 => some .bf16
  | some .fp16 => some .fp16
  | some .e5m2 => some .e5m2
  | _ => none

def rowFmtOk (k : Nat) : Bool := match slipFmt k with | some f => f != .e5m2 | none => false
def momFmtOk (k : Nat) : Bool := match slipFmt k with | some f => f != .fp16 | none => false

/-- Nonzero reserved fields and words of a descriptor, and its unused words (R277). -/
def slipReserved (sop : Nat) (w : Nat → Word) : Bool :=
  let hi (l : List Nat) : Bool := l.any (fun k => fld (w k) 31 27 != 0)
  let z (l : List Nat) : Bool := l.any (fun k => w k != 0)
  match sop with
  | 1 => hi [0, 1, 2] || fld (w 5) 31 12 != 0 || z [7, 8, 9, 10, 11, 12, 13, 14, 15]
  | 2 => hi [0, 1, 2, 7, 8] || fld (w 5) 21 10 != 0 || (!bit (w 5) 22 && w 8 != 0) || z [10, 11, 12] || fld (w 15) 31 16 != 0
  | _ => hi [0, 1, 2, 3, 4] || fld (w 5) 25 0 != 0 || fld (w 15) 31 16 != 0 ||
      ((slipFmt (fld (w 5) 31 28)) != some .e5m2 && w 4 != 0)

/-- A breach of R272 by an operand range. -/
def slipRanges (sop count : Nat) (w : Nat → Word) : Bool :=
  let rows (base stride n len : Nat) : Bool := bankRangeBad (w base) (if n = 0 then 0 else (n - 1) * (w stride).toNat + len)
  match sop with
  | 1 =>
    let len := fld (w 5) 11 0
    bankRangeBad (w 0) (4 * count) || rows 1 3 (w 6).toNat len || rows 2 4 count len || (w 3).toNat % 32 != 0 || (w 4).toNat % 32 != 0 ||
      len % 32 != 0
  | 2 =>
    let n := fld (w 5) 9 0 + 1
    let rf := (slipFmt (fld (w 5) 31 28)).getD .fp32
    let of_ := (slipFmt (fld (w 5) 27 24)).getD .fp32
    bankRangeBad (w 0) 4 || rows 1 3 (w 6).toNat (rf.bytes n) || rows 2 4 count (of_.bytes n) || (w 3).toNat % 32 != 0 ||
      (w 4).toNat % 32 != 0 || bankRangeBad (w 7) (4 * count) || (bit (w 5) 22 && bankRangeBad (w 8) 4) ||
      rf.bytes n % 32 != 0 || of_.bytes n % 32 != 0
  | _ =>
    let g := (slipFmt (fld (w 5) 31 28)).getD .fp32
    bankRangeBad (w 0) (g.bytes (256 * count)) || bankRangeBad (w 1) (1024 * count) || bankRangeBad (w 2) (1024 * count) ||
      bankRangeBad (w 3) ((if bit (w 5) 27 then 512 else 1024) * count) || (g == .e5m2 && bankRangeBad (w 4) (8 * count))

/-- A row length outside its bounds (R277, R279). -/
def slipLength (sop : Nat) (w : Nat → Word) : Bool :=
  match sop with
  | 1 => decide (fld (w 5) 11 0 < 32 ∨ fld (w 5) 11 0 > 2048)
  | 2 =>
    let n := fld (w 5) 9 0 + 1
    let out (k : Nat) : Bool := let b := ((slipFmt k).getD .fp32).bytes n; decide (b < 32 ∨ b > 2048)
    out (fld (w 5) 31 28) || out (fld (w 5) 27 24)
  | _ => false

/-- The refusals of R275. -/
def slipBad (d : Device) (c : Cmd) : Option Nat :=
  let sop := sSop c
  let a := sramDA (c.word 4)
  let w := wordAt (d.descWords a 16)
  let sten := sSten c
  let res := sop == 0 || decide (sop > 3) || w012Reserved c true || partShare c || fld (c.word 6) 31 24 != 0 || sCount c == 0 ||
    fld (c.word 3) 23 0 != 0 || (sop == 1 && (sRmode c != 0 || sNosat c)) || awRes (c.word 4) || awMis 64 (c.word 4) ||
    (sten && (awRes (c.word 5) || awMis 32 (c.word 5)))
  let descOut := d.sramBad (c.word 4) 64
  let stOut := sten && d.sramBad (c.word 5) (32 * ((stackUnits c.target).length * (groupStacks c).length))
  if descOut then firstBad [(res, 0x040E), (rmodeReserved (sRmode c), evRmode), (true, evAddrUnassigned)]
  else firstBad [
    (res || slipReserved sop w, 0x040E),
    (slipRanges sop (sCount c) w, 0x040E),
    ((sop == 2 && !(rowFmtOk (fld (w 5) 31 28) && rowFmtOk (fld (w 5) 27 24))) || (sop == 3 && !momFmtOk (fld (w 5) 31 28)), 0x040E),
    (slipLength sop w, 0x040E),
    (sop == 3 && bit (w 5) 26 && !bit (w 5) 27, 0x040E),
    (anyPoison (d.readBytes a 64), 0x040E),
    (rmodeReserved (sRmode c), evRmode),
    (stOut, evAddrUnassigned)]

/-- A near-bank part issues on a stack (R274, R275), or is refused. -/
def Device.slipIssue (d : Device) (s : Nat) (ops : List Nat) : Device :=
  let st := d.slipStack s
  match d.ready (qSlp s) with
  | none => d
  | some c =>
    if !ops.contains (sSop c) ∨ st.run.isSome ∨ !d.runs (wStack s) then d
    else
      match d.groupBad (qSlp s) c (fun _ c => slipBad d c) with
      | some (q, ev) => d.refuse (qSlp s) c ev (uStack (q - qSlp 0)) 0
      | none =>
        let o := (mget {} d.core.opens c.cid).die
        let run : SlipRun :=
          { cmd := c, D := d.descWords (sramDA (c.word 4)) 16, k0 := d.reg (dreg o 11 0), k1 := d.reg (dreg o 11 4),
            step := d.reg (dreg o 11 8), rank0 := rankBase c s, mems := (stackUnits c.target).map (fun u => (u, {})) }
        (d.popCmd (qSlp s)).setSlipStack s { st with run := some run }

/-- GATHER; a part with a reserved SOP is refused here too. -/
def devGather (s : Nat) (d : Device) : Device := d.slipIssue s [1, 0, 4, 5, 6, 7, 8, 9, 10, 11, 12, 13, 14, 15]
/-- REDUCE. -/
def devReduce (s : Nat) (d : Device) : Device := d.slipIssue s [2]
/-- MOMENT. -/
def devMoment (s : Nat) (d : Device) : Device := d.slipIssue s [3]

/-! Members. -/

/-- Rank of a member in its command's group (R276). -/
def SlipRun.rank (r : SlipRun) (u : Nat) : Nat := r.rank0 + (r.mems.filter (fun p => decide (p.1 < u))).length

def SlipRun.mem (r : SlipRun) (u : Nat) : Option SlipMem := (r.mems.find? (fun p => p.1 == u)).map Prod.snd
def SlipRun.setMem (r : SlipRun) (u : Nat) (m : SlipMem) : SlipRun :=
  { r with mems := r.mems.map (fun p => if p.1 = u then (u, m) else p) }

/-- The lowest unit of a part that has written a poisoned result row, ended or not (R288). -/
def SlipRun.firstPois (r : SlipRun) : Option Nat := ((r.mems.filter (fun x => decide (x.2.npois > 0))).map Prod.fst).min?

/-- A member ends; with the last one the part does, and SLP_POISON is posted once for it (R288). -/
def Device.endMember (d : Device) (s u : Nat) (r : SlipRun) (m : SlipMem) (status cause : Nat) : Device :=
  let r := r.setMem u { m with done := true }
  let d := d.slipStatus r.cmd (r.rank u) m status cause
  let st := d.slipStack s
  let ended := r.mems.all (fun p => p.2.done)
  let d := d.setSlipStack s (if ended then { run := none, last := r.cmd.seq } else { st with run := some r })
  let d := match ended, r.firstPois with
    | true, some v => d.post 0x0410 (uBank s (v / 16) (v % 16)) 0
    | _, _ => d
  d.completePart r.cmd.cid 1 status (if status = 0 then 0 else 1) (uBank s (u / 16) (u % 16))

/-! Steps (R278 to R283). -/

/-- What a step does: the fault SEGMENT, or the member after it, its writes, what its conversions count and whether its
result row is poisoned (none: the step writes no result row). -/
inductive StepRes where
  | segment
  | ok (m : SlipMem) (ws : List (Nat × List PByte)) (note : NumNote) (row : Option Bool)

/-- A 32-bit entry of a list in the bank. -/
def Device.entry (d : Device) (s u off : Nat) : Nat × Bool :=
  let b := d.readBytes (bankDA s u off) 4
  (ofBytes (values b), anyPoison b)

def padEntry : Nat := 0xFFFFFFFF

/-- One index entry of a GATHER. -/
def gatherStep (d : Device) (s u : Nat) (r : SlipRun) (m : SlipMem) : StepRes :=
  let len := fld (r.d 5) 11 0
  let (i, p) := d.entry s u (r.off 0 + 4 * m.j)
  let dst := bankDA s u (r.off 2 + m.j * (r.d 4).toNat)
  let nxt := { m with j := m.j + 1 }
  if i = padEntry then .ok nxt [] {} none
  else if i ≥ (r.d 6).toNat then .ok { nxt with noor := m.noor + 1 } [(dst, mark p (List.replicate len 0))] {} (some p)
  else
    let b := d.readBytes (bankDA s u (r.off 1 + i * (r.d 3).toNat)) len
    let q := p || anyPoison b
    .ok nxt [(dst, mark q (values b))] {} (some q)

/-- The values of n elements from a bank offset. -/
def Device.bankVals (d : Device) (s u off : Nat) (f : Fmt) (n : Nat) : List (Val × Bool) :=
  (List.range n).map (fun k => let e := d.elem (bankDA s u off) f k; (f.decode e.1, e.2))

/-- Where stochastic rounding draws (R281). -/
def SlipRun.draw (r : SlipRun) (stream : Nat) : Draw :=
  { k0 := r.k0, k1 := r.k1, stream := stream, tensor := r.cmd.word 7, step := r.step }

/-- A REDUCE result row written: d + scale * s, converted; convert(d) for an empty segment. -/
def reduceRow (d : Device) (s u rank : Nat) (r : SlipRun) (m : SlipMem) (empty : Bool) : List (Nat × List PByte) × NumNote × Bool :=
  let n := fld (r.d 5) 9 0 + 1
  let of_ := (slipFmt (fld (r.d 5) 27 24)).getD .fp32
  let off := r.off 2 + m.j * (r.d 4).toNat
  let old := if bit (r.d 5) 23 then d.bankVals s u off of_ n else List.replicate n (Val.zero, false)
  let sums := m.acc.getD (List.replicate n Val.zero)
  let sc := f32 (r.d 9)
  let vals := (old.zip sums).map (fun p => if empty then p.1.1 else p.1.1.add (sc.mul p.2))
  let pois := m.pois || old.any (·.2)
  let e0 := r.elem0 + (rank * sCount r.cmd + m.j) * (r.d 13).toNat
  let row := convRow of_ (fun c => (r.draw 5).rnd (sRmode r.cmd) ((e0 + c) % 2 ^ 48)) (sNosat r.cmd) (vals.map (fun v => (v, false)))
  ([(bankDA s u off, mark pois (packElems of_ (row.codes.map Prod.fst)))], row.note, pois)

/-- One index position of a REDUCE, or an empty segment. -/
def reduceStep (d : Device) (s u rank : Nat) (r : SlipRun) (m : SlipMem) : StepRes :=
  let (e, p) := d.entry s u (r.off 7 + 4 * m.j)
  let (b, q) := if m.j = 0 then (0, false) else d.entry s u (r.off 7 + 4 * (m.j - 1))
  let m := { m with pois := m.pois || p || q }
  let clear (m : SlipMem) : SlipMem := { m with j := m.j + 1, acc := none, pois := false }
  if e < b then .segment
  else if e = b then
    let (ws, note, pz) := reduceRow d s u rank r m true
    .ok (clear m) ws note (some pz)
  else
    let pos := max m.pos b
    let wen := bit (r.d 5) 22
    if r.off 0 + 4 * pos + 4 > bankBytes ∨ (wen ∧ r.off 8 + 4 * pos + 4 > bankBytes) then .segment
    else
      let n := fld (r.d 5) 9 0 + 1
      let rf := (slipFmt (fld (r.d 5) 31 28)).getD .fp32
      let (i, pi) := d.entry s u (r.off 0 + 4 * pos)
      let wt := if wen then d.entry s u (r.off 8 + 4 * pos) else (0x3F800000, false)
      let m :=
        if i = padEntry then { m with pois := m.pois || pi }
        else if i ≥ (r.d 6).toNat then { m with noor := m.noor + 1, pois := m.pois || pi }
        else
          let row := d.bankVals s u (r.off 1 + i * (r.d 3).toNat) rf n
          let w := f32 (wd wt.1)
          let prods := row.map (fun x => w.mul x.1)
          { m with
            acc := some (match m.acc with
              | none => prods
              | some l => (l.zip prods).map (fun x => x.1.add x.2))
            pois := m.pois || pi || wt.2 || row.any (·.2) }
      let m := { m with pos := pos + 1 }
      if pos + 1 = e then
        let (ws, note, pz) := reduceRow d s u rank r m false
        .ok (clear m) ws note (some pz)
      else .ok m [] {} none

/-- rsqrt of FSPEC (R181, R512). -/
def rsqrt32 (w : Word) : Word := (fspecSpecial 1 w).getD (fspecNear 1 w)

/-- One element of MOMENT (R280): m1, v1, d before weight decay, from g, m, v. -/
def momentElem (r : SlipRun) (g m v : Val) : Val × Val × Val :=
  let k (i : Nat) : Val := f32 (r.d i)
  let m1 := rne32 (((k 6).mul m).add ((k 7).mul g))
  let v1 := rne32 (((k 8).mul v).add ((k 9).mul (g.mul g)))
  let q := f32 (rsqrt32 (w32 (((k 11).mul v1).add (k 12))))
  (m1, v1, rne32 (((k 10).mul m1).mul q))

/-- The bytes of a row of FP32 values. -/
def fp32Row (p : Bool) (l : List Val) : List PByte := mark p (l.flatMap (fun v => toBytes 4 (w32 v).toNat))

/-- The gradient elements of a result row as FP32 values: an E5M2 element times its block scale is converted (R53, R55), any other is
FP32 already; a non-finite source is noted (R56). -/
def momentGrad (r : SlipRun) (gf : Fmt) (l : List (Val × Bool)) : List (Val × Bool) × NumNote :=
  if gf == .e5m2 then
    let row := convRow .fp32 (fun _ => .rne) (sNosat r.cmd) l
    ((l.zip row.codes).map (fun x => (if x.1.2 then x.1.1 else Fmt.fp32.decode x.2.1, x.1.2)), row.note)
  else (l, { nonfin := l.any (fun g => !g.2 && nonFinite g.1) })

/-- One result row of MOMENT. -/
def momentStep (d : Device) (s u rank : Nat) (r : SlipRun) (m : SlipMem) : StepRes :=
  let e0 := 256 * m.j
  let gf := (slipFmt (fld (r.d 5) 31 28)).getD .fp32
  let apply := bit (r.d 5) 27
  let base := bankDA s u
  let src := if gf == .e5m2 then (rangeFrom e0 256).map (d.rowVal (base (r.off 0)) (base (r.off 4)) gf)
             else d.bankVals s u (r.off 0 + gf.bytes e0) gf 256
  let (gs, note0) := momentGrad r gf src
  let ms := d.bankVals s u (r.off 1 + 4 * e0) .fp32 256
  let vs := d.bankVals s u (r.off 2 + 4 * e0) .fp32 256
  let ws := if apply then d.bankVals s u (r.off 3 + 2 * e0) .bf16 256 else []
  let pois := gs.any (·.2) || ms.any (·.2) || vs.any (·.2) || ws.any (·.2)
  let out := (gs.zip (ms.zip vs)).map (fun x => momentElem r x.1.1 x.2.1.1 x.2.2.1)
  let mw := [(base (r.off 1 + 4 * e0), fp32Row pois (out.map (·.1))), (base (r.off 2 + 4 * e0), fp32Row pois (out.map (·.2.1)))]
  let nxt := { m with j := m.j + 1 }
  if apply then
    let wden := bit (r.d 5) 26
    let wd' := f32 (r.d 13)
    let new := (out.zip ws).map (fun x =>
      let dl := if wden then rne32 (x.1.2.2.add (wd'.mul x.2.1)) else x.1.2.2
      (x.2.1.sub dl, false))
    let row := convRow .bf16 (fun c => (r.draw 2).rnd (sRmode r.cmd) ((r.elem0 + rank * sCount r.cmd * 256 + e0 + c) % 2 ^ 48)) (sNosat r.cmd) new
    .ok nxt (mw ++ [(base (r.off 3 + 2 * e0), mark pois (packElems .bf16 (row.codes.map Prod.fst)))]) (note0.join row.note) (some pois)
  else .ok nxt (mw ++ [(base (r.off 3 + 4 * e0), fp32Row pois (out.map (·.2.2)))]) note0 (some pois)

def slipStep (d : Device) (s u rank : Nat) (r : SlipRun) (m : SlipMem) : StepRes :=
  match sSop r.cmd with
  | 1 => gatherStep d s u r m
  | 2 => reduceStep d s u rank r m
  | _ => momentStep d s u rank r m

/-- A member faults (R290): its step writes nothing. -/
def Device.slipFault (d : Device) (s u : Nat) (r : SlipRun) (m : SlipMem) (cause : Nat) : Device :=
  let k := slpReg s 4
  let d := d.setRecord k (wd (2 ^ 31 + cause * 2 ^ 28 + u / 16 * 2 ^ 23 + u % 16 * 2 ^ 19 + r.cmd.seq)) (wd m.j)
  (d.post 0x040F (uBank s (u / 16) (u % 16)) 0).endMember s u r m stFault cause

/-- A step that has ended: its row counted, the next step ready, or the member done (R283, R288). -/
def Device.stepDone (d : Device) (s u : Nat) (r : SlipRun) (m0 m : SlipMem) (row : Option Bool) : Device :=
  let m := { m with
    steps := m.steps + 1
    npois := m.npois + (if row = some true then 1 else 0)
    fpois := if row = some true ∧ m.fpois = 0xFFFFFFFF then m0.j else m.fpois }
  let k := slpReg s 0x20
  let d := (d.setReg64 k (join (d.reg k) (d.reg (k + 4)) + 1)).progress (wStack s)
  if m.j ≥ sCount r.cmd then d.endMember s u r m (if m.npois > 0 then stPoisoned else stDone) 0
  else d.setSlipStack s { d.slipStack s with run := some (r.setMem u m) }

/-! What a step reads (R283, R288). Its operands are read in up to three turns, each by what the one before has brought. -/

/-- The ranges of a turn, as device addresses. The weight of a position that a REDUCE skips is not read (R279). -/
def slipReads (d : Device) (s u : Nat) (r : SlipRun) (m : SlipMem) (turn : Nat) : List (Nat × Nat) :=
  let base := bankDA s u
  let n := fld (r.d 5) 9 0 + 1
  match sSop r.cmd with
  | 1 =>
    let i := (d.entry s u (r.off 0 + 4 * m.j)).1
    if turn = 0 then [(base (r.off 0 + 4 * m.j), 4)]
    else if turn = 1 ∧ i < (r.d 6).toNat then [(base (r.off 1 + i * (r.d 3).toNat), fld (r.d 5) 11 0)] else []
  | 2 =>
    let rf := (slipFmt (fld (r.d 5) 31 28)).getD .fp32
    let of_ := (slipFmt (fld (r.d 5) 27 24)).getD .fp32
    let e := (d.entry s u (r.off 7 + 4 * m.j)).1
    let b := if m.j = 0 then 0 else (d.entry s u (r.off 7 + 4 * (m.j - 1))).1
    let pos := max m.pos b
    let wen := bit (r.d 5) 22
    if turn = 0 then (base (r.off 7 + 4 * m.j), 4) :: (if m.j = 0 then [] else [(base (r.off 7 + 4 * (m.j - 1)), 4)])
    else if e < b ∨ (b < e ∧ (r.off 0 + 4 * pos + 4 > bankBytes ∨ (wen ∧ r.off 8 + 4 * pos + 4 > bankBytes))) then []
    else if turn = 1 then (if e = b then [] else [(base (r.off 0 + 4 * pos), 4)])
    else
      let i := (d.entry s u (r.off 0 + 4 * pos)).1
      let row := if e ≠ b ∧ i < (r.d 6).toNat then
          (base (r.off 1 + i * (r.d 3).toNat), rf.bytes n) :: (if wen then [(base (r.off 8 + 4 * pos), 4)] else []) else []
      let old := if bit (r.d 5) 23 ∧ (e = b ∨ pos + 1 = e) then [(base (r.off 2 + m.j * (r.d 4).toNat), of_.bytes n)] else []
      row ++ old
  | _ =>
    let e0 := 256 * m.j
    let gf := (slipFmt (fld (r.d 5) 31 28)).getD .fp32
    if turn ≠ 0 then []
    else [(base (r.off 0 + gf.bytes e0), gf.bytes 256), (base (r.off 1 + 4 * e0), 1024), (base (r.off 2 + 4 * e0), 1024)] ++
      (if gf == .e5m2 then [(base (r.off 4 + 8 * m.j), 8)] else []) ++ (if bit (r.d 5) 27 then [(base (r.off 3 + 2 * e0), 512)] else [])

/-- One code word that a step reads; a word that the coder corrects counts one symbol (R276). -/
def stepWord (x : Device × Nat) (key : Nat) : Device × Nat :=
  (x.1.meetCoder true key, x.2 + (match x.1.coderSays key with | .corrected | .miscorrected => 1 | _ => 0))

/-- What a step reads passes through the coder, and the symbols it corrects. -/
def Device.stepCoder (d : Device) (s u : Nat) (r : SlipRun) (m : SlipMem) : Device × Nat :=
  [0, 1, 2].foldl (fun x t => (x.1.flawedIn (slipReads x.1 s u r m t)).foldl stepWord x) (d, 0)

/-- Whether an ordinary access is held at a bank. -/
def Device.heldAt (d : Device) (s u : Nat) : Bool := d.slip.held.any (fun h => h.unit == s * 512 + u)

/-- NEAR_BANK_STEP (R283): not while ordinary accesses are held (R284). -/
def devNearBankStep (s u : Nat) (o : StepOutcome) (d : Device) : Device :=
  match (d.slipStack s).run with
  | none => d
  | some r => match r.mem u with
    | none => d
    | some m =>
      if m.done ∨ d.heldAt s u ∨ !d.runs (wStack s) then d
      else match o with
        | .fault cause => if cause = 1 ∨ cause = 3 then d.slipFault s u r m cause.val else d
        | .done =>
          let (d, fixed) := d.stepCoder s u r m
          let m := { m with cesym := m.cesym + fixed }
          match slipStep d s u (r.rank u) r m with
          | .segment => d.slipFault s u r m 2
          | .ok m' ws note row =>
            ((d.writes ws).note (mreg 1 0xE000) (uBank s (u / 16) (u % 16)) note).stepDone s u r m m' row

/-- Words of 32 bytes that a stack holds. -/
def t1Words : Nat := 512 * (bankBytes / 32)

/-- TIER1_PATROL_SCRUB (R289): one word of a bank is read, once in an interval. -/
def devTier1PatrolScrub (s u word : Nat) (d : Device) : Device :=
  if !(decide (word * 32 < bankBytes) && d.modRuns) then d
  else d.scrubRead (8 + s) (u * (bankBytes / 32) + word) t1Words (mreg 1 4) (bankDA s u (word * 32)) 32

end Sys2Proof.Machine
end

