-- ==== Sys2Proof/Machine/Stash.lean ====
section
/-! DEFINITION. The activation stash (R164 to R176). -/

namespace Sys2Proof.Machine

def Device.stash (d : Device) (die : Nat) : Stash := mget {} d.sts die
def Device.setStash (d : Device) (die : Nat) (v : Stash) : Device := { d with sts := mset {} d.sts die v }

/-- The die's STS registers. -/
def stsReg (die off : Nat) : Nat := dreg die 9 off
def Device.stsN (d : Device) (die : Nat) : Nat × Nat × Nat :=
  ((d.reg (stsReg die 0xC)).toNat, (d.reg (stsReg die 0x18)).toNat, (d.reg (stsReg die 0x28)).toNat)

/-- Where a frame lies (R164). -/
def Device.frameAddr (d : Device) (die : Nat) : Frame → Nat
  | .pool n => sramDA (d.reg (stsReg die 8)) + n * 65536
  | .t1 n => join (d.reg (stsReg die 0x10)) (d.reg (stsReg die 0x14)) + n * 65536
  | .t2 n => join (d.reg (stsReg die 0x20)) (d.reg (stsReg die 0x24)) + n * 65536

def tilesOf (len : Nat) : Nat := (len + 65535) / 65536

def Stash.obj (s : Stash) (h : Nat) : Option StashObj := mget none s.objs h

/-- Frames in use: one for each tile of every object. -/
def Stash.used (s : Stash) : Nat := s.objs.foldl (fun n p => n + (match p.2 with | some o => tilesOf o.len | none => 0)) 0

/-- Available frames (R170). -/
def Device.stashAvail (d : Device) (die : Nat) : Nat :=
  let (a, b, c) := d.stsN die
  let s := d.stash die
  a + b + c - s.used - s.resv

/-- Frames a tile sits in or is moving to. -/
def Stash.taken (s : Stash) : List Frame :=
  s.objs.flatMap (fun p => match p.2 with | some o => o.tiles | none => []) ++ s.moves.map (·.dst)

/-- The lowest free number below n of a kind of frame. -/
def freeFrame (mk : Nat → Frame) (taken : List Frame) (n : Nat) : Option Nat :=
  (List.range n).find? (fun i => !taken.contains (mk i))

def freeCount (mk : Nat → Frame) (taken : List Frame) (n : Nat) : Nat :=
  ((List.range n).filter (fun i => !taken.contains (mk i))).length

/-- Bytes of tile t of an object of len bytes. -/
def tileLen (len t : Nat) : Nat := min 65536 (len - t * 65536)

/-- A PUT places tiles into free pool frames, in ascending order, as long as one is free (R166). -/
def Device.putTiles (d : Device) (die h src : Nat) : Nat → Device
  | 0 => d
  | n + 1 =>
    let s := d.stash die
    match s.obj h with
    | none => d
    | some o =>
      let t := o.tiles.length
      match freeFrame Frame.pool s.taken (d.stsN die).1 with
      | none => d
      | some f =>
        let d := d.write (d.frameAddr die (.pool f)) (d.readBytes (src + t * 65536) (tileLen o.len t))
        let d := d.setStash die { s with objs := mset none s.objs h (some { o with tiles := o.tiles ++ [.pool f] }) }
        (d.progress (wSts die)).putTiles die h src n

/-- The PUT being carried out goes on placing tiles. -/
def Device.putStep (d : Device) (die : Nat) : Device :=
  let s := d.stash die
  match s.run with
  | none => d
  | some c =>
    let h := fld (c.word 3) 31 20
    match s.obj h with
    | none => d
    | some o => if c.op = 0xA then d.putTiles die h (sramDA (c.word 5)) (tilesOf o.len - o.tiles.length) else d

/-- The refusals of R165, in its order. -/
def stashBad (d : Device) (die : Nat) (c : Cmd) : Option Nat :=
  let s := d.stash die
  let w3 := c.word 3
  let h := fld w3 31 20
  let put := c.op == 0xA
  let get := c.op == 0xB
  let drop := c.op == 0xC
  let lb := c.op == 0xD
  let len := (c.word 4).toNat
  let o := s.obj h
  firstBad [
    ((put && o.isSome) || ((get || drop) && o.isNone), 0x0405),
    ((put && d.sramBad (c.word 5) len) || (get && d.sramBad (c.word 5) ((o.map (·.len)).getD 0)), evAddrUnassigned),
    (w012Reserved c true || partShare c || c.word 6 != 0 || c.word 7 != 0 || fld w3 12 0 != 0 ||
      ((put || get) && (awRes (c.word 5) || awMis 16 (c.word 5))) || ((drop || lb) && c.word 5 != 0) ||
      ((get || drop) && c.word 4 != 0) || (put && (len % 16 != 0 || decide (len < 16) || decide (len > 0xA000000))) ||
      (!get && bit w3 19) || (put && decide (fld w3 18 17 > 1)) || (!put && fld w3 18 13 != 0) ||
      (put && fld w3 18 17 == 1 && fld w3 16 13 != 0) || (put && decide (fld w3 16 13 > 10)), 0x0406)]

/-- The head of a stash queue with its op, when nothing is being carried out. -/
def Device.stashHead (d : Device) (die op : Nat) : Option Cmd :=
  if !d.runs (wSts die) || (d.stash die).run.isSome then none
  else match d.ready (qSts die) with
    | some c => if c.op = op then some c else none
    | none => none

/-- A stash command issues: it leaves the queue, and nothing is stopped (R165). -/
def Device.stashIssue (d : Device) (die : Nat) : Device :=
  let d := d.popCmd (qSts die)
  (d.setStash die { d.stash die with stopped := false }).lbndHead die

/-- An issued stash command completes. -/
def Device.stashDone (d : Device) (die : Nat) (c : Cmd) (status : Nat) : Device :=
  let s := d.stash die
  ((d.setStash die { s with run := none, last := c.seq }).progress (wSts die)).finish c status

/-- Whether a die's queue is headed by a part of a command. -/
def Device.headsSts (d : Device) (n : Nat) (c : Cmd) : Bool := ((d.queue (qSts n)).head?.map Cmd.cid) == some c.cid

/-- A stash command refused, with the rest of its group where none of it has run (R18, R165); a part that was stopped at the head of its
queue is held there no longer. -/
def Device.stashRefuse (d : Device) (die : Nat) (c : Cmd) (ev b : Nat) : Device :=
  let e := d.refuse (qSts die) c ev (uDie (b - qSts 0)) 0
  ((List.range 4).foldl (fun e n =>
    let e := if d.headsSts n c && !e.headsSts n c then e.setStash n { e.stash n with stopped := false } else e
    e.lbndHead n) e).progress (wSts die)

/-- The refusal of a part in a stash queue; what a part of that handle ahead of it will leave is not known yet. -/
def Device.partStashBad (d : Device) (q : Nat) (c : Cmd) : Option Nat :=
  let s := d.stash (q - qSts 0)
  if (s.run.toList ++ d.ahead q c).any (fun x => x.op != 0xD && fld (x.word 3) 31 20 == fld (c.word 3) 31 20) then none
  else stashBad d (q - qSts 0) c

/-- The refusal of a stash command at the head, or of its group. -/
def Device.stashHeadBad (d : Device) (die : Nat) (c : Cmd) : Option (Nat × Nat) := d.groupBad (qSts die) c d.partStashBad

/-- A command stays at the head for want of frames: STOPPED, and STASH_FULL posted (R171). -/
def Device.stashStop (d : Device) (die layer : Nat) (putStop : Bool) (short : Nat) : Device :=
  let s := d.stash die
  (d.setStash die { s with stopped := true }).post 0x0403 (uDie die)
    (wd (layer * 2 ^ 20 + putStop.toNat * 2 ^ 19 + min short 0x7FFFF))

/-- PUT at the head is evaluated (R166, R170). -/
def Device.evalPut (d : Device) (die : Nat) (c : Cmd) : Device :=
  match d.stashHeadBad die c with
  | some (b, ev) => d.stashRefuse die c ev b
  | none =>
    let s := d.stash die
    let len := (c.word 4).toNat
    let nt := tilesOf len
    let av := d.stashAvail die
    if s.resv + av < nt then d.stashStop die s.layer true (nt - s.resv - av)
    else
      let o : StashObj := { kind := fld (c.word 3) 18 17, fmt := fld (c.word 3) 16 13, len := len, age := s.nextAge }
      ((d.setStash die { s with objs := mset none s.objs (fld (c.word 3) 31 20) (some o), run := some c,
                                resv := s.resv - min s.resv nt, nextAge := s.nextAge + 1 }).stashIssue die).putStep die

/-- LBND at the head is evaluated: the previous reservation is released first (R170). -/
def Device.evalLbnd (d : Device) (die : Nat) (c : Cmd) : Device :=
  match d.stashHeadBad die c with
  | some (b, ev) => d.stashRefuse die c ev b
  | none =>
    let d := d.lbndHead die
    let need := (c.word 4).toNat
    let layer := fld (c.word 3) 31 20
    let av := d.stashAvail die
    if av < need then d.stashStop die layer false (need - av)
    else
      let d := d.popCmd (qSts die)
      let d := d.setStash die { d.stash die with resv := need, layer := layer, stopped := false }
      (d.lbndHead die).stashDone die c stDone

/-- PUT (R166): the head of the queue, unless it was stopped and has not been resumed. -/
def devPut (die : Nat) (d : Device) : Device :=
  match d.stashHead die 0xA with
  | none => d
  | some c => if (d.stash die).stopped then d else d.evalPut die c

/-- LBND (R170). -/
def devLbnd (die : Nat) (d : Device) : Device :=
  match d.stashHead die 0xD with
  | none => d
  | some c => if (d.stash die).stopped then d else d.evalLbnd die c

/-- GET issues (R168). -/
def devGet (die : Nat) (d : Device) : Device :=
  match d.stashHead die 0xB with
  | none => d
  | some c =>
    match d.stashHeadBad die c with
    | some (b, ev) => d.stashRefuse die c ev b
    | none => (d.setStash die { d.stash die with run := some c }).stashIssue die

/-- A handle and its frames are free, and moves of its tiles are abandoned (R168). -/
def Stash.free (s : Stash) (h : Nat) : Stash :=
  { s with objs := mset none s.objs h none, moves := s.moves.filter (fun m => m.handle != h) }

/-- DROP (R168). -/
def devDrop (die : Nat) (d : Device) : Device :=
  match d.stashHead die 0xC with
  | none => d
  | some c =>
    match d.stashHeadBad die c with
    | some (b, ev) => d.stashRefuse die c ev b
    | none => ((d.setStash die ((d.stash die).free (fld (c.word 3) 31 20))).stashIssue die).stashDone die c stDone

/-- Tile t of an object is moving. -/
def Stash.moving (s : Stash) (h t : Nat) : Bool := s.moves.any (fun m => m.handle == h && m.tile == t)

/-- The oldest tile of a tier that is not moving: smallest PUT age, then smallest tile (R167). -/
def Stash.oldest (s : Stash) (inTier : Frame → Bool) : Option (Nat × Nat) :=
  let cands := s.objs.flatMap (fun p => match p.2 with
    | some o => ((List.range o.tiles.length).zip o.tiles).filterMap (fun x =>
        if inTier x.2 && !s.moving p.1 x.1 then some (o.age, p.1, x.1) else none)
    | none => [])
  (cands.foldl (fun best x => match best with
    | none => some x
    | some b => if x.1 < b.1 ∨ (x.1 = b.1 ∧ x.2.2 < b.2.2) then some x else some b) none).map (·.2)

def Frame.isPool : Frame → Bool | .pool _ => true | _ => false
def Frame.isT1 : Frame → Bool | .t1 _ => true | _ => false

/-- SPILL (R167): when a PUT lacks a pool frame or fewer than SPILLWM are free, the oldest pool tile starts towards a free
tier 1 frame; where none is free for that move, the oldest tier 1 tile starts towards tier 2. -/
def devSpill (die : Nat) (d : Device) : Device :=
  let s := d.stash die
  let (np, n1, n2) := d.stsN die
  let free := freeCount Frame.pool s.taken np
  let putWaits := match s.run with
    | some c => c.op == 0xA && free == 0 && (match s.obj (fld (c.word 3) 31 20) with
        | some o => decide (o.tiles.length < tilesOf o.len) | none => false)
    | none => false
  if !d.runs (wSts die) ∨ (!putWaits ∧ free ≥ (d.reg (stsReg die 0x2C)).toNat) then d
  else match s.oldest Frame.isPool, freeFrame Frame.t1 s.taken n1 with
    | none, _ => d
    | some (h, t), some f => d.setStash die { s with moves := s.moves ++ [{ handle := h, tile := t, dst := .t1 f }] }
    | some _, none => match freeFrame Frame.t2 s.taken n2, s.oldest Frame.isT1 with
      | some f, some (h, t) => d.setStash die { s with moves := s.moves ++ [{ handle := h, tile := t, dst := .t2 f }] }
      | _, _ => d

/-- TILE_LANDING (R167): the k-th move's last byte lands, the directory names the new frame and the old one is free. -/
def devTileLanding (die k : Nat) (d : Device) : Device :=
  let s := d.stash die
  match s.moves[k]? with
  | none => d
  | some m => match s.obj m.handle with
    | none => d
    | some o => match o.tiles[m.tile]? with
      | none => d
      | some f =>
        if !d.runs (wSts die) then d
        else
          let d := d.fetch (d.frameAddr die f) (tileLen o.len m.tile)
          let d := d.write (d.frameAddr die m.dst) (d.readBytes (d.frameAddr die f) (tileLen o.len m.tile))
          let d := d.setStash die { s with objs := mset none s.objs m.handle (some { o with tiles := o.tiles.set m.tile m.dst }),
                                           moves := s.moves.eraseIdx k }
          (d.progress (wSts die)).putStep die

/-- The writes of a GET: each tile from the frame the directory names (R168). -/
def Device.getTiles (d : Device) (die dst : Nat) (o : StashObj) : List (Nat × List PByte) :=
  ((List.range o.tiles.length).zip o.tiles).map (fun p => (dst + p.1 * 65536, d.readBytes (d.frameAddr die p.2) (tileLen o.len p.1)))

/-- STASH_COMMAND_COMPLETE (R166, R168): a PUT whose tiles are all placed, or a GET. DESIGN CHOICE: the status is DONE even where the bytes
moved are poisoned. -/
def devStashCommandComplete (die : Nat) (d : Device) : Device :=
  let s := d.stash die
  match s.run with
  | none => d
  | some c =>
    let h := fld (c.word 3) 31 20
    match s.obj h with
    | none => d
    | some o =>
      if !d.runs (wSts die) then d
      else if c.op = 0xA then (if o.tiles.length < tilesOf o.len then d else d.stashDone die c stDone)
      else
        let d := d.coder false (((List.range o.tiles.length).zip o.tiles).map (fun p => (d.frameAddr die p.2, tileLen o.len p.1)))
        let d := d.writes (d.getTiles die (sramDA (c.word 5)) o)
        let d := if bit (c.word 3) 19 then d.setStash die ((d.stash die).free h) else d
        d.stashDone die c stDone

/-- STS_RESUME (R172): the stopped command is evaluated again. -/
def devStsResume (die : Nat) (d : Device) : Device :=
  if !(d.stash die).stopped then d
  else
    match d.stashHead die 0xA, d.stashHead die 0xD with
    | some c, _ => (d.setStash die { d.stash die with stopped := false }).evalPut die c
    | none, some c => (d.setStash die { d.stash die with stopped := false }).evalLbnd die c
    | none, none => d

/-- An allotment write or host DROP refused (R173, R175). -/
def Device.stsErr (d : Device) (die reason : Nat) : Device := d.setReg (stsReg die 0x38) (wd (2 ^ 31 + reason * 2 ^ 28))

/-- STS_DROP (R175): a PUT that waits for a pool frame may take those that become free. DESIGN CHOICE: the object of the PUT or GET in
progress is dropped too, and that command then ends only with a reset. -/
def devStsDrop (die h : Nat) (d : Device) : Device :=
  let s := d.stash die
  match s.obj h with
  | none => d.stsErr die 4
  | some _ => (d.setStash die (s.free h)).putStep die

/-- An allotment register's offset and the bits a write sets (R175). -/
def allotReg : Allotment → Nat × Nat
  | .pool => (0x8, 0xFFFFFFFF)
  | .pooln => (0xC, 0xFFF)
  | .t1baseLo => (0x10, 0xFFFF0000)
  | .t1baseHi => (0x14, 0xFFFFF)
  | .t1n => (0x18, 0x7FFFFF)
  | .t2baseLo => (0x20, 0xFFFF0000)
  | .t2baseHi => (0x24, 0xFFFFF)
  | .t2n => (0x28, 0x3FFFFFF)

def allotIsCount : Allotment → Bool
  | .pooln => true | .t1n => true | .t2n => true | _ => false

/-- The allotment ranges as the registers stand: pool within the die's own SRAM, tier 1 in region 0x4, tier 2 in region
0x8; a count of 0 makes no range (R173). -/
def Device.allotRange (d : Device) (die : Nat) : Bool :=
  let (np, n1, n2) := d.stsN die
  let pool := d.reg (stsReg die 8)
  let b1 := join (d.reg (stsReg die 0x10)) (d.reg (stsReg die 0x14))
  let b2 := join (d.reg (stsReg die 0x20)) (d.reg (stsReg die 0x24))
  (np == 0 || (fld pool 31 30 == die && !awRes pool && d.sramOk pool (np * 65536))) &&
    (n1 == 0 || (regionOf b1 == 4 && d.rangeOk b1 (n1 * 65536))) &&
    (n2 == 0 || (regionOf b2 == 8 && d.rangeOk b2 (n2 * 65536)))

/-- Allotment registers written in one access (R32, R173): all of them, or none and `STS_ERR`. A PUT that waits for a pool frame may take
those of a raised count. -/
def Device.allotWrite (d : Device) (die : Nat) (l : List (Allotment × Word)) : Device :=
  let key (r : Allotment) : Nat := stsReg die (allotReg r).1
  let empty := (d.stash die).objs.isEmpty
  let l := l.map (fun x => (x.1, x.2 &&& wd (allotReg x.1).2))
  let d' := l.foldl (fun d x => d.setReg (key x.1) x.2) d
  if !empty ∧ l.any (fun x => !(allotIsCount x.1 && decide ((d.reg (key x.1)).toNat ≤ x.2.toNat))) then d.stsErr die 1
  else if l.any (fun x => x.1 == .pool && fld x.2 15 0 != 0) then d.stsErr die 2
  else if !d'.allotRange die then d.stsErr die 3
  else d'.putStep die

/-- ALLOTMENT_WRITE (R173). -/
def devAllotmentWrite (die : Nat) (r : Allotment) (v : Word) (d : Device) : Device := d.allotWrite die [(r, v)]

end Sys2Proof.Machine
end

