-- ==== Sys2Proof/Machine/Tier.lean ====
section
/-! DEFINITION. The tier manager: managed objects, the shared pool and its moves, and the patrol scrub of tier 2
(R240 to R268). -/

namespace Sys2Proof.Machine

def Device.seg (d : Device) (g : Nat) : Seg := mget {} d.tier.segs g
def Device.setSeg (d : Device) (g : Nat) (v : Seg) : Device := { d with tier.segs := mset {} d.tier.segs g v }
def Device.tierObj (d : Device) (oid : Nat) : Option TierObj := mget none d.tier.objs oid
def Device.setTierObj (d : Device) (oid : Nat) (v : Option TierObj) : Device :=
  { d with tier.objs := mset none d.tier.objs oid v }
/-- The directory entry of frame f of a segment. -/
def Device.ent (d : Device) (g f : Nat) : Option TierEnt := mget none d.tier.ents (g * 16384 + f)
def Device.setEnt (d : Device) (g f : Nat) (v : Option TierEnt) : Device :=
  { d with tier.ents := mset none d.tier.ents (g * 16384 + f) v }

/-- The owner a segment's events name. -/
def segOwner (g : Nat) : Nat := if g < 4 then uDie g else uModule

def frameDA (s : Seg) (f : Nat) : Nat := s.base + f * 65536

/-! Commands (R248). -/
def tTop (c : Cmd) : Nat := fld (c.word 3) 31 28
def tOid (c : Cmd) : Nat := fld (c.word 3) 9 0
def tT0 (c : Cmd) : Nat := fld (c.word 4) 24 0
def tNT (c : Cmd) : Nat := fld (c.word 5) 13 0 + 1

/-! Objects (R243): their seat, tile count and action, from the words of their OBJDEF. -/
def TierObj.seat (o : TierObj) : Nat := join (wordAt o.w 1) (wordAt o.w 2)
def TierObj.ntiles (o : TierObj) : Nat := (wordAt o.w 3).toNat
def TierObj.keep (o : TierObj) : Bool := bit (wordAt o.w 0) 25

/-- Raised tiles of a segment: frame and entry. -/
def Device.raised (d : Device) (g : Nat) : List (Nat × TierEnt) :=
  d.tier.ents.filterMap (fun p => match p.2 with
    | some e => if p.1 / 16384 = g then some (p.1 % 16384, e) else none
    | none => none)

/-- The frame a tile is raised in, with its entry. -/
def Device.findTile (d : Device) (g oid t : Nat) : Option (Nat × TierEnt) :=
  (d.raised g).find? (fun p => p.2.oid == oid && p.2.tile == t)

/-- Whether an object has a raised tile in any segment. -/
def Device.anyRaised (d : Device) (oid : Nat) : Bool :=
  d.tier.ents.any (fun p => match p.2 with | some e => e.oid == oid | none => false)

/-- The lowest-numbered free frame. -/
def Device.freeTierFrame (d : Device) (g : Nat) : Option Nat :=
  (List.range (d.seg g).n).find? (fun f => (d.ent g f).isNone)

/-- The raised tile with the smallest age: the next victim (R250). -/
def Device.victim (d : Device) (g : Nat) : Option (Nat × TierEnt) :=
  (d.raised g).foldl (fun b p => match b with
    | none => some p
    | some q => if p.2.age < q.2.age then some p else b) none

/-- Whether two ranges of bytes meet. -/
def overlap (a n b m : Nat) : Bool := decide (a < b + m ∧ b < a + n ∧ 0 < n ∧ 0 < m)

/-- Whether a range meets any segment's frames but those of `skip`, or any object's seat but that of `oid`. -/
def Device.meetsSegs (d : Device) (skip a n : Nat) : Bool :=
  (List.range 5).any (fun g => g != skip && overlap a n (d.seg g).base ((d.seg g).n * 65536))
def Device.meetsSeats (d : Device) (oid a n : Nat) : Bool :=
  d.tier.objs.any (fun p => match p.2 with
    | some o => p.1 != oid && overlap a n o.seat (o.ntiles * 65536)
    | none => false)

/-! Refusals (R249). -/

/-- Nonzero reserved fields of a tier command (R248). -/
def tierReserved (c : Cmd) : Bool :=
  let w := c.word
  let top := tTop c
  w012Reserved c (top == 2) || partShare c || fld (w 3) 27 26 != 0 || fld (w 3) 24 10 != 0 || (top != 1 && bit (w 3) 25) ||
    (match top with
     | 1 => fld (w 4) 15 0 != 0 || fld (w 5) 31 20 != 0 || fld (w 6) 31 26 != 0 || w 7 != 0
     | 2 => fld (w 4) 31 25 != 0 || fld (w 5) 31 14 != 0 || bit (w 6) 30 || fld (w 6) 27 24 != 0 || fld (w 7) 30 14 != 0
     | 3 => fld (w 4) 31 25 != 0 || fld (w 5) 31 14 != 0 || w 6 != 0 || w 7 != 0
     | _ => w 4 != 0 || w 5 != 0 || w 6 != 0 || w 7 != 0)

def tierBad (d : Device) (g : Nat) (c : Cmd) : Option Nat :=
  let top := tTop c
  let oid := tOid c
  let s := d.seg g
  let seat := join (c.word 4) (c.word 5)
  let nb := (c.word 6).toNat * 65536
  let o := d.tierObj oid
  firstBad [
    (top == 0 || decide (top > 4) || tierReserved c, 0x0404),
    (s.n == 0 || (s.inval && decide (top < 3)), 0x0404),
    (top == 1 && (d.anyRaised oid || !(regionOf seat == 8 || (regionOf seat == 4 && g != 4)) ||
      (c.word 6 == 0 || decide ((c.word 6).toNat > 33554432))), 0x0404),
    (top == 1 && !d.rangeOk seat nb, evAddrUnassigned),
    (top == 1 && (d.meetsSeats oid seat nb || d.meetsSegs 5 seat nb), 0x0404),
    ((top == 2 || top == 3) && (match o with | none => true | some x => x.seg != g || decide (tT0 c + tNT c > x.ntiles)), 0x0404),
    (top == 2 && decide (tNT c > s.n), 0x0404),
    (top == 4 && d.anyRaised oid, 0x0404)]

/-! Completion. -/

def Device.tierFinish (d : Device) (g : Nat) (c : Cmd) (status : Nat) : Device :=
  ((d.setSeg g { d.seg g with last := c.seq }).progress (wSeg g)).finish c status

def TierRun.status (r : TierRun) : Nat := if r.fault then stFault else if r.pois then stPoisoned else stDone

/-- Whether a segment's commands and moves may go on: the tier manager is not in reset, nor is the die whose SRAM holds the frames
(R258). -/
def Device.segRuns (d : Device) (g : Nat) : Bool := d.runs (wSeg g) && !(decide (g < 4) && d.dieInReset g)

/-- A command has handled its last tile: it completes, or waits for its moves while the next one becomes the head. -/
def Device.tierHandled (d : Device) (g : Nat) (r : TierRun) : Device :=
  if r.waits = 0 then (d.setSeg g { d.seg g with cur := none }).tierFinish g r.cmd r.status
  else d.setSeg g { d.seg g with cur := none, runs := (d.seg g).runs ++ [r] }

/-- The head of a segment's queue with this TOP, when no command is being handled. -/
def Device.tierHead (d : Device) (g top : Nat) : Option Cmd :=
  if !d.segRuns g || (d.seg g).cur.isSome then none
  else match d.ready (qTier g) with
    | some c => if tTop c = top then some c else none
    | none => none

/-- Whether an earlier command of a segment may change what a command of it is judged by: one of the same object, or of a seat. -/
def tierClash (c x : Cmd) : Bool := tOid x == tOid c || (tTop c == 1 && (tTop x == 1 || tTop x == 4))

/-- The refusal of a part in a segment's queue; what earlier commands there will leave is not known yet, and then its words alone are judged. -/
def Device.partTierBad (d : Device) (q : Nat) (c : Cmd) : Option Nat :=
  let g := q - qTier 0
  if ((d.seg g).cur.toList.map TierRun.cmd ++ d.ahead q c).any (tierClash c) then
    (if tTop c = 0 ∨ tTop c > 4 ∨ tierReserved c then some 0x0404 else none)
  else tierBad d g c

/-- The refusal of the head of a segment's queue, or of another member of its group (R18, R249). -/
def Device.tierStops (d : Device) (g : Nat) (c : Cmd) : Option (Nat × Nat) := d.groupBad (qTier g) c d.partTierBad

/-- A refused command completes with FAULT; the event names the owner of the segment that refuses. -/
def Device.tierRefuse (d : Device) (g : Nat) (c : Cmd) (x : Nat × Nat) : Device :=
  (d.refuse (qTier g) c x.2 (segOwner (x.1 - qTier 0)) 0).progress (wSeg g)

/-- OBJDEF (R243, R249). -/
def devObjdef (g : Nat) (d : Device) : Device :=
  match d.tierHead g 1 with
  | none => d
  | some c => match d.tierStops g c with
    | some x => d.tierRefuse g c x
    | none =>
      let o : TierObj := { w := [c.word 3, c.word 4, c.word 5, c.word 6], seg := g }
      ((d.popCmd (qTier g)).setTierObj (tOid c) (some o)).tierFinish g c stDone

/-- OBJDEL (R249). -/
def devObjdel (g : Nat) (d : Device) : Device :=
  match d.tierHead g 4 with
  | none => d
  | some c => match d.tierStops g c with
    | some x => d.tierRefuse g c x
    | none => ((d.popCmd (qTier g)).setTierObj (tOid c) none).tierFinish g c stDone

/-! RAISE (R250 to R252). A head with a reserved TOP is refused as a RAISE row would refuse it. -/

/-- Tile t takes frame f: its entry, and its fill is started. -/
def Device.takeFrame (d : Device) (g : Nat) (r : TierRun) (o : TierObj) (t f : Nat) : Device × TierRun :=
  let s := d.seg g
  let e : TierEnt := { oid := tOid r.cmd, tile := t, age := s.nextAge, pin := r.cmd.word 6, filling := true }
  let m : TierMove :=
    { id := d.core.nextOrd, fill := true, oid := tOid r.cmd, tile := t, frame := f, src := o.seat + t * 65536, dst := frameDA s f, cause := r.cmd.cid,
      cids := [r.cmd.cid] }
  (({ d with core.nextOrd := d.core.nextOrd + 1 }.setEnt g f (some e)).setSeg g { s with nextAge := s.nextAge + 1, moves := s.moves ++ [m] },
    { r with pos := r.pos + 1, waits := r.waits + 1 })

/-- A hit (R250): a new age and the new pin; a fill still under way is waited for (R254). -/
def Device.hitFrame (d : Device) (g : Nat) (r : TierRun) (f : Nat) (e : TierEnt) : Device × TierRun :=
  let s := d.seg g
  let d := d.setEnt g f (some { e with age := s.nextAge, pin := r.cmd.word 6, pinMet := false })
  let join (m : TierMove) : TierMove :=
    if m.fill && m.frame == f then { m with cids := m.cids ++ [r.cmd.cid] } else m
  (d.setSeg g { s with nextAge := s.nextAge + 1, moves := if e.filling then s.moves.map join else s.moves },
    { r with pos := r.pos + 1, waits := r.waits + (if e.filling then 1 else 0) })

/-- A RAISE goes on with its tiles until one needs a victim. -/
def Device.raiseTiles (d : Device) (g : Nat) (r : TierRun) : Nat → Device
  | 0 => d.tierHandled g r
  | n + 1 =>
    match d.tierObj (tOid r.cmd) with
    | none => d.tierHandled g { r with fault := true }
    | some o =>
      let t := tT0 r.cmd + r.pos
      match d.findTile g (tOid r.cmd) t with
      | some (f, e) => let (d, r) := d.hitFrame g r f e; d.raiseTiles g r n
      | none => match d.freeTierFrame g with
        | some f => let (d, r) := d.takeFrame g r o t f; d.raiseTiles g r n
        | none => d.setSeg g { d.seg g with cur := some r }

/-- The frame that EXPECT is compared with (R252). -/
def Device.expectFrame (d : Device) (g : Nat) (c : Cmd) : Nat :=
  match d.findTile g (tOid c) (tT0 c) with
  | some (f, _) => f
  | none => match d.freeTierFrame g with
    | some f => f
    | none => ((d.victim g).map Prod.fst).getD 0

/-- RAISE at the head of its queue, a reserved TOP refused with it. -/
def devRaise (g : Nat) (d : Device) : Device :=
  let head := match d.tierHead g 2 with
    | some c => some c
    | none => if !d.segRuns g || (d.seg g).cur.isSome then none
              else match d.ready (qTier g) with
                | some c => if tTop c = 0 ∨ tTop c > 4 then some c else none
                | none => none
  match head with
  | none => d
  | some c => match d.tierStops g c with
    | some x => d.tierRefuse g c x
    | none =>
      if bit (c.word 7) 31 && d.expectFrame g c != fld (c.word 7) 13 0 then
        (((d.popCmd (qTier g)).post 0x0407 (segOwner g) 0).tierFinish g c stFault)
      else (d.popCmd (qTier g)).raiseTiles g { cmd := c } (tNT c)

/-- A tile is lowered under its action by a command (R244, R250): its frame is free to be taken at once, and a MOVE lowering
reads it before the next fill writes it (R254). Its pin has been met, and stays so (R251). -/
def Device.lowerTile (d : Device) (g f : Nat) (e : TierEnt) (cause : Nat) (cids : List Nat) : Device :=
  let s := d.seg g
  let d := d.setEnt g f none
  match d.tierObj e.oid with
  | none => d
  | some o =>
    if o.keep then d
    else
      let m : TierMove :=
        { id := d.core.nextOrd, fill := false, oid := e.oid, tile := e.tile, frame := f, src := frameDA s f, dst := o.seat + e.tile * 65536,
          cause := cause, cids := cids, old := some { e with pinMet := true } }
      { d with core.nextOrd := d.core.nextOrd + 1 }.setSeg g { s with moves := s.moves ++ [m] }

/-- VICTIM_LOWERING (R250): the RAISE being handled waits for a victim whose pin is met, unless a frame has become free meanwhile. -/
def devVictimLowering (g : Nat) (d : Device) : Device :=
  match (d.seg g).cur with
  | none => d
  | some r =>
    if tTop r.cmd ≠ 2 ∨ !d.segRuns g then d
    else if (d.freeTierFrame g).isSome then d.raiseTiles g r (tNT r.cmd - r.pos)
    else match d.victim g with
      | none => d
      | some (f, e) =>
        if e.filling || !d.pinMet e then d
        else
          let d := d.lowerTile g f e r.cmd.cid []
          d.raiseTiles g r (tNT r.cmd - r.pos)

/-! LOWER (R253). -/

/-- A LOWER goes on with its tiles until one must wait for its pin or its fill. -/
def Device.lowerTiles (d : Device) (g : Nat) (r : TierRun) : Nat → Device
  | 0 => d.tierHandled g r
  | n + 1 =>
    match d.findTile g (tOid r.cmd) (tT0 r.cmd + r.pos) with
    | none => d.lowerTiles g { r with pos := r.pos + 1 } n
    | some (f, e) =>
      if e.filling || !d.pinMet e then d.setSeg g { d.seg g with cur := some r }
      else
        let k := (d.seg g).moves.length
        let d := d.lowerTile g f e r.cmd.cid [r.cmd.cid]
        d.lowerTiles g { r with pos := r.pos + 1, waits := r.waits + ((d.seg g).moves.length - k) } n

/-- LOWER: the head of the queue, or the one being handled. -/
def devLower (g : Nat) (d : Device) : Device :=
  match (d.seg g).cur with
  | some r => if tTop r.cmd = 3 ∧ d.segRuns g then d.lowerTiles g r (tNT r.cmd - r.pos) else d
  | none => match d.tierHead g 3 with
    | none => d
    | some c => match d.tierStops g c with
      | some x => d.tierRefuse g c x
      | none => (d.popCmd (qTier g)).lowerTiles g { cmd := c } (tNT c)

/-! Moves (R254, R255, R257). -/

/-- Whether an earlier lowering of any segment has still to arrive at the seat that a fill reads. A seat belongs to one object at a
time, and an object changes only with no tile raised, so a lowering of another segment to that seat is earlier. -/
def Device.seatOwed (d : Device) (g k : Nat) (m : TierMove) : Bool :=
  (List.range 5).any (fun h => (if h = g then (d.seg h).moves.take k else (d.seg h).moves).any (fun e => !e.fill && e.dst == m.src))

/-- Whether a move may go: one of the first 32 of its segment; a fill reads its seat after every lowering to it has arrived. -/
def Device.moveFree (d : Device) (g k : Nat) : Bool :=
  match (d.seg g).moves[k]? with
  | none => false
  | some m => decide (k < 32) && d.segRuns g && !(m.fill && d.seatOwed g k m)

/-- What a move carries: the bytes it has read, or those it reads now. -/
def Device.moveBytes (d : Device) (m : TierMove) : List PByte :=
  match m.read with
  | some b => b
  | none => d.readBytes m.src 65536

/-- The lowerings that have still to read a frame read it, before a fill writes it. -/
def Device.readOut (d : Device) (g a : Nat) : Device :=
  let s := d.seg g
  if s.moves.any (fun e => !e.fill && e.src == a && e.read.isNone) then
    let d := d.fetch a 65536
    d.setSeg g { s with moves := s.moves.map (fun e =>
      if !e.fill && e.src == a && e.read.isNone then { e with read := some (d.readBytes a 65536) } else e) }
  else d

/-- A move of a command has ended: a command that waited for it waits for one move less and keeps its fault, and the command that caused
it takes its poison and its fault, in whatever list it stands. -/
def TierRun.moved (m : TierMove) (pois fault : Bool) (r : TierRun) : TierRun :=
  let r := if m.cids.contains r.cmd.cid then { r with waits := r.waits - 1, fault := r.fault || fault } else r
  if m.cause = r.cmd.cid then { r with pois := r.pois || pois, fault := r.fault || fault } else r

/-- Commands whose last move is done complete. -/
def Device.tierSettle (d : Device) (g : Nat) : Device :=
  let s := d.seg g
  let fin := s.runs.filter (fun r => r.waits == 0)
  let d := d.setSeg g { s with runs := s.runs.filter (fun r => r.waits != 0) }
  fin.foldl (fun d r => d.tierFinish g r.cmd r.status) d

def Device.tierMoved (d : Device) (g : Nat) (m : TierMove) (pois fault : Bool) : Device :=
  let s := d.seg g
  (d.setSeg g { s with cur := s.cur.map (TierRun.moved m pois fault), runs := s.runs.map (TierRun.moved m pois fault) }).tierSettle g

/-- The seat of a tile that has been raised under MOVE holds no defined value (R244). -/
def Device.seatOpen (d : Device) (g : Nat) (m : TierMove) : Device :=
  if !m.fill then d
  else match d.ent g m.frame, d.tierObj m.oid with
    | some _, some o => if o.keep then d else d.leaveOpen m.src 65536
    | _, _ => d

/-- TILE_MOVE_ARRIVAL (R254, R255): move k of the segment has copied its 64 KiB, poison marks with them. -/
def devTileMoveArrival (g k : Nat) (d : Device) : Device :=
  match (d.seg g).moves[k]? with
  | none => d
  | some m =>
    if !d.moveFree g k then d
    else
      let d := if m.fill then d.readOut g m.dst else d
      let d := if m.read.isNone then d.fetch m.src 65536 else d
      let b := d.moveBytes m
      let d := (d.write m.dst b).seatOpen g m
      let d := { d with tier.moved := d.tier.moved + 65536 }
      let d := d.setSeg g { d.seg g with moves := removeAt (d.seg g).moves k }
      let d := if m.fill then (match d.ent g m.frame with
        | some e => d.setEnt g m.frame (some { e with filling := false })
        | none => d) else d
      (d.progress (wSeg g)).tierMoved g m (anyPoison b) false

/-- A fill is given up: its tile is no longer raised, and its frame is free. -/
def Device.dropFill (d : Device) (g : Nat) (m : TierMove) : Device :=
  ((d.setSeg g { d.seg g with moves := (d.seg g).moves.filter (fun e => e.id != m.id) }).setEnt g m.frame none).tierMoved g m false true

/-- The bytes of a frame stand as a lowering has read them. -/
def Device.putBack (d : Device) (a : Nat) (b : List PByte) : Device :=
  let d := d.watched [(a, b.length)]
  { d with core := (d.core.pokeBytes a b).markUnits a b a 2048 }

/-- An abandoned lowering leaves its tile in its frame: the fills that were given the frame, or that were to read the seat, are given
up, and where the lowering had read the frame, its bytes stand there again. A frame that a commit has taken from the segment meanwhile
gets no tile back. -/
def Device.dropLowering (d : Device) (g : Nat) (m : TierMove) : Device :=
  let d := if m.read.isSome then d.readOut g m.src else d
  let d := (List.range 5).foldl (fun d h => ((d.seg h).moves.filter (fun e => e.fill && (e.src == m.dst || (h == g && e.dst == m.src)))).foldl
    (fun d e => d.dropFill h e) d) d
  let s := d.seg g
  let f := (m.src - s.base) / 65536
  let d := if s.base ≤ m.src ∧ f < s.n then d.setEnt g f m.old else d
  let d := match m.read with
    | some b => d.putBack m.src b
    | none => d
  d.tierMoved g m false true

/-- A move is abandoned (R257): its tile keeps the home it had. What a fill had written of its frame stays open. -/
def Device.abandonMove (d : Device) (g k : Nat) : Device :=
  match (d.seg g).moves[k]? with
  | none => d
  | some m =>
    if m.fill then (((if d.seatOwed g k m then d else (d.readOut g m.dst).leaveOpen m.dst 65536)).dropFill g m)
    else (d.setSeg g { d.seg g with moves := removeAt (d.seg g).moves k }).dropLowering g m

/-- TIER_MOVE_FAULT (R257). -/
def devTierMoveFault (g k : Nat) (d : Device) : Device :=
  if !d.moveFree g k then d else (d.abandonMove g k).post 0x0408 (segOwner g) 0

/-! Segments (R246, R247). -/

/-- The reason a commit of N frames is refused (R247, R266). -/
def segBad (d : Device) (g n : Nat) : Option Nat :=
  let s := d.seg g
  let base := join (d.reg (mreg 0 (0x10 + 0x10 * g))) (d.reg (mreg 0 (0x14 + 0x10 * g)))
  let busy := !(d.raised g).isEmpty || s.cur.isSome || !s.runs.isEmpty || !(d.queue (qTier g)).isEmpty
  let total := (List.range 5).foldl (fun t h => t + (if h = g then n else (d.seg h).n)) 0
  firstBad [(busy, 1), (base % 65536 != 0 || regionOf base != g, 2),
    (!d.rangeOk base (n * 65536), 3),
    (d.meetsSegs g base (n * 65536) || d.meetsSeats 1024 base (n * 65536), 4), (decide (total > 16384), 5)]

/-- SEGMENT_COMMIT: a write of TIER_SEGs_N (R247). -/
def devSegmentCommit (g : Nat) (v : Word) (d : Device) : Device :=
  if !d.modRuns then d
  else
    let n := fld v 14 0
    match segBad d g n with
    | some reason => d.setReg (mreg 0 4) (wd (2 ^ 31 + reason * 2 ^ 28 + g * 2 ^ 25))
    | none =>
      let base := join (d.reg (mreg 0 (0x10 + 0x10 * g))) (d.reg (mreg 0 (0x14 + 0x10 * g)))
      d.setSeg g { base := base, n := n, moves := (d.seg g).moves, last := (d.seg g).last }

/-! Tier 2 (R265). -/

/-- The address of a line of a channel of tier 2 (R265), and the lines of a channel. -/
def t2Addr (ch line : Nat) : Nat := 8 * 2 ^ 48 + (line / 64 * 512 + ch * 64 + line % 64) * 64
def Device.t2Lines (d : Device) : Nat := d.core.cap / 512

/-- PATROL_SCRUB: one line of a channel of tier 2 is read, once in an interval. -/
def devPatrolScrub (ch line : Nat) (d : Device) : Device :=
  if !d.rangeOk (t2Addr ch line) 64 || !d.modRuns then d else d.scrubRead ch line d.t2Lines (mreg 2 4) (t2Addr ch line) 64

end Sys2Proof.Machine
end

