-- ==== Sys2Proof/Machine/Views.lean ====
section
/-! DEFINITION. Registers as they read: most hold what was stored, and a status register shows the state of its unit (the
register tables of every chapter, R466 for ARMED). -/

namespace Sys2Proof.Machine

/-! Queues as status registers show them. -/

def Device.qLen (d : Device) (q : Nat) : Nat := (d.queue q).length
def Device.qHead (d : Device) (q : Nat) : Nat := match d.queue q with | [] => 0 | c :: _ => c.seq

/-- BUSY, QDEPTH at a place, HEADSEQ and LASTSEQ. -/
def Device.qStat (d : Device) (busy : Bool) (q at_ last : Nat) : Word :=
  wd (busy.toNat * 2 ^ 31 + d.qLen q * 2 ^ at_ + d.qHead q * 2 ^ 12 + last)

def half (n : Nat) (hi : Bool) : Word := if hi then hi32 n else lo32 n

/-! Which groups are armed (R465, R466). -/

/-- Slots that exist. -/
def slotOk (w : Nat) : Bool := if w < 256 then decide (w % 64 < 36) else decide (w < 263)

def Device.qReady (d : Device) (q : Nat) : Bool := (d.ready q).isSome

/-- An issued instruction of an array, a head that may issue, or its load path held. -/
def Device.arrayBusy (d : Device) (die a : Nat) : Bool :=
  (d.arr die a).load.isSome || (List.range 4).any (fun p =>
    !(d.part die a p).runs.isEmpty || !(d.drains die a p).isEmpty || d.qReady (qArr die a p) || d.qReady (qDrn die a p))

/-- A running stream with a published, undispatched record (R466) that does not wait for its condition: one fetched, or one that its
tail has passed. -/
def Device.streamReady (d : Device) (die s : Nat) : Bool :=
  let st := d.stream die s
  st.state == .run &&
    (match st.rcd, st.ahead with
      | some r, _ => !rIsCop r || st.met || d.w1Met die (rW r 1)
      | none, some a => aheadReady (d.ringSize die s) st.tail a
      | none, none => st.head != st.tail)

/-- A slot's group holds issued work, or a head whose condition is met. -/
def Device.armed (d : Device) (w : Nat) : Bool :=
  let die := w / 64
  let i := w % 64
  if w ≥ 256 then
    if i < 5 then
      let s := d.seg i
      s.cur.isSome || !s.runs.isEmpty || !s.moves.isEmpty || d.qReady (qTier i)
    else if i = 5 then d.ing.job.isSome || d.qReady qIng
    else d.train.mupd.isSome || d.qReady qMupd
  else if i < 8 then d.arrayBusy die (2 * i) || d.arrayBusy die (2 * i + 1)
  else if i < 24 then (d.loopAt die (i - 8)).isSome || d.qReady (qVec die (i - 8))
  else if i < 30 then
    match i with
    | 24 => (List.range 32).any (fun n => (d.chan die n).prog.isSome || d.qReady (qDma die n))
    | 25 => (List.range 8).any (d.streamReady die)
    | 26 => (d.mvpOf die).run.isSome || d.qReady (qMvp die)
    | 27 => !(d.stash die).stopped && ((d.stash die).run.isSome || d.qReady (qSts die))
    | 28 => d.qReady (qTrs die)
    | _ => (d.colOf die).run.isSome || d.qReady (qCol die)
  else if i < 32 then
    let s := 2 * die + i - 30
    (d.slipStack s).run.isSome || d.qReady (qSlp s)
  else
    let x := d.port (4 * die + i - 32)
    x.up && !(x.txq.isEmpty && x.cur.isEmpty)

/-- The timer of a slot is paused (R467). -/
def Device.paused (d : Device) (w : Nat) : Bool := !d.runs w

/-- The generation tag a slot shows (R475). -/
def Device.slotGen (d : Device) (w : Nat) : Nat :=
  if w ≥ 256 then d.selfGen
  else if w % 64 < 25 ∨ 30 ≤ w % 64 then mget 0 d.ras.gens w
  else mget 0 d.ras.gens (domDie (w / 64))

/-- The watchdog period of a slot: as the host set it, else the default of the image in force (R467). -/
def Device.period (d : Device) (w : Nat) : Word :=
  let v := d.reg (mreg 10 (0x1000 + 0x10 * w))
  if v ≠ 0 then v
  else d.cfgCur (if w ≥ 256 ∨ 32 ≤ w % 64 then 13 else if w % 64 < 8 then 8 else if w % 64 < 24 then 9 else if w % 64 = 24 then 10
    else if w % 64 < 30 then 11 else 12)

/-! Blocks of a die. -/

def Device.klnView (d : Device) (die off : Nat) : Option Word :=
  if 0x1000 ≤ off ∧ off < 0x2000 then
    let a := (off - 0x1000) / 256
    let o := off % 256
    let ar := d.arr die a
    let ps := (List.range 4).map (d.part die a)
    let loading (p : Nat) : Bool := match ar.load with | some l => l.part == p | none => false
    if o = 0 then
      let cfg := match d.queue (qArr die a 0) with | c :: _ => c.op == 4 | [] => false
      some (wd (ar.pmode * 2 ^ 30 + cfg.toNat * 2 ^ 29 + ofBits (ps.map (·.pend)) * 2 ^ 8 + ofBits (ps.map (fun x => x.faulted.isSome)) * 2 ^ 4 +
        ofBits ((List.range 4).map (fun p => loading p || !(d.part die a p).runs.isEmpty))))
    else if o < 0x14 then
      let p := (o - 4) / 4
      let x := d.part die a p
      some (wd (x.atag.toNat * 2 ^ 31 + x.svalid.toNat * 2 ^ 30 + (loading p).toNat * 2 ^ 29 + (x.active.pois.any id).toNat * 2 ^ 28 +
        d.qLen (qArr die a p) * 2 ^ 24 + d.qHead (qArr die a p) * 2 ^ 12 + x.last))
    else match o with
      | 0x40 => some (half ar.rowcnt false)
      | 0x44 => some (half ar.rowcnt true)
      | 0x48 => some (half ar.waitns false)
      | 0x4C => some (half ar.waitns true)
      | 0x50 => some (wd ar.loadcnt)
      | _ => none
  else if 0x3000 ≤ off ∧ off < 0x3080 then
    let t := d.turn die (2 * ((off - 0x3000) / 16))
    if off % 16 = 0 then
      some (wd (t.en.toNat * 2 ^ 31 + t.src.toNat * 2 ^ 30 + t.tfmt.toNat * 2 ^ 29 + t.pend.isSome.toNat * 2 ^ 28 + t.terr.toNat * 2 ^ 27))
    else
      let ready := (t.w0.stored == 3).toNat + (t.w1.stored == 3).toNat
      let old (i : Nat) : Win := t.win (1 - i)
      let taken := if (old t.take).taken = 3 then 3 else (t.win t.take).taken
      let w := t.win t.fill
      let accepted := if (old t.fill).accepted = 3 ∧ (old t.fill).stored < 3 then 3 else if w.accepted < 3 then w.accepted else 0
      some (wd (t.wcnt * 2 ^ 16 + ready * 2 ^ 14 + taken * 2 ^ 12 + accepted * 2 ^ 10))
  else none

def Device.accView (d : Device) (die off : Nat) : Option Word :=
  if 0x1000 ≤ off ∧ off < 0x3000 then
    let a := (off - 0x1000) / 512
    let c := d.accCnt die a
    match (off - 0x1000) % 512 with
    | 0 => some (wd (ofBits ((List.range 16).map (fun t => (d.tilePend die a t).isSome)) * 2 ^ 16 +
        ofBits ((List.range 16).map (fun t => !d.tileIdle die a t))))
    | 0x10 => some (half c.park false)
    | 0x14 => some (half c.park true)
    | 0x18 => some (half c.fill false)
    | 0x1C => some (half c.fill true)
    | 0x20 => some (half c.holdns false)
    | 0x24 => some (half c.holdns true)
    | _ => none
  else none

/-- DRN registers. DESIGN CHOICE: with several issued drains of a partition, WAITING is that of the oldest. -/
def Device.drnView (d : Device) (die off : Nat) : Option Word :=
  if 0x1000 ≤ off ∧ off < 0x2000 then
    let a := (off - 0x1000) / 256
    match off % 256 with
    | 0 =>
      let waits (p : Nat) : Bool := match d.drains die a p with
        | [] => false
        | r :: _ => decide (r.row < drowsOf r.cmd) && !d.rowReady die a r
      some (wd (ofBits ((List.range 4).map (fun p => !(d.drains die a p).isEmpty)) * 2 ^ 24 + ofBits ((List.range 4).map waits) * 2 ^ 20 +
        ((List.range 4).map (fun p => d.qLen (qDrn die a p) * 16 ^ p)).sum))
    | 0x30 => some (half (d.accCnt die a).drows false)
    | 0x34 => some (half (d.accCnt die a).drows true)
    | _ => none
  else none

def Device.ctlView (d : Device) (die off : Nat) : Option Word :=
  if off = 0 then
    let bits (f : Stream → Bool) : Nat := ofBits ((List.range 8).map (fun s => f (d.stream die s)))
    some (wd (bits (fun s => s.state == .run) * 2 ^ 16 + bits (fun s => s.state == .halted) * 2 ^ 8 +
      ofBits ((List.range 8).map (d.blocked die))))
  else if 0x100 ≤ off ∧ off < 0x300 then
    let s := d.stream die ((off - 0x100) / 64)
    let o := off % 64
    let st := match s.state with | .idle => 0 | .run => 1 | .halted => 2 | .abandoning => 3
    if o = 0xC then some (wd s.head)
    else if o = 0x10 then some (wd s.tail)
    else if o = 0x18 then some (wd (st * 2 ^ 30 + s.hcause * 2 ^ 27 + s.last))
    else if o = 0x1C then some (wd s.hrec)
    else if 0x20 ≤ o ∧ o < 0x30 then some (wordAt s.loops ((o - 0x20) / 4))
    else none
  else if 0x1000 ≤ off ∧ off < 0x1400 then some (wd (d.sync die ((off - 0x1000) / 4)))
  else if 0x2000 ≤ off ∧ off < 0x2200 then
    let m := d.summary die ((off - 0x2000) / 8)
    some (if off % 8 = 0 then m.value else wd (m.valid.toNat * 2 ^ 31 + m.kind * 2 ^ 28))
  else if off = 0xF000 then some (lo32 (d.time die))
  else none

/-- STATE of a channel: 0 idle, 1 run, 2 in a WAIT or FLUSH, 3 without credit, 4 completing. -/
def Device.chanState (d : Device) (die n : Nat) : Nat :=
  match (d.chan die n).prog with
  | none => 0
  | some p =>
    if p.latch.isSome then 4
    else match p.cur with
      | some m => if p.rate ≠ 0 ∧ fld (wordAt m.w 0) 31 28 ≤ 2 ∧ p.credit < (m.geo p).burst m.pos then 3 else 1
      | none =>
        let w0 := d.dmaWord0 p
        if fld w0 31 28 = 4 ∨ (fld w0 31 28 = 5 ∧ bit w0 27) then 2
        else if fld w0 31 26 = 0x19 ∧ p.rate ≠ 0 ∧ p.credit < 4 then 3 else 1

def Device.dmaView (d : Device) (die off : Nat) : Option Word :=
  if off = 0 then some (wd (ofBits ((List.range 32).map (fun n => (d.chan die n).prog.isSome))))
  else if 0x1000 ≤ off ∧ off < 0x1800 then
    let n := (off - 0x1000) / 64
    let o := off % 64
    let ch := d.chan die n
    if o = 0 then
      some (wd (d.chanState die n * 2 ^ 29 + d.qLen (qDma die n) * 2 ^ 26 + (match ch.prog with | some p => p.pc | none => 0) % 256 * 2 ^ 18 +
        (match ch.prog with | some p => p.cmd.seq | none => ch.seq)))
    else if o = 0x18 then some (match ch.prog with | some p => crc32cValue p.crc | none => ch.crc)
    else if o = 0x20 then some (half ch.bytes false)
    else if o = 0x24 then some (half ch.bytes true)
    else if 0x28 ≤ o ∧ o < 0x38 then
      some (wd ((match ch.prog with | some p => p.loops | none => ch.loops).getD ((o - 0x28) / 4) 0))
    else none
  else none

/-- Registers of a die's block that show state; none where the stored value reads. -/
def Device.dieView (d : Device) (die blk off : Nat) : Option Word :=
  match blk with
  | 1 => d.klnView die off
  | 2 => d.accView die off
  | 3 => d.drnView die off
  | 4 =>
    let m := d.mvpOf die
    match off with
    | 0 => some (d.qStat m.run.isSome (qMvp die) 24 m.last)
    | 0x10 => some (half m.waitns false)
    | 0x14 => some (half m.waitns true)
    | _ => none
  | 5 =>
    if off = 0 then some (wd (ofBits ((List.range 16).map (fun w => (d.loopAt die w).isSome))))
    else if 0x1000 ≤ off ∧ off < 0x2000 ∧ off % 256 = 0 then
      let w := (off - 0x1000) / 256
      some (d.qStat (d.loopAt die w).isSome (qVec die w) 24 (mget 0 d.vec.last (die * 16 + w)))
    else none
  | 6 => d.ctlView die off
  | 8 => d.dmaView die off
  | 9 =>
    let s := d.stash die
    match off with
    | 0 => some (wd (s.stopped.toNat * 2 ^ 31 + (!s.moves.isEmpty).toNat * 2 ^ 30 + d.qLen (qSts die) * 2 ^ 24 + d.qHead (qSts die) * 2 ^ 12 + s.last))
    | 0x30 => some (wd (d.stashAvail die))
    | 0x34 => some (wd s.resv)
    | _ => none
  | 10 => if off = 0 then some (d.qStat false (qTrs die) 24 (mget 0 d.train.last die)) else none
  | 12 => if off = 0 then some (d.qStat (d.colOf die).run.isSome (qCol die) 24 (d.colOf die).last) else none
  | _ => none

/-! Blocks of the module. -/

/-- The directory entry of an index: its segment and frame (R246, R260). -/
def Device.dirAt (d : Device) (i : Nat) : Option (Nat × Nat) :=
  ((List.range 5).foldl (fun (x : Nat × Option (Nat × Nat)) g =>
    let n := (d.seg g).n
    (x.1 + n, if x.2.isNone && decide (x.1 ≤ i ∧ i < x.1 + n) then some (g, i - x.1) else x.2)) (0, none)).2

def Device.tierView (d : Device) (off : Nat) : Option Word :=
  if off = 0 then
    some (wd (ofBits ((List.range 5).map (fun g =>
      let s := d.seg g
      s.cur.isSome || !s.runs.isEmpty || !s.moves.isEmpty || !(d.queue (qTier g)).isEmpty))))
  else if 0x10 ≤ off ∧ off < 0x60 then
    let g := (off - 0x10) / 16
    let s := d.seg g
    if off % 16 = 8 then some (wd (s.inval.toNat * 2 ^ 31 + (s.n - (d.raised g).length) * 2 ^ 16 + s.n))
    else if off % 16 = 12 then
      let head := match s.cur with | some r => r.cmd.seq | none => d.qHead (qTier g)
      some (wd (d.qLen (qTier g) * 2 ^ 24 + head * 2 ^ 12 + s.last))
    else none
  else if 0x104 ≤ off ∧ off ≤ 0x10C then
    match d.dirAt (fld (d.reg (mreg 0 0x100)) 13 0) with
    | none => some 0
    | some (g, f) => match d.ent g f with
      | none => some (if off = 0x104 then wd (g * 2 ^ 26 + f * 2 ^ 10) else 0)
      | some e =>
        if off = 0x104 then
          some (wd (2 ^ 31 + e.filling.toNat * 2 ^ 30 + (!d.pinMet e).toNat * 2 ^ 29 + g * 2 ^ 26 + f * 2 ^ 10 + e.oid))
        else if off = 0x108 then some (wd e.tile)
        else some (wd e.age)
  else if off = 0x118 then
    let t := fld (d.reg (mreg 0 0x110)) 24 0
    let o := fld (d.reg (mreg 0 0x114)) 9 0
    match (List.range 5).findSome? (fun g => (d.findTile g o t).map (fun x => (g, x))) with
    | none => some 0
    | some (g, f, e) => some (wd (2 ^ 31 + e.filling.toNat * 2 ^ 30 + g * 2 ^ 14 + f))
  else if 0x124 ≤ off ∧ off < 0x134 then
    match d.tierObj (fld (d.reg (mreg 0 0x120)) 9 0) with
    | none => some 0
    | some o => some (wordAt o.w ((off - 0x124) / 4))
  else if off = 0x140 then some (half d.tier.moved false)
  else if off = 0x144 then some (half d.tier.moved true)
  else none

def Device.fabView (d : Device) (off : Nat) : Option Word :=
  if 0x1000 ≤ off ∧ off < 0x2000 then
    let x := d.port ((off - 0x1000) / 256)
    match off % 256 with
    | 8 => some (wd (x.state * 2 ^ 29 + x.clamped.toNat * 2 ^ 28 + x.dup.toNat * 2 ^ 27 + x.tries * 2 ^ 24 + x.replays * 2 ^ 20 + x.lock * 2 ^ 12 + x.replay.length))
    | 0xC => some x.peer.word
    | 0x20 => some (wd x.rtt)
    | _ => none
  else none

/-- A word of RTE_PAXIS as it reads: a port's reserved axis 6 or 7 reads as none (R381). -/
def axisWord (w : Word) : Word :=
  wd ((List.range 8).map (fun p => let n := fld w (4 * p + 3) (4 * p); (if n ≥ 12 then n % 2 else n) * 16 ^ p)).sum

def Device.rteView (d : Device) (off : Nat) : Option Word :=
  let e := d.route (fld (d.reg (rteReg 0x10)) 14 0)
  match off with
  | 0xC => some (wd d.maxHop)
  | 0x30 => some (axisWord (d.reg (rteReg 0x30)))
  | 0x34 => some (axisWord (d.reg (rteReg 0x34)))
  | 0x18 => some (wd e.pm)
  | 0x1C => some (wd (e.valid.toNat * 2 ^ 31 + e.lgen * 2 ^ 16 + e.dl))
  | 0x2C => some (wd d.fab.tags.length)
  | _ => none

def Device.rasView (d : Device) (off : Nat) : Option Word :=
  let r := d.ras
  if off = 0 then some (match r.snapw with | some w => wd (2 ^ 31 + w * 2 ^ 22 + r.pend.length) | none => 0)
  else if off = 0x24 then
    some (match r.run with
      | some x => wd (2 ^ 31 + x.level * 2 ^ 29 + (!r.queue.isEmpty).toNat * 2 ^ 28 + x.target)
      | none => 0)
  else if off = 0x3C then some (wd r.dseq)
  else if 0x60 ≤ off ∧ off < 0x70 then some (wd (mget 0 r.gens (domDie ((off - 0x60) / 4))))
  else if 0x1000 ≤ off then
    let w := (off - 0x1000) / 16
    if !slotOk w then some 0
    else match off % 16 with
      | 0 => some (d.period w)
      | 4 => some (wd ((mget false r.fired w).toNat * 2 ^ 31 + (d.armed w).toNat * 2 ^ 30 + (d.paused w).toNat * 2 ^ 29 + d.slotGen w * 2 ^ 16))
      | 8 => some (wd (mget 0 r.prog w))
      | _ => some 0
  else none

/-- Registers of a module block that show state; none where the stored value reads. -/
def Device.modView (d : Device) (blk off : Nat) : Option Word :=
  match blk with
  | 0 => d.tierView off
  | 1 =>
    if off = 0 then some (wd (ofBits ((List.range 8).map (fun s => (d.slipStack s).run.isSome))))
    else if 0x1000 ≤ off ∧ off < 0x1800 ∧ off % 256 = 0 then
      let s := (off - 0x1000) / 256
      some (d.qStat (d.slipStack s).run.isSome (qSlp s) 24 (d.slipStack s).last)
    else none
  | 2 =>
    if off = 8 then some (d.qStat d.train.mupd.isSome qMupd 24 d.train.mlast)
    else if 0x1000 ≤ off ∧ off < 0x1200 ∧ off % 64 = 0 then
      some (wd ((d.pwr.state == .ready).toNat * 2 ^ 31 + (mget {} d.tier.scrub ((off - 0x1000) / 64) : Scrub).on.toNat * 2 ^ 30))
    else none
  | 3 => d.fabView off
  | 4 => d.rteView off
  | 8 => if off = 0x14 then some (d.flashWord (4 * fld (d.reg (secReg 0x10)) 23 0)) else none
  | 6 =>
    let busy (lo n : Nat) : Nat := ofBits ((rangeFrom lo n).map (fun k => match d.ing.job with
      | some j => j.samps.any (fun s => s.dec == k && s.stage != .ended)
      | none => false))
    match off with
    | 0 => some (wd (d.ing.job.isSome.toNat * 2 ^ 31 + d.ing.stopped.toNat * 2 ^ 30 + d.qLen qIng * 2 ^ 24 + d.qHead qIng * 2 ^ 12 + d.ing.last))
    | 0x30 => some (wd (busy 0 32))
    | 0x34 => some (wd (busy 32 16))
    | _ => none
  | 10 => d.rasView off
  | 11 => if off = 0 then
      some (wd (d.pwr.clamp.isSome.toNat * 2 ^ 31 + ofBits ((List.range 4).map (fun die => mget false d.pwr.held die)) * 2 ^ 27))
    else none
  | _ => none

/-- A register as it reads; an offset that no table lists reads 0 (R12), and so does a write-only register. -/
def Device.readReg (d : Device) (key : Nat) : Word :=
  match findReg key with
  | none => 0
  | some r =>
    if r.acc = .wo then 0
    else
      let own := key / 2 ^ 20
      let blk := key / 2 ^ 16 % 16
      let off := key % 2 ^ 16
      ((if own = 8 then d.modView blk off else d.dieView own blk off)).getD (d.reg key)

end Sys2Proof.Machine
end

