-- ==== Sys2Proof/Machine/Ras.lean ====
section
/-! DEFINITION. Hangs, the dump path, resets, the management core's watchdog, repairs and step aborts (R464 to R491). -/

namespace Sys2Proof.Machine

def rasReg (off : Nat) : Nat := mreg 10 off

/-! Hangs and the snapshot (R465 to R469). -/

/-- The unit of a slot. -/
def slotUnit (w : Nat) : Nat :=
  let die := w / 64
  let i := w % 64
  if w ≥ 256 then (if i < 5 then segOwner i else if i = 5 then uModule else uMrdAll)
  else if i < 8 then uPair die i
  else if i < 24 then uCluster die (i - 8)
  else if i = 24 then uDma die
  else if i = 25 then uCtl die
  else if i < 30 then uDie die
  else if i < 32 then uStack (2 * die + i - 30)
  else uPort (4 * die + i - 32)

/-- Every unit latches its shadow state for slot w. -/
def State.latch (s : State) (w : Nat) : State :=
  { s with snap := some s.dev, dev := { s.dev with ras.snapw := some w } }

/-- The level of the smallest domain that encloses a slot (R475). -/
def slotLevel (w : Nat) : Nat := if w ≥ 256 then 2 else if 25 ≤ w % 64 ∧ w % 64 < 30 then 1 else 0

/-- What Synian decides of a slot that fires (R480): it owes it a reset of its smallest domain, of the next enclosing one where it fires again
within 1 s of the end of the reset that handled its last hang, and none, with SERVICE_ADVISED, within 1 s of the end of a module reset. -/
def Device.judgeHang (d : Device) (w : Nat) : Device :=
  let owe (l : Nat) : Device := { d with ras.owed := mset none d.ras.owed w (some l) }
  if d.ras.stopped.contains w then d
  else match mget none d.ras.hung w with
    | none => owe (slotLevel w)
    | some (l, t) =>
      if t + 10 ^ 9 < d.time 0 then owe (slotLevel w)
      else if l = 2 then ({ d with ras.stopped := sinsert w d.ras.stopped }).advise 2 uModule w
      else owe (max (slotLevel w) (l + 1))

/-- A slot fires: FIRED and the event, and what Synian decides. -/
def Device.fire (d : Device) (w : Nat) : Device :=
  ((({ d with ras.fired := mset false d.ras.fired w true }).disarmSlots (fun v => v == w)).post 0x0A01 (slotUnit w)
    (wd (w * 2 ^ 23 + mget 0 d.ras.prog w % 2 ^ 16))).judgeHang w

/-- The timer of a slot: it starts anew with each event of progress. -/
def Device.hangTimer (d : Device) (w : Nat) : Timer := .hang w (mget 0 d.ras.prog w)

/-- Slots whose timer runs (R466, R467). -/
def Device.hangTimers (d : Device) : List Timer :=
  ((List.range 263).filter (fun w => slotOk w && d.armed w && !d.paused w && !mget false d.ras.fired w)).map d.hangTimer

/-- HANG (R467 to R469): the timer of an armed slot that is neither paused nor fired reaches its period. -/
def stHang (w : Nat) (s : State) : State :=
  let d := s.dev
  if !slotOk w ∨ !d.armed w ∨ mget false d.ras.fired w ∨ d.paused w ∨ !d.expired (d.hangTimer w) (1000 * (d.period w).toNat) then s
  else
    let s := { s with dev := d.fire w }
    match d.ras.snapw with
    | none => s.latch w
    | some _ => { s with dev := { s.dev with ras.pend := sinsert w s.dev.ras.pend } }

/-! Shadow state (R470, R471). -/

/-- Commands of some queues, in order, as 16 words each. -/
def Device.queueWords (d : Device) (hdr : Bool) (qs : List Nat) : List Word :=
  qs.flatMap (fun q => (d.queue q).flatMap (fun c =>
    if hdr then (List.range 8).map (wordAt c.hdr) ++ (List.range 8).map c.word else (List.range 8).map c.word ++ List.replicate 8 0))

/-- What a unit's block holds: the register offsets that belong to it (owner, first and end of each stretch), its queue words, and state
that no register shows, which the model puts at byte offset 0x4000 on (DESIGN CHOICE: the spec gives it no index). -/
structure Shadow where
  own : Nat := 8
  at_ : List (Nat × Nat) := []
  q   : List Word := []
  more : List Word := []

/-- KIND and FMT of the objects of a stash by handle, at their places in W3, with bit 31 where there is one (R165). -/
def Device.stashWords (d : Device) (die : Nat) : List Word :=
  (List.range 4096).map (fun h => match mget none (d.stash die).objs h with
    | some o => wd (2 ^ 31 + o.kind * 2 ^ 17 + o.fmt * 2 ^ 13)
    | none => 0)

/-- The state of R210 of a channel: SOFF, DOFF, SCOFF, DCOFF, WOFF and the rate credit, each in two words. -/
def Device.chanWords (d : Device) (die n : Nat) : List Word :=
  match (d.chan die n).prog with
  | some p => [p.soff, p.doff, p.scoff, p.dcoff, p.woff, p.credit].flatMap (fun v => [lo32 v, hi32 v])
  | none => []

/-- Offsets of a die's block, and of a module block, that are windows of smaller units: arrays and pairs, clusters, channels; stacks and
ports. -/
def dieWindows : Nat → List (Nat × Nat)
  | 1 => [(0x1000, 0x2000), (0x3000, 0x3080)]
  | 2 => [(0x1000, 0x3000)]
  | 3 => [(0x1000, 0x2000)]
  | 5 => [(0x1000, 0x2000)]
  | 8 => [(0x1000, 0x1800)]
  | _ => []

def moduleWindows : Nat → List (Nat × Nat)
  | 1 => [(0x1000, 0x1800)]
  | 3 => [(0x1000, 0x2000)]
  | _ => []

/-- What is left of a block's register space between windows in rising order. -/
def gaps (lo : Nat) : List (Nat × Nat) → List (Nat × Nat)
  | [] => [(lo, 0x10000)]
  | (a, b) :: l => (lo, a) :: gaps b l

/-- The shadow registers and queue of a unit's block (R470). -/
def Device.shadowOf (d : Device) (unit blk : Nat) : Shadow :=
  let i0 := unit / 2 ^ 23 % 32
  let sub := unit / 2 ^ 20 % 8
  let i1 := unit / 2 ^ 12 % 256
  let i2 := unit % 2 ^ 12
  let win (base size n : Nat) : List (Nat × Nat) := [(base + size * n, base + size * (n + 1))]
  match unit / 2 ^ 28 with
  | 0 =>
    let q := match blk with
      | 0 => d.queueWords true ((List.range 5).map qTier)
      | 2 => d.queueWords true [qMupd]
      | 6 => d.queueWords true [qIng]
      | _ => []
    { at_ := gaps 0 (moduleWindows blk), q := q }
  | 1 =>
    match sub with
    | 0 =>
      let q := match blk with
        | 4 => d.queueWords true [qMvp i0]
        | 9 => d.queueWords true [qSts i0]
        | 10 => d.queueWords true [qTrs i0]
        | 12 => d.queueWords true [qCol i0]
        | _ => []
      { own := i0, at_ := gaps 0 (dieWindows blk), q := q, more := if blk = 9 then d.stashWords i0 else [] }
    | 1 =>
      if i2 = 0xFFE then (if blk = 1 then { own := i0, at_ := win 0x3000 16 i1 } else {})
      else
        let a := 2 * i1 + i2
        match blk with
        | 1 => { own := i0, at_ := win 0x1000 256 a, q := d.queueWords false ((List.range 4).map (qArr i0 a)) }
        | 2 => { own := i0, at_ := win 0x1000 512 a }
        | 3 => { own := i0, at_ := win 0x1000 256 a, q := d.queueWords false ((List.range 4).map (qDrn i0 a)) }
        | _ => {}
    | 2 =>
      if blk = 5 ∧ i2 = 0xFFE then { own := i0, at_ := win 0x1000 256 i1, q := d.queueWords true [qVec i0 i1] } else {}
    | 4 => if blk = 8 then { own := i0, at_ := win 0x1000 64 i1, q := d.queueWords true [qDma i0 i1], more := d.chanWords i0 i1 } else {}
    | _ => {}
  | 2 => if sub = 0 ∧ blk = 1 then { at_ := win 0x1000 256 i0, q := d.queueWords true [qSlp i0] } else {}
  | 4 => if blk = 3 then { at_ := win 0x1000 256 i0 } else {}
  | _ => {}

/-- Words of a scalar core: x0 to x31, pc, element. -/
def Device.coreWord (d : Device) (die w c i : Nat) : Word :=
  match d.loopAt die w with
  | none => 0
  | some (_, l) => match l.laneOf w c with
    | none => 0
    | some n =>
      if i < 32 then mget 0 (l.lane n).x i
      else if i = 32 then wd (l.lane n).pc else if i = 33 then wd (l.iter * l.vl + n) else 0

/-- Words U0 to U7 of a near-bank unit. -/
def Device.unitWord (d : Device) (s u i : Nat) : Word :=
  match (d.slipStack s).run with
  | none => 0
  | some r => match r.mem u with
    | none => 0
    | some m => wordAt (slipRecord r.cmd m 0 0) i

/-- The shadow word of a unit at an index; one that names nothing reads 0. -/
def Device.shadowWord (d : Device) (unit idx : Nat) : Word :=
  let blk := idx / 2 ^ 16 % 16
  let i0 := unit / 2 ^ 23 % 32
  let sub := unit / 2 ^ 20 % 8
  let i1 := unit / 2 ^ 12 % 256
  let i2 := unit % 2 ^ 12
  let root := unit / 2 ^ 28
  if root = 1 ∧ sub = 2 ∧ i2 < 128 then (if blk = 5 ∧ idx / 2 ^ 15 % 2 = 0 then d.coreWord i0 i1 i2 (idx % 2 ^ 14) else 0)
  else if root = 2 ∧ sub = 1 then (if blk = 1 ∧ idx / 2 ^ 15 % 2 = 0 then d.unitWord i0 (i1 * 16 + i2) (idx % 2 ^ 14) else 0)
  else
    let x := d.shadowOf unit blk
    if idx / 2 ^ 15 % 2 = 1 then wordAt x.q (idx % 2 ^ 15)
    else
      let off := idx % 2 ^ 14 * 4
      if 0x4000 ≤ off ∧ off < 0x4000 + 4 * x.more.length then wordAt x.more ((off - 0x4000) / 4)
      else if x.at_.any (fun r => decide (r.1 ≤ off ∧ off < r.2)) then d.readReg (regKey x.own blk off) else 0

/-- SHADOW_READ (R471): GO, of the unit and index as they stand; ignored while BUSY. -/
def devShadowRead (d : Device) : Device :=
  if d.ras.sgBusy then d
  else ({ d.disarm .noresp with
    ras.sgBusy := true
    ras.sgUnit := (d.reg (rasReg 8)).toNat
    ras.sgIdx := fld (d.reg (rasReg 0xC)) 19 0 }).setReg (rasReg 0x14) (wd (2 ^ 31))

/-- SHADOW_WORD_READY (R471): the word, and the index one higher. With no snapshot latched yet the word is open. -/
def stShadowWordReady (s : State) : State :=
  let d := s.dev
  if !d.ras.sgBusy then s
  else
    let (v, d) := match s.snap with
      | some x => (x.shadowWord d.ras.sgUnit d.ras.sgIdx, d)
      | none => (d.freeWord, d.drawn)
    let d := ({ d with ras.sgBusy := false }).setReg (rasReg 0x14) (wd (2 ^ 30))
    { s with dev := (d.setReg (rasReg 0x18) v).setReg (rasReg 0xC) (wd ((d.ras.sgIdx + 1) % 2 ^ 20)) }

/-- NORESP (R472): no answer within 100 µs of GO. -/
def devNoresp (d : Device) : Device :=
  if !d.ras.sgBusy ∨ !d.expired .noresp 100000 then d
  else
    let unit := d.ras.sgUnit
    let d := ({ d with ras.sgBusy := false, ras.noresp := sinsert unit d.ras.noresp }).setReg (rasReg 0x14) (wd (2 ^ 29))
    d.post 0x0A02 unit (wd (d.ras.dseq + 1))

/-! Dumps (R473, R474). -/

/-- Bytes of the dump buffer; 0 where no dump may be written. -/
def Device.dumpRoom (d : Device) : Nat :=
  let hi := d.reg (rasReg 0x34)
  let base := join (d.reg (rasReg 0x30)) (wd (fld hi 19 0))
  let n := fld (d.reg (rasReg 0x38)) 15 0 * 65536
  if bit hi 31 && base % 65536 == 0 && [4, 8].contains (regionOf base) && d.rangeOk base n then n else 0

def Device.dumpBase (d : Device) : Nat := join (d.reg (rasReg 0x30)) (wd (fld (d.reg (rasReg 0x34)) 19 0))

/-- A section (R474): S0 to S3 and the shadow words of a unit from an index on, padded to 16 bytes; none of a unit recorded NORESP. -/
def sectionBytes (x : Device) (noresp : Bool) (unit index n : Nat) : List Byte :=
  let n := if noresp then 0 else n
  wordsToBytes [wd unit, wd (noresp.toNat * 2 ^ 28), wd (4 * n), wd (index % 2 ^ 20)] ++
    wordsToBytes ((rangeFrom index n).map (x.shadowWord unit)) ++ List.replicate (12 * n % 16) 0

/-- The sections that fit so many bytes, in order: one that does not fit is left out (R473). -/
def fitSections (room : Nat) : List (List Byte) → List (List Byte)
  | [] => []
  | s :: l => if s.length ≤ room then s :: fitSections (room - s.length) l else fitSections room l

/-- A dump: the header of R474, then the sections. `x` is the module at the latch. -/
def dumpBytes (x : Device) (w dseq : Nat) (trunc : Bool) (sections : List (List Byte)) : List Byte :=
  let body := sections.flatten
  let hdr : List Word := [0x50444B48, 1, wd dseq, wd (x.selfGen * 2 ^ 16 + w), lo32 (x.time 0), hi32 (x.time 0), wd sections.length,
    wd (64 + body.length), wd trunc.toNat, 0, 0, 0, 0, 0, 0]
  let crc := crc32c (wordsToBytes (hdr ++ [0]) ++ body)
  wordsToBytes (hdr ++ [crc]) ++ body

/-- The sections of the held snapshot that Synian chooses, each by its unit, first index and number of words, as far as its staging area of
16 MiB holds them. -/
def State.collected (s : State) (units first words : List Nat) : List (List Byte) :=
  fitSections (2 ^ 24) ((units.zip (first.zip words)).map (fun u =>
    sectionBytes (s.snap.getD s.dev) (s.dev.ras.noresp.contains u.1) u.1 u.2.1 u.2.2))

/-! Reset requests (R475 to R477). -/

/-- Whether slot w lies in a reset's domain. -/
def Reset.holds (r : Reset) (w : Nat) : Bool :=
  match r.level with
  | 0 => w == r.target
  | 1 => w < 256 && w / 64 == r.target
  | _ => true

/-- Whether a reset's domain equals or encloses another's. -/
def Reset.encloses (a b : Reset) : Bool :=
  if a.level = 2 then true
  else if a.level = 1 then (b.level == 1 && b.target == a.target) || (b.level == 0 && b.target / 64 == a.target)
  else b.level == 0 && b.target == a.target

/-- The key of a domain. -/
def Reset.key (r : Reset) : Nat := match r.level with | 0 => r.target | 1 => domDie r.target | _ => domModule

/-- A reset starts: BUSY, its domain is fenced and its watchdog timers pause; a module reset takes READY away (R414). -/
def Device.startReset (d : Device) (r : Reset) : Device :=
  let d := ({ d with ras.run := some r, ras.fence := sinsert r.key d.ras.fence }).disarmSlots r.holds
  if r.level = 2 then d.setReg (hifReg 0) (setBit (d.reg (hifReg 0)) 31 false) else d

/-- A request is merged, started or queued. -/
def Device.requestReset (d : Device) (r : Reset) : Device :=
  match d.ras.run with
  | none => d.startReset r
  | some x => if (x :: d.ras.queue).any (fun y => y.encloses r) then d else { d with ras.queue := d.ras.queue ++ [r] }

/-- The domain of a level that holds a slot, as Synian asks for it. -/
def resetOf (w level : Nat) : Reset :=
  { level := level, target := if level = 0 then w else if level = 1 then w / 64 else 0, src := .synian }

/-- The reset that Synian still owes the slot of the snapshot is requested (R480); a reset that held the slot and has ended took it away. -/
def Device.payReset (d : Device) (w : Nat) : Device :=
  match mget none d.ras.owed w with
  | some l => ({ d with ras.owed := mset none d.ras.owed w none }).requestReset (resetOf w l)
  | none => { d with ras.noresp := [] }

/-- RELEASE (R469, R473): the dump of the snapshot is written where the buffer allows it, the snapshot is released, and with slots pending a
new one is latched for the lowest of them. DESIGN CHOICE: a reset that Synian owes the slot and nobody has asked for yet is requested
here, after the dump; the units found silent count until it ends. -/
def stRelease (units first words : List Nat) (s : State) : State :=
  let d := s.dev
  match d.ras.snapw with
  | none => s
  | some w =>
    let room := d.dumpRoom
    let dseq := (d.ras.dseq + 1) % 2 ^ 32
    let l := if room = 0 then [] else fitSections (room - 64) (s.collected units first words)
    let trunc := room == 0 || l.length != (units.zip (first.zip words)).length
    let d := if room = 0 then d else d.write d.dumpBase (clean (dumpBytes (s.snap.getD d) w dseq trunc l))
    let d := (({ d with ras.dseq := dseq, ras.snapw := none }).payReset w).post 0x0A08 uMgmt
      (wd (dseq % 2 ^ 16 * 2 ^ 16 + trunc.toNat * 2 ^ 15 + l.length % 2 ^ 15))
    match d.ras.pend with
    | [] => { s with dev := d }
    | v :: l => { s with dev := { d with ras.pend := l } }.latch v

/-- GROUP_RESET (R476, R477): a slot that is no level-0 group is ignored. -/
def devGroupReset (w : Nat) (d : Device) : Device :=
  if !slotOk w ∨ w ≥ 256 ∨ (25 ≤ w % 64 ∧ w % 64 < 30) then d else d.requestReset { level := 0, target := w, src := .synian }

/-- DIE_RESET (R476, R477); the management core's watchdog asks for the module only. -/
def devDieReset (src : ResetSource) (die : Nat) (d : Device) : Device :=
  match src with
  | .watchdog => d
  | .host => if d.hostOpen then d.requestReset { level := 1, target := die, src := .host } else d.barShut
  | .synian => d.requestReset { level := 1, target := die, src := .synian }

/-- MODULE_RESET (R476, R477). -/
def devModuleReset (src : ResetSource) (d : Device) : Device :=
  if src = .host ∧ !d.hostOpen then d.barShut else d.requestReset { level := 2, target := 0, src := src }

/-! Steps 3 and 4: units stop, and their commands complete (R476, R19). -/

/-- The status of an issued, incomplete command of slot w: FAULT or NORESP where the slot fired, else STALE. -/
def Device.stopStatus (d : Device) (w unit : Nat) : Nat :=
  if mget false d.ras.fired w then (if d.ras.noresp.contains unit then stNoresp else stFault) else stStale

/-- An issued command of slot w completes. -/
def Device.stopCmd (d : Device) (w : Nat) (c : Cmd) : Device := d.finish c (d.stopStatus w c.unit)

def Device.stopCmds (d : Device) (w : Nat) (l : List Cmd) : Device := l.foldl (fun d c => d.stopCmd w c) d

/-- Queued commands complete with STALE, their unit's registers left as the reset leaves them. -/
def Device.stopQueue (d : Device) (q : Nat) : Device := (d.queue q).foldl (fun d c => d.endUnrun q c stStale) (d.setQueue q [])

/-- An array pair. -/
def Device.stopPair (d : Device) (die pr : Nat) : Device :=
  let w := 64 * die + pr
  [2 * pr, 2 * pr + 1].foldl (fun d a =>
    let loads := match (d.arr die a).load with | some l => [l.cmd] | none => []
    let runs := (List.range 4).flatMap (fun p => (d.part die a p).runs.map (·.cmd) ++ (d.drains die a p).map (·.cmd))
    let d := { d with kiln := { d.kiln with
      arrs := mset {} d.kiln.arrs (arrIx die a) {}
      cnts := mset {} d.kiln.cnts (arrIx die a) {}
      turns := mset {} d.kiln.turns (pairIx die a) {}
      parts := d.kiln.parts.filter (fun x => x.1 / 4 != arrIx die a)
      drains := d.kiln.drains.filter (fun x => x.1 / 4 != arrIx die a)
      tiles := d.kiln.tiles.filter (fun x => x.1 / 16 != arrIx die a)
      tpend := d.kiln.tpend.filter (fun x => x.1 / 16 != arrIx die a)
      quarts := d.kiln.quarts.filter (fun x => x.1 / 16384 != arrIx die a) } }
    let d := (d.clearRegs (dreg die 1 (0x1000 + 256 * a)) (dreg die 1 (0x1100 + 256 * a))).clearRegs (dreg die 2 (0x1000 + 512 * a))
      (dreg die 2 (0x1200 + 512 * a))
    let d := (d.clearRegs (dreg die 3 (0x1000 + 256 * a)) (dreg die 3 (0x1100 + 256 * a))).clearRegs (dreg die 1 (0x3000 + 16 * pr))
      (dreg die 1 (0x3010 + 16 * pr))
    let d := d.stopCmds w (loads ++ runs)
    (List.range 4).foldl (fun d p => (d.stopQueue (qArr die a p)).stopQueue (qDrn die a p)) d) d

/-- The status with which a core of a loop that stops ends: a core is recorded NORESP with its cluster, or alone. -/
def Device.coreStatus (d : Device) (r : Reset) (die v c : Nat) : Nat :=
  let w := wCluster die v
  if !r.holds w then stStale else max (d.stopStatus w (uCluster die v)) (d.stopStatus w (uCore die v c))

/-- The cores of a cluster end, those of each status together. -/
def Device.stopCores (d : Device) (r : Reset) (die v cid : Nat) (cores : List Nat) : Device :=
  [stStale, stFault, stNoresp].foldl (fun x st =>
    match cores.filter (fun c => d.coreStatus r die v c == st) with
    | [] => x
    | c :: l => x.completePart cid (l.length + 1) st (l.length + 1) (uCore die v c)) d

/-- A running loop that needs a cluster in reset ends on all its clusters, its summaries invalid (R205). -/
def Device.stopLoop (d : Device) (r : Reset) (key : Nat) (l : VLoop) : Device :=
  let die := key / 16
  let d := (d.writeSummaries die l false).setLoop key none
  l.group.foldl (fun d v =>
    let d := if r.holds (wCluster die v) then d else d.noteLast (qVec die v) l.cmd.seq
    d.stopCores r die v l.cmd.cid (match l.core with | some c => [c] | none => List.range 128)) d

/-- A cluster; a loop queued for it leaves every queue it waits in. -/
def Device.stopCluster (d : Device) (r : Reset) (die c : Nat) : Device :=
  let d := match d.loopAt die c with
    | some (key, l) => d.stopLoop r key l
    | none => d
  let cids := (d.queue (qVec die c)).map (·.cid)
  let d := (List.range 16).foldl (fun d v =>
    let q := qVec die v
    let out := (d.queue q).filter (fun k => cids.contains k.cid)
    out.foldl (fun d k => if r.holds (wCluster die v) then d.endUnrun q k stStale else d.endQueued q k stStale)
      (d.setQueue q ((d.queue q).filter (fun k => !cids.contains k.cid)))) d
  ({ d with vec.last := mset 0 d.vec.last (die * 16 + c) 0 }).clearRegs (vecWin die c 0) (vecWin die c 0x100)

/-- The DMA engine of a die: writes that have left it still arrive (R236). -/
def Device.stopDma (d : Device) (die : Nat) : Device :=
  let d := (List.range 32).foldl (fun d n =>
    let ch := d.chan die n
    let d := d.setChan die n { writes := ch.writes.filter (fun v => v.data.isSome), nextWr := ch.nextWr }
    let d := match ch.prog with
      | some p => d.stopCmd (wDma die) p.cmd
      | none => d
    d.stopQueue (qDma die n)) d
  d.clearRegs (dreg die 8 0) (dreg die 9 0)

/-- A member that a reset stops: FAULT with CAUSE 0 after a step, else STALE; a fired slot decides otherwise (R291, R476). -/
def Device.stopMember (d : Device) (s u : Nat) (r : SlipRun) (m : SlipMem) : Device :=
  let unit := uBank s (u / 16) (u % 16)
  let st := if mget false d.ras.fired (wStack s) then d.stopStatus (wStack s) unit else if m.steps = 0 then stStale else stFault
  let d := d.slipStatus r.cmd (r.rank u) m st 0
  d.completePart r.cmd.cid 1 st 1 unit

/-- The near-bank units of a stack. -/
def Device.stopStack (d : Device) (s : Nat) : Device :=
  let run := (d.slipStack s).run
  let d := d.setSlipStack s {}
  let d : Device := match run with
    | some r =>
      let d := match r.firstPois with
        | some v => d.post 0x0410 (uBank s (v / 16) (v % 16)) 0
        | none => d
      (r.mems.filter (fun x => !x.2.done)).foldl (fun d x => d.stopMember s x.1 r x.2) d
    | none => d
  let d := (d.stopQueue (qSlp s)).clearRegs (mreg 1 (0x1000 + 256 * s)) (mreg 1 (0x1100 + 256 * s))
  { d with core.cePost := mset false d.core.cePost (slpReg s 0xC) false }

/-- A port: packets that have not begun to leave are discarded (R377). -/
def Device.stopPort (d : Device) (p : Nat) : Device := d.setPort p { d.port p with txq := [] }

/-- Moves that a reset of a die abandons (R258), at most n of them. -/
def Device.dropMoves (d : Device) (die g : Nat) : Nat → Device
  | 0 => d
  | n + 1 =>
    match (d.seg g).moves.findIdx? (fun m => regionOf m.src == die || regionOf m.dst == die) with
    | none => d
    | some k => (d.abandonMove g k).dropMoves die g n

/-- Commands of a segment complete: issued ones by its slot where that lies in the domain, all others with STALE. -/
def Device.stopSeg (d : Device) (inDomain : Bool) (g : Nat) : Device :=
  let s := d.seg g
  let issued := (match s.cur with | some r => [r.cmd] | none => []) ++ s.runs.map (·.cmd)
  let d := d.setSeg g { s with cur := none, runs := [], last := issued.foldl (fun _ c => c.seq) s.last }
  let d := if inDomain then d.stopCmds (wSeg g) issued else issued.foldl (fun d c => d.finish c stStale) d
  (d.queue (qTier g)).foldl (fun d c => d.endQueued (qTier g) c stStale) (d.setQueue (qTier g) [])

/-- Ports that stay, streams that start anew: what a die's reset does to what is not an engine group (R174, R205, R258, R322, R349, R406). -/
def Device.stopDie (d : Device) (die : Nat) : Device :=
  let mv := (d.mvpOf die).run
  let st := (d.stash die).run
  let co := (d.colOf die).run
  let d := d.latchWaits
  let d := { d with
    core.sync := d.core.sync.filter (fun x => x.1 / 256 != die)
    core.grg := d.core.grg.filter (fun x => x.1 != die)
    ctl.streams := d.ctl.streams.filter (fun x => x.1 / 8 != die)
    ctl.sums := d.ctl.sums.filter (fun x => x.1 / 64 != die)
    mvp := d.mvp.filter (fun x => x.1 != die)
    sts := d.sts.filter (fun x => x.1 != die)
    col := d.col.filter (fun x => x.1 != die)
    train.last := d.train.last.filter (fun x => x.1 != die)
    core.opens := d.core.opens.map (fun (p : Nat × Open) => if p.2.die = die then (p.1, { p.2 with live := false }) else p) }
  let d := d.stopCmds (wMvp die) mv.toList
  let d := d.stopCmds (wSts die) st.toList
  let d := d.stopCmds (wCol die) (co.map ColRun.cmd).toList
  [qMvp die, qSts die, qTrs die, qCol die].foldl (fun d q => d.stopQueue q) d

/-- Registers of a die but its monitors' and its local time counter's (R475), with the RWS registers kept or not (R479). -/
def Device.clearDie (d : Device) (die : Nat) (rws : Bool) : Device :=
  let keep (k : Nat) : Bool := k == dreg die 6 0xF004 || !rws && [dreg die 10 4, dreg die 10 8, dreg die 10 0xC, dreg die 10 0x10, dreg die 12 8].contains k
  { d with core.regs := d.core.regs.filter (fun x => !(dreg die 0 0 ≤ x.1 && x.1 < dreg die 13 0) || keep x.1) }

/-- Samples on the decoders of a die restart (R349). -/
def Device.giveUpDecodes (d : Device) (die : Nat) : Device :=
  match d.ing.job with
  | none => d
  | some j =>
    let lost (x : Sample) : Bool := x.dec / 12 == die && x.stage != .ended
    { d with ing.job := some ((j.samps.filter lost).foldl (fun j x => j.again x x.failed) j) }

/-- Every unit of a die. -/
def Device.resetDie (d : Device) (r : Reset) (die : Nat) (rws : Bool) : Device :=
  let d := (List.range 8).foldl (fun d p => d.stopPair die p) d
  let d := (List.range 16).foldl (fun d c => d.stopCluster r die c) d
  let d := d.stopDma die
  let d := [2 * die, 2 * die + 1].foldl (fun d s => d.stopStack s) d
  (d.stopDie die).clearDie die rws

/-- The collective that a die reset leaves open on other modules (R406): the router's ABORT packets, then R404. -/
def Device.colDieReset (d : Device) (co : Option ColRun) : Device :=
  match co with
  | none => d
  | some r =>
    if d.colHeld r.step.toNat r.try_ then d
    else (d.stepAbort r.step r.try_ 6 d.selfMod none).sendAborts none r 6 d.selfMod

/-- A repair whose read a module reset ends: RESULT 2. -/
def Device.repairCut (d : Device) : Device :=
  match d.ras.repair with
  | some r => if r.result = 0 then { d with ras.repair := some { r with result := 2 } } else d
  | none => d

/-- Requests of the host that a bank still holds when a module reset drops what it holds end as later ones do: the MSI-X table is served, reads of
BAR0 and BAR4 return ones, writes are discarded (R414, R418). -/
def Device.answerHeld (d : Device) : Device :=
  d.slip.held.foldl (fun d h => match h.what with
    | .cmd (.apertureAccess false _ _ len _) => d.barShutRead len
    | .cmd (.msixTableAccess write off width v poison) => devMsixTableAccess write off width v poison d
    | .cmd (.ctlLtcLoRead _ r) => d.barShutRead (if r.wide then 8 else 4)
    | .cmd .secFldataRead => d.barShutRead 4
    | _ => d) d

/-- The module's own units (R259, R303, R349, R377, R414, R479). -/
def Device.resetModule (d : Device) : Device :=
  let segs := List.range 5
  let d := (segs.foldl (fun d g => d.stopSeg true g) d).answerHeld
  let mu := d.train.mupd
  let jo := d.ing.job
  let d := { d with tier := {}, train.mupd := none, train.mlast := 0, ing := { rid := d.ing.rid }, slip := {}, fab.tags := [], inj := [], injw := [] }
  let d : Device := match mu with
    | some r => r.mems.foldl (fun d x => d.completePart r.cmd.cid 1 (d.stopStatus wMupd (uMrd x.1)) 1 (uMrd x.1)) d
    | none => d
  let d := match jo with
    | some j => (d.leaveAllOpen j.openSlots).stopCmd wIng j.cmd
    | none => d
  let d := (d.stopQueue qMupd).stopQueue qIng
  let d := (d.clearRegs (mreg 0 0) (mreg 3 0)).clearRegs (mreg 6 0) (mreg 7 0)
  let d := (d.setReg (hifReg 4) 0).clearRegs (rasReg 0x1000) (mreg 11 0)
  let d := (d.clearRegs (pwrReg 0x10) (pwrReg 0x20)).clearRegs (pwrReg 0x30) (pwrReg 0x34)
  ({ d.setReg (pwrReg 0xC8) 0 with core.cePost := [] }).repairCut

/-- Steps 3 to 5 of a reset, but for FIRED and the tag. -/
def Device.resetUnits (d : Device) (r : Reset) : Device :=
  match r.level with
  | 0 =>
    let die := r.target / 64
    let i := r.target % 64
    if i < 8 then d.stopPair die i
    else if i < 24 then d.stopCluster r die (i - 8)
    else if i = 24 then d.stopDma die
    else if i < 32 then d.stopStack (2 * die + i - 30)
    else d.stopPort (4 * die + i - 32)
  | 1 =>
    let die := r.target
    let co := (d.colOf die).run
    let d := d.resetDie r die false
    let d := (rangeFrom (4 * die) 4).foldl (fun d p => d.stopPort p) d
    let d := (d.stopSeg false die).giveUpDecodes die
    let d := (List.range 5).foldl (fun d g => d.dropMoves die g ((d.seg g).moves.length)) d
    let d := d.setSeg die { d.seg die with inval := true }
    d.colDieReset co
  | _ => ((List.range 4).foldl (fun d die => d.resetDie r die true) d).resetModule

/-- The tag of a reset's domain one higher modulo 256 (R476); answers it too. -/
def Device.nextTag (d : Device) (r : Reset) : Device × Nat :=
  if r.level = 2 then
    let g := (d.selfGen + 1) % 256
    (d.setReg (rteReg 0) (setFld (d.reg (rteReg 0)) 31 24 g), g)
  else
    let g := (mget 0 d.ras.gens r.key + 1) % 256
    ({ d with ras.gens := mset 0 d.ras.gens r.key g }, g)

def ResetSource.code : ResetSource → Nat
  | .synian => 0
  | .host => 1
  | .watchdog => 2

/-- The unit a reset's domain is named by. -/
def Reset.unit (r : Reset) : Nat := match r.level with | 0 => slotUnit r.target | 1 => uDie r.target | _ => uModule

/-- What Synian keeps of a reset that has ended (R480): it owes its slots nothing more, and those of its slots that had fired have had their
hang handled by it. A module reset counts for each slot that has ever hung. -/
def Device.settleHangs (d : Device) (r : Reset) : Device :=
  let hit (w : Nat) : Bool := slotOk w && r.holds w && (mget false d.ras.fired w || (r.level == 2 && (mget none d.ras.hung w).isSome))
  { d with
    ras.hung := ((List.range 263).filter hit).foldl (fun m w => mset none m w (some (r.level, d.time 0))) d.ras.hung
    ras.owed := d.ras.owed.filter (fun x => !r.holds x.1)
    ras.noresp := if d.ras.snapw.isNone then [] else d.ras.noresp }

/-- Step 6: the domain is released, its timers start from zero, RESET_DONE is posted, and the oldest queued request starts. -/
def Device.releaseReset (d : Device) (r : Reset) (tag : Nat) : Device :=
  let d := ({ d with ras.run := none, ras.fence := d.ras.fence.filter (fun k => k != r.key) }).disarmSlots r.holds
  let d := d.post 0x0A09 r.unit (wd (r.level * 2 ^ 30 + Sys2Proof.Machine.ResetSource.code r.src * 2 ^ 28 + tag * 2 ^ 16 + r.target))
  match d.ras.queue with
  | [] => d
  | x :: l => { d with ras.queue := l }.startReset x

/-- RESET_DONE (R476): steps 3 to 6. -/
def devResetDone (d : Device) : Device :=
  match d.ras.run with
  | none => d
  | some r =>
    let d := (d.resetUnits r).settleHangs r
    let d := { d with ras.fired := d.ras.fired.filter (fun x => !r.holds x.1) }
    let (d, tag) := d.nextTag r
    let d := if r.level = 2 then (d.announceAll false).drainEvents else d
    d.releaseReset r tag

/-! The management core (R489). -/

/-- KICK (R489). -/
def devKick (d : Device) : Device := { d with ras.kick := d.time 0 }

/-- Synian restarts, or, where its slot no longer verifies, start-up stops. -/
def Device.restartMgmt (d : Device) (err : ReadError) : Device :=
  if d.slotReason err d.boot.slot = 0 then
    let n := (fld (d.reg (rasReg 0x48)) 15 0 + 1) % 65536
    (({ d with ras.kick := d.time 0 }).setReg (rasReg 0x48) (wd n)).post 0x0A0C uMgmt (wd n)
  else { d with boot.bootok := false }.bootFail 4

/-- MGT_WATCHDOG (R489): 1 s without a kick. -/
def stMgtWatchdog (err : ReadError) (s : State) : State :=
  let d := s.dev
  if !d.boot.bootok ∨ (d.pwr.state ≠ .starting ∧ d.pwr.state ≠ .ready) ∨ d.time 0 < d.ras.kick + 10 ^ 9 then s
  else
    let s := match d.ras.snapw with | none => s.latch 0x1FF | some _ => s
    { s with dev := (s.dev.requestReset { level := 2, target := 0, src := .watchdog }).restartMgmt err }

/-! Repairs (R316, R484, R485). -/

/-- The regions of a die's state table (R313, R324): none where an entry cannot be used. -/
def Device.stateTable (d : Device) (die : Nat) : List (Option (Nat × Nat)) :=
  let a := d.reg (dreg die 10 0x30)
  (List.range (min 1024 (fld (d.reg (dreg die 10 0x34)) 10 0))).map (fun k =>
    let w := wordAt (d.descWords (sramDA a + 16 * k) 4)
    let da := join (w 0) (wd (fld (w 1) 19 0))
    let n := (w 2).toNat
    if [0, 1, 2, 3, 4, 5, 8].contains (regionOf da) && d.rangeOk da n then some (da, n) else none)

/-- The module a repair reads from: the one named, or that of the lowest die whose `TRS_REPSRC` is valid. -/
def Device.repairSource (d : Device) (source : Nat) (minority : Bool) : Option Nat :=
  if !minority then some source
  else ((List.range 4).map (fun die => d.reg (dreg die 10 0x18))).findSome? (fun v => if bit v 31 then some (fld v 14 0) else none)

/-- REPAIR (R484, R485): the first read of a repair is issued. -/
def devRepair (source : Nat) (minority : Bool) (d : Device) : Device :=
  match d.ras.repair, d.repairSource source minority with
  | none, some src =>
    let l := (List.range 4).flatMap d.stateTable
    let r : Repairing := { source := src, todo := l.filterMap id, regions := l.filterMap id }
    if l.any (fun x => x.isNone) ∨ (src = d.selfMod ∧ !bit (d.reg (rteReg 0x200)) 0) then
      { d with ras.repair := some { r with result := 4, regions := [] } }
    else d.repairNext r
  | _, _ => d

/-- REPAIR_DONE (R484, R485): with RESULT 1 each die takes the source's loss-scale state and EPAR too. -/
def devRepairDone (ls : List Word) (epar : BitVec 4) (d : Device) : Device :=
  match d.ras.repair with
  | none => d
  | some r =>
    if r.result = 0 then d
    else
      let d := if r.result ≠ 1 then d.leaveAllOpen r.regions
        else if r.source = d.selfMod then d
        else (List.range 4).foldl (fun d die =>
          (d.setReg (dreg die 10 0x10) (wordAt ls die)).setReg (dreg die 10 4) (wd (epar.toNat / 2 ^ die % 2))) d
      ({ d with ras.repair := none }).post 0x0A0A uModule (wd (r.result * 2 ^ 28 + r.source))

/-! Step aborts and service (R480, R482, R488, R490). -/

/-- STEP_ABORT (R482): marks, one ABORT packet on each direction of every valid axis, and the open collectives. -/
def devStepAbort (try_ : Nat) (d : Device) : Device :=
  let step := d.reg (rasReg 0x50)
  if d.colHeld step.toNat try_ then d
  else
    let axes := (rangeFrom 1 5).filter (fun k => bit (d.reg (rteReg (0x40 + 4 * k))) 31)
    axes.foldl (fun d k =>
      (d.sendAbort none [] k 0 (d.abortPacket 0 try_ 0 step 4 d.selfMod)).sendAbort none [] k 1 (d.abortPacket 1 try_ 0 step 4 d.selfMod))
      (d.abortStep false step try_ 4 d.selfMod none)

/-- SVCSET (R488, R490): each bit set in `RAS_SVC` with its event, which names the stack, the channel or, of a hang, the module and a slot. -/
def devSvcset (mask who : Nat) (d : Device) : Device :=
  ((List.range 3).filter mask.testBit).foldl (fun d k =>
    d.advise k (if k = 0 then uStack (who % 8) else if k = 1 then uMrd (who % 8) else uModule) (if k = 2 then who % 512 else who % 8)) d

end Sys2Proof.Machine
end

