-- ==== Sys2Proof/Machine/Regs.lean ====
section
/-! DEFINITION. Register accesses (R11, R12, R31, R32, R416, R434): what a write of any register does, alone or as half of a 64-bit
access, and what a read returns. -/

namespace Sys2Proof.Machine

/-- Whether a reset holds the domain a register belongs to, so that a write leaves it unchanged (R26, R476). -/
def Device.regHeld (d : Device) (own blk off : Nat) : Bool :=
  if own < 8 then
    d.dieInReset own ||
      (match blk with
        | 1 => 0x1000 ≤ off && off < 0x2000 && d.fenced (64 * own + (off - 0x1000) / 512)
        | 2 => 0x1000 ≤ off && off < 0x3000 && d.fenced (64 * own + (off - 0x1000) / 1024)
        | 3 => 0x1000 ≤ off && off < 0x2000 && d.fenced (64 * own + (off - 0x1000) / 512)
        | 5 => 0x1000 ≤ off && off < 0x2000 && d.fenced (wCluster own ((off - 0x1000) / 256))
        | 8 => d.fenced (wDma own)
        | _ => false)
  else
    match blk with
    | 1 => !d.modRuns || (0x1000 ≤ off && off < 0x1800 && d.fenced (wStack ((off - 0x1000) / 256)))
    | 0 => !d.modRuns
    | 2 => !d.modRuns
    | 5 => !d.modRuns
    | 6 => !d.modRuns
    | _ => false

/-- A signed byte held to −63 to 63 (R324). -/
def clampLs (b : Nat) : Nat := wrap 8 (max (-63) (min 63 (sext 8 b)))

/-- Whether the conditions that a register puts on its writes hold (R204, R333, R431, R446). -/
def Device.regWritable (d : Device) (own blk off : Nat) : Bool :=
  match own == 8, blk with
  | false, 6 => !(0x100 ≤ off && off < 0x300) || (d.stream own ((off - 0x100) / 64)).state == .idle
  | true, 5 => !(off == 0x10 || off == 0x14) || !d.ringEn
  | true, 6 => off != 0x10 || (d.ing.job.isNone && (d.queue qIng).isEmpty)
  | true, 9 => d.boot.prog.isNone
  | true, 10 => off < 0x1000 || slotOk ((off - 0x1000) / 16)
  | _, _ => true

/-- A value outside a register's range is held to its nearer end (R204, R265, R289, R324, R350, R383, R467). -/
def regClamp (own blk off : Nat) (v : Word) : Word :=
  match own == 8, blk with
  | false, 6 => if 0x100 ≤ off ∧ off < 0x300 ∧ off % 64 = 8 then wd (min 20 (max 6 v.toNat)) else v
  | false, 10 => if off = 0xC then wd (clampLs (fld v 15 8) * 256 + clampLs (fld v 7 0)) else v
  | true, 1 => if off = 4 then wd (min 168 (max 1 v.toNat)) else v
  | true, 2 => if off = 4 then wd (min 168 (max 1 v.toNat)) else v
  | true, 4 => if off = 8 then wd (min 1000000 (max 10 v.toNat)) else if off = 0xC then wd (max 1 v.toNat) else v
  | true, 6 => if off = 0x10 ∧ v ≠ 0 then wd (min 4096 (max 64 v.toNat)) else v
  | true, 10 => if 0x1000 ≤ off ∧ off % 16 = 0 then wd (min 10000000 (max 50 v.toNat)) else v
  | _, _ => v

/-- What else a write does: software's write of a corrected-error counter lets its threshold event be posted again; FIRED of a watchdog slot is
cleared by 1 (R265, R289, R467), and with RAS_SVC.HANG cleared the automatic resets resume (R480). -/
def Device.regAfter (d : Device) (own blk off : Nat) (v : Word) : Device :=
  if own ≠ 8 then d
  else
    let again (k : Nat) (d : Device) : Device := { d with core.cePost := mset false d.core.cePost k false }
    match blk with
    | 1 =>
      let s := (off - 0x1000) / 256
      let test (d : Device) : Device := d.ceTest (slpReg s 0xC) (slpReg s 0x14) 0x040D (uStack s)
      if off < 0x1000 ∨ 0x1800 ≤ off then d
      else if off % 256 = 0xC then test (again (slpReg s 0xC) d) else if off % 256 = 0x14 then test d else d
    | 2 =>
      let m := (off - 0x1000) / 64
      let test (d : Device) : Device := d.ceTest (mrdReg m 4) (mrdReg m 0xC) 0x040A (uMrd m)
      if off < 0x1000 ∨ 0x1200 ≤ off then d
      else if off % 64 = 4 then test (again (mrdReg m 4) d) else if off % 64 = 0xC then test d else d
    | 10 =>
      if 0x1000 ≤ off ∧ off % 16 = 4 ∧ bit v 31 then { d with ras.fired := mset false d.ras.fired ((off - 0x1000) / 16) false }
      else if off = 0x40 ∧ bit v 2 then { d with ras.stopped := [] } else d
    | _ => d

/-- The allotment register at an offset of the STS block (R175). -/
def allotAt (off : Nat) : Option Allotment :=
  [.pool, .pooln, .t1baseLo, .t1baseHi, .t1n, .t2baseLo, .t2baseHi, .t2n].find? (fun r => (allotReg r).1 == off)

/-- A write of a die's register that acts on its unit, or none where it only stores (R71, R121, R151, R173, R175, R204, R230, R404). Both bits of
DMA_CCTL act, the abort first (R238); DESIGN CHOICE: DROP and RESUME of one write of STS_CTL act in that order. -/
def Device.dieAct (d : Device) (die blk off : Nat) (v : Word) : Option Device :=
  match blk with
  | 1 => if 0x3000 ≤ off ∧ off < 0x3080 ∧ off % 16 = 0 then some (devTurnWrite die ((off - 0x3000) / 16) v d) else none
  | 2 =>
    let o := (off - 0x1000) % 512
    if 0x1000 ≤ off ∧ off < 0x3000 ∧ 0x100 ≤ o ∧ o % 16 = 0 then some (devTileCommit die ((off - 0x1000) / 512) ((o - 0x100) / 16) v d) else none
  | 6 =>
    if 0x100 ≤ off ∧ off < 0x300 then
      let s := (off - 0x100) / 64
      match off % 64 with
      | 0xC => some (devCtlSheadWrite die s v d)
      | 0x10 => some (d.tailWrite die s v)
      | 0x14 =>
        let d := if bit v 1 then devAbandon die s d else d
        some (if bit v 0 then devStreamResume die s d else d)
      | _ => none
    else if 0x1000 ≤ off ∧ off < 0x1400 then some (devCtlSyncWrite die ((off - 0x1000) / 4) v d)
    else if 0x1400 ≤ off ∧ off < 0x1800 then some (devCtlSyncaddWrite die ((off - 0x1400) / 4) v d)
    else none
  | 8 =>
    if 0x1000 ≤ off ∧ off < 0x1800 ∧ off % 64 = 4 then
      let n := (off - 0x1000) / 64
      let d := if bit v 0 then devDmaAbort die n d else d
      some (if bit v 1 then devPurge die n d else d)
    else none
  | 9 =>
    if off = 4 then
      let d := if bit v 1 then devStsDrop die (fld v 27 16) d else d
      some (if bit v 0 then devStsResume die d else d)
    else (allotAt off).map (fun r => d.allotWrite die [(r, v)])
  | 11 => if off = 0x20 then some (if bit v 0 then devGrgTestEvaluation die d else d) else none
  | 12 => if off = 4 then some (if bit v 0 then devHostAbort die d else d) else none
  | _ => none

/-- A write of a RAS register that acts (R469 to R490). DESIGN CHOICE: the unit a SERVICE_ADVISED names is not in RAS_SVCSET, so a
write of it draws a free one. A write of RAS_DCTL.RELEASE acts on the snapshot (`stRegisterWrite`). -/
def Device.rasAct (d : Device) (off : Nat) (v : Word) : Option Device :=
  match off with
  | 4 => some d
  | 0x10 => some (if bit v 0 then devShadowRead d else d)
  | 0x20 =>
    let t := fld v 8 0
    some (match fld v 31 30 with
      | 0 => devGroupReset t d
      | 1 => if t < 4 then devDieReset .synian t d else d
      | 2 => devModuleReset .synian d
      | _ => d)
  | 0x28 =>
    some (if fld v 19 8 ≠ 0x5AF then d
      else if fld v 31 30 = 1 then d.requestReset { level := 1, target := fld v 1 0, src := .host }
      else if fld v 31 30 = 2 then d.requestReset { level := 2, target := 0, src := .host } else d)
  | 0x2C => some (if bit v 0 then devKick d else d)
  | 0x44 => some (devSvcset (fld v 2 0) d.freeWord.toNat d.drawn)
  | 0x4C => some (if bit v 31 then devRepair (fld v 14 0) false d else d)
  | 0x54 => some (if bit v 31 then devStepAbort (fld v 7 0) d else d)
  | _ => none

/-- A write of a module register that acts on its unit, or none where it only stores. -/
def Device.modAct (d : Device) (ag : Agent) (blk off : Nat) (v : Word) : Option Device :=
  match blk with
  | 0 => if 0x10 ≤ off ∧ off < 0x60 ∧ off % 16 = 8 then some (devSegmentCommit ((off - 0x10) / 16) v d) else none
  | 3 =>
    let p := (off - 0x1000) / 256
    if off < 0x1000 ∨ 0x2000 ≤ off then none
    else if off % 256 = 0 then some (devPortAdmit p (bit v 30) (if bit v 31 then devPortEnable p d else devPortDisable p d))
    else if off % 256 = 4 then some (if bit v 0 then devRetrain p d else d) else none
  | 4 => if off = 4 then some (if bit v 0 then devAnnounce d else d) else if off = 0x18 ∨ off = 0x1C then some d else none
  | 5 => if off = 0x18 then some (d.evcfgWrite v) else if off = 0x1C then some (d.evheadWrite v) else none
  | 6 =>
    if off = 4 then some (if bit v 0 then devIngAbort d else d)
    else if off = 0x9C then some (if bit v 0 then devPermTestEvaluation d else d) else none
  | 7 => if off = 4 then some (devMgtBootokWrite v d) else none
  | 8 =>
    match off with
    | 4 => some (devRevoke (BitVec.ofNat 4 (fld v 4 1)) (if bit v 0 then devRaiseFloor d else d))
    | 0x2C => some (if bit v 0 then devOfferUpdate d else d)
    | 0x60 => some (devExtend (fld v 2 0) d)
    | 0xA0 => some (if bit v 0 then devQuote d else d)
    | _ => none
  | 9 => if off = 4 then some (if bit v 0 then devProgram d else d) else none
  | 10 => d.rasAct off v
  | 11 => if 0x10 ≤ off ∧ off < 0x20 then some (devPwrVsetWrite ag ((off - 0x10) / 4) v d) else none
  | _ => none

/-- What a register's write does beside storing, if it does: nothing where the register is not open to the agent or its domain is held
in reset. -/
def Device.regAct (d : Device) (ag : Agent) (key : Nat) (v : Word) : Option Device :=
  let own := key / 2 ^ 20
  let blk := key / 2 ^ 16 % 16
  let off := key % 2 ^ 16
  match findReg key with
  | none => none
  | some r =>
    (if own = 8 then d.modAct ag blk off v else d.dieAct own blk off v).map (fun d' =>
      if (r.mgmt ∧ ag ≠ .mgmt) ∨ d.regHeld own blk off then d else d')

/-- One 32-bit register stored: fields are set, or cleared by a written 1; all else keeps its value. -/
def Device.storeReg (d : Device) (ag : Agent) (key : Nat) (v : Word) : Device :=
  match findReg key with
  | none => d
  | some r =>
    let own := key / 2 ^ 20
    let blk := key / 2 ^ 16 % 16
    let off := key % 2 ^ 16
    if (r.w = 0 ∧ r.w1 = 0) ∨ (r.mgmt ∧ ag ≠ .mgmt) ∨ d.regHeld own blk off ∨ !d.regWritable own blk off then d
    else
      let old := d.reg key
      let new := (old &&& ~~~(wd r.w)) ||| (v &&& wd r.w)
      let new := if r.w = 0 then new else regClamp own blk off new
      (d.setReg key (new &&& ~~~(v &&& wd r.w1))).regAfter own blk off v

/-- One 32-bit register written: it acts, or it is stored. -/
def Device.writeReg (d : Device) (ag : Agent) (key : Nat) (v : Word) : Device := (d.regAct ag key v).getD (d.storeReg ag key v)

/-- Two registers written by one access (R32): a routing table entry takes both halves (R368), a pair of allotments is judged as one
(R173), and otherwise the halves that only store are there before the lower and then the upper register acts. -/
def Device.writeReg64 (d : Device) (ag : Agent) (key : Nat) (v : BitVec 64) : Device :=
  let lo := lo32 v.toNat
  let hi := hi32 v.toNat
  let own := key / 2 ^ 20
  if key = rteReg 0x18 then if d.regHeld 8 4 0x18 then d else devTableEntryWrite v d
  else
    match (if own < 4 ∧ key / 2 ^ 16 % 16 = 9 then (allotAt (key % 2 ^ 16), allotAt (key % 2 ^ 16 + 4)) else (none, none)) with
    | (some a, some b) => if d.regHeld own 9 (key % 2 ^ 16) then d else d.allotWrite own [(a, lo), (b, hi)]
    | _ =>
      let d := if (d.regAct ag key lo).isNone then d.storeReg ag key lo else d
      let d := if (d.regAct ag (key + 4) hi).isNone then d.storeReg ag (key + 4) hi else d
      let d := (d.regAct ag key lo).getD d
      (d.regAct ag (key + 4) hi).getD d

/-- Whether a register access has a width and alignment that R32 gives, in the register space. -/
def regFits (off width : Nat) : Bool := decide (off < 2 ^ 24) && (width == 4 || width == 8) && off % width == 0

/-- REGISTER_WRITE (R32): 4 or 8 aligned bytes at a device address of region 0xC, or through BAR0 at the same offset (R416); a
poisoned host write is discarded and recorded (R419). -/
def devRegisterWrite (ag : Agent) (off width : Nat) (v : BitVec 64) (poison : Bool) (d : Device) : Device :=
  if ag = .host ∧ !d.hostOpen then d.barShut
  else if ag = .host ∧ poison then d.poisonedWrite
  else if !regFits off width then d
  else if width = 4 then d.writeReg ag off (lo32 v.toNat)
  else d.writeReg64 ag off v

/-- REGISTER_WRITE in full: where `mgmt` sets RAS_DCTL.RELEASE the snapshot is released (R469). DESIGN CHOICE: the register names no sections, so
a dump that goes with it has none. -/
def stRegisterWrite (ag : Agent) (off width : Nat) (v : BitVec 64) (poison : Bool) (s : State) : State :=
  let s := { s with dev := devRegisterWrite ag off width v poison s.dev }
  if ag = .mgmt ∧ ((off = rasReg 4 ∧ width = 4 ∧ v.getLsbD 0) ∨ (off = rasReg 0 ∧ width = 8 ∧ v.getLsbD 32)) then stRelease [] [] [] s else s

/-- What a register read returns (R12, R32, R39): one register, or two from one instant with the lower in the lower half; 0 on any other
width or alignment. -/
def Device.readAccess (d : Device) (off width : Nat) : Nat :=
  if !regFits off width then 0
  else if width = 4 then (d.readReg off).toNat
  else if off % 2 ^ 20 = regKey 0 6 0xF000 ∧ off / 2 ^ 20 < 4 then d.time (off / 2 ^ 20) % 2 ^ 64
  else join (d.readReg off) (d.readReg (off + 4))

/-- CTL_LTC_LO_READ (R39): a 32-bit read latches the upper half; a 64-bit read returns both halves. A host read that BAR0 does not
serve latches nothing (R413, R414). -/
def devCtlLtcLoRead (die : Nat) (wide : Bool) (ag : Agent) (d : Device) : Device :=
  let k := dreg die 6 0xF000
  let n := if wide then 8 else 4
  let v := d.readAccess k n
  if ag = .host ∧ !d.hostOpen then d.barShutRead n
  else
    let d := if wide then d else d.setReg (dreg die 6 0xF004) (hi32 (d.time die))
    if ag = .host then d.bar0Read n v else d.emit (.regRead k v)

/-- SEC_FLDATA_READ (R461): the word, and INDEX one higher. DESIGN CHOICE: the read is the host's, through BAR0; the row has no other reader. -/
def devSecFldataRead (d : Device) : Device :=
  let i := fld (d.reg (secReg 0x10)) 23 0
  if !d.hostOpen then d.barShutRead 4
  else (d.setReg (secReg 0x10) (wd ((i + 1) % 2 ^ 24))).bar0Read 4 (d.readAccess (secReg 0x14) 4)

end Sys2Proof.Machine
end

