-- ==== Sys2Proof/Machine/Interlock.lean ====
section
/-! DEFINITION. The interlock of tier 1 (R284, R285): an ordinary access to a bank whose unit runs an operation is held there, and served
between two of its steps. -/

namespace Sys2Proof.Machine

/-- A function of the device, of the whole state. -/
def onDev (f : Device → Device) (s : State) : State := { s with dev := f s.dev }

/-- What each command that may access tier 1, or that the host issues through a BAR, does once nothing holds it; any other command is no
such access. -/
def ordinaryEffect (i : Instr) : State → State :=
  match i with
  | .tileLanding d k => onDev (devTileLanding d.val k)
  | .stashCommandComplete d => onDev (devStashCommandComplete d.val)
  | .recordFetch d sn => onDev (devRecordFetch d.val sn.val)
  | .crcCheck d n => onDev (devCrcCheck d.val n.chan.val n.feed)
  | .burst d n feed => onDev (devBurst d.val n.val feed)
  | .writeArrival d n k => onDev (devWriteArrival d.val n.val k)
  | .tileMoveArrival g k => onDev (devTileMoveArrival g.val k)
  | .tier1PatrolScrub sn ch bank word => onDev (devTier1PatrolScrub sn.val (ch.val * 16 + bank.val) word)
  | .quant d flt => onDev (devQuant d.val flt)
  | .stepgate d flt => onDev (devStepgate d.val flt)
  | .rdrv d flt => onDev (devRdrv d.val flt)
  | .digest d flt => onDev (devDigest d.val flt)
  | .pack d flt => onDev (devPack d.val flt)
  | .masterLineUpdate m line flt => onDev (devMasterLineUpdate m.val line flt)
  | .ingestJob => onDev devIngestJob
  | .sampleStart dec flt => onDev (devSampleStart dec.val flt)
  | .sampleCommit => onDev devSampleCommit
  | .decodeTimeout dec => onDev (devDecodeTimeout dec.val)
  | .wr p => onDev (devWr p.val)
  | .rd p => onDev (devRd p.val)
  | .drd p => onDev (devDrd p.val)
  | .rdr p => onDev (devRdr p.val)
  | .peerRequest => onDev devPeerRequest
  | .reduceScatter d => onDev (devReduceScatter d.die.val d.check)
  | .allGather d => onDev (devAllGather d.die.val d.check)
  | .allReduce d => onDev (devAllReduce d.die.val d.check)
  | .colReduce p x => onDev (devColReduce p.val x)
  | .colGather p x => onDev (devColGather p.val x)
  | .colClose p => onDev (devColClose p.port.val p.check)
  | .sealExpiry d => onDev (devSealExpiry d.val)
  | .apertureAccess write off data len poison => onDev (devApertureAccess write off data len poison)
  | .offerUpdate => onDev devOfferUpdate
  | .msixTableAccess write off width v poison => onDev (devMsixTableAccess write off width v poison)
  | .doorbell d st v poison => onDev (devDoorbell d.val st.val v poison)
  | .ctlSyncWrite d c v => onDev (fun x => x.hostDieWrite d.val (devCtlSyncWrite d.val c.val v))
  | .ctlSyncaddWrite d c v => onDev (fun x => x.hostDieWrite d.val (devCtlSyncaddWrite d.val c.val v))
  | .eventRingEnable v => onDev (devEventRingEnable v)
  | .eventRingDisable v => onDev (devEventRingDisable v)
  | .eventRingVecChange v => onDev (devEventRingVecChange v)
  | .hifEvheadWrite v => onDev (devHifEvheadWrite v)
  | .registerWrite ag off width v poison => stRegisterWrite ag off width v poison
  | .release units first words => stRelease units first words
  | .repair source minority => onDev (devRepair source.toNat minority)
  | .e2eTimeout tag => onDev (devE2eTimeout tag.toNat)
  | .tierMoveFault g k => onDev (devTierMoveFault g.val k)
  | .dieReset src d => onDev (devDieReset src d.val)
  | .moduleReset src => onDev (devModuleReset src)
  | .hostAbort d => onDev (devHostAbort d.val)
  | .ctlLtcLoRead d r => onDev (devCtlLtcLoRead d.val r.wide r.agent)
  | .secFldataRead => onDev devSecFldataRead
  | _ => id

/-- The requests of the host through its BARs, which take effect in the order they arrive (R418). -/
def fromHost (i : Instr) : Bool :=
  match i with
  | .apertureAccess .. => true
  | .msixTableAccess .. => true
  | .doorbell .. => true
  | .ctlSyncWrite .. => true
  | .ctlSyncaddWrite .. => true
  | .eventRingEnable .. => true
  | .eventRingDisable .. => true
  | .eventRingVecChange .. => true
  | .hifEvheadWrite .. => true
  | .registerWrite ag .. => ag == .host
  | .dieReset src _ => src == .host
  | .moduleReset src => src == .host
  | .hostAbort _ => true
  | .ctlLtcLoRead _ r => r.agent == .host
  | .secFldataRead => true
  | _ => false

def Ordinary.isHost : Ordinary → Bool
  | .cmd i => fromHost i
  | _ => false

/-- A command as the access that a bank holds: one that names a move under way by its place in a list is held as that move. -/
def Device.accessOf (d : Device) (i : Instr) : Ordinary :=
  match i with
  | .writeArrival die n k => match (d.chan die.val n.val).writes[k]? with
    | some w => .dmaWrite die.val n.val w.id
    | none => .cmd i
  | .tileLanding die k => match (d.stash die.val).moves[k]? with
    | some m => .landing die.val m.handle m.tile
    | none => .cmd i
  | .tileMoveArrival g k => match (d.seg g.val).moves[k]? with
    | some m => .tile g.val m.id
    | none => .cmd i
  | .tierMoveFault g k => match (d.seg g.val).moves[k]? with
    | some m => .tileFault g.val m.id
    | none => .cmd i
  | _ => .cmd i

/-- What a held access does when it is served; a move that is under way no more does nothing. -/
def accessEffect (o : Ordinary) (s : State) : State :=
  match o with
  | .cmd i => ordinaryEffect i s
  | .dmaWrite die n id => match (s.dev.chan die n).writes.findIdx? (fun w => w.id == id) with
    | some k => onDev (devWriteArrival die n k) s
    | none => s
  | .landing die h t => match (s.dev.stash die).moves.findIdx? (fun m => m.handle == h && m.tile == t) with
    | some k => onDev (devTileLanding die k) s
    | none => s
  | .tile g id => match (s.dev.seg g).moves.findIdx? (fun m => m.id == id) with
    | some k => onDev (devTileMoveArrival g k) s
    | none => s
  | .tileFault g id => match (s.dev.seg g).moves.findIdx? (fun m => m.id == id) with
    | some k => onDev (devTierMoveFault g k) s
    | none => s

/-- The first busy bank that an access would reach, beside those at which it has been served. -/
def State.waitsAt (s : State) (f : State → State) (passed : List Nat) : Option Nat :=
  if s.dev.busyUnits.isEmpty then none
  else
    let r := (f { s with dev := { s.dev with core.watch := some [] } }).dev.core.watch
    (r.getD []).find? (fun u => !passed.contains u)

/-- An access is held at a bank, after those already there; one that is held is not held again, but each request of the host is one. -/
def Device.hold (d : Device) (h : Held) : Device :=
  if !h.what.isHost && d.slip.held.any (fun x => x.what == h.what) then d else { d with slip.held := d.slip.held ++ [h] }

/-- Where an access is held: a request of the host behind the host's last that is held (R418), any access at a busy bank. -/
def State.heldBy (s : State) (o : Ordinary) (f : State → State) (passed : List Nat) : Option Nat :=
  match if o.isHost then s.dev.slip.held.reverse.find? (fun h => h.what.isHost) else none with
  | some h => some h.unit
  | none => s.waitsAt f passed

/-- An ordinary access takes effect at once, or is held at the first busy bank that it reaches (R284, R285), a request of the host also
behind an earlier one (R418). DESIGN CHOICE: an access of
several banks takes effect as a whole, when no bank that it has still to pass is busy. -/
def ordinary (i : Instr) (s : State) : Host.Outcome State Fault Refusal :=
  match s.heldBy (s.dev.accessOf i) (ordinaryEffect i) [] with
  | some u => .next { s with dev := s.dev.hold { unit := u, what := s.dev.accessOf i } }
  | none => .next (ordinaryEffect i s)

/-- One held access is served at a bank: it takes effect, or goes on to the next busy bank that it reaches. -/
def serveHeld (s : State) (h : Held) : State :=
  let passed := h.unit :: h.passed
  match s.heldBy h.what (accessEffect h.what) passed with
  | some u => { s with dev := s.dev.hold { unit := u, passed := passed, what := h.what } }
  | none => accessEffect h.what s

/-- ORDINARY_ACCESS_SERVICE (R284): between two steps a bank serves every access then held there, in arrival order. -/
def stOrdinaryAccessService (sn u : Nat) (s : State) : State :=
  let unit := sn * 512 + u
  let l := s.dev.slip.held
  (l.filter (fun h => h.unit == unit)).foldl serveHeld
    { s with dev := { s.dev with slip.held := l.filter (fun h => h.unit != unit) } }

end Sys2Proof.Machine
end

