-- ==== Sys2Proof/Machine/Late.lean ====
section
/-! DEFINITION. The warning of a missed deadline (R88, R89, R256). -/

namespace Sys2Proof.Machine

/-- Whether a command has a DEADLINE for which nothing has been posted. -/
def Cmd.due (c : Cmd) : Bool := fld (c.word 2) 31 16 != 0 && !c.late

/-- Whether the deadline of a command that waits on this die has run out (R88, R256). -/
def Device.overdue (d : Device) (die : Nat) (c : Cmd) : Bool := c.due && d.expired (.late die c.ord) (64 * fld (c.word 2) 31 16)

/-- The die whose counter times a queue's head: die 0 for a module-level queue (R37). -/
def queueDie (q : Nat) : Nat :=
  if q < 512 then q % 256 / 64 else if q < 516 then q - 512 else if q < 520 then q - 516 else if q < 584 then (q - 520) / 16
  else if q < 712 then (q - 584) / 32 else if q < 716 then q - 712 else if q < 720 then q - 716 else if q < 728 then (q - 720) / 2 else 0

/-- The head of a queue marked as late. -/
def Device.markLate (d : Device) (q : Nat) : Device :=
  match d.queue q with
  | [] => d
  | c :: l => d.setQueue q ({ c with late := true } :: l)

/-- The data word of R89 for the head of an array partition's queue. -/
def lateData (d : Device) (die a p : Nat) (c : Cmd) : Word :=
  let pt := d.part die a p
  let prev := pt.runs.any (fun r => decide (r.ent < mrows r.cmd))
  let stream := c.op == 2 || c.op == 3
  let plane := stream && !(pt.loaded (pt.bound.getD pt.atag))
  wd (pt.pend.toNat * 2 ^ 19 + prev.toNat * 2 ^ 18 + plane.toNat * 2 ^ 17 + (!d.cmdMet c).toNat * 2 ^ 16 + p * 2 ^ 14 + c.seq)

/-- A RAISE not yet complete, oldest first: those that wait for moves, the one being handled, the head of the queue. -/
def lateRaises (s : Seg) : List TierRun := s.runs ++ s.cur.toList

/-- The data word of R256. -/
def lateRaise (d : Device) (g : Nat) (r : TierRun) (head : Bool) : Word :=
  let pinWait := !head && (d.seg g).cur == some r &&
    (match d.victim g with | some (_, e) => !d.pinMet e | none => false)
  wd (pinWait.toNat * 2 ^ 19 + (decide (r.waits > 0)).toNat * 2 ^ 18 + g * 2 ^ 15 + r.cmd.seq)

def TierRun.markLate (cid : Nat) (r : TierRun) : TierRun := if r.cmd.cid = cid then { r with cmd.late := true } else r

/-- LATE_PREFETCH for a segment: posted once for a RAISE that has not completed when its deadline runs out (R256). -/
def Device.lateSeg (d : Device) (g : Nat) : Device :=
  let s := d.seg g
  match (lateRaises s).find? (fun r => tTop r.cmd == 2 && d.overdue 0 r.cmd) with
  | some r =>
    (d.setSeg g { s with cur := s.cur.map (TierRun.markLate r.cmd.cid), runs := s.runs.map (TierRun.markLate r.cmd.cid) }).post evLate
      (segOwner g) (lateRaise d g r false)
  | none => match d.queue (qTier g) with
    | [] => d
    | c :: _ => if s.cur.isNone && tTop c == 2 && d.overdue 0 c then
        (d.markLate (qTier g)).post evLate (segOwner g) (lateRaise d g { cmd := c } true) else d

/-- Commands whose deadline runs: the head of each queue, and RAISEs that have issued (R88, R256). -/
def Device.lateTimers (d : Device) : List Timer :=
  (d.core.queues.filterMap (fun p => match p.2 with
    | c :: _ => if c.due && !(decide (728 ≤ p.1 ∧ p.1 < 733) && (tTop c != 2 || (d.seg (p.1 - 728)).cur.isSome)) then
        some (.late (queueDie p.1) c.ord) else none
    | [] => none)) ++
  (List.range 5).flatMap (fun g => ((lateRaises (d.seg g)).filter (fun r => tTop r.cmd == 2 && r.cmd.due)).map (fun r => .late 0 r.cmd.ord))

/-- LATE_PREFETCH (R88): the head of a queue has not issued when its deadline expires; KLN_LPMASK suppresses an array's
event. DESIGN CHOICE: a suppressed event does not count as given, so one that comes after the mask bit is cleared is posted. The data word of any other queue's event is 0: its chapter gives none (R425). -/
def devLatePrefetch (u : LateUnit) (d : Device) : Device :=
  match u with
  | .part die a p =>
    match d.queue (qArr die a p) with
    | [] => d
    | c :: _ => if d.overdue die c && !bit (d.reg (dreg die 1 0)) a then
        (d.markLate (qArr die a p)).post evLate (uArray die a) (lateData d die a p c) else d
  | .seg g => d.lateSeg g
  | .queue q =>
    match d.queue q with
    | [] => d
    | c :: _ => if d.overdue (queueDie q) c && decide (256 ≤ q ∧ ¬(728 ≤ q ∧ q < 733)) then (d.markLate q).post evLate c.unit 0 else d

end Sys2Proof.Machine
end

