-- ==== Sys2Proof/Machine/Mctp.lean ====
section
/-! DEFINITION. Management messages (R428, R429). The control messages' bytes are those of DSP0236; a request is the
message from its type byte on: type, instance, command, data. PRESUMED: DSP0236's layouts are not in the spec. -/

namespace Sys2Proof.Machine

/-- Whether a message reaches the endpoint: the module is powered and its link is up. -/
def Device.mctpUp (d : Device) : Bool := d.hif.link == 1 && d.pwr.state != .off && d.pwr.state != .shutdown

/-- A message in the 64-byte baseline transmission units that carry it (R428). -/
def mctpUnits (m : List Byte) : List (List Byte) := chunks 64 ((m.length + 63) / 64) m

/-! MCTP control. -/

/-- The data bytes of a control request. -/
def ctlData (req : List Byte) : List Byte := req.drop 3

/-- A control response: the request's instance with Rq 0, its command, a completion code and data. -/
def Device.ctlAnswer (d : Device) (req : List Byte) (cc : Byte) (data : List Byte) : Device :=
  if d.mctpUp then d.emit (.mctp (mctpUnits ([0, (req.getD 1 0) &&& 0x1F, req.getD 2 0, cc] ++ data))) else d

def vidBytes : List Byte := [BitVec.ofNat 8 (Config.vendorId.toNat / 256), BitVec.ofNat 8 Config.vendorId.toNat]

/-- SET_ENDPOINT_ID (R428): the bus owner assigns the endpoint ID; 0x00 and 0xFF are no endpoint's. -/
def devSetEndpointId (req : List Byte) (d : Device) : Device :=
  match ctlData req with
  | [op, eid] =>
    if op &&& 3 = 2 ∨ op &&& 3 = 3 ∨ eid = 0 ∨ eid = 0xFF then d.ctlAnswer req 2 []
    else if d.mctpUp then ({ d with hif.eid := eid.toNat }).ctlAnswer req 0 [0, eid, 0]
    else d
  | _ => d.ctlAnswer req 3 []

/-- GET_ENDPOINT_ID (R428): a simple endpoint with a dynamic ID. -/
def devGetEndpointId (req : List Byte) (d : Device) : Device :=
  if (ctlData req).isEmpty then d.ctlAnswer req 0 [BitVec.ofNat 8 d.hif.eid, 0, 0] else d.ctlAnswer req 3 []

/-- GET_ENDPOINT_UUID (R428). -/
def devGetEndpointUuid (req : List Byte) (d : Device) : Device :=
  if (ctlData req).isEmpty then d.ctlAnswer req 0 ((Config.uuid ++ List.replicate 16 0).take 16) else d.ctlAnswer req 3 []

/-- GET_MCTP_VERSION_SUPPORT (R428). -/
def devGetMctpVersionSupport (req : List Byte) (d : Device) : Device :=
  match ctlData req with
  | [t] => match Config.mctpVersions t.toNat with
    | none => d.ctlAnswer req 0x80 []
    | some l => d.ctlAnswer req 0 (BitVec.ofNat 8 (l.length / 4) :: l)
  | _ => d.ctlAnswer req 3 []

/-- GET_MESSAGE_TYPE_SUPPORT (R428): the two types of its table. -/
def devGetMessageTypeSupport (req : List Byte) (d : Device) : Device :=
  if (ctlData req).isEmpty then d.ctlAnswer req 0 [2, 0x00, 0x7E] else d.ctlAnswer req 3 []

/-- GET_VENDOR_DEFINED_MESSAGE_SUPPORT (R428): one vendor set, PCI. -/
def devGetVendorDefinedMessageSupport (req : List Byte) (d : Device) : Device :=
  match ctlData req with
  | [sel] =>
    if sel = 0 then
      let s := Config.mctpCommandSet.toNat
      d.ctlAnswer req 0 ([0xFF, 0] ++ vidBytes ++ [BitVec.ofNat 8 (s / 256), BitVec.ofNat 8 s])
    else d.ctlAnswer req 2 []
  | _ => d.ctlAnswer req 3 []

/-! Daxelm commands (R429). -/

/-- A Daxelm response. -/
def Device.daxAnswer (d : Device) (cmd inst cc : Byte) (payload : List Byte) : Device :=
  if d.mctpUp then d.emit (.mctp (mctpUnits ([0x7E] ++ vidBytes ++ [1, cmd, inst, cc, 0] ++ payload))) else d

/-- The state byte of GET_STATUS: 0 starting, 1 ready, 2 failed, 3 in reset. -/
def Device.statusState (d : Device) : Nat :=
  match d.pwr.state with
  | .failed => 2
  | .ready => if d.modRuns && bit (d.reg (mreg 5 0)) 31 then 1 else 3
  | _ => 0

/-- GET_STATUS (R429, R437): Synian or the boot ROM answers. -/
def devGetStatus (inst : Byte) (payload : List Byte) (d : Device) : Device :=
  if !payload.isEmpty then d.daxAnswer 1 inst 3 []
  else
    let fail := if d.statusState = 2 then fld (d.reg (mgtReg 0)) 27 24 else 0
    let b1 := d.boot.slot + 2 * (bit (d.reg (cfgReg 0)) 31).toNat + 4 * (d.boot.part == 2).toNat + 8 * (!d.boot.synian).toNat + 16 * fail
    d.daxAnswer 1 inst 0 (toBytes 1 d.statusState ++ toBytes 1 b1 ++ toBytes 2 d.selfMod ++ toBytes 1 d.selfGen ++ List.replicate 11 0)

/-- GET_HEALTH (R429). -/
def devGetHealth (inst : Byte) (payload : List Byte) (d : Device) : Device :=
  if !d.boot.synian then d.daxAnswer 2 inst 4 []
  else if !payload.isEmpty then d.daxAnswer 2 inst 3 []
  else
    let dies := (List.range 4).flatMap (fun die =>
      let c := d.reg (coneReg die 0)
      toBytes 2 (fld c 15 0) ++ toBytes 2 (fld c 31 16))
    let held := ofBits ((List.range 4).map (fun die => mget false d.pwr.held die))
    d.daxAnswer 2 inst 0 (toBytes 4 (d.reg (pwrReg 4)).toNat ++ toBytes 4 (d.reg (pwrReg 0xC)).toNat ++ dies ++
      toBytes 1 (d.pwr.clamp.isSome.toNat + 2 * held) ++ List.replicate 7 0)

/-- The held events from a first SEQ on (R429). -/
def heldFrom (held : List (Nat × List Word)) (first : Nat) : List (List Word) :=
  match held with
  | [] => []
  | (oldest, _) :: _ =>
    let behind := (oldest + 2 ^ 32 - first) % 2 ^ 32
    let skip := if 0 < behind ∧ behind < 2 ^ 31 then 0 else (first + 2 ^ 32 - oldest) % 2 ^ 32
    (held.drop skip).map Prod.snd

/-- GET_EVENTS (R429). -/
def devGetEvents (inst : Byte) (payload : List Byte) (d : Device) : Device :=
  if !d.boot.synian then d.daxAnswer 3 inst 4 []
  else if payload.length ≠ 5 then d.daxAnswer 3 inst 3 []
  else
    let count := (payload.getD 4 0).toNat
    if count = 0 ∨ count > 100 then d.daxAnswer 3 inst 2 []
    else
      let l := (heldFrom d.hif.held (ofBytes (payload.take 4))).take count
      d.daxAnswer 3 inst 0 (toBytes 1 l.length ++ List.replicate 7 0 ++ l.flatMap wordsToBytes)

/-- GET_QUOTE (R429, R455): through the nonce registers and a quote of its own, after one that is being signed. -/
def devGetQuote (inst : Byte) (payload : List Byte) (d : Device) : Device :=
  if !d.boot.synian then d.daxAnswer 4 inst 4 []
  else if payload.length ≠ 32 then d.daxAnswer 4 inst 3 []
  else if !d.mctpUp then d
  else
    let d := d.quoteDone
    let d := ((bytesToWords 8 payload).zipIdx).foldl (fun d x => d.setReg (secReg (0x80 + 4 * x.2)) x.1) d
    let m := d.quoteMessage
    let q := d.signQuote m
    (({ d with boot.quote := some m }).quoteDone).daxAnswer 4 inst 0 q

end Sys2Proof.Machine
end

