-- ==== Sys2Proof/Machine/Power.lean ====
section
/-! DEFINITION. The feed, temperature warnings and shutdowns (R493, R494, R500 to R502, R509, R510). -/

namespace Sys2Proof.Machine

/-- Whether any rail is on. -/
def Device.powered (d : Device) : Bool := d.pwr.state != .off && d.pwr.state != .shutdown

/-- Loss of power: all is as at power-on but the flash, the fuses and the count of starts; what was being programmed or written into
the flash is left cut short (R446, R450, R494). -/
def Device.powerLost (d : Device) (st : PowerState) : Device :=
  let d := match d.boot.prog with
    | some c => if cfgReason c false = 0 then d.programCut c else d
    | none => d
  let d := match d.boot.upd with
    | some u => if u.result = 1 ∧ !d.flashRefused (slotBase u.slot) slotLen then d.programSlot u.slot [] else d
    | none => d
  { core := { freeN := d.core.freeN }
    boot := { flash := d.boot.flash, starts := d.boot.starts, floor := d.boot.floor, revoked := d.boot.revoked }
    pwr := { state := st }
    out := d.out }

/-- LOSS_OF_POWER (R493): the snapshot goes with the rest. -/
def stLossOfPower (s : State) : State :=
  if s.dev.pwr.state = .shutdown then s else { s with dev := s.dev.powerLost .off, snap := none }

/-! Sensors (R500, R509). -/

def sensorCount : Nat → Nat
  | 0 => 64 | 1 => 8 | 2 => 8 | 3 => 17 | _ => 2

/-- Warning threshold in 0.1 °C. -/
def warnAt : Nat → Nat → Int
  | 0, _ => 950 | 1, _ => 900 | 2, _ => 850 | 3, _ => 750 | _, i => if i = 0 then 650 else 460

/-- Shutdown threshold. -/
def shutAt : Nat → Option Int
  | 0 => some 1150 | 1 => some 1050 | 2 => some 950 | 3 => some 850 | _ => none

def sensorUnit : Nat → Nat → Nat
  | 0, i => uDie (i / 16)
  | 1, i => uStack i
  | 2, i => uMrd i
  | 3, i => if i = 16 then uHif else uPort i
  | _, _ => uModule

/-- A reading appears in the sensor's register. -/
def Device.reading (d : Device) (k i : Nat) (t : BitVec 16) : Device :=
  match k with
  | 0 => devConeReport (i / 16) (i % 16) (BitVec.ofNat 16 (fld (d.reg (coneReg (i / 16) (0x100 + 4 * (i % 16)))) 31 16)) t
      (BitVec.ofNat 10 (d.reg (coneReg (i / 16) 4)).toNat) d
  | 1 => d.setReg (pwrReg (0x60 + 4 * i)) (wd t.toNat)
  | 2 => d.setReg (pwrReg (0x40 + 4 * i)) (wd t.toNat)
  | 3 => d.setReg (pwrReg (0x80 + 4 * i)) (wd t.toNat)
  | _ => d.setReg (pwrReg 0xC4) (if i = 0 then setFld (d.reg (pwrReg 0xC4)) 31 16 t.toNat else setFld (d.reg (pwrReg 0xC4)) 15 0 t.toNat)

/-- THERM_WARN (R501): once per sensor until it has read 5 K below its threshold. -/
def devThermWarn (k i : Nat) (t : BitVec 16) (d : Device) : Device :=
  if !d.powered ∨ sensorCount k ≤ i then d
  else
    let d := d.reading k i t
    if t.toInt < warnAt k i ∨ mget false d.pwr.warned (k * 64 + i) then d
    else
      let d := { d with pwr.warned := mset false d.pwr.warned (k * 64 + i) true }
      (d.setReg (pwrReg 0xC8) (setBit (d.reg (pwrReg 0xC8)) k true)).post 0x0A0D (sensorUnit k i) (wd (t.toNat * 2 ^ 16 + k * 2 ^ 8 + i))

/-- THERM_WARN_REARM (R501). -/
def devThermWarnRearm (k i : Nat) (t : BitVec 16) (d : Device) : Device :=
  if !d.powered ∨ sensorCount k ≤ i then d
  else
    let d := d.reading k i t
    if t.toInt ≤ warnAt k i - 50 then { d with pwr.warned := mset false d.pwr.warned (k * 64 + i) false } else d

/-- THERMAL_SHUTDOWN (R502): loss of power, and SHUTDOWN is held. -/
def stThermalShutdown (k i : Nat) (t : BitVec 16) (s : State) : State :=
  match shutAt k with
  | none => s
  | some x =>
    if !s.dev.powered ∨ sensorCount k ≤ i ∨ t.toInt < x then s
    else { s with dev := s.dev.powerLost .shutdown, snap := none }

/-- SHUTDOWN_RELEASE (R502): the feed has been away for 1 s, or the presence short opens. -/
def devShutdownRelease (feedRemovedMs : Nat) (presenceOpen : Bool) (d : Device) : Device :=
  if d.pwr.state = .shutdown ∧ (1000 ≤ feedRemovedMs ∨ presenceOpen) then { d with pwr.state := .off } else d

end Sys2Proof.Machine
end

