-- ==== Sys2Proof/Machine/Commands.lean ====
section
/-! DEFINITION. The meaning of each command, in the order of spec/opcode_table.json: what it does to everything but the queue
of waiting commands. A command whose condition does not hold leaves the state as it is. -/

namespace Sys2Proof.Machine

/-- ARBITER_GRANT (R34). -/
def execArbiterGrant (tree : Nat) (round : ArbRound) (s : State) : Host.Outcome State Fault Refusal :=
  onDevice (devArbiterGrant tree round.asks round.gone round.late) s

/-- CURRENT_CLAMP (R26). -/
def execCurrentClamp (mv : Nat) (ma : Nat) (s : State) : Host.Outcome State Fault Refusal := onDevice (devCurrentClamp mv ma) s

/-- CLAMP_RELEASE (R26). -/
def execClampRelease (mv : Nat) (ma : Nat) (s : State) : Host.Outcome State Fault Refusal := onDevice (devClampRelease mv ma) s

/-- THERM_TRIP (R26). -/
def execThermTrip (d : Fin 4) (s : State) : Host.Outcome State Fault Refusal := onDevice (devThermTrip d.val) s

/-- THERM_RELEASE (R26). -/
def execThermRelease (d : Fin 4) (s : State) : Host.Outcome State Fault Refusal := onDevice (devThermRelease d.val) s

/-- CTL_LTC_LO_READ (R39). -/
def execCtlLtcLoRead (d : Fin 4) (r : LtcRead) (s : State) : Host.Outcome State Fault Refusal := ordinary (.ctlLtcLoRead d r) s

/-- GRG_TEST_EVALUATION (R71). -/
def execGrgTestEvaluation (d : Fin 4) (s : State) : Host.Outcome State Fault Refusal := onDevice (devGrgTestEvaluation d.val) s

/-- GRG_TEST_DONE (R71). -/
def execGrgTestDone (d : Fin 4) (s : State) : Host.Outcome State Fault Refusal := onDevice (devGrgTestDone d.val) s

/-- KLOAD (R78). -/
def execKload (d : Fin 4) (a : Fin 16) (p : Fin 4) (s : State) : Host.Outcome State Fault Refusal := onDevice (devKload d.val a.val p.val) s

/-- KSTREAM (R110). -/
def execKstream (d : Fin 4) (a : Fin 16) (p : Fin 4) (s : State) : Host.Outcome State Fault Refusal := onDevice (devKstream d.val a.val p.val) s

/-- KCONV (R98). -/
def execKconv (d : Fin 4) (a : Fin 16) (p : Fin 4) (s : State) : Host.Outcome State Fault Refusal := onDevice (devKconv d.val a.val p.val) s

/-- KCFG (R91). -/
def execKcfg (d : Fin 4) (a : Fin 16) (s : State) : Host.Outcome State Fault Refusal := onDevice (devKcfg d.val a.val) s

/-- MVMUL (R102). -/
def execMvmul (d : Fin 4) (s : State) : Host.Outcome State Fault Refusal := onDevice (devMvmul d.val) s

/-- MVMUL_COMPLETE (R103). -/
def execMvmulComplete (d : Fin 4) (s : State) : Host.Outcome State Fault Refusal := onDevice (devMvmulComplete d.val) s

/-- MVP_FAULT (R105). -/
def execMvpFault (d : Fin 4) (cause : Fin 8) (nidx : Nat) (s : State) : Host.Outcome State Fault Refusal :=
  onDevice (devMvpFault d.val cause.val nidx) s

/-- LOAD_COMPLETE (R81). -/
def execLoadComplete (d : Fin 4) (a : Fin 16) (s : State) : Host.Outcome State Fault Refusal := onDevice (devLoadComplete d.val a.val) s

/-- COLUMN_SWAP (R81). -/
def execColumnSwap (d : Fin 4) (a : Fin 16) (p : Fin 4) (col : Nat) (s : State) : Host.Outcome State Fault Refusal :=
  onDevice (devColumnSwap d.val a.val p.val col) s

/-- ROW_ENTRY (R77). -/
def execRowEntry (d : Fin 4) (a : Fin 16) (row : RowFeed) (s : State) : Host.Outcome State Fault Refusal :=
  onDevice (devRowEntry d.val a.val row.part.val row.hit) s

/-- ACCUMULATOR_ADD (R129). -/
def execAccumulatorAdd (d : Fin 4) (a : Fin 16) (add : RowAdd) (s : State) : Host.Outcome State Fault Refusal :=
  onDevice (devAccumulatorAdd d.val a.val add.part.val add.fixed) s

/-- PARTITION_FAULT (R93). -/
def execPartitionFault (d : Fin 4) (a : Fin 16) (p : Fin 4) (cause : Fin 8) (s : State) : Host.Outcome State Fault Refusal :=
  onDevice (devPartitionFault d.val a.val p.val cause.val) s

/-- LATE_PREFETCH (R88). -/
def execLatePrefetch (u : LateUnit) (s : State) : Host.Outcome State Fault Refusal := onDevice (devLatePrefetch u) s

/-- TILE_COMMIT (R121). -/
def execTileCommit (d : Fin 4) (a : Fin 16) (t : Fin 16) (lo : Word) (s : State) : Host.Outcome State Fault Refusal :=
  onDevice (devTileCommit d.val a.val t.val lo) s

/-- PENDING_COMMIT (R121). -/
def execPendingCommit (d : Fin 4) (a : Fin 16) (t : Fin 16) (s : State) : Host.Outcome State Fault Refusal :=
  onDevice (devPendingCommit d.val a.val t.val) s

/-- DRAIN (R140). -/
def execDrain (d : Fin 4) (a : Fin 16) (p : Fin 4) (s : State) : Host.Outcome State Fault Refusal := onDevice (devDrain d.val a.val p.val) s

/-- DRAIN_ROW_SEGMENT (R141). -/
def execDrainRowSegment (d : Fin 4) (a : Fin 16) (p : Fin 4) (k : Nat) (ecc : EccOutcome) (s : State) : Host.Outcome State Fault Refusal :=
  onDevice (devDrainRowSegment d.val a.val p.val k ecc) s

/-- DRAIN_COMPLETE (R142). -/
def execDrainComplete (d : Fin 4) (a : Fin 16) (p : Fin 4) (k : Nat) (s : State) : Host.Outcome State Fault Refusal :=
  onDevice (devDrainComplete d.val a.val p.val k) s

/-- DRAIN_FAULT (R143). -/
def execDrainFault (d : Fin 4) (a : Fin 16) (p : Fin 4) (k : Nat) (cause : Fin 8) (s : State) : Host.Outcome State Fault Refusal :=
  onDevice (devDrainFault d.val a.val p.val k cause.val) s

/-- TURN_WRITE (R151). -/
def execTurnWrite (d : Fin 4) (pr : Fin 8) (v : Word) (s : State) : Host.Outcome State Fault Refusal := onDevice (devTurnWrite d.val pr.val v) s

/-- TURN_TAKE_EFFECT (R151). -/
def execTurnTakeEffect (d : Fin 4) (pr : Fin 8) (s : State) : Host.Outcome State Fault Refusal := onDevice (devTurnTakeEffect d.val pr.val) s

/-- PUT (R166). -/
def execPut (d : Fin 4) (s : State) : Host.Outcome State Fault Refusal := onDevice (devPut d.val) s

/-- GET (R168). -/
def execGet (d : Fin 4) (s : State) : Host.Outcome State Fault Refusal := onDevice (devGet d.val) s

/-- DROP (R168). -/
def execDrop (d : Fin 4) (s : State) : Host.Outcome State Fault Refusal := onDevice (devDrop d.val) s

/-- LBND (R170). -/
def execLbnd (d : Fin 4) (s : State) : Host.Outcome State Fault Refusal := onDevice (devLbnd d.val) s

/-- SPILL (R167). -/
def execSpill (d : Fin 4) (s : State) : Host.Outcome State Fault Refusal := onDevice (devSpill d.val) s

/-- TILE_LANDING (R167). -/
def execTileLanding (d : Fin 4) (k : Nat) (s : State) : Host.Outcome State Fault Refusal := ordinary (.tileLanding d k) s

/-- STASH_COMMAND_COMPLETE (R168). -/
def execStashCommandComplete (d : Fin 4) (s : State) : Host.Outcome State Fault Refusal := ordinary (.stashCommandComplete d) s

/-- STS_RESUME (R172). -/
def execStsResume (d : Fin 4) (s : State) : Host.Outcome State Fault Refusal := onDevice (devStsResume d.val) s

/-- STS_DROP (R175). -/
def execStsDrop (d : Fin 4) (h : BitVec 12) (s : State) : Host.Outcome State Fault Refusal := onDevice (devStsDrop d.val h.toNat) s

/-- ALLOTMENT_WRITE (R173). -/
def execAllotmentWrite (d : Fin 4) (r : Allotment) (v : Word) (s : State) : Host.Outcome State Fault Refusal :=
  onDevice (devAllotmentWrite d.val r v) s

/-- VLOOP (R191). -/
def execVloop (d : Fin 4) (w : Fin 16) (s : State) : Host.Outcome State Fault Refusal := onDevice (devVloop d.val w.val) s

/-- ITERATION_START (R183). -/
def execIterationStart (d : Fin 4) (w : Fin 16) (s : State) : Host.Outcome State Fault Refusal := onDevice (devIterationStart d.val w.val) s

/-- IALU (R181). -/
def execIalu (d : Fin 4) (w : Fin 16) (c : Fin 128) (x : CoreCheck) (s : State) : Host.Outcome State Fault Refusal :=
  onDevice (devIalu d.val w.val c.val x) s

/-- ADDI (R181). -/
def execAddi (d : Fin 4) (w : Fin 16) (c : Fin 128) (x : CoreCheck) (s : State) : Host.Outcome State Fault Refusal :=
  onDevice (devAddi d.val w.val c.val x) s

/-- LUI (R181). -/
def execLui (d : Fin 4) (w : Fin 16) (c : Fin 128) (x : CoreCheck) (s : State) : Host.Outcome State Fault Refusal :=
  onDevice (devLui d.val w.val c.val x) s

/-- FALU (R511). -/
def execFalu (d : Fin 4) (w : Fin 16) (c : Fin 128) (x : CoreCheck) (s : State) : Host.Outcome State Fault Refusal :=
  onDevice (devFalu d.val w.val c.val x) s

/-- FFMA (R181). -/
def execFfma (d : Fin 4) (w : Fin 16) (c : Fin 128) (x : CoreCheck) (s : State) : Host.Outcome State Fault Refusal :=
  onDevice (devFfma d.val w.val c.val x) s

/-- BFMA2 (R181). -/
def execBfma2 (d : Fin 4) (w : Fin 16) (c : Fin 128) (x : CoreCheck) (s : State) : Host.Outcome State Fault Refusal :=
  onDevice (devBfma2 d.val w.val c.val x) s

/-- FSPEC (R512). -/
def execFspec (d : Fin 4) (w : Fin 16) (c : Fin 128) (x : CoreCheck) (s : State) : Host.Outcome State Fault Refusal :=
  onDevice (devFspec d.val w.val c.val x) s

/-- CVT (R189). -/
def execCvt (d : Fin 4) (w : Fin 16) (c : Fin 128) (x : CoreCheck) (s : State) : Host.Outcome State Fault Refusal :=
  onDevice (devCvt d.val w.val c.val x) s

/-- LDW (R181). -/
def execLdw (d : Fin 4) (w : Fin 16) (c : Fin 128) (x : CoreCheck) (s : State) : Host.Outcome State Fault Refusal :=
  onDevice (devLdw d.val w.val c.val x) s

/-- LDH (R181). -/
def execLdh (d : Fin 4) (w : Fin 16) (c : Fin 128) (x : CoreCheck) (s : State) : Host.Outcome State Fault Refusal :=
  onDevice (devLdh d.val w.val c.val x) s

/-- LDB (R181). -/
def execLdb (d : Fin 4) (w : Fin 16) (c : Fin 128) (x : CoreCheck) (s : State) : Host.Outcome State Fault Refusal :=
  onDevice (devLdb d.val w.val c.val x) s

/-- STW (R181). -/
def execStw (d : Fin 4) (w : Fin 16) (c : Fin 128) (x : CoreCheck) (s : State) : Host.Outcome State Fault Refusal :=
  onDevice (devStw d.val w.val c.val x) s

/-- STH (R181). -/
def execSth (d : Fin 4) (w : Fin 16) (c : Fin 128) (x : CoreCheck) (s : State) : Host.Outcome State Fault Refusal :=
  onDevice (devSth d.val w.val c.val x) s

/-- STB (R181). -/
def execStb (d : Fin 4) (w : Fin 16) (c : Fin 128) (x : CoreCheck) (s : State) : Host.Outcome State Fault Refusal :=
  onDevice (devStb d.val w.val c.val x) s

/-- LDL (R181). -/
def execLdl (d : Fin 4) (w : Fin 16) (c : Fin 128) (x : CoreCheck) (s : State) : Host.Outcome State Fault Refusal :=
  onDevice (devLdl d.val w.val c.val x) s

/-- STL (R181). -/
def execStl (d : Fin 4) (w : Fin 16) (c : Fin 128) (x : CoreCheck) (s : State) : Host.Outcome State Fault Refusal :=
  onDevice (devStl d.val w.val c.val x) s

/-- LDQ (R181). -/
def execLdq (d : Fin 4) (w : Fin 16) (c : Fin 128) (x : CoreCheck) (s : State) : Host.Outcome State Fault Refusal :=
  onDevice (devLdq d.val w.val c.val x) s

/-- QST (R190). -/
def execQst (d : Fin 4) (w : CheckedCluster) (blk : Nat) (s : State) : Host.Outcome State Fault Refusal :=
  onDevice (devQst d.val w.cluster.val blk w.core.val w.check) s

/-- PERM (R186). -/
def execPerm (d : Fin 4) (w : CheckedCluster) (s : State) : Host.Outcome State Fault Refusal :=
  onDevice (devPerm d.val w.cluster.val w.core.val w.check) s

/-- SUMX (R187). -/
def execSumx (d : Fin 4) (w : Fin 16) (c : Fin 128) (x : CoreCheck) (s : State) : Host.Outcome State Fault Refusal :=
  onDevice (devSumx d.val w.val c.val x) s

/-- BEQ (R181). -/
def execBeq (d : Fin 4) (w : Fin 16) (c : Fin 128) (x : CoreCheck) (s : State) : Host.Outcome State Fault Refusal :=
  onDevice (devBeq d.val w.val c.val x) s

/-- BNE (R181). -/
def execBne (d : Fin 4) (w : Fin 16) (c : Fin 128) (x : CoreCheck) (s : State) : Host.Outcome State Fault Refusal :=
  onDevice (devBne d.val w.val c.val x) s

/-- BLT (R181). -/
def execBlt (d : Fin 4) (w : Fin 16) (c : Fin 128) (x : CoreCheck) (s : State) : Host.Outcome State Fault Refusal :=
  onDevice (devBlt d.val w.val c.val x) s

/-- BLTU (R181). -/
def execBltu (d : Fin 4) (w : Fin 16) (c : Fin 128) (x : CoreCheck) (s : State) : Host.Outcome State Fault Refusal :=
  onDevice (devBltu d.val w.val c.val x) s

/-- JAL (R181). -/
def execJal (d : Fin 4) (w : Fin 16) (c : Fin 128) (x : CoreCheck) (s : State) : Host.Outcome State Fault Refusal :=
  onDevice (devJal d.val w.val c.val x) s

/-- JR (R181). -/
def execJr (d : Fin 4) (w : Fin 16) (c : Fin 128) (x : CoreCheck) (s : State) : Host.Outcome State Fault Refusal :=
  onDevice (devJr d.val w.val c.val x) s

/-- END (R188). -/
def execEnd (d : Fin 4) (w : Fin 16) (c : Fin 128) (x : CoreCheck) (s : State) : Host.Outcome State Fault Refusal :=
  onDevice (devEnd d.val w.val c.val x) s

/-- RECORD_FETCH (R516). -/
def execRecordFetch (d : Fin 4) (sn : Fin 8) (s : State) : Host.Outcome State Fault Refusal := ordinary (.recordFetch d sn) s

/-- RECORD_DISPATCH (R197). -/
def execRecordDispatch (d : Fin 4) (sn : Fin 8) (s : State) : Host.Outcome State Fault Refusal := onDevice (devRecordDispatch d.val sn.val) s

/-- WAITC (R200). -/
def execWaitc (d : Fin 4) (sn : Fin 8) (s : State) : Host.Outcome State Fault Refusal := onDevice (devWaitc d.val sn.val) s

/-- SETC (R200). -/
def execSetc (d : Fin 4) (sn : Fin 8) (s : State) : Host.Outcome State Fault Refusal := onDevice (devSetc d.val sn.val) s

/-- ADDC (R200). -/
def execAddc (d : Fin 4) (sn : Fin 8) (s : State) : Host.Outcome State Fault Refusal := onDevice (devAddc d.val sn.val) s

/-- BRS (R200). -/
def execBrs (d : Fin 4) (sn : Fin 8) (s : State) : Host.Outcome State Fault Refusal := onDevice (devBrs d.val sn.val) s

/-- JUMP (R200). -/
def execJump (d : Fin 4) (sn : Fin 8) (s : State) : Host.Outcome State Fault Refusal := onDevice (devJump d.val sn.val) s

/-- LOOP (R200). -/
def execLoop (d : Fin 4) (sn : Fin 8) (s : State) : Host.Outcome State Fault Refusal := onDevice (devLoop d.val sn.val) s

/-- DECBR (R200). -/
def execDecbr (d : Fin 4) (sn : Fin 8) (s : State) : Host.Outcome State Fault Refusal := onDevice (devDecbr d.val sn.val) s

/-- HALT (R200). -/
def execHalt (d : Fin 4) (sn : Fin 8) (s : State) : Host.Outcome State Fault Refusal := onDevice (devHalt d.val sn.val) s

/-- SETSTEP (R70). -/
def execSetstep (d : Fin 4) (sn : Fin 8) (s : State) : Host.Outcome State Fault Refusal := onDevice (devSetstep d.val sn.val) s

/-- ABANDON (R202). -/
def execAbandon (d : Fin 4) (sn : Fin 8) (s : State) : Host.Outcome State Fault Refusal := onDevice (devAbandon d.val sn.val) s

/-- STREAM_RESUME (R199). -/
def execStreamResume (d : Fin 4) (sn : Fin 8) (s : State) : Host.Outcome State Fault Refusal := onDevice (devStreamResume d.val sn.val) s

/-- DOORBELL (R420). -/
def execDoorbell (d : Fin 4) (sn : Fin 8) (v : Word) (poison : Bool) (s : State) : Host.Outcome State Fault Refusal :=
  ordinary (.doorbell d sn v poison) s

/-- CTL_SHEAD_WRITE (R204). -/
def execCtlSheadWrite (d : Fin 4) (sn : Fin 8) (v : Word) (s : State) : Host.Outcome State Fault Refusal :=
  onDevice (devCtlSheadWrite d.val sn.val v) s

/-- CTL_SYNC_WRITE (R194). -/
def execCtlSyncWrite (d : Fin 4) (c : Fin 256) (v : Word) (s : State) : Host.Outcome State Fault Refusal :=
  ordinary (.ctlSyncWrite d c v) s

/-- CTL_SYNCADD_WRITE (R194). -/
def execCtlSyncaddWrite (d : Fin 4) (c : Fin 256) (v : Word) (s : State) : Host.Outcome State Fault Refusal :=
  ordinary (.ctlSyncaddWrite d c v) s

/-- DSTART (R209). -/
def execDstart (d : Fin 4) (n : Fin 32) (s : State) : Host.Outcome State Fault Refusal := onDevice (devDstart d.val n.val) s

/-- MOVE (R214). -/
def execMove (d : Fin 4) (n : Fin 32) (s : State) : Host.Outcome State Fault Refusal := onDevice (devMove d.val n.val) s

/-- MOVX (R222). -/
def execMovx (d : Fin 4) (n : Fin 32) (s : State) : Host.Outcome State Fault Refusal := onDevice (devMovx d.val n.val) s

/-- DMA_LOOP (R215). -/
def execDmaLoop (d : Fin 4) (n : Fin 32) (s : State) : Host.Outcome State Fault Refusal := onDevice (devDmaLoop d.val n.val) s

/-- WAIT (R216). -/
def execWait (d : Fin 4) (n : Fin 32) (s : State) : Host.Outcome State Fault Refusal := onDevice (devWait d.val n.val) s

/-- WAIT_TIMEOUT (R216). -/
def execWaitTimeout (d : Fin 4) (n : Fin 32) (s : State) : Host.Outcome State Fault Refusal := onDevice (devWaitTimeout d.val n.val) s

/-- SIGNAL (R217). -/
def execSignal (d : Fin 4) (n : Fin 32) (s : State) : Host.Outcome State Fault Refusal := onDevice (devSignal d.val n.val) s

/-- CRC_RESET (R220). -/
def execCrcReset (d : Fin 4) (n : Fin 32) (s : State) : Host.Outcome State Fault Refusal := onDevice (devCrcReset d.val n.val) s

/-- CRC_STORE (R220). -/
def execCrcStore (d : Fin 4) (n : Fin 32) (s : State) : Host.Outcome State Fault Refusal := onDevice (devCrcStore d.val n.val) s

/-- CRC_CHECK (R220). -/
def execCrcCheck (d : Fin 4) (n : FedChan) (s : State) : Host.Outcome State Fault Refusal := ordinary (.crcCheck d n) s

/-- DMA_END (R218). -/
def execDmaEnd (d : Fin 4) (n : Fin 32) (s : State) : Host.Outcome State Fault Refusal := onDevice (devDmaEnd d.val n.val) s

/-- BURST (R228). -/
def execBurst (d : Fin 4) (n : Fin 32) (feed : Bool) (s : State) : Host.Outcome State Fault Refusal :=
  ordinary (.burst d n feed) s

/-- CREDIT_TICK (R228). -/
def execCreditTick (d : Fin 4) (n : Fin 32) (s : State) : Host.Outcome State Fault Refusal := onDevice (devCreditTick d.val n.val) s

/-- WRITE_ARRIVAL (R224). -/
def execWriteArrival (d : Fin 4) (n : Fin 32) (k : Nat) (s : State) : Host.Outcome State Fault Refusal :=
  ordinary (.writeArrival d n k) s

/-- DMA_ABORT (R230). -/
def execDmaAbort (d : Fin 4) (n : Fin 32) (s : State) : Host.Outcome State Fault Refusal := onDevice (devDmaAbort d.val n.val) s

/-- PURGE (R230). -/
def execPurge (d : Fin 4) (n : Fin 32) (s : State) : Host.Outcome State Fault Refusal := onDevice (devPurge d.val n.val) s

/-- COMPLETING_STEP (R231). -/
def execCompletingStep (d : Fin 4) (n : Fin 32) (s : State) : Host.Outcome State Fault Refusal := onDevice (devCompletingStep d.val n.val) s

/-- OBJDEF (R243). -/
def execObjdef (g : Fin 5) (s : State) : Host.Outcome State Fault Refusal := onDevice (devObjdef g.val) s

/-- RAISE (R250). -/
def execRaise (g : Fin 5) (s : State) : Host.Outcome State Fault Refusal := onDevice (devRaise g.val) s

/-- VICTIM_LOWERING (R250). -/
def execVictimLowering (g : Fin 5) (s : State) : Host.Outcome State Fault Refusal := onDevice (devVictimLowering g.val) s

/-- LOWER (R253). -/
def execLower (g : Fin 5) (s : State) : Host.Outcome State Fault Refusal := onDevice (devLower g.val) s

/-- OBJDEL (R249). -/
def execObjdel (g : Fin 5) (s : State) : Host.Outcome State Fault Refusal := onDevice (devObjdel g.val) s

/-- TILE_MOVE_ARRIVAL (R254). -/
def execTileMoveArrival (g : Fin 5) (k : Nat) (s : State) : Host.Outcome State Fault Refusal := ordinary (.tileMoveArrival g k) s

/-- TIER_MOVE_FAULT (R257). -/
def execTierMoveFault (g : Fin 5) (k : Nat) (s : State) : Host.Outcome State Fault Refusal := ordinary (.tierMoveFault g k) s

/-- SEGMENT_COMMIT (R247). -/
def execSegmentCommit (g : Fin 5) (v : Word) (s : State) : Host.Outcome State Fault Refusal := onDevice (devSegmentCommit g.val v) s

/-- PATROL_SCRUB (R265). -/
def execPatrolScrub (ch : Fin 8) (line : Nat) (s : State) : Host.Outcome State Fault Refusal :=
  onDevice (devPatrolScrub ch.val line) s

/-- GATHER (R278). -/
def execGather (sn : Fin 8) (s : State) : Host.Outcome State Fault Refusal := onDevice (devGather sn.val) s

/-- REDUCE (R279). -/
def execReduce (sn : Fin 8) (s : State) : Host.Outcome State Fault Refusal := onDevice (devReduce sn.val) s

/-- MOMENT (R280). -/
def execMoment (sn : Fin 8) (s : State) : Host.Outcome State Fault Refusal := onDevice (devMoment sn.val) s

/-- NEAR_BANK_STEP (R283). -/
def execNearBankStep (sn : Fin 8) (u : Fin 512) (o : StepOutcome) (s : State) : Host.Outcome State Fault Refusal :=
  onDevice (devNearBankStep sn.val u.val o) s

/-- ORDINARY_ACCESS_SERVICE (R284). -/
def execOrdinaryAccessService (sn : Fin 8) (u : Fin 512) (s : State) : Host.Outcome State Fault Refusal :=
  .next (stOrdinaryAccessService sn.val u.val s)

/-- TIER1_PATROL_SCRUB (R289). -/
def execTier1PatrolScrub (sn : Fin 8) (ch : Fin 32) (bank : Fin 16) (word : Nat) (s : State) : Host.Outcome State Fault Refusal :=
  ordinary (.tier1PatrolScrub sn ch bank word) s

/-- QUANT (R304). -/
def execQuant (d : Fin 4) (flt : UnitFault) (s : State) : Host.Outcome State Fault Refusal := ordinary (.quant d flt) s

/-- STEPGATE (R309). -/
def execStepgate (d : Fin 4) (flt : UnitFault) (s : State) : Host.Outcome State Fault Refusal := ordinary (.stepgate d flt) s

/-- RDRV (R300). -/
def execRdrv (d : Fin 4) (flt : UnitFault) (s : State) : Host.Outcome State Fault Refusal := ordinary (.rdrv d flt) s

/-- DIGEST (R313). -/
def execDigest (d : Fin 4) (flt : UnitFault) (s : State) : Host.Outcome State Fault Refusal := ordinary (.digest d flt) s

/-- PACK (R317). -/
def execPack (d : Fin 4) (flt : UnitFault) (s : State) : Host.Outcome State Fault Refusal := ordinary (.pack d flt) s

/-- MUPD (R301). -/
def execMupd (s : State) : Host.Outcome State Fault Refusal := onDevice devMupd s

/-- MASTER_LINE_UPDATE (R303). -/
def execMasterLineUpdate (m : Fin 8) (line : Nat) (flt : UnitFault) (s : State) : Host.Outcome State Fault Refusal :=
  ordinary (.masterLineUpdate m line flt) s

/-- INGEST_JOB (R341). -/
def execIngestJob (s : State) : Host.Outcome State Fault Refusal := ordinary .ingestJob s

/-- SAMPLE_START (R344). -/
def execSampleStart (dec : Fin 48) (flt : SampleFault) (s : State) : Host.Outcome State Fault Refusal :=
  ordinary (.sampleStart dec flt) s

/-- SAMPLE_COMMIT (R345). -/
def execSampleCommit (s : State) : Host.Outcome State Fault Refusal := ordinary .sampleCommit s

/-- DECODE_TIMEOUT (R346). -/
def execDecodeTimeout (dec : Fin 48) (s : State) : Host.Outcome State Fault Refusal := ordinary (.decodeTimeout dec) s

/-- ING_ABORT (R348). -/
def execIngAbort (s : State) : Host.Outcome State Fault Refusal := onDevice devIngAbort s

/-- PERM_TEST_EVALUATION (R351). -/
def execPermTestEvaluation (s : State) : Host.Outcome State Fault Refusal := onDevice devPermTestEvaluation s

/-- PERM_TEST_DONE (R351). -/
def execPermTestDone (s : State) : Host.Outcome State Fault Refusal := onDevice devPermTestDone s

/-- DATA_FLIT (R358). -/
def execDataFlit (p : Fin 16) (f : Flit) (s : State) : Host.Outcome State Fault Refusal := onDevice (devDataFlit p.val f) s

/-- CONTROL_FLIT (R363). -/
def execControlFlit (p : Fin 16) (f : Flit) (s : State) : Host.Outcome State Fault Refusal := onDevice (devControlFlit p.val f) s

/-- CREDIT_RETURN (R360). -/
def execCreditReturn (p : Fin 16) (s : State) : Host.Outcome State Fault Refusal := onDevice (devCreditReturn p.val) s

/-- REPLAY (R359). -/
def execReplay (p : Fin 16) (s : State) : Host.Outcome State Fault Refusal := onDevice (devReplay p.val) s

/-- LOSS_OF_SIGNAL (R362). -/
def execLossOfSignal (p : Fin 16) (lane : Fin 8) (s : State) : Host.Outcome State Fault Refusal := onDevice (devLossOfSignal p.val lane.val) s

/-- TRAINING_COMPLETE (R363). -/
def execTrainingComplete (p : Fin 16) (partnerResume : Bool) (rxNext : Nat) (s : State) : Host.Outcome State Fault Refusal :=
  onDevice (devTrainingComplete p.val partnerResume rxNext) s

/-- TRAINING_ATTEMPT_TIMEOUT (R363). -/
def execTrainingAttemptTimeout (p : Fin 16) (s : State) : Host.Outcome State Fault Refusal := onDevice (devTrainingAttemptTimeout p.val) s

/-- PORT_ENABLE (R362). -/
def execPortEnable (p : Fin 16) (s : State) : Host.Outcome State Fault Refusal := onDevice (devPortEnable p.val) s

/-- PORT_DISABLE (R362). -/
def execPortDisable (p : Fin 16) (s : State) : Host.Outcome State Fault Refusal := onDevice (devPortDisable p.val) s

/-- ADMIT (R362). -/
def execPortAdmit (p : Fin 16) (v : Bool) (s : State) : Host.Outcome State Fault Refusal := onDevice (devPortAdmit p.val v) s

/-- RETRAIN (R362). -/
def execRetrain (p : Fin 16) (s : State) : Host.Outcome State Fault Refusal := onDevice (devRetrain p.val) s

/-- KEEPALIVE (R378). -/
def execKeepalive (p : Fin 16) (s : State) : Host.Outcome State Fault Refusal := onDevice (devKeepalive p.val) s

/-- KA (R379). -/
def execKa (p : Fin 16) (s : State) : Host.Outcome State Fault Refusal := onDevice (devKa p.val) s

/-- LSA (R380). -/
def execLsa (p : Fin 16) (s : State) : Host.Outcome State Fault Refusal := onDevice (devLsa p.val) s

/-- GENANN (R376). -/
def execGenann (p : Fin 16) (s : State) : Host.Outcome State Fault Refusal := onDevice (devGenann p.val) s

/-- ROUTED_PACKET_ARRIVAL (R369). -/
def execRoutedPacketArrival (p : Fin 16) (s : State) : Host.Outcome State Fault Refusal := onDevice (devRoutedPacketArrival p.val) s

/-- WR (R372). -/
def execWr (p : Fin 16) (s : State) : Host.Outcome State Fault Refusal := ordinary (.wr p) s

/-- RD (R372). -/
def execRd (p : Fin 16) (s : State) : Host.Outcome State Fault Refusal := ordinary (.rd p) s

/-- DRD (R373). -/
def execDrd (p : Fin 16) (s : State) : Host.Outcome State Fault Refusal := ordinary (.drd p) s

/-- WACK (R374). -/
def execWack (p : Fin 16) (s : State) : Host.Outcome State Fault Refusal := onDevice (devWack p.val) s

/-- RDR (R374). -/
def execRdr (p : Fin 16) (s : State) : Host.Outcome State Fault Refusal := ordinary (.rdr p) s

/-- PEER_REQUEST (R374). -/
def execPeerRequest (s : State) : Host.Outcome State Fault Refusal := ordinary .peerRequest s

/-- E2E_TIMEOUT (R374). -/
def execE2eTimeout (tag : BitVec 16) (s : State) : Host.Outcome State Fault Refusal := ordinary (.e2eTimeout tag) s

/-- ANNOUNCE (R376). -/
def execAnnounce (s : State) : Host.Outcome State Fault Refusal := onDevice devAnnounce s

/-- TABLE_ENTRY_WRITE (R368). -/
def execTableEntryWrite (v : BitVec 64) (s : State) : Host.Outcome State Fault Refusal := onDevice (devTableEntryWrite v) s

/-- REDUCE_SCATTER (R388). -/
def execReduceScatter (d : CheckedDie) (s : State) : Host.Outcome State Fault Refusal := ordinary (.reduceScatter d) s

/-- ALL_GATHER (R388). -/
def execAllGather (d : CheckedDie) (s : State) : Host.Outcome State Fault Refusal := ordinary (.allGather d) s

/-- ALL_REDUCE (R388). -/
def execAllReduce (d : CheckedDie) (s : State) : Host.Outcome State Fault Refusal := ordinary (.allReduce d) s

/-- COL_REDUCE (R396). -/
def execColReduce (p : Fin 16) (x : CoreCheck) (s : State) : Host.Outcome State Fault Refusal := ordinary (.colReduce p x) s

/-- COL_GATHER (R395). -/
def execColGather (p : Fin 16) (x : CoreCheck) (s : State) : Host.Outcome State Fault Refusal := ordinary (.colGather p x) s

/-- COL_CLOSE (R399). -/
def execColClose (p : CheckedPort) (s : State) : Host.Outcome State Fault Refusal := ordinary (.colClose p) s

/-- SEAL_EXPIRY (R400). -/
def execSealExpiry (d : Fin 4) (s : State) : Host.Outcome State Fault Refusal := ordinary (.sealExpiry d) s

/-- ABORT_PACKET (R405). -/
def execAbortPacket (p : Fin 16) (s : State) : Host.Outcome State Fault Refusal := onDevice (devAbortPacket p.val) s

/-- COLLECTIVE_TIMEOUT (R404). -/
def execCollectiveTimeout (d : Fin 4) (s : State) : Host.Outcome State Fault Refusal := onDevice (devCollectiveTimeout d.val) s

/-- HOST_ABORT (R404). -/
def execHostAbort (d : Fin 4) (s : State) : Host.Outcome State Fault Refusal := ordinary (.hostAbort d) s

/-- LINK_UP (R413). -/
def execLinkUp (speed : Fin 8) (width : Fin 64) (flit : Bool) (s : State) : Host.Outcome State Fault Refusal :=
  onDevice (devLinkUp speed.val width.val flit) s

/-- CONFIG_REQUEST (R413). -/
def execConfigRequest (write : Bool) (reg : Fin 1024) (v : Word) (bdf : BitVec 16) (s : State) : Host.Outcome State Fault Refusal :=
  onDevice (devConfigRequest write reg.val v bdf) s

/-- FLR (R414). -/
def execFlr (s : State) : Host.Outcome State Fault Refusal := onDevice devFlr s

/-- HOT_RESET (R414). -/
def execHotReset (s : State) : Host.Outcome State Fault Refusal := onDevice devHotReset s

/-- HOST_LINK_DOWN (R414). -/
def execHostLinkDown (s : State) : Host.Outcome State Fault Refusal := onDevice devHostLinkDown s

/-- LINK_STATE (R432). -/
def execLinkState (speed : Fin 8) (width : Fin 64) (flit : Bool) (s : State) : Host.Outcome State Fault Refusal :=
  onDevice (devLinkState speed.val width.val flit) s

/-- APERTURE_ACCESS (R417). -/
def execApertureAccess (write : Bool) (off : Nat) (data : List Byte) (len : Nat) (poison : Bool) (s : State) : Host.Outcome State Fault Refusal :=
  ordinary (.apertureAccess write off data len poison) s

/-- MSIX_TABLE_ACCESS (R423). -/
def execMsixTableAccess (write : Bool) (off : Nat) (width : Nat) (v : BitVec 64) (poison : Bool) (s : State) : Host.Outcome State Fault Refusal :=
  ordinary (.msixTableAccess write off width v poison) s

/-- EVENT_RING_ENABLE (R424). -/
def execEventRingEnable (v : Word) (s : State) : Host.Outcome State Fault Refusal := ordinary (.eventRingEnable v) s

/-- EVENT_RING_DISABLE (R424). -/
def execEventRingDisable (v : Word) (s : State) : Host.Outcome State Fault Refusal := ordinary (.eventRingDisable v) s

/-- EVENT_RING_VEC_CHANGE (R424). -/
def execEventRingVecChange (v : Word) (s : State) : Host.Outcome State Fault Refusal := ordinary (.eventRingVecChange v) s

/-- HIF_EVHEAD_WRITE (R427). -/
def execHifEvheadWrite (v : Word) (s : State) : Host.Outcome State Fault Refusal := ordinary (.hifEvheadWrite v) s

/-- EVENT_RECORD_WRITE (R424). -/
def execEventRecordWrite (s : State) : Host.Outcome State Fault Refusal := onDevice devEventRecordWrite s

/-- SET_ENDPOINT_ID (R428). -/
def execSetEndpointId (req : List Byte) (s : State) : Host.Outcome State Fault Refusal := onDevice (devSetEndpointId req) s

/-- GET_ENDPOINT_ID (R428). -/
def execGetEndpointId (req : List Byte) (s : State) : Host.Outcome State Fault Refusal := onDevice (devGetEndpointId req) s

/-- GET_ENDPOINT_UUID (R428). -/
def execGetEndpointUuid (req : List Byte) (s : State) : Host.Outcome State Fault Refusal := onDevice (devGetEndpointUuid req) s

/-- GET_MCTP_VERSION_SUPPORT (R428). -/
def execGetMctpVersionSupport (req : List Byte) (s : State) : Host.Outcome State Fault Refusal := onDevice (devGetMctpVersionSupport req) s

/-- GET_MESSAGE_TYPE_SUPPORT (R428). -/
def execGetMessageTypeSupport (req : List Byte) (s : State) : Host.Outcome State Fault Refusal := onDevice (devGetMessageTypeSupport req) s

/-- GET_VENDOR_DEFINED_MESSAGE_SUPPORT (R428). -/
def execGetVendorDefinedMessageSupport (req : List Byte) (s : State) : Host.Outcome State Fault Refusal :=
  onDevice (devGetVendorDefinedMessageSupport req) s

/-- GET_STATUS (R429). -/
def execGetStatus (inst : Byte) (payload : List Byte) (s : State) : Host.Outcome State Fault Refusal := onDevice (devGetStatus inst payload) s

/-- GET_HEALTH (R429). -/
def execGetHealth (inst : Byte) (payload : List Byte) (s : State) : Host.Outcome State Fault Refusal := onDevice (devGetHealth inst payload) s

/-- GET_EVENTS (R429). -/
def execGetEvents (inst : Byte) (payload : List Byte) (s : State) : Host.Outcome State Fault Refusal := onDevice (devGetEvents inst payload) s

/-- GET_QUOTE (R429). -/
def execGetQuote (inst : Byte) (payload : List Byte) (s : State) : Host.Outcome State Fault Refusal := onDevice (devGetQuote inst payload) s

/-- POWER_GOOD (R435). -/
def execPowerGood (presence : Bool) (probe : BootProbe) (s : State) : Host.Outcome State Fault Refusal := onDevice (devPowerGood presence probe) s

/-- MGT_BOOTOK_WRITE (R449). -/
def execMgtBootokWrite (v : Word) (s : State) : Host.Outcome State Fault Refusal := onDevice (devMgtBootokWrite v) s

/-- BOOTOK_TIMEOUT (R449). -/
def execBootokTimeout (err : ReadError) (s : State) : Host.Outcome State Fault Refusal := onDevice (devBootokTimeout err) s

/-- MODULE_READY (R435). -/
def execModuleReady (t1ok : Bool) (t2ok : Bool) (tready : BitVec 16) (s : State) : Host.Outcome State Fault Refusal :=
  onDevice (devModuleReady t1ok t2ok tready.toNat) s

/-- PROGRAM (R445). -/
def execProgram (s : State) : Host.Outcome State Fault Refusal := onDevice devProgram s

/-- CFG_PROGRAM (R446). -/
def execCfgProgram (flashOk : Bool) (s : State) : Host.Outcome State Fault Refusal := onDevice (devCfgProgram flashOk) s

/-- OFFER_UPDATE (R450). -/
def execOfferUpdate (s : State) : Host.Outcome State Fault Refusal := ordinary .offerUpdate s

/-- IMAGE_UPDATE (R450). -/
def execImageUpdate (flashOk : Bool) (s : State) : Host.Outcome State Fault Refusal := onDevice (devImageUpdate flashOk) s

/-- RAISE_FLOOR (R451). -/
def execRaiseFloor (s : State) : Host.Outcome State Fault Refusal := onDevice devRaiseFloor s

/-- REVOKE (R451). -/
def execRevoke (mask : BitVec 4) (s : State) : Host.Outcome State Fault Refusal := onDevice (devRevoke mask) s

/-- EXTEND (R452). -/
def execExtend (k : Fin 8) (s : State) : Host.Outcome State Fault Refusal := onDevice (devExtend k.val) s

/-- QUOTE (R455). -/
def execQuote (s : State) : Host.Outcome State Fault Refusal := onDevice devQuote s

/-- QUOTE_READY (R455). -/
def execQuoteReady (s : State) : Host.Outcome State Fault Refusal := onDevice devQuoteReady s

/-- SEC_FLDATA_READ (R461). -/
def execSecFldataRead (s : State) : Host.Outcome State Fault Refusal := ordinary .secFldataRead s

/-- PWR_VSET_WRITE (R457). -/
def execPwrVsetWrite (ag : Agent) (d : Fin 4) (v : Word) (s : State) : Host.Outcome State Fault Refusal := onDevice (devPwrVsetWrite ag d.val v) s

/-- CONE_REPORT (R456). -/
def execConeReport (d : Fin 4) (c : Fin 16) (rate : BitVec 16) (temp : BitVec 16) (mv : BitVec 10) (s : State) : Host.Outcome State Fault Refusal :=
  onDevice (devConeReport d.val c.val rate temp mv) s

/-- HANG (R468). -/
def execHang (w : Nat) (s : State) : Host.Outcome State Fault Refusal := .next (stHang w s)

/-- SHADOW_READ (R471). -/
def execShadowRead (s : State) : Host.Outcome State Fault Refusal := onDevice devShadowRead s

/-- SHADOW_WORD_READY (R471). -/
def execShadowWordReady (s : State) : Host.Outcome State Fault Refusal := .next (stShadowWordReady s)

/-- NORESP (R472). -/
def execNoresp (s : State) : Host.Outcome State Fault Refusal := onDevice devNoresp s

/-- RELEASE (R469). -/
def execRelease (units first words : List Nat) (s : State) : Host.Outcome State Fault Refusal :=
  ordinary (.release units first words) s

/-- GROUP_RESET (R476). -/
def execGroupReset (w : Nat) (s : State) : Host.Outcome State Fault Refusal := onDevice (devGroupReset w) s

/-- DIE_RESET (R476). -/
def execDieReset (src : ResetSource) (d : Fin 4) (s : State) : Host.Outcome State Fault Refusal := ordinary (.dieReset src d) s

/-- MODULE_RESET (R476). -/
def execModuleReset (src : ResetSource) (s : State) : Host.Outcome State Fault Refusal := ordinary (.moduleReset src) s

/-- RESET_DONE (R476). -/
def execResetDone (s : State) : Host.Outcome State Fault Refusal := onDevice devResetDone s

/-- KICK (R489). -/
def execKick (s : State) : Host.Outcome State Fault Refusal := onDevice devKick s

/-- MGT_WATCHDOG (R489). -/
def execMgtWatchdog (err : ReadError) (s : State) : Host.Outcome State Fault Refusal := .next (stMgtWatchdog err s)

/-- REPAIR (R484). -/
def execRepair (source : BitVec 15) (minority : Bool) (s : State) : Host.Outcome State Fault Refusal :=
  ordinary (.repair source minority) s

/-- REPAIR_DONE (R485). -/
def execRepairDone (ls : List Word) (epar : BitVec 4) (s : State) : Host.Outcome State Fault Refusal := onDevice (devRepairDone ls epar) s

/-- STEP_ABORT (R482). -/
def execStepAbort (try_ : BitVec 8) (s : State) : Host.Outcome State Fault Refusal := onDevice (devStepAbort try_.toNat) s

/-- SVCSET (R490). -/
def execSvcset (mask : BitVec 3) (who : Nat) (s : State) : Host.Outcome State Fault Refusal := onDevice (devSvcset mask.toNat who) s

/-- LOSS_OF_POWER (R493). -/
def execLossOfPower (s : State) : Host.Outcome State Fault Refusal := .next (stLossOfPower s)

/-- THERM_WARN (R501). -/
def execThermWarn (k : Fin 5) (ix : Fin 64) (temp : BitVec 16) (s : State) : Host.Outcome State Fault Refusal :=
  onDevice (devThermWarn k.val ix.val temp) s

/-- THERMAL_SHUTDOWN (R502). -/
def execThermalShutdown (k : Fin 5) (ix : Fin 64) (temp : BitVec 16) (s : State) : Host.Outcome State Fault Refusal :=
  .next (stThermalShutdown k.val ix.val temp s)

/-- REGISTER_WRITE (R32). -/
def execRegisterWrite (ag : Agent) (off : Nat) (width : Nat) (v : BitVec 64) (poison : Bool) (s : State) : Host.Outcome State Fault Refusal :=
  ordinary (.registerWrite ag off width v poison) s

/-- CODEWORD_TIME (R356). -/
def execCodewordTime (p : Fin 16) (s : State) : Host.Outcome State Fault Refusal := onDevice (devCodewordTime p.val) s

/-- TAG_REUSE (R374). -/
def execTagReuse (tag : BitVec 16) (s : State) : Host.Outcome State Fault Refusal := onDevice (devTagReuse tag.toNat) s

/-- THERM_WARN_REARM (R501). -/
def execThermWarnRearm (k : Fin 5) (ix : Fin 64) (temp : BitVec 16) (s : State) : Host.Outcome State Fault Refusal :=
  onDevice (devThermWarnRearm k.val ix.val temp) s

/-- SHUTDOWN_RELEASE (R502). -/
def execShutdownRelease (feedRemovedMs : Nat) (presenceOpen : Bool) (s : State) : Host.Outcome State Fault Refusal :=
  onDevice (devShutdownRelease feedRemovedMs presenceOpen) s

end Sys2Proof.Machine
end

