-- ==== Sys2Proof/Machine/Dispatch.lean ====
section
/-! DEFINITION. One arm per command: its meaning. -/

namespace Sys2Proof.Machine

/-- The effect of a command on everything but the queue of waiting commands. -/
def exec (i : Instr) (s : State) : Host.Outcome State Fault Refusal :=
  match i with
  | .arbiterGrant tree round => Sys2Proof.Machine.execArbiterGrant tree round s
  | .currentClamp mv ma => Sys2Proof.Machine.execCurrentClamp mv ma s
  | .clampRelease mv ma => Sys2Proof.Machine.execClampRelease mv ma s
  | .thermTrip d => Sys2Proof.Machine.execThermTrip d s
  | .thermRelease d => Sys2Proof.Machine.execThermRelease d s
  | .ctlLtcLoRead d r => Sys2Proof.Machine.execCtlLtcLoRead d r s
  | .grgTestEvaluation d => Sys2Proof.Machine.execGrgTestEvaluation d s
  | .grgTestDone d => Sys2Proof.Machine.execGrgTestDone d s
  | .kload d a p => Sys2Proof.Machine.execKload d a p s
  | .kstream d a p => Sys2Proof.Machine.execKstream d a p s
  | .kconv d a p => Sys2Proof.Machine.execKconv d a p s
  | .kcfg d a => Sys2Proof.Machine.execKcfg d a s
  | .mvmul d => Sys2Proof.Machine.execMvmul d s
  | .mvmulComplete d => Sys2Proof.Machine.execMvmulComplete d s
  | .mvpFault d cause nidx => Sys2Proof.Machine.execMvpFault d cause nidx s
  | .loadComplete d a => Sys2Proof.Machine.execLoadComplete d a s
  | .columnSwap d a p col => Sys2Proof.Machine.execColumnSwap d a p col s
  | .rowEntry d a row => Sys2Proof.Machine.execRowEntry d a row s
  | .accumulatorAdd d a p => Sys2Proof.Machine.execAccumulatorAdd d a p s
  | .partitionFault d a p cause => Sys2Proof.Machine.execPartitionFault d a p cause s
  | .latePrefetch u => Sys2Proof.Machine.execLatePrefetch u s
  | .tileCommit d a t lo => Sys2Proof.Machine.execTileCommit d a t lo s
  | .pendingCommit d a t => Sys2Proof.Machine.execPendingCommit d a t s
  | .drain d a p => Sys2Proof.Machine.execDrain d a p s
  | .drainRowSegment d a p k ecc => Sys2Proof.Machine.execDrainRowSegment d a p k ecc s
  | .drainComplete d a p k => Sys2Proof.Machine.execDrainComplete d a p k s
  | .drainFault d a p k cause => Sys2Proof.Machine.execDrainFault d a p k cause s
  | .turnWrite d pr v => Sys2Proof.Machine.execTurnWrite d pr v s
  | .turnTakeEffect d pr => Sys2Proof.Machine.execTurnTakeEffect d pr s
  | .put d => Sys2Proof.Machine.execPut d s
  | .get d => Sys2Proof.Machine.execGet d s
  | .drop d => Sys2Proof.Machine.execDrop d s
  | .lbnd d => Sys2Proof.Machine.execLbnd d s
  | .spill d => Sys2Proof.Machine.execSpill d s
  | .tileLanding d k => Sys2Proof.Machine.execTileLanding d k s
  | .stashCommandComplete d => Sys2Proof.Machine.execStashCommandComplete d s
  | .stsResume d => Sys2Proof.Machine.execStsResume d s
  | .stsDrop d h => Sys2Proof.Machine.execStsDrop d h s
  | .allotmentWrite d r v => Sys2Proof.Machine.execAllotmentWrite d r v s
  | .vloop d w => Sys2Proof.Machine.execVloop d w s
  | .iterationStart d w => Sys2Proof.Machine.execIterationStart d w s
  | .ialu d w c x => Sys2Proof.Machine.execIalu d w c x s
  | .addi d w c x => Sys2Proof.Machine.execAddi d w c x s
  | .lui d w c x => Sys2Proof.Machine.execLui d w c x s
  | .falu d w c x => Sys2Proof.Machine.execFalu d w c x s
  | .ffma d w c x => Sys2Proof.Machine.execFfma d w c x s
  | .bfma2 d w c x => Sys2Proof.Machine.execBfma2 d w c x s
  | .fspec d w c x => Sys2Proof.Machine.execFspec d w c x s
  | .cvt d w c x => Sys2Proof.Machine.execCvt d w c x s
  | .ldw d w c x => Sys2Proof.Machine.execLdw d w c x s
  | .ldh d w c x => Sys2Proof.Machine.execLdh d w c x s
  | .ldb d w c x => Sys2Proof.Machine.execLdb d w c x s
  | .stw d w c x => Sys2Proof.Machine.execStw d w c x s
  | .sth d w c x => Sys2Proof.Machine.execSth d w c x s
  | .stb d w c x => Sys2Proof.Machine.execStb d w c x s
  | .ldl d w c x => Sys2Proof.Machine.execLdl d w c x s
  | .stl d w c x => Sys2Proof.Machine.execStl d w c x s
  | .ldq d w c x => Sys2Proof.Machine.execLdq d w c x s
  | .qst d w blk => Sys2Proof.Machine.execQst d w blk s
  | .perm d w => Sys2Proof.Machine.execPerm d w s
  | .sumx d w c x => Sys2Proof.Machine.execSumx d w c x s
  | .beq d w c x => Sys2Proof.Machine.execBeq d w c x s
  | .bne d w c x => Sys2Proof.Machine.execBne d w c x s
  | .blt d w c x => Sys2Proof.Machine.execBlt d w c x s
  | .bltu d w c x => Sys2Proof.Machine.execBltu d w c x s
  | .jal d w c x => Sys2Proof.Machine.execJal d w c x s
  | .jr d w c x => Sys2Proof.Machine.execJr d w c x s
  | .end_ d w c x => Sys2Proof.Machine.execEnd d w c x s
  | .recordFetch d sn => Sys2Proof.Machine.execRecordFetch d sn s
  | .recordDispatch d sn => Sys2Proof.Machine.execRecordDispatch d sn s
  | .waitc d sn => Sys2Proof.Machine.execWaitc d sn s
  | .setc d sn => Sys2Proof.Machine.execSetc d sn s
  | .addc d sn => Sys2Proof.Machine.execAddc d sn s
  | .brs d sn => Sys2Proof.Machine.execBrs d sn s
  | .jump d sn => Sys2Proof.Machine.execJump d sn s
  | .loop d sn => Sys2Proof.Machine.execLoop d sn s
  | .decbr d sn => Sys2Proof.Machine.execDecbr d sn s
  | .halt d sn => Sys2Proof.Machine.execHalt d sn s
  | .setstep d sn => Sys2Proof.Machine.execSetstep d sn s
  | .abandon d sn => Sys2Proof.Machine.execAbandon d sn s
  | .streamResume d sn => Sys2Proof.Machine.execStreamResume d sn s
  | .doorbell d sn v poison => Sys2Proof.Machine.execDoorbell d sn v poison s
  | .ctlSheadWrite d sn v => Sys2Proof.Machine.execCtlSheadWrite d sn v s
  | .ctlSyncWrite d c v => Sys2Proof.Machine.execCtlSyncWrite d c v s
  | .ctlSyncaddWrite d c v => Sys2Proof.Machine.execCtlSyncaddWrite d c v s
  | .dstart d n => Sys2Proof.Machine.execDstart d n s
  | .move d n => Sys2Proof.Machine.execMove d n s
  | .movx d n => Sys2Proof.Machine.execMovx d n s
  | .dmaLoop d n => Sys2Proof.Machine.execDmaLoop d n s
  | .wait d n => Sys2Proof.Machine.execWait d n s
  | .waitTimeout d n => Sys2Proof.Machine.execWaitTimeout d n s
  | .signal d n => Sys2Proof.Machine.execSignal d n s
  | .crcReset d n => Sys2Proof.Machine.execCrcReset d n s
  | .crcStore d n => Sys2Proof.Machine.execCrcStore d n s
  | .crcCheck d n => Sys2Proof.Machine.execCrcCheck d n s
  | .dmaEnd d n => Sys2Proof.Machine.execDmaEnd d n s
  | .burst d n feed => Sys2Proof.Machine.execBurst d n feed s
  | .creditTick d n => Sys2Proof.Machine.execCreditTick d n s
  | .writeArrival d n k => Sys2Proof.Machine.execWriteArrival d n k s
  | .dmaAbort d n => Sys2Proof.Machine.execDmaAbort d n s
  | .purge d n => Sys2Proof.Machine.execPurge d n s
  | .completingStep d n => Sys2Proof.Machine.execCompletingStep d n s
  | .objdef g => Sys2Proof.Machine.execObjdef g s
  | .raise g => Sys2Proof.Machine.execRaise g s
  | .victimLowering g => Sys2Proof.Machine.execVictimLowering g s
  | .lower g => Sys2Proof.Machine.execLower g s
  | .objdel g => Sys2Proof.Machine.execObjdel g s
  | .tileMoveArrival g k => Sys2Proof.Machine.execTileMoveArrival g k s
  | .tierMoveFault g k => Sys2Proof.Machine.execTierMoveFault g k s
  | .segmentCommit g v => Sys2Proof.Machine.execSegmentCommit g v s
  | .patrolScrub ch line => Sys2Proof.Machine.execPatrolScrub ch line s
  | .gather sn => Sys2Proof.Machine.execGather sn s
  | .reduce sn => Sys2Proof.Machine.execReduce sn s
  | .moment sn => Sys2Proof.Machine.execMoment sn s
  | .nearBankStep sn u o => Sys2Proof.Machine.execNearBankStep sn u o s
  | .ordinaryAccessService sn u => Sys2Proof.Machine.execOrdinaryAccessService sn u s
  | .tier1PatrolScrub sn ch bank word => Sys2Proof.Machine.execTier1PatrolScrub sn ch bank word s
  | .quant d flt => Sys2Proof.Machine.execQuant d flt s
  | .stepgate d flt => Sys2Proof.Machine.execStepgate d flt s
  | .rdrv d flt => Sys2Proof.Machine.execRdrv d flt s
  | .digest d flt => Sys2Proof.Machine.execDigest d flt s
  | .pack d flt => Sys2Proof.Machine.execPack d flt s
  | .mupd => Sys2Proof.Machine.execMupd s
  | .masterLineUpdate m line flt => Sys2Proof.Machine.execMasterLineUpdate m line flt s
  | .ingestJob => Sys2Proof.Machine.execIngestJob s
  | .sampleStart dec flt => Sys2Proof.Machine.execSampleStart dec flt s
  | .sampleCommit => Sys2Proof.Machine.execSampleCommit s
  | .decodeTimeout dec => Sys2Proof.Machine.execDecodeTimeout dec s
  | .ingAbort => Sys2Proof.Machine.execIngAbort s
  | .permTestEvaluation => Sys2Proof.Machine.execPermTestEvaluation s
  | .permTestDone => Sys2Proof.Machine.execPermTestDone s
  | .dataFlit p f => Sys2Proof.Machine.execDataFlit p f s
  | .controlFlit p f => Sys2Proof.Machine.execControlFlit p f s
  | .creditReturn p => Sys2Proof.Machine.execCreditReturn p s
  | .replay p => Sys2Proof.Machine.execReplay p s
  | .lossOfSignal p lane => Sys2Proof.Machine.execLossOfSignal p lane s
  | .trainingComplete p resume rxNext => Sys2Proof.Machine.execTrainingComplete p resume rxNext s
  | .trainingAttemptTimeout p => Sys2Proof.Machine.execTrainingAttemptTimeout p s
  | .portEnable p => Sys2Proof.Machine.execPortEnable p s
  | .portDisable p => Sys2Proof.Machine.execPortDisable p s
  | .portAdmit p v => Sys2Proof.Machine.execPortAdmit p v s
  | .retrain p => Sys2Proof.Machine.execRetrain p s
  | .keepalive p => Sys2Proof.Machine.execKeepalive p s
  | .ka p => Sys2Proof.Machine.execKa p s
  | .lsa p => Sys2Proof.Machine.execLsa p s
  | .genann p => Sys2Proof.Machine.execGenann p s
  | .routedPacketArrival p => Sys2Proof.Machine.execRoutedPacketArrival p s
  | .wr p => Sys2Proof.Machine.execWr p s
  | .rd p => Sys2Proof.Machine.execRd p s
  | .drd p => Sys2Proof.Machine.execDrd p s
  | .wack p => Sys2Proof.Machine.execWack p s
  | .rdr p => Sys2Proof.Machine.execRdr p s
  | .peerRequest => Sys2Proof.Machine.execPeerRequest s
  | .e2eTimeout tag => Sys2Proof.Machine.execE2eTimeout tag s
  | .announce => Sys2Proof.Machine.execAnnounce s
  | .tableEntryWrite v => Sys2Proof.Machine.execTableEntryWrite v s
  | .reduceScatter d => Sys2Proof.Machine.execReduceScatter d s
  | .allGather d => Sys2Proof.Machine.execAllGather d s
  | .allReduce d => Sys2Proof.Machine.execAllReduce d s
  | .colReduce p x => Sys2Proof.Machine.execColReduce p x s
  | .colGather p x => Sys2Proof.Machine.execColGather p x s
  | .colClose p => Sys2Proof.Machine.execColClose p s
  | .sealExpiry d => Sys2Proof.Machine.execSealExpiry d s
  | .abortPacket p => Sys2Proof.Machine.execAbortPacket p s
  | .collectiveTimeout d => Sys2Proof.Machine.execCollectiveTimeout d s
  | .hostAbort d => Sys2Proof.Machine.execHostAbort d s
  | .linkUp speed width flit => Sys2Proof.Machine.execLinkUp speed width flit s
  | .configRequest write reg v bdf => Sys2Proof.Machine.execConfigRequest write reg v bdf s
  | .flr => Sys2Proof.Machine.execFlr s
  | .hotReset => Sys2Proof.Machine.execHotReset s
  | .hostLinkDown => Sys2Proof.Machine.execHostLinkDown s
  | .linkState speed width flit => Sys2Proof.Machine.execLinkState speed width flit s
  | .apertureAccess write off data len poison => Sys2Proof.Machine.execApertureAccess write off data len poison s
  | .msixTableAccess write off width v poison => Sys2Proof.Machine.execMsixTableAccess write off width v poison s
  | .eventRingEnable v => Sys2Proof.Machine.execEventRingEnable v s
  | .eventRingDisable v => Sys2Proof.Machine.execEventRingDisable v s
  | .eventRingVecChange v => Sys2Proof.Machine.execEventRingVecChange v s
  | .hifEvheadWrite v => Sys2Proof.Machine.execHifEvheadWrite v s
  | .eventRecordWrite => Sys2Proof.Machine.execEventRecordWrite s
  | .setEndpointId req => Sys2Proof.Machine.execSetEndpointId req s
  | .getEndpointId req => Sys2Proof.Machine.execGetEndpointId req s
  | .getEndpointUuid req => Sys2Proof.Machine.execGetEndpointUuid req s
  | .getMctpVersionSupport req => Sys2Proof.Machine.execGetMctpVersionSupport req s
  | .getMessageTypeSupport req => Sys2Proof.Machine.execGetMessageTypeSupport req s
  | .getVendorDefinedMessageSupport req => Sys2Proof.Machine.execGetVendorDefinedMessageSupport req s
  | .getStatus inst payload => Sys2Proof.Machine.execGetStatus inst payload s
  | .getHealth inst payload => Sys2Proof.Machine.execGetHealth inst payload s
  | .getEvents inst payload => Sys2Proof.Machine.execGetEvents inst payload s
  | .getQuote inst payload => Sys2Proof.Machine.execGetQuote inst payload s
  | .powerGood presence probe => Sys2Proof.Machine.execPowerGood presence probe s
  | .mgtBootokWrite v => Sys2Proof.Machine.execMgtBootokWrite v s
  | .bootokTimeout err => Sys2Proof.Machine.execBootokTimeout err s
  | .moduleReady t1ok t2ok tready => Sys2Proof.Machine.execModuleReady t1ok t2ok tready s
  | .program => Sys2Proof.Machine.execProgram s
  | .cfgProgram flashOk => Sys2Proof.Machine.execCfgProgram flashOk s
  | .offerUpdate => Sys2Proof.Machine.execOfferUpdate s
  | .imageUpdate flashOk => Sys2Proof.Machine.execImageUpdate flashOk s
  | .raiseFloor => Sys2Proof.Machine.execRaiseFloor s
  | .revoke mask => Sys2Proof.Machine.execRevoke mask s
  | .extend k => Sys2Proof.Machine.execExtend k s
  | .quote => Sys2Proof.Machine.execQuote s
  | .quoteReady => Sys2Proof.Machine.execQuoteReady s
  | .secFldataRead => Sys2Proof.Machine.execSecFldataRead s
  | .pwrVsetWrite ag d v => Sys2Proof.Machine.execPwrVsetWrite ag d v s
  | .coneReport d c rate temp mv => Sys2Proof.Machine.execConeReport d c rate temp mv s
  | .hang w => Sys2Proof.Machine.execHang w s
  | .shadowRead => Sys2Proof.Machine.execShadowRead s
  | .shadowWordReady => Sys2Proof.Machine.execShadowWordReady s
  | .noresp => Sys2Proof.Machine.execNoresp s
  | .release units first words => Sys2Proof.Machine.execRelease units first words s
  | .groupReset w => Sys2Proof.Machine.execGroupReset w s
  | .dieReset src d => Sys2Proof.Machine.execDieReset src d s
  | .moduleReset src => Sys2Proof.Machine.execModuleReset src s
  | .resetDone => Sys2Proof.Machine.execResetDone s
  | .kick => Sys2Proof.Machine.execKick s
  | .mgtWatchdog err => Sys2Proof.Machine.execMgtWatchdog err s
  | .repair source minority => Sys2Proof.Machine.execRepair source minority s
  | .repairDone ls epar => Sys2Proof.Machine.execRepairDone ls epar s
  | .stepAbort try_ => Sys2Proof.Machine.execStepAbort try_ s
  | .svcset mask who => Sys2Proof.Machine.execSvcset mask who s
  | .lossOfPower => Sys2Proof.Machine.execLossOfPower s
  | .thermWarn k ix temp => Sys2Proof.Machine.execThermWarn k ix temp s
  | .thermalShutdown k ix temp => Sys2Proof.Machine.execThermalShutdown k ix temp s
  | .registerWrite ag off width v poison => Sys2Proof.Machine.execRegisterWrite ag off width v poison s
  | .codewordTime p => Sys2Proof.Machine.execCodewordTime p s
  | .tagReuse tag => Sys2Proof.Machine.execTagReuse tag s
  | .thermWarnRearm k ix temp => Sys2Proof.Machine.execThermWarnRearm k ix temp s
  | .shutdownRelease feedRemovedMs presenceOpen => Sys2Proof.Machine.execShutdownRelease feedRemovedMs presenceOpen s

end Sys2Proof.Machine
end

