-- ==== Sys2Proof/Machine/Tick.lean ====
section
/-! DEFINITION. One nanosecond of local time with no command waiting: what the crystals drive (R37, R38, R77, R78,
R115, R146, R292, R380, R457), and the symbols that go bad in stored code words (R262, R286). -/

namespace Sys2Proof.Machine

/-- Whether the head of a partition's queue waits for its condition or for its plane (R115). -/
def Device.headWaits (d : Device) (die a p : Nat) : Bool :=
  match d.queue (qArr die a p) with
  | [] => false
  | c :: _ =>
    !d.cmdMet c || ((c.op == 2 || c.op == 3) && (match (d.part die a p).bound with
      | some tag => !(d.part die a p).loaded tag
      | none => false))

/-- The wait counters of an array, which count `ns` nanoseconds of local time. -/
def Device.tickArray (d : Device) (die a ns : Nat) : Device :=
  let ps := List.range 4
  let d := if ps.any (d.headWaits die a) then
    d.setArr die a { d.arr die a with waitns := ((d.arr die a).waitns + ns) % 2 ^ 64 } else d
  if ps.any (d.holdsRow die a) then
    d.setAccCnt die a { d.accCnt die a with holdns := ((d.accCnt die a).holdns + ns) % 2 ^ 64 } else d

/-- The wait counter of a matrix-vector path. -/
def Device.tickMvp (d : Device) (die ns : Nat) : Device :=
  match d.queue (qMvp die) with
  | [] => d
  | c :: _ =>
    let m := d.mvpOf die
    if m.run.isSome || !d.cmdMet c then d.setMvp die { m with waitns := (m.waitns + ns) % 2 ^ 64 } else d

/-- The wait counter of a stack (R284, R292). -/
def Device.tickStack (d : Device) (s ns : Nat) : Device :=
  if d.slip.held.any (fun h => h.unit / 512 == s) then
    d.setReg64 (slpReg s 0x28) (join (d.reg (slpReg s 0x28)) (d.reg (slpReg s 0x2C)) + ns)
  else d

/-- Whether Synian's own link-state record is out of date (R380). -/
def Device.lsaStale (d : Device) : Bool := (mget [] d.fab.lsdb d.selfMod).drop 8 != d.linkRecords

/-- Every timeout that runs at this moment. -/
def Device.runningTimers (d : Device) : List Timer :=
  d.hangTimers ++ d.waitTimers ++ d.lateTimers ++ (if d.ras.sgBusy then [.noresp] else []) ++ d.tagTimers ++
    (List.range 4).flatMap d.colTimers ++ d.decodeTimers ++
    (if d.pwr.state == .starting && d.boot.synian && !d.boot.bootok then [.bootok] else []) ++ (List.range 16).flatMap d.portTimers

/-- A timeout that has begun to run is armed at the local time of its unit; one that runs no longer is forgotten. -/
def Device.armTimers (d : Device) : Device :=
  { d with core.armed := d.runningTimers.map (fun t => (t, (d.core.armed.lookup t).getD (d.time t.die))) }

/-- A nanosecond on each local time counter: as much as the crystal gives, within 2 % of one unit (R37). -/
def Device.countTime (d : Device) : Device :=
  (List.range 4).foldl (fun d die =>
    { d with core.ltc := mset 0 d.core.ltc die (mget 0 d.core.ltc die + max 980000 (min 1020000 (Config.rate die d.core.now))) }) d

/-- A symbol of a stored code word may go bad: of 36 in a word of tier 1, of 40 in a line of tier 2 (R262, R286). -/
def Device.struck (d : Device) : Device :=
  match Config.strike d.core.now with
  | none => d
  | some (a, sym) =>
    if !d.rangeOk a 1 ∨ !((regionOf a = 4 ∧ sym < 36) ∨ (regionOf a = 8 ∧ sym < 40)) then d
    else { d with core.flaws := mset [] d.core.flaws (poisonUnit a) (sinsert sym (mget [] d.core.flaws (poisonUnit a))) }

/-- The tokens of a nanosecond in every array (R7, R77). -/
def Device.allTokens (d : Device) : Device :=
  (List.range 64).foldl (fun d k => d.drawn.arrayTokens (k / 16) (k % 16) d.tokens) d

/-- The core supplies move each microsecond (R457). -/
def Device.tickSupplies (d : Device) : Device :=
  if d.core.now % 1000 = 0 then (List.range 4).foldl (fun d die => d.moveSupply die) d else d

/-- Synian sends its link-state record each second and on a change (R380). -/
def Device.tickLsa (d : Device) : Device :=
  if d.boot.synian && d.boot.bootok && (d.lsaStale || d.core.now % 10 ^ 9 == 0) then d.ownLsa else d

/-- The wait counters of every unit that has one, on the local time of their dies since the device stood as `was` (R37). -/
def Device.tickWaits (d was : Device) : Device :=
  let ns (die : Nat) : Nat := (d.time die + 2 ^ 64 - was.time die) % 2 ^ 64
  let d := (List.range 64).foldl (fun d k => d.tickArray (k / 16) (k % 16) (ns (k / 16))) d
  let d := (List.range 4).foldl (fun d die => d.tickMvp die (ns die)) d
  (List.range 8).foldl (fun d s => d.tickStack s (ns (s / 2))) d

/-- The nanoseconds since power good. -/
def Device.tickNow (d : Device) : Device := { d with core.now := d.core.now + 1 }

/-- One nanosecond from power good on. -/
def Device.tick (d : Device) : Device :=
  if d.powered then (d.countTime.struck.tickNow.allTokens.tickWaits d).tickSupplies.tickLsa.armTimers else d

end Sys2Proof.Machine
end

