-- ==== Sys2Proof/Safety.lean ====
section
/-! DEFINITION. The terms statements are made in: what a command answers, what a state keeps, and when a run is safe. -/

namespace Sys2Proof.Machine

/-- A command takes effect: it answers the next state, and `P` holds of it. -/
def Gives (i : Instr) (s : State) (P : State → Prop) : Prop := ∃ t, exec i s = .next t ∧ P t

/-- The state with another device, all else kept. -/
def State.withDev (s : State) (d : Device) : State := { s with dev := d }

/-- A device's memory is in its canonical form. -/
def Device.memWf (d : Device) : Prop := Memory.wf d.core.mem

/-- The memory of a state, and of the snapshot it holds, is in its canonical form. -/
def State.memWf (s : State) : Prop := s.dev.memWf ∧ ∀ x, s.snap = some x → x.memWf

/-- The commands that begin or end power: the only ones that touch the local time counters (R37, R475). -/
def powerCommand : Instr → Bool
  | .powerGood _ _ => true
  | .lossOfPower => true
  | .thermalShutdown _ _ _ => true
  | _ => false

/-- The commands that may write memory, those among them that only read it through a coder, which writes back what it corrects or marks,
and those that may end a near-bank part that has not run, whose status records go to memory. Every other one leaves all of memory as it
is. -/
def mayStore : Instr → Bool
  | .mvmulComplete _ => true
  | .mvpFault _ _ _ => true
  | .accumulatorAdd _ _ _ => true
  | .partitionFault _ _ _ _ => true
  | .drainRowSegment _ _ _ _ _ => true
  | .put _ => true
  | .tileLanding _ _ => true
  | .stashCommandComplete _ => true
  | .stsResume _ => true
  | .stsDrop _ _ => true
  | .allotmentWrite _ _ _ => true
  | .stw _ _ _ _ => true
  | .sth _ _ _ _ => true
  | .stb _ _ _ _ => true
  | .qst _ _ _ => true
  | .recordFetch _ _ => true
  | .recordDispatch _ _ => true
  | .abandon _ _ => true
  | .crcCheck _ _ => true
  | .burst _ _ _ => true
  | .writeArrival _ _ _ => true
  | .tileMoveArrival _ _ => true
  | .tierMoveFault _ _ => true
  | .patrolScrub _ _ => true
  | .nearBankStep _ _ _ => true
  | .ordinaryAccessService _ _ => true
  | .tier1PatrolScrub _ _ _ _ => true
  | .quant _ _ => true
  | .stepgate _ _ => true
  | .rdrv _ _ => true
  | .digest _ _ => true
  | .pack _ _ => true
  | .masterLineUpdate _ _ _ => true
  | .ingestJob => true
  | .sampleStart _ _ => true
  | .sampleCommit => true
  | .decodeTimeout _ => true
  | .ingAbort => true
  | .trainingComplete _ _ _ => true
  | .trainingAttemptTimeout _ => true
  | .portDisable _ => true
  | .ka _ => true
  | .genann _ => true
  | .routedPacketArrival _ => true
  | .wr _ => true
  | .rd _ => true
  | .drd _ => true
  | .wack _ => true
  | .rdr _ => true
  | .peerRequest => true
  | .e2eTimeout _ => true
  | .announce => true
  | .reduceScatter _ => true
  | .allGather _ => true
  | .allReduce _ => true
  | .colReduce _ _ => true
  | .colGather _ _ => true
  | .colClose _ => true
  | .sealExpiry _ => true
  | .abortPacket _ => true
  | .collectiveTimeout _ => true
  | .hostAbort _ => true
  | .apertureAccess _ _ _ _ _ => true
  | .moduleReady _ _ _ => true
  | .offerUpdate => true
  | .release _ _ _ => true
  | .resetDone => true
  | .repairDone _ _ => true
  | .stepAbort _ => true
  | .lossOfPower => true
  | .thermalShutdown _ _ _ => true
  | .registerWrite _ _ _ _ _ => true
  | .codewordTime _ => true
  | _ => false

/-- Core c of cluster w stands before the instruction `ins` with this opcode, as lane i of the loop at `key`. -/
def LaneAt (d : Device) (die w c opc key : Nat) (l : VLoop) (i : Nat) (ins : Word) : Prop :=
  d.activeLane die w c = some (key, l, i) ∧ fetchIns d l (l.lane i) = .inr ins ∧ iOpc ins = opc

/-- The state once lane i of the loop at `key` has become `lane`, the summary slots and poison of its loop as they were. -/
def State.laneNext (s : State) (key : Nat) (l : VLoop) (i : Nat) (lane : Lane) : State :=
  s.withDev (s.dev.laneDone key l i lane l.slots false)

/-- The state once lane i has written v to its destination register and gone on to its next instruction. -/
def State.laneResult (s : State) (key : Nat) (l : VLoop) (i : Nat) (ins v : Word) : State :=
  s.laneNext key l i ((l.lane i).set (iRd ins) v).next

/-- Channel n has in progress the instruction `w` with this OPC of the program `p`, and no MOVE under way. -/
def DmaAt (d : Device) (die n opc : Nat) (p : DmaProg) (w : List Word) : Prop :=
  (d.chan die n).prog = some p ∧ p.latch = none ∧ p.cur = none ∧ d.runs (wDma die) = true ∧ d.dmaFetch p = some w ∧
    fld (wordAt w 0) 31 28 = opc ∧ (p.xdue = none ∨ opc = 2)

/-- A safe run: no step of it stops. -/
def safeSteps (n : Nat) (s : State) : Prop := ∃ t, Host.Core.run Sys2Proof.core n s = .next t

end Sys2Proof.Machine
end

