-- ==== Sys2Proof/Certificates/Slice0/Obligations.lean ====
section
/-! DEFINITION. Statements for the provers: what each family of commands does, and what every step keeps. -/

open Sys2Proof Sys2Proof.Machine

/-- A step takes the command at the front of the queue and carries it out with the queue's rest; a command answers a next
state in every state, and none changes what waits behind it. That the queue's front command is one step is the model's
choice (log entry 1), and that no command is ever turned away its reading (log entry 11). -/
def Obligations.StepRunsTheFrontCommand : Prop :=
  (∀ (c : Instr) (s : State), step { s with pending := c :: s.pending } = exec c s) ∧
  (∀ (c : Instr) (s : State), ∃ t, exec c s = .next t ∧ t.pending = s.pending)

/-- R37, R38: with nothing waiting a step is one nanosecond of the module: each of the four local time counters moves by
as much as its crystal gives, within 2 % of one unit, and they stand still without power; no memory, queue,
completion, sync counter or event changes. That an idle step is a nanosecond is the model's choice (assumption 1). -/
def Obligations.IdleStepCountsOneNanosecond : Prop :=
  ∀ (s : State), s.pending = [] → ∃ t, step s = .next (s.withDev t) ∧ t.core.mem = s.dev.core.mem ∧ t.core.queues = s.dev.core.queues ∧
    t.core.done = s.dev.core.done ∧ t.core.evq = s.dev.core.evq ∧ t.core.sync = s.dev.core.sync ∧ t.out = s.dev.out ∧
    (s.dev.powered = false → t = s.dev) ∧
    (s.dev.powered = true → t.core.now = s.dev.core.now + 1 ∧ ∀ die, die < 4 →
      mget 0 s.dev.core.ltc die + 980000 ≤ mget 0 t.core.ltc die ∧ mget 0 t.core.ltc die ≤ mget 0 s.dev.core.ltc die + 1020000 ∧
      t.time die = mget 0 t.core.ltc die / 1000000 % 2 ^ 64)

/-- The state right after reset: no power, nothing waiting, and the reset values the rules give. That it is the module
without power is presumed (log entry 3); that queues, ports and counters start empty, and what memory holds until the
module is ready, are the model's choices (log entries 4 and 5). -/
def Obligations.ResetIsPowerOn : Prop :=
  State.reset.pending = [] ∧ State.reset.snap = none ∧ State.reset.dev.pwr.state = .off ∧ State.reset.dev.powered = false ∧
  State.reset.memWf ∧ (∀ a, State.reset.dev.readByte a = (0, false)) ∧ (∀ k, State.reset.dev.reg k = regReset k) ∧
  (∀ die, State.reset.dev.time die = 0) ∧ (∀ die c, State.reset.dev.sync die c = 0) ∧ (∀ q, State.reset.dev.queue q = []) ∧
  (∀ p, (State.reset.dev.port p).state = 0) ∧ State.reset.dev.reg (rteReg 8) = 1000 ∧ State.reset.dev.reg (rteReg 0xC) = 32 ∧
  State.reset.dev.hif.ever = false

/-- Every step keeps memory, and the memory of the snapshot, in its canonical form; and it leaves no access that is tried
in advance. That an access is tried in advance to find the busy banks it reaches is the model's way (assumption 74). -/
def Obligations.MemoryStaysCanonical : Prop :=
  (∀ (s t : State), s.memWf → step s = .next t → t.memWf) ∧
  (∀ (s t : State), s.dev.core.watch = none → step s = .next t → t.dev.core.watch = none)

/-- A command that is none of those that store leaves every byte of memory as it was. -/
def Obligations.OtherCommandsLeaveMemory : Prop :=
  ∀ (c : Instr) (s t : State), mayStore c = false → exec c s = .next t →
    t.dev.core.mem = s.dev.core.mem ∧ ∀ a, (t.dev.readByte a).1 = (s.dev.readByte a).1

/-- R37, R475: no command but those that begin or end power touches a local time counter. -/
def Obligations.LocalTimeIsTouchedByPowerOnly : Prop :=
  ∀ (c : Instr) (s t : State), powerCommand c = false → exec c s = .next t → t.dev.core.ltc = s.dev.core.ltc

/-- R451: RAISE blows fuses up to the running image's SVN and posts SVN_RAISED, REVOKE those of the keys named but the
running one's; no step undoes a fuse write, nor lowers the count of starts; an image below the floor does not verify. -/
def Obligations.FusesAreNeverUndone : Prop :=
  (∀ (s : State), ∃ t, exec .raiseFloor s = .next (s.withDev t) ∧ t.floor = max s.dev.floor (imgSvn s.dev.boot.hdr) ∧
    t.revoked = s.dev.revoked ∧ (imgSvn s.dev.boot.hdr ≤ s.dev.floor → t = s.dev) ∧
    (s.dev.floor < imgSvn s.dev.boot.hdr → t.core.evq.map Event.code = s.dev.core.evq.map Event.code ++ [0x0905])) ∧
  (∀ (s : State) (m : BitVec 4), s.dev.boot.hdr ≠ [] → ∃ t, exec (.revoke m) s = .next (s.withDev t) ∧ t.floor = s.dev.floor ∧
    ∀ k, t.revoked.testBit k = (s.dev.revoked.testBit k || (m.toNat.testBit k && decide (k ≠ imgKey s.dev.boot.hdr)))) ∧
  (∀ (s t : State), step s = .next t → s.dev.floor ≤ t.dev.floor ∧ s.dev.boot.starts ≤ t.dev.boot.starts ∧
    ∀ k, s.dev.revoked.testBit k = true → t.dev.revoked.testBit k = true) ∧
  (∀ (d : Device) (get : Nat → Nat → List Byte) (err : ReadError), imgSvn (bytesToWords 64 (get 0 256)) < d.floor →
    d.imageReason err get ≠ 0)

/-- R28, R29, R513: a write into an assigned range, none of whose code words holds a bad symbol, is read back byte for
byte and leaves every other byte; it marks the units its poisoned bytes reach, clears the marks of the units it covers
whole with clean bytes and leaves the mark of one that it covers in part; memory held by a reset takes no write. R262,
R286, R287: a write leaves no bad symbol in the code words that it reaches, and a read through a coder none in those
that it reads. -/
def Obligations.WritesAreReadBack : Prop :=
  (∀ (d : Device) (a : Nat) (l : List PByte), d.core.cap ≤ 2 ^ 48 → d.rangeOk a l.length = true → d.memHeld a = false →
    d.flawedIn [(a, l.length)] = [] →
    values ((d.write a l).readBytes a l.length) = values l ∧
    (∀ b, canonAddr b ∉ (rangeFrom a l.length).map canonAddr → ((d.write a l).readByte b).1 = (d.readByte b).1)) ∧
  (∀ (d : Device) (a : Nat) (l : List PByte), d.memHeld a = true → d.write a l = d) ∧
  (∀ (d : Device) (a : Nat) (l : List PByte), d.core.cap ≤ 2 ^ 48 → d.rangeOk a l.length = true → d.memHeld a = false →
    d.flawedIn [(a, l.length)] = [] →
    (∀ i b, l[i]? = some (b, true) → ((d.write a l).readByte (a + i)).2 = true) ∧
    (anyPoison l = false → ∀ u i, u % unitBytes (canonAddr a) = 0 → a ≤ u → u + unitBytes (canonAddr a) ≤ a + l.length →
      i < unitBytes (canonAddr a) → ((d.write a l).readByte (u + i)).2 = false) ∧
    (∀ b i, (d.readByte b).2 = true → i < unitBytes (canonAddr b) →
      canonAddr (b / unitBytes (canonAddr b) * unitBytes (canonAddr b) + i) ∉ (rangeFrom a l.length).map canonAddr →
      ((d.write a l).readByte b).2 = true) ∧
    (anyPoison l = false → ∀ b, (d.readByte b).2 = false → ((d.write a l).readByte b).2 = false)) ∧
  (∀ (d : Device) (a : Nat) (l : List PByte), d.memHeld a = false → (d.write a l).flawedIn [(a, l.length)] = []) ∧
  (∀ (d : Device) (step : Bool) (rs : List (Nat × Nat)), (d.coder step rs).flawedIn rs = [])

/-- R41 to R44, R51 to R53: converting the value of an element code back into its own format gives that code, in every
rounding mode, and counts nothing. (INT8 and INT4 have one code below their range of results, which is left out.) -/
def Obligations.ConversionKeepsCodes : Prop :=
  ∀ (f : Fmt) (r : Rnd) (nosat : Bool) (code : Nat), f ≠ .e8m0 → code < 2 ^ f.width → (f.decode code).isFinite = true →
    ¬(f = .int8 ∧ code = 128) → ¬(f = .int4 ∧ code = 8) →
    f.convert r nosat (f.decode code) = { code := code, counted := false, blkNan := false }

/-- R33 to R36, R229: a root grant changes its own tree alone; the leaf granted had its request pending and has it no
more; a leaf that withdraws while the grant is on its way loses it; a DMA channel that waits for credit holds no
request and is not granted, whenever it asked. A place in the tree reports one for a pending leaf and else the sum of
what its inputs had reported. At each arbiter the oldest urgent request wins, else the largest credit of all its
inputs, the lowest index on a tie; its credits are those of the counts added, the granted input's lowered by their
total, so that their sum stands. -/
def Obligations.ArbiterGrantsByCredit : Prop :=
  (∀ (s : State) (tree : Nat) (asks : List LeafAsk) (gone : List (List Nat)) (late : Bool), ∃ u : ArbTree,
    exec (.arbiterGrant tree ⟨asks, gone, late⟩) s = .next (s.withDev { s.dev with core.arb := mset {} s.dev.core.arb tree u }) ∧
    u.grants = (mget {} s.dev.core.arb tree : ArbTree).grants + 1 ∧ (late = true → u.granted = none) ∧
    (∀ p, u.granted = some p → u.pending p = false ∧
      (p ∈ asks.map LeafAsk.path ∨ (p ∉ gone ∧ (mget {} s.dev.core.arb tree : ArbTree).pending p = true)) ∧
      ∃ x ∈ ((mget {} s.dev.core.arb tree : ArbTree).update asks gone).leaves, x.path = p ∧
        ∀ n, x.chan = some n → s.dev.waitsCredit (n / 32) (n % 32) = false) ∧
    (∀ x ∈ u.leaves, ∀ n, x.chan = some n → s.dev.waitsCredit (n / 32) (n % 32) = false) ∧
    (∀ a n, a ∈ asks → a.chan = some n → s.dev.waitsCredit (n.val / 32) (n.val % 32) = true →
      (a.path ∈ gone ∨ (mget {} s.dev.core.arb tree : ArbTree).pending a.path = false) →
      (∀ b ∈ asks, b.path = a.path → b.chan = some n) → u.granted ≠ some a.path ∧ u.pending a.path = false)) ∧
  (∀ (t : ArbTree) (p : List Nat), atPath 0 t.report.counts p =
    if p ∈ t.places then (if t.pending p then 1
      else (t.counts.filter (fun x => x.1 != [] && x.1.dropLast == p)).foldl (fun n x => n + x.2) 0) else 0) ∧
  (∀ (cr : List Int) (ins : List ArbIn), ins ≠ [] → (∀ r ∈ ins, r.urgent = none) →
    ∃ g, grantInput (addCredits cr ins) ins = some g ∧
      (cr.length = ins.length → (∀ r ∈ ins, 0 < r.count) → (chargeCredits (addCredits cr ins) ins g).sum = cr.sum) ∧
      ∀ j, j < ins.length → (addCredits cr ins).getD j 0 ≤ (addCredits cr ins).getD g 0 ∧
        (j < g → (addCredits cr ins).getD j 0 < (addCredits cr ins).getD g 0)) ∧
  (∀ (cr : List Int) (ins : List ArbIn) (i age : Nat) (r : ArbIn), ins[i]? = some r → r.urgent = some age →
    ∃ g q b, grantInput cr ins = some g ∧ ins[g]? = some q ∧ q.urgent = some b ∧ age ≤ b ∧ (age = b → g ≤ i)) ∧
  (∀ (cr : List Int) (ins : List ArbIn) (i : Nat) (r : ArbIn), ins[i]? = some r →
    (addCredits cr ins).getD i 0 = if 0 < r.count then cr.getD i 0 + r.count else 0)

/-- R26, R456, R457: what the clamp, the thermal trip and its release, a cone report and a supply setting do. That each
CURRENT_CLAMP lowers the supplies by a step of 5 mV, with no lower end, is the model's choice (log entry 14). R39,
R71, R413, R414: reading local time, where BAR0 is served or by another agent than the host, and the grog test port.
That a 64-bit read latches nothing is the model's choice (log entry 16). -/
def Obligations.SupplyTimeAndTestCommands : Prop :=
  ((∀ (s : State) (mv ma : Nat), overCurrent mv ma = true → ∃ t, exec (.currentClamp mv ma) s = .next (s.withDev t) ∧
    (∀ die, die < 4 → t.vact die = s.dev.vact die - 5 ∧ t.ceiling die = s.dev.vact die - 5) ∧
    (s.dev.pwr.clamp = none → t.core.evq.map Event.code = s.dev.core.evq.map Event.code ++ [0x0A04]) ∧
    (s.dev.pwr.clamp ≠ none → t.core.evq = s.dev.core.evq)) ∧
  (∀ (s : State) (mv ma : Nat), overCurrent mv ma = false →
    exec (.clampRelease mv ma) s = .next (s.withDev { (s.dev.setInput mv ma) with pwr.clamp := none })) ∧
  (∀ (s : State) (d : Fin 4), (∃ x ∈ s.dev.coneTemps d.val, 1050 ≤ x) → mget false s.dev.pwr.held d.val = false →
    ∃ t, exec (.thermTrip d) s = .next (s.withDev t) ∧ (∀ w, w < 64 → t.runs (64 * d.val + w) = false) ∧
      t.core.evq = s.dev.core.evq ++
        [Event.mk 0x0A03 (uDie d.val) (wd (fld (s.dev.reg (coneReg d.val 0)) 15 0 * 2 ^ 16)) d.val (s.dev.time d.val)]) ∧
  (∀ (s : State) (d : Fin 4), (∀ x ∈ s.dev.coneTemps d.val, x < 1000) →
    exec (.thermRelease d) s = .next (s.withDev (({ s.dev with pwr.held := mset false s.dev.pwr.held d.val false }).disarmSlots (dieSlot d.val)))) ∧
  (∀ (s : State) (d : Fin 4) (c : Fin 16) (rate temp : BitVec 16) (mv : BitVec 10),
    ∃ t, exec (.coneReport d c rate temp mv) s = .next (s.withDev t) ∧
      t.reg (coneReg d.val (0x100 + 4 * c.val)) = wd (rate.toNat * 2 ^ 16 + temp.toNat) ∧
      t.reg (coneReg d.val 4) = wd mv.toNat ∧
      ∀ i, i < 16 → fld (t.reg (coneReg d.val 0)) 31 16 ≤ fld (t.reg (coneReg d.val (0x100 + 4 * i))) 31 16 ∧
        sext 16 (fld (t.reg (coneReg d.val (0x100 + 4 * i))) 15 0) ≤ sext 16 (fld (t.reg (coneReg d.val 0)) 15 0)) ∧
  (∀ (s : State) (d : Fin 4) (v : Word),
    exec (.pwrVsetWrite .mgmt d v) s = .next (s.withDev (s.dev.setReg (pwrReg (0x10 + 4 * d.val)) (wd (supplySetting (fld v 9 0))))) ∧
    600 ≤ supplySetting (fld v 9 0) ∧ supplySetting (fld v 9 0) ≤ 800 ∧ supplySetting (fld v 9 0) % 5 = 0)) ∧
  ((∀ (s : State) (d : Fin 4) (ag : Agent), ag ≠ .host → exec (.ctlLtcLoRead d ⟨true, ag⟩) s =
    .next (s.withDev (s.dev.emit (Out.regRead (dreg d.val 6 0xF000) (s.dev.time d.val % 2 ^ 64))))) ∧
  (∀ (s : State) (d : Fin 4) (ag : Agent), ag ≠ .host → ∃ t, exec (.ctlLtcLoRead d ⟨false, ag⟩) s = .next (s.withDev t) ∧
    t.reg (dreg d.val 6 0xF004) = hi32 (s.dev.time d.val) ∧
    t.out = s.dev.out ++ [Out.regRead (dreg d.val 6 0xF000) (s.dev.time d.val % 2 ^ 32)]) ∧
  (∀ (s : State) (d : Fin 4) (wide : Bool), (∀ h ∈ s.dev.slip.held, h.what.isHost = false) →
    ∃ t, exec (.ctlLtcLoRead d ⟨wide, .host⟩) s = .next (s.withDev t) ∧
      (s.dev.hostOpen = true → t.out = s.dev.out ++ [Out.hostRead (toBytes (if wide then 8 else 4) (s.dev.time d.val)) false true] ∧
        t.reg (dreg d.val 6 0xF004) = if wide then s.dev.reg (dreg d.val 6 0xF004) else hi32 (s.dev.time d.val)) ∧
      (s.dev.hostOpen = false → t.core = s.dev.core ∧ t.out = s.dev.out ++ [if s.dev.memSpace then
        Out.hostRead (List.replicate (if wide then 8 else 4) 0xFF) false true else Out.hostRead [] false false])) ∧
  (∀ (s : State) (d : Fin 4), s.dev.dieInReset d.val = false → bit (s.dev.reg (grgReg d.val 0xC)) 0 = false →
    ∃ t u, exec (.grgTestEvaluation d) s = .next (s.withDev t) ∧ t.reg (grgReg d.val 0xC) = 1 ∧
      exec (.grgTestDone d) (s.withDev t) = .next (s.withDev u) ∧ u.reg (grgReg d.val 0xC) = 0 ∧
      (u.reg (grgReg d.val 0x30), u.reg (grgReg d.val 0x34), u.reg (grgReg d.val 0x38), u.reg (grgReg d.val 0x3C)) =
        grog (s.dev.reg (grgReg d.val 0)) (s.dev.reg (grgReg d.val 4))
          (s.dev.reg (grgReg d.val 0x10), s.dev.reg (grgReg d.val 0x14), s.dev.reg (grgReg d.val 0x18), s.dev.reg (grgReg d.val 0x1C))))

/-- R78, R79, R84, R91: KLOAD, KSTREAM, KCONV and KCFG issue from the head of their queue; a KCFG clears both planes of
every partition and its tag becomes 0. R112, R151: what refuses a KCFG. R88, R89, R256: the head of an array's queue
whose deadline expires posts LATE_PREFETCH once, unless its KLN_LPMASK bit is set; a RAISE that has not completed and
the head of any other queue are warned of alike. R37: a deadline has expired once the local time of its die has moved
by 64 times DEADLINE since it was armed. That every queue's head is warned of under its own unit, and each overdue
command once, is read from the rules (log entries 40 and 72). -/
def Obligations.ArrayInstructionsIssueOrWarn : Prop :=
  ((∀ (s : State) (d : Fin 4) (a : Fin 16) (p : Fin 4) (c : Cmd), s.dev.ready (qArr d.val a.val p.val) = some c → c.op = 1 →
    s.dev.runs (wPair d.val a.val) = true → (s.dev.part d.val a.val p.val).pend = false → (s.dev.arr d.val a.val).load = none →
    s.dev.cmdHeld d.val a.val c = false →
    s.dev.groupBad (qArr d.val a.val p.val) c s.dev.partKloadBad = none →
    exec (.kload d a p) s = .next (s.withDev
      (((s.dev.popCmd (qArr d.val a.val p.val)).setArr d.val a.val
          { (s.dev.arr d.val a.val) with load := some { part := p.val, cmd := c, tag := !(s.dev.part d.val a.val p.val).atag } }).setPart d.val a.val p.val
        { (s.dev.part d.val a.val p.val) with bound := some (!(s.dev.part d.val a.val p.val).atag), svalid := false }))) ∧
  (∀ (op : Nat) (i : Fin 4 → Fin 16 → Fin 4 → Instr), (op = 2 ∧ i = .kstream ∨ op = 3 ∧ i = .kconv) →
    ∀ (s : State) (d : Fin 4) (a : Fin 16) (p : Fin 4) (c : Cmd) (tag : Bool), s.dev.ready (qArr d.val a.val p.val) = some c → c.op = op →
    s.dev.runs (wPair d.val a.val) = true → s.dev.cmdHeld d.val a.val c = false →
    (s.dev.part d.val a.val p.val).bound = some tag → (s.dev.part d.val a.val p.val).loaded tag = true →
    (s.dev.part d.val a.val p.val).faulted ≠ some tag →
    (∀ r ∈ (s.dev.part d.val a.val p.val).runs, r.ent ≥ mrows r.cmd) → s.dev.tilePend d.val a.val (tileOf c) = none →
    s.dev.groupBad (qArr d.val a.val p.val) c s.dev.partStreamBad = none →
    ((s.dev.turn d.val a.val).isSource a.val = true → (s.dev.turn d.val a.val).canAccept = true) →
    ((s.dev.turn d.val a.val).isReceiver a.val = true → (s.dev.turn d.val a.val).canTake = true) →
    exec (i d a p) s = .next (s.withDev
      (((s.dev.popCmd (qArr d.val a.val p.val)).setTurn d.val a.val ((s.dev.turn d.val a.val).letIn a.val)).setPart d.val a.val p.val
        { (s.dev.part d.val a.val p.val) with runs := (s.dev.part d.val a.val p.val).runs ++
            [newRun op (s.dev.turn d.val a.val) a.val c tag ((s.dev.part d.val a.val p.val).plane tag).fmt
              (s.dev.descWords (sramDA (c.word 5)) 16)] }))) ∧
  (∀ (s : State) (d : Fin 4) (a : Fin 16) (c : Cmd), s.dev.ready (qArr d.val a.val 0) = some c → c.op = 4 →
    s.dev.runs (wPair d.val a.val) = true → s.dev.cmdHeld d.val a.val c = false → (s.dev.arr d.val a.val).load = none →
    (∀ p, p < 4 → (s.dev.part d.val a.val p).pend = false ∧ (s.dev.part d.val a.val p).runs = [] ∧
      ∀ x ∈ s.dev.queue (qArr d.val a.val p), c.ord ≤ x.ord) →
    s.dev.groupBad (qArr d.val a.val 0) c (kcfgBad s.dev) = none →
    ∃ t : Device, exec (.kcfg d a) s = .next (s.withDev (t.finish c stDone)) ∧
      t.arr d.val a.val = { (s.dev.arr d.val a.val) with pmode := fld (c.word 3) 1 0 } ∧
      (∀ p, p < 4 → t.part d.val a.val p = { last := if p = 0 then c.seq else (s.dev.part d.val a.val p).last }) ∧
      ({} : Part).atag = false ∧ ({} : Part).bound = none ∧ ({} : Part).active = {} ∧ ({} : Part).shadow = {} ∧
      t.core.regs = s.dev.core.regs ∧ t.core.mem = s.dev.core.mem) ∧
  (∀ (d : Device) (q : Nat) (c : Cmd), kcfgBad d q c = none ↔ w012Reserved c true = false ∧ partShare c = false ∧ fld (c.word 3) 31 2 = 0 ∧
    c.word 4 = 0 ∧ c.word 5 = 0 ∧ c.word 6 = 0 ∧ c.word 7 = 0 ∧ fld (c.word 3) 1 0 ≠ 3 ∧
    (((d.turnFor (qDie q) (qArray q) c).turn (qDie q) (qArray q)).en = true → fld (c.word 3) 1 0 = 0))) ∧
  ((∀ (s : State) (die : Fin 4) (a : Fin 16) (p : Fin 4) (c : Cmd) (q : List Cmd), s.dev.queue (qArr die.val a.val p.val) = c :: q →
    s.dev.overdue die.val c = true → bit (s.dev.reg (dreg die.val 1 0)) a.val = false →
    exec (.latePrefetch (.part die a p)) s = .next (s.withDev
      ((s.dev.setQueue (qArr die.val a.val p.val) ({ c with late := true } :: q)).post evLate (uArray die.val a.val)
        (lateData s.dev die.val a.val p.val c)))) ∧
  (∀ (s : State) (die : Fin 4) (a : Fin 16) (p : Fin 4) (c : Cmd) (q : List Cmd), s.dev.queue (qArr die.val a.val p.val) = c :: q →
    (s.dev.overdue die.val c = false ∨ bit (s.dev.reg (dreg die.val 1 0)) a.val = true) →
    exec (.latePrefetch (.part die a p)) s = .next s) ∧
  (∀ (s : State) (g : Fin 5) (r : TierRun),
    (lateRaises (s.dev.seg g.val)).find? (fun r => tTop r.cmd == 2 && s.dev.overdue 0 r.cmd) = some r →
    ∃ t, exec (.latePrefetch (.seg g)) s = .next (s.withDev t) ∧
      t.core.evq.map (fun e => (e.code, e.unit)) = s.dev.core.evq.map (fun e => (e.code, e.unit)) ++ [(evLate, segOwner g.val)] ∧
      ∀ x ∈ lateRaises (t.seg g.val), x.cmd.cid = r.cmd.cid → x.cmd.due = false) ∧
  (∀ (s : State) (n : Nat) (c : Cmd) (q : List Cmd), s.dev.queue n = c :: q → s.dev.overdue (queueDie n) c = true → 256 ≤ n →
    n < 728 ∨ 733 ≤ n →
    exec (.latePrefetch (.queue n)) s = .next (s.withDev ((s.dev.setQueue n ({ c with late := true } :: q)).post evLate c.unit 0))) ∧
  (∀ (d : Device) (die : Nat) (c : Cmd), d.overdue die c = true ↔ fld (c.word 2) 31 16 ≠ 0 ∧ c.late = false ∧
    ∃ n, d.core.armed.lookup (.late die c.ord) = some n ∧ n + 64 * fld (c.word 2) 31 16 ≤ d.time die))

/-- R75, R78, R81, R85, R96: a load reads its source over the tokens, 256 bytes in each as they stand then; once all are
read its end fills the shadow plane, swaps every free column and completes the KLOAD, POISONED where it read poison;
the others swap in ascending order, each once the last old-tagged row has left it. How many tokens pass in a
nanosecond is free (log entry 25); that columns swap in ascending order is read from R81 (log entry 28). R77, R125,
R129, R130, R145, R156: a row enters behind those in the array, two on one token in dual-row mode, where no row waits
on a held quarter, its elements of the turn buffer that read uncorrectable poisoned; the oldest row is added into its
tile once it has reached its last column, the errors corrected on the way counted, and the last row's add completes
its instruction. That a displaced row is parked and the wanted one filled when the add needs it is read from R129 (log
entry 29). R93, R95: a partition fault abandons the oldest issued instruction, discards its rows in the array, records
it and completes it with FAULT; each of its destination rows in the partition's columns is marked poisoned where it
lives, in its slot or in its backing, with no value changed; streams bound to its plane are refused from then on,
unless that plane is gone; one of cause ACC_ERROR counts an uncorrectable accumulator error (R145). That the fault is
the oldest instruction's is read from R93 (log entry 30). -/
def Obligations.ArraysLoadRunAndFault : Prop :=
  ((∀ (e : Device) (die a n : Nat) (l : Load), (e.arr die a).load = some l → e.runs (wPair die a) = true → 0 < n →
    (e.arrayTokens die a n).core = e.core ∧
    ((e.arrayTokens die a n).arr die a).load =
      some { l with got := l.got ++ (((loadAddrs l.cmd).drop l.got.length).take (256 * n)).map e.readByte } ∧
    ∀ p, p < 4 → ((e.arrayTokens die a n).part die a p).rows =
      (e.part die a p).rows.map (fun r => { r with left := min 256 (r.left + n) })) ∧
  (∀ (s : State) (d : Fin 4) (a : Fin 16) (l : Load), (s.dev.arr d.val a.val).load = some l →
    l.got.length < (loadAddrs l.cmd).length → exec (.loadComplete d a) s = .next s) ∧
  (∀ (s : State) (d : Fin 4) (a : Fin 16) (l : Load), (s.dev.arr d.val a.val).load = some l → s.dev.runs (wPair d.val a.val) = true →
    (loadAddrs l.cmd).length ≤ l.got.length →
    ∃ t : Device, exec (.loadComplete d a) s =
        .next (s.withDev (t.finish l.cmd (if (loadPlane l).pois.any id then stPoisoned else stDone))) ∧
      t.core.evq.map Event.code = s.dev.core.evq.map Event.code ++ (if (loadPlane l).pois.any id then [evOperandPoison] else []) ∧
      t.arr d.val a.val = { (s.dev.arr d.val a.val) with
                            load := none, loadcnt := ((s.dev.arr d.val a.val).loadcnt + 1) % 2 ^ 32 } ∧
      t.core.mem = s.dev.core.mem ∧ t.core.regs = s.dev.core.regs ∧
      (t.part d.val a.val l.part).last = l.cmd.seq ∧
      ((s.dev.part d.val a.val l.part).freeCols (widthOf (s.dev.arr d.val a.val).pmode) < widthOf (s.dev.arr d.val a.val).pmode →
        (t.part d.val a.val l.part).shadow = loadPlane l ∧
        (t.part d.val a.val l.part).svalid = true ∧ (t.part d.val a.val l.part).pend = true ∧
        (t.part d.val a.val l.part).swapped = (s.dev.part d.val a.val l.part).freeCols (widthOf (s.dev.arr d.val a.val).pmode) ∧
        (t.part d.val a.val l.part).active = (s.dev.part d.val a.val l.part).active) ∧
      (widthOf (s.dev.arr d.val a.val).pmode ≤ (s.dev.part d.val a.val l.part).freeCols (widthOf (s.dev.arr d.val a.val).pmode) →
        (t.part d.val a.val l.part).active = loadPlane l ∧
        (t.part d.val a.val l.part).svalid = false ∧ (t.part d.val a.val l.part).pend = false ∧
        (t.part d.val a.val l.part).atag = !(s.dev.part d.val a.val l.part).atag)) ∧
  (∀ (s : State) (d : Fin 4) (a : Fin 16) (p : Fin 4), s.dev.runs (wPair d.val a.val) = true →
    (s.dev.part d.val a.val p.val).pend = true → (s.dev.part d.val a.val p.val).svalid = true →
    (s.dev.part d.val a.val p.val).swapped < (s.dev.part d.val a.val p.val).freeCols (widthOf (s.dev.arr d.val a.val).pmode) →
    exec (.columnSwap d a p (s.dev.part d.val a.val p.val).swapped) s = .next (s.withDev (s.dev.setPart d.val a.val p.val
      (if widthOf (s.dev.arr d.val a.val).pmode ≤ (s.dev.part d.val a.val p.val).swapped + 1 then (s.dev.part d.val a.val p.val).swapDone
       else { (s.dev.part d.val a.val p.val) with swapped := (s.dev.part d.val a.val p.val).swapped + 1 })))) ∧
  (∀ (s : State) (d : Fin 4) (a : Fin 16) (p : Fin 4) (col : Nat),
    col ≠ (s.dev.part d.val a.val p.val).swapped ∨
      (s.dev.part d.val a.val p.val).freeCols (widthOf (s.dev.arr d.val a.val).pmode) ≤ col →
    exec (.columnSwap d a p col) s = .next s) ∧
  (∀ (p : Part) (w j : Nat), j < p.freeCols w ↔ j < w ∧ (∀ r ∈ p.runs, r.tag = p.atag → mrows r.cmd ≤ r.ent) ∧
    ∀ r ∈ p.rows, r.tag = p.atag → j < r.left)) ∧
  ((∀ (s : State) (d : Fin 4) (a : Fin 16) (p : Fin 4) (hit : List (Fin 256)) (run : Run), s.dev.runs (wPair d.val a.val) = true →
    (s.dev.part d.val a.val p.val).entering = some run → s.dev.holdsRow d.val a.val p.val = false →
    ∃ t e, exec (.rowEntry d a ⟨p, hit⟩) s = .next (s.withDev t) ∧
      e = s.dev.setTurn d.val a.val ((s.dev.turn d.val a.val).struck run (hit.map Fin.val)) ∧
      t.core.mem = s.dev.core.mem ∧ t.core.regs = s.dev.core.regs ∧
      t.core.queues = s.dev.core.queues ∧ t.kiln.quarts = s.dev.kiln.quarts ∧
      (run.perToken = 1 → t = e.enterOne d.val a.val p.val ∧
        (t.part d.val a.val p.val).rows.map (fun r => (r.ord, r.row, r.tag)) =
          (s.dev.part d.val a.val p.val).rows.map (fun r => (r.ord, r.row, r.tag)) ++ [(run.cmd.ord, run.ent, run.tag)] ∧
        (t.arr d.val a.val).rowcnt = (s.dev.arr d.val a.val).rowcnt + 1) ∧
      (run.perToken = 2 → t = (e.enterOne d.val a.val p.val).enterOne d.val a.val p.val)) ∧
  (∀ (s : State) (d : Fin 4) (a : Fin 16) (p : Fin 4) (hit : List (Fin 256)), s.dev.holdsRow d.val a.val p.val = true →
    exec (.rowEntry d a ⟨p, hit⟩) s = .next s) ∧
  (∀ (t : Turn) (run : Run) (w q i r : Nat), run.take = some (w, q) → r = 768 * (run.ent / 256) + 256 * q + i →
    run.ent % 256 < (mget [] (t.win w).rows r).length →
    (((t.struck run [i]).win w).elem q run.ent i).2 = true ∧
    (((t.struck run [i]).win w).elem q run.ent i).1 = ((t.win w).elem q run.ent i).1) ∧
  (∀ (s : State) (d : Fin 4) (a : Fin 16) (p : Fin 4) (r : InRow) (rest : List InRow) (run : Run),
    s.dev.runs (wPair d.val a.val) = true → (s.dev.part d.val a.val p.val).rows = r :: rest →
    (s.dev.part d.val a.val p.val).runOf r.ord = some run →
    (∀ q ∈ rowQuarters (s.dev.arr d.val a.val).pmode p.val (fmtOf run.pfmt),
      s.dev.held d.val a.val p.val (tileOf run.cmd) (arow0 run.cmd + r.row) q = false) → r.sums.length ≤ r.left + 1 →
    ∀ (fixed ce : Nat) (x : Device × Bool), ce = dreg d.val 2 (0x1008 + 0x200 * a.val) →
      x = (s.dev.setReg ce (wd (satAdd32 (s.dev.reg ce).toNat fixed))).addRow d.val a.val p.val (tileOf run.cmd) (arow0 run.cmd + r.row)
        run.cmd r (rowQuarters (s.dev.arr d.val a.val).pmode p.val (fmtOf run.pfmt)) →
    ∃ t, exec (.accumulatorAdd d a ⟨p, fixed⟩) s = .next (s.withDev (if run.added + 1 = mrows run.cmd then
        t.finish run.cmd (if run.pois || (run.miss || x.2) then stPoisoned else stDone) else t)) ∧
      (t.part d.val a.val p.val).rows = rest ∧ t.kiln.quarts = x.1.kiln.quarts ∧
      t.core.mem = x.1.core.mem ∧ t.core.pois = x.1.core.pois ∧ t.core.regs = x.1.core.regs ∧
      t.core.evq.map Event.code = x.1.core.evq.map Event.code ++ (if x.2 && !run.miss then [0x0207] else []) ∧
      (run.added + 1 ≠ mrows run.cmd → (t.part d.val a.val p.val).runs =
        ((s.dev.part d.val a.val p.val).setRun { run with added := run.added + 1, miss := run.miss || x.2 }).runs) ∧
      (run.added + 1 = mrows run.cmd → (t.part d.val a.val p.val).last = run.cmd.seq ∧
        (t.part d.val a.val p.val).runs = (s.dev.part d.val a.val p.val).runs.filter (fun x => x.cmd.ord != run.cmd.ord))) ∧
  (∀ (s : State) (d : Fin 4) (a : Fin 16) (p : Fin 4) (fixed : Nat) (r : InRow) (rest : List InRow),
    (s.dev.part d.val a.val p.val).rows = r :: rest → s.dev.rowWaits d.val a.val p.val = true ∨ r.left + 1 < r.sums.length →
    exec (.accumulatorAdd d a ⟨p, fixed⟩) s = .next s)) ∧
  (∀ (s : State) (d : Fin 4) (a : Fin 16) (p : Fin 4) (cause : Fin 8) (run : Run) (rest : List Run), s.dev.core.flaws = [] →
    (s.dev.part d.val a.val p.val).runs = run :: rest → s.dev.runs (wPair d.val a.val) = true → 1 ≤ cause.val → cause.val ≤ 4 →
    ∀ (rec ue : Nat) (tl : Tile), rec = dreg d.val 1 (0x1020 + 0x100 * a.val + 8 * p.val) → ue = dreg d.val 2 (0x100C + 0x200 * a.val) →
      tl = s.dev.tile d.val a.val (tileOf run.cmd) →
    ∃ t : Device, exec (.partitionFault d a p cause) s = .next (s.withDev (t.finish run.cmd stFault)) ∧
      t.core.evq.map Event.code = s.dev.core.evq.map Event.code ++ [0x0201] ∧
      (t.part d.val a.val p.val).runs = rest ∧
      (t.part d.val a.val p.val).rows = (s.dev.part d.val a.val p.val).rows.filter (fun r => r.ord != run.cmd.ord) ∧
      (t.part d.val a.val p.val).faulted = (if run.gone then (s.dev.part d.val a.val p.val).faulted else some run.tag) ∧
      (t.part d.val a.val p.val).last = run.cmd.seq ∧
      (∀ l q, l ∈ rangeFrom (arow0 run.cmd) (mrows run.cmd) → q ∈ rowQuarters (s.dev.arr d.val a.val).pmode p.val (fmtOf run.pfmt) →
        ((s.dev.quart d.val a.val (tl.slot l) q).holds tl l = some l → t.quart d.val a.val (tl.slot l) q =
          { (s.dev.quart d.val a.val (tl.slot l) q) with pois := true }) ∧
        ((s.dev.quart d.val a.val (tl.slot l) q).holds tl l ≠ some l → tl.bken = true →
          s.dev.rangeOk (tl.backing l q) (tl.rowBytes / 4) = true → s.dev.memHeld (tl.backing l q) = false →
          ∀ i, i < tl.rowBytes / 4 → (t.readByte (tl.backing l q + i)).2 = true)) ∧
      (∀ b, (t.readByte b).1 = (s.dev.readByte b).1) ∧
      (bit (s.dev.reg rec) 31 = false →
        t.reg rec = wd (2 ^ 31 + cause.val * 2 ^ 28 + p.val * 2 ^ 26 + run.cmd.seq * 2 ^ 12) ∧ t.reg (rec + 4) = wd (run.added % 65536)) ∧
      (bit (s.dev.reg rec) 31 = true → t.reg rec = s.dev.reg rec ∧ t.reg (rec + 4) = s.dev.reg (rec + 4)) ∧
      t.reg ue = (if cause.val = 4 then wd (satAdd32 (s.dev.reg ue).toNat 1) else s.dev.reg ue) ∧
      ∀ k, k ≠ rec → k ≠ rec + 4 → k ≠ ue → t.reg k = s.dev.reg k)

/-- R121, R151: a tile takes its staged configuration when it is idle, and a pair's turn when the pair is. -/
def Obligations.TileAndTurnConfiguration : Prop :=
  (∀ (s : State) (d : Fin 4) (a t : Fin 16) (lo : Word), s.dev.tileIdle d.val a.val t.val = true →
    exec (.tileCommit d a t lo) s = .next (s.withDev (((s.dev.setReg (dreg d.val 2 (0x1100 + 0x200 * a.val + 0x10 * t.val))
      (lo &&& 0xF1FFFFFF)).setTilePend d.val a.val t.val none).applyTile d.val a.val t.val
        ((s.dev.setReg (dreg d.val 2 (0x1100 + 0x200 * a.val + 0x10 * t.val)) (lo &&& 0xF1FFFFFF)).stagedTile d.val a.val t.val
          (lo &&& 0xF1FFFFFF))))) ∧
  (∀ (s : State) (d : Fin 4) (a t : Fin 16) (lo : Word), s.dev.tileIdle d.val a.val t.val = false →
    exec (.tileCommit d a t lo) s = .next (s.withDev ((s.dev.setReg (dreg d.val 2 (0x1100 + 0x200 * a.val + 0x10 * t.val))
      (lo &&& 0xF1FFFFFF)).setTilePend d.val a.val t.val
        (some ((s.dev.setReg (dreg d.val 2 (0x1100 + 0x200 * a.val + 0x10 * t.val)) (lo &&& 0xF1FFFFFF)).stagedTile d.val a.val t.val
          (lo &&& 0xF1FFFFFF)))))) ∧
  (∀ (s : State) (d : Fin 4) (a t : Fin 16) (v : Tile), s.dev.tilePend d.val a.val t.val = some v → s.dev.tileIdle d.val a.val t.val = true →
    exec (.pendingCommit d a t) s = .next (s.withDev ((s.dev.setTilePend d.val a.val t.val none).applyTile d.val a.val t.val v))) ∧
  (∀ (e : Device) (die a t : Nat) (v : Tile), e.tileBad die a t v = 0 →
    (e.applyTile die a t v).tile die a t = v ∧ (e.applyTile die a t v).core = e.core ∧
    (v.en = true → ∀ slot q, slot < 4096 → q < 4 → (e.applyTile die a t v).quart die a slot q =
      if v.tbase ≤ slot ∧ slot < v.tbase + v.tslots then {} else e.quart die a slot q) ∧
    (v.en = false → ∀ slot q, slot < 4096 → q < 4 → (e.applyTile die a t v).quart die a slot q =
      if (e.tile die a t).en = true ∧ (e.tile die a t).tbase ≤ slot ∧ slot < (e.tile die a t).tbase + (e.tile die a t).tslots then {}
      else e.quart die a slot q)) ∧
  (∀ (e : Device) (die a t : Nat) (v : Tile), e.tileBad die a t v ≠ 0 → (e.applyTile die a t v).kiln = e.kiln ∧
    (e.applyTile die a t v).reg (dreg die 2 (0x1004 + 0x200 * a)) = wd (2 ^ 31 + e.tileBad die a t v * 2 ^ 28 + t * 2 ^ 24)) ∧
  (∀ (s : State) (d : Fin 4) (pr : Fin 8) (v : Word), ∃ e, exec (.turnWrite d pr v) s = .next (s.withDev e) ∧
    (e.turn d.val (2 * pr.val)).pend = some (v, match (s.dev.turn d.val (2 * pr.val)).pend with
      | some (_, o) => o
      | none => s.dev.core.nextOrd) ∧ e.core = s.dev.core) ∧
  (∀ (s : State) (d : Fin 4) (pr : Fin 8) (v : Word) (o : Nat), (s.dev.turn d.val (2 * pr.val)).pend = some (v, o) →
    s.dev.runs (wPair d.val (2 * pr.val)) = true → s.dev.pairIdle d.val pr.val o = true →
    ∃ e, exec (.turnTakeEffect d pr) s = .next (s.withDev e) ∧ e.core = s.dev.core ∧ (e.turn d.val (2 * pr.val)).pend = none ∧
      (e.turn d.val (2 * pr.val)).w0 = {} ∧ (e.turn d.val (2 * pr.val)).w1 = {} ∧
      ((e.turn d.val (2 * pr.val)).en = true ↔ bit v 31 = true ∧ (s.dev.arr d.val (2 * pr.val)).pmode = 0 ∧
        (s.dev.arr d.val (2 * pr.val + 1)).pmode = 0) ∧
      ((e.turn d.val (2 * pr.val)).terr = true ↔ bit v 31 = true ∧ ¬((s.dev.arr d.val (2 * pr.val)).pmode = 0 ∧
        (s.dev.arr d.val (2 * pr.val + 1)).pmode = 0)))

/-- R70, R140: a drain command latches its 128-byte descriptor as it enters its queue; at the head, checked, it issues
with that descriptor and the grog position of that moment. R128, R131, R139, R141 to R143: one row segment of a drain
whose turn it is makes the writes `segment` gives for the elements it reads, counts the row and holds it no longer;
under WAITSEQ 1 it clears the dirty marks of the quarters it read, and leaves every quarter else as it was; a resident
row that reads uncorrectable is poisoned where it was read; out of its turn, or with no row ready, a drain reads
nothing; after the last row the drain completes; a fault ends it with FAULT. That column n of a drain is indexed by n
- COL0 from its base addresses is read from the spec (log entry 35). -/
def Obligations.DrainsIssueAndRun : Prop :=
  ((∀ (d : Device) (c : Cmd) (x : Dest), c.op = 6 → x.q < 512 → d.fenced x.slot = false →
    ∃ k, (d.enqueue c x).queue x.q = d.queue x.q ++ [k] ∧ k.w = c.w ∧ k.desc = d.readBytes (sramDA (c.word 5)) 128 ∧
      k.ord = d.core.nextOrd) ∧
  (∀ (s : State) (d : Fin 4) (a : Fin 16) (p : Fin 4) (c : Cmd), s.dev.ready (qDrn d.val a.val p.val) = some c → c.op = 6 →
    s.dev.runs (wPair d.val a.val) = true → s.dev.tilePend d.val a.val (tileOf c) = none →
    s.dev.groupBad (qDrn d.val a.val p.val) c s.dev.partDrainBad = none →
    ∃ t, exec (.drain d a p) s = .next (s.withDev t) ∧ ∃ r, t.drains d.val a.val p.val = s.dev.drains d.val a.val p.val ++ [r] ∧
      r.cmd = c ∧ r.desc = bytesToWords 32 (values c.desc) ∧ r.row = 0 ∧ r.pois = false ∧ r.draw = s.dev.draw d.val 0 (wordAt r.desc 17) ∧
      t.core = (s.dev.popCmd (qDrn d.val a.val p.val)).core)) ∧
  ((∀ (s : State) (d : Fin 4) (a : Fin 16) (p : Fin 4) (k : Nat) (run : DRun) (f : DrainF) (l t : Nat) (es : List DElem),
    (s.dev.drains d.val a.val p.val)[k]? = some run → s.dev.runs (wPair d.val a.val) = true → s.dev.drainTurn d.val a.val run = true →
    f = drainF run.desc → l = drow0 run.cmd + run.row → t = tileOf run.cmd →
    es = (List.range f.ncol).map (fun j => drainElem s.dev run.desc f run.row j (quarterVal (s.dev.tile d.val a.val t).fmt
      ((rangeFrom (f.col0 / 64) ((f.col0 + f.ncol - 1) / 64 - f.col0 / 64 + 1)).map (fun q => (s.dev.drainQuarter d.val a.val t l q).1))
      (f.col0 / 64) (f.col0 + j))) →
    ∃ u, exec (.drainRowSegment d a p k .clean) s = .next (s.withDev u) ∧ ∃ r,
      u.core.mem = (s.dev.writes (segment run.desc f run es).1).core.mem ∧
      u.core.pois = (s.dev.writes (segment run.desc f run es).1).core.pois ∧
      (u.drains d.val a.val p.val)[k]? = some r ∧ r.row = run.row + 1 ∧ r.cmd = run.cmd ∧ r.taps = (segment run.desc f run es).2.1.taps ∧
      r.pois = (run.pois || es.any (·.p)) ∧ (∀ q seq, drainHolds r.cmd r.row t l q seq = false) ∧
      (bit (run.cmd.word 3) 20 = true → ∀ q, f.col0 / 64 ≤ q → q ≤ (f.col0 + f.ncol - 1) / 64 →
        (u.quart d.val a.val ((s.dev.tile d.val a.val t).slot l) q).dirty = false) ∧
      (∀ slot q, { (u.quart d.val a.val slot q) with dirty := false } = { (s.dev.quart d.val a.val slot q) with dirty := false }) ∧
      (bit (run.cmd.word 3) 20 = false → u.kiln.quarts = s.dev.kiln.quarts) ∧
      (u.accCnt d.val a.val).drows = (s.dev.accCnt d.val a.val).drows + 1 ∧ u.core.queues = s.dev.core.queues) ∧
  (∀ (s : State) (d : Fin 4) (a : Fin 16) (p : Fin 4) (k : Nat) (run : DRun) (f : DrainF) (l t q : Nat),
    (s.dev.drains d.val a.val p.val)[k]? = some run → s.dev.runs (wPair d.val a.val) = true → s.dev.drainTurn d.val a.val run = true →
    f = drainF run.desc → l = drow0 run.cmd + run.row → t = tileOf run.cmd → f.col0 / 64 ≤ q → q ≤ (f.col0 + f.ncol - 1) / 64 →
    (s.dev.quart d.val a.val ((s.dev.tile d.val a.val t).slot l) q).holds (s.dev.tile d.val a.val t) l = some l →
    ∃ u, exec (.drainRowSegment d a p k .uncorrectable) s = .next (s.withDev u) ∧
      (u.quart d.val a.val ((s.dev.tile d.val a.val t).slot l) q).pois = true) ∧
  (∀ (s : State) (d : Fin 4) (a : Fin 16) (p : Fin 4) (k : Nat) (ecc : EccOutcome) (run : DRun),
    (s.dev.drains d.val a.val p.val)[k]? = some run → s.dev.drainTurn d.val a.val run = false →
    exec (.drainRowSegment d a p k ecc) s = .next s) ∧
  (∀ (s : State) (d : Fin 4) (a : Fin 16) (p : Fin 4) (k : Nat) (run : DRun), (s.dev.drains d.val a.val p.val)[k]? = some run →
    s.dev.runs (wPair d.val a.val) = true → drowsOf run.cmd ≤ run.row →
    exec (.drainComplete d a p k) s = .next (s.withDev
      ((s.dev.setDrains d.val a.val p.val ((s.dev.drains d.val a.val p.val).eraseIdx k)).finish run.cmd
        (if run.pois || run.miss then stPoisoned else stDone)))) ∧
  (∀ (s : State) (d : Fin 4) (a : Fin 16) (p : Fin 4) (k : Nat) (cause : Fin 8) (run : DRun), (s.dev.drains d.val a.val p.val)[k]? = some run →
    s.dev.runs (wPair d.val a.val) = true → (cause.val = 2 ∨ cause.val = 3) →
    ∀ rec, rec = dreg d.val 3 (0x1010 + 0x100 * a.val + 8 * p.val) →
    ∃ t : Device, exec (.drainFault d a p k cause) s = .next (s.withDev (t.finish run.cmd stFault)) ∧
      t.core.evq.map Event.code = s.dev.core.evq.map Event.code ++ [0x0206] ∧
      t.drains d.val a.val p.val = (s.dev.drains d.val a.val p.val).eraseIdx k ∧ t.core.mem = s.dev.core.mem ∧
      t.kiln.quarts = s.dev.kiln.quarts ∧
      (bit (s.dev.reg rec) 31 = false → t.reg rec = wd (2 ^ 31 + cause.val * 2 ^ 28 + p.val * 2 ^ 26 + run.cmd.seq * 2 ^ 12) ∧
        t.reg (rec + 4) = wd ((drow0 run.cmd + run.row - run.buf.length) % 2 ^ 17)) ∧
      (bit (s.dev.reg rec) 31 = true → t.reg rec = s.dev.reg rec ∧ t.reg (rec + 4) = s.dev.reg (rec + 4))))

/-- R102, R103, R105: an MVMUL issues once the one before is complete, writes Y when it completes, and a fault leaves the
columns from NIDX on as they were. That X and W are read when it completes or faults is the model's choice (log entry
79). -/
def Obligations.MvmulIssuesAndCompletes : Prop :=
  (∀ (s : State) (d : Fin 4) (c : Cmd), s.dev.ready (qMvp d.val) = some c → c.op = 8 → s.dev.runs (wMvp d.val) = true →
    (s.dev.mvpOf d.val).run = none → mvmulBad s.dev c = none →
    ∃ t, exec (.mvmul d) s = .next (s.withDev t) ∧ ∃ r, (t.mvpOf d.val).run = some r ∧ r.w = c.w ∧ r.cid = c.cid ∧
      r.desc = s.dev.readBytes (sramDA (c.word 5)) 64 ∧ t.core = (s.dev.popCmd (qMvp d.val)).core) ∧
  (∀ (s : State) (d : Fin 4) (c : Cmd), (s.dev.mvpOf d.val).run = some c → s.dev.runs (wMvp d.val) = true →
    ∃ t, exec (.mvmulComplete d) s = .next (s.withDev t) ∧ (t.mvpOf d.val).run = none ∧ (t.mvpOf d.val).last = c.seq ∧
      t.core.mem = (s.dev.writes (mvOutput s.dev (s.dev.mvpOf d.val) c (mvN c)).1).core.mem ∧
      t.core.pois = (s.dev.writes (mvOutput s.dev (s.dev.mvpOf d.val) c (mvN c)).1).core.pois) ∧
  (∀ (s : State) (d : Fin 4) (cause : Fin 8) (nidx : Nat) (c : Cmd), (s.dev.mvpOf d.val).run = some c → s.dev.runs (wMvp d.val) = true →
    2 ≤ cause.val → cause.val ≤ 4 → nidx < mvN c →
    ∃ t, exec (.mvpFault d cause nidx) s = .next (s.withDev t) ∧ (t.mvpOf d.val).run = none ∧
      t.core.mem = (s.dev.writes (mvOutput s.dev (s.dev.mvpOf d.val) c
        (if (mvY c).scaled then nidx / 32 * 32 else nidx)).1).core.mem ∧
      (bit (s.dev.reg (dreg d.val 4 8)) 31 = false →
        t.reg (dreg d.val 4 8) = wd (2 ^ 31 + cause.val * 2 ^ 28 + c.seq * 2 ^ 12) ∧
        t.reg (dreg d.val 4 12) = wd ((if (mvY c).scaled then nidx / 32 * 32 else nidx) % 65536)))

/-- R165, R166, R168, R170: PUT, GET, DROP and LBND at the head of a stash queue that break no rule of R165 and find the
frames they need. A command that issues leaves the queue, and an LBND at its head releases what was reserved before,
as R170 is read (log entry 37). R166, R168: a PUT whose tiles are placed, and a GET, complete; the GET writes the
object's tiles to its destination and frees the handle where RELEASE is set. That a GET reads and writes its tiles
when it completes is read from the rules (log entry 37). That an access waits where a near-bank unit runs is the
subject of another statement. -/
def Obligations.StashCommandsRunAndComplete : Prop :=
  ((∀ (s : State) (d : Fin 4) (c : Cmd), s.dev.stashHead d.val 0xA = some c → (s.dev.stash d.val).stopped = false →
    s.dev.stashHeadBad d.val c = none → tilesOf (c.word 4).toNat ≤ (s.dev.stash d.val).resv + s.dev.stashAvail d.val →
    exec (.put d) s = .next (s.withDev (((s.dev.setStash d.val { (s.dev.stash d.val) with
      objs := mset none (s.dev.stash d.val).objs (fld (c.word 3) 31 20) (some (StashObj.mk (fld (c.word 3) 18 17) (fld (c.word 3) 16 13)
        (c.word 4).toNat (s.dev.stash d.val).nextAge []))
      run := some c
      resv := (s.dev.stash d.val).resv - min (s.dev.stash d.val).resv (tilesOf (c.word 4).toNat)
      nextAge := (s.dev.stash d.val).nextAge + 1 }).stashIssue d.val).putStep d.val))) ∧
  (∀ (s : State) (d : Fin 4) (c : Cmd), s.dev.stashHead d.val 0xB = some c → s.dev.stashHeadBad d.val c = none →
    exec (.get d) s = .next (s.withDev ((s.dev.setStash d.val { (s.dev.stash d.val) with run := some c }).stashIssue d.val))) ∧
  (∀ (s : State) (d : Fin 4) (c : Cmd), s.dev.stashHead d.val 0xC = some c → s.dev.stashHeadBad d.val c = none →
    exec (.drop d) s = .next (s.withDev
      (((s.dev.setStash d.val ((s.dev.stash d.val).free (fld (c.word 3) 31 20))).stashIssue d.val).stashDone d.val c stDone)) ∧
    ((s.dev.stash d.val).free (fld (c.word 3) 31 20)).obj (fld (c.word 3) 31 20) = none) ∧
  (∀ (s : State) (d : Fin 4) (c : Cmd), s.dev.stashHead d.val 0xD = some c → (s.dev.stash d.val).stopped = false →
    s.dev.stashHeadBad d.val c = none → (c.word 4).toNat ≤ (s.dev.lbndHead d.val).stashAvail d.val →
    ∃ t, exec (.lbnd d) s = .next (s.withDev t) ∧
      (t.stash d.val).resv = (if ((s.dev.queue (qSts d.val)).tail.head?.map Cmd.op) = some 0xD then 0 else (c.word 4).toNat) ∧
      (t.stash d.val).layer = fld (c.word 3) 31 20 ∧ (t.stash d.val).last = c.seq ∧ (t.stash d.val).objs = (s.dev.stash d.val).objs ∧
      t.core.mem = s.dev.core.mem ∧ t.core.regs = s.dev.core.regs) ∧
  (∀ (d : Device) (die : Nat), (d.stashIssue die).queue (qSts die) = (d.queue (qSts die)).tail ∧
    ((d.stashIssue die).stash die).stopped = false ∧ ((d.stashIssue die).stash die).run = (d.stash die).run ∧
    ((d.stashIssue die).stash die).objs = (d.stash die).objs) ∧
  (∀ (d : Device) (die : Nat) (c : Cmd) (q : List Cmd), d.queue (qSts die) = c :: q →
    ((d.lbndHead die).stash die).resv = if c.op = 0xD then 0 else (d.stash die).resv)) ∧
  (∀ (s : State) (d : Fin 4) (c : Cmd) (o : StashObj), s.dev.busyUnits = [] → (s.dev.stash d.val).run = some c →
    (s.dev.stash d.val).obj (fld (c.word 3) 31 20) = some o → s.dev.runs (wSts d.val) = true →
    (c.op = 0xA → tilesOf o.len ≤ o.tiles.length →
      exec (.stashCommandComplete d) s = .next (s.withDev (s.dev.stashDone d.val c stDone))) ∧
    (c.op = 0xB → s.dev.core.flaws = [] → s.dev.core.watch = none → ∃ t, exec (.stashCommandComplete d) s = .next (s.withDev t) ∧ (t.stash d.val).run = none ∧
      (t.stash d.val).last = c.seq ∧
      t.core.mem = (s.dev.writes (s.dev.getTiles d.val (sramDA (c.word 5)) o)).core.mem ∧
      (t.stash d.val).obj (fld (c.word 3) 31 20) = if bit (c.word 3) 19 then none else some o))

/-- R171, R172: a PUT or an LBND that lacks frames stays at the head with STOPPED and one STASH_FULL; it is evaluated
again only after STS_RESUME. R167, R173, R175: the oldest tile moves down a tier when frames run low, and lands; with
no tile in the pool none moves; the host's DROP, after which a waiting PUT goes on; the allotments. That the lowest
free frame is taken, and which tile moves, is read from R167 (log entry 37). -/
def Obligations.StashStopsMovesAndAllots : Prop :=
  ((∀ (s : State) (d : Fin 4) (c : Cmd), s.dev.stashHead d.val 0xA = some c → (s.dev.stash d.val).stopped = false →
    s.dev.stashHeadBad d.val c = none → (s.dev.stash d.val).resv + s.dev.stashAvail d.val < tilesOf (c.word 4).toNat →
    ∃ t, exec (.put d) s = .next (s.withDev t) ∧ (t.stash d.val).stopped = true ∧ (t.stash d.val).objs = (s.dev.stash d.val).objs ∧
      t.core.queues = s.dev.core.queues ∧ t.core.evq.map Event.code = s.dev.core.evq.map Event.code ++ [0x0403] ∧
      exec (.put d) (s.withDev t) = .next (s.withDev t)) ∧
  (∀ (s : State) (d : Fin 4) (c : Cmd), (s.dev.stash d.val).stopped = true → s.dev.stashHead d.val 0xA = some c →
    exec (.stsResume d) s = exec (.put d) (s.withDev (s.dev.setStash d.val { (s.dev.stash d.val) with stopped := false }))) ∧
  (∀ (s : State) (d : Fin 4) (c : Cmd), (s.dev.stash d.val).stopped = true → s.dev.stashHead d.val 0xD = some c →
    exec (.stsResume d) s = exec (.lbnd d) (s.withDev (s.dev.setStash d.val { (s.dev.stash d.val) with stopped := false }))) ∧
  (∀ (s : State) (d : Fin 4) (c : Cmd), (s.dev.stash d.val).stopped = true → s.dev.stashHead d.val 0xD = some c →
    s.dev.stashHeadBad d.val c = none → (c.word 4).toNat ≤ s.dev.stashAvail d.val + (s.dev.stash d.val).resv →
    (s.dev.stash d.val).used + (s.dev.stash d.val).resv ≤ (s.dev.stsN d.val).1 + (s.dev.stsN d.val).2.1 + (s.dev.stsN d.val).2.2 →
    ∃ t, exec (.stsResume d) s = .next (s.withDev t) ∧ (t.stash d.val).stopped = false ∧
      (t.stash d.val).resv = (if ((s.dev.queue (qSts d.val)).tail.head?.map Cmd.op) = some 0xD then 0 else (c.word 4).toNat) ∧
      t.core.regs = s.dev.core.regs)) ∧
  ((∀ (s : State) (d : Fin 4) (f h t : Nat), s.dev.runs (wSts d.val) = true →
    freeCount Frame.pool (s.dev.stash d.val).taken (s.dev.stsN d.val).1 < (s.dev.reg (stsReg d.val 0x2C)).toNat →
    freeFrame Frame.t1 (s.dev.stash d.val).taken (s.dev.stsN d.val).2.1 = some f →
    (s.dev.stash d.val).oldest Frame.isPool = some (h, t) →
    exec (.spill d) s = .next (s.withDev (s.dev.setStash d.val { (s.dev.stash d.val) with
      moves := (s.dev.stash d.val).moves ++ [StashMove.mk h t (.t1 f)] }))) ∧
  (∀ (s : State) (d : Fin 4) (f h t : Nat), s.dev.runs (wSts d.val) = true →
    freeCount Frame.pool (s.dev.stash d.val).taken (s.dev.stsN d.val).1 < (s.dev.reg (stsReg d.val 0x2C)).toNat →
    freeFrame Frame.t1 (s.dev.stash d.val).taken (s.dev.stsN d.val).2.1 = none →
    freeFrame Frame.t2 (s.dev.stash d.val).taken (s.dev.stsN d.val).2.2 = some f →
    (s.dev.stash d.val).oldest Frame.isPool ≠ none → (s.dev.stash d.val).oldest Frame.isT1 = some (h, t) →
    exec (.spill d) s = .next (s.withDev (s.dev.setStash d.val { (s.dev.stash d.val) with
      moves := (s.dev.stash d.val).moves ++ [StashMove.mk h t (.t2 f)] }))) ∧
  (∀ (s : State) (d : Fin 4), (s.dev.stash d.val).oldest Frame.isPool = none → exec (.spill d) s = .next s) ∧
  (∀ (s : State) (d : Fin 4) (k : Nat) (m : StashMove) (o : StashObj) (f : Frame), (s.dev.stash d.val).moves[k]? = some m →
    (s.dev.stash d.val).obj m.handle = some o → o.tiles[m.tile]? = some f → s.dev.runs (wSts d.val) = true →
    s.dev.busyUnits = [] → s.dev.core.flaws = [] → s.dev.core.watch = none →
    exec (.tileLanding d k) s = .next (s.withDev ((((s.dev.write (s.dev.frameAddr d.val m.dst)
      (s.dev.readBytes (s.dev.frameAddr d.val f) (tileLen o.len m.tile))).setStash d.val { (s.dev.stash d.val) with
        objs := mset none (s.dev.stash d.val).objs m.handle (some { o with tiles := o.tiles.set m.tile m.dst })
        moves := (s.dev.stash d.val).moves.eraseIdx k }).progress (wSts d.val)).putStep d.val))) ∧
  (∀ (s : State) (d : Fin 4) (h : BitVec 12) (o : StashObj), (s.dev.stash d.val).obj h.toNat = some o →
    exec (.stsDrop d h) s = .next (s.withDev ((s.dev.setStash d.val ((s.dev.stash d.val).free h.toNat)).putStep d.val))) ∧
  (∀ (s : State) (d : Fin 4) (h : BitVec 12), (s.dev.stash d.val).obj h.toNat = none →
    exec (.stsDrop d h) s = .next (s.withDev (s.dev.setReg (stsReg d.val 0x38) (wd (2 ^ 31 + 4 * 2 ^ 28))))) ∧
  (∀ (s : State) (d : Fin 4) (r : Allotment) (v : Word), (s.dev.stash d.val).objs = [] →
    (r = .pool → fld (v &&& wd (allotReg r).2) 15 0 = 0) →
    (s.dev.setReg (stsReg d.val (allotReg r).1) (v &&& wd (allotReg r).2)).allotRange d.val = true →
    exec (.allotmentWrite d r v) s = .next (s.withDev (s.dev.setReg (stsReg d.val (allotReg r).1) (v &&& wd (allotReg r).2)))) ∧
  (∀ (s : State) (d : Fin 4) (r : Allotment) (v : Word), (s.dev.stash d.val).objs ≠ [] → allotIsCount r = false →
    exec (.allotmentWrite d r v) s = .next (s.withDev (s.dev.setReg (stsReg d.val 0x38) (wd (2 ^ 31 + 1 * 2 ^ 28))))))

/-- R197, R515, R516: a running stream fetches the record at its head, and a unit record goes to its queues when each of
them has room, one part to each, under one open command. R198: a record that is refused halts its stream with HCAUSE 3
and posts CMD_INVALID, and no queue changes. -/
def Obligations.StreamsDispatchOrHalt : Prop :=
  ((∀ (s : State) (d : Fin 4) (n : Fin 8), (s.dev.stream d.val n.val).state = .run → (s.dev.stream d.val n.val).rcd = none →
    (match (s.dev.stream d.val n.val).ahead with
      | none => (s.dev.stream d.val n.val).head ≠ (s.dev.stream d.val n.val).tail
      | some a => aheadReady (s.dev.ringSize d.val n.val) (s.dev.stream d.val n.val).tail a = true) →
    s.dev.busyUnits = [] → s.dev.core.flaws = [] → s.dev.core.watch = none →
    s.dev.runs (wCtl d.val) = true → regionOf (s.dev.recordAddr d.val n.val (s.dev.stream d.val n.val).head) < 0xC →
    s.dev.rangeOk (s.dev.recordAddr d.val n.val (s.dev.stream d.val n.val).head) 64 = true →
    anyPoison (s.dev.readBytes (s.dev.recordAddr d.val n.val (s.dev.stream d.val n.val).head) 64) = false →
    exec (.recordFetch d n) s = .next (s.withDev (s.dev.setStream d.val n.val { (s.dev.stream d.val n.val) with
      rcd := some (bytesToWords 16 (values (s.dev.readBytes (s.dev.recordAddr d.val n.val (s.dev.stream d.val n.val).head) 64)))
      met := false
      ahead := none }))) ∧
  (∀ (s : State) (d : Fin 4) (n : Fin 8) (r : List Word) (ds : List Dest), (s.dev.stream d.val n.val).rcd = some r →
    (s.dev.stream d.val n.val).state = .run → s.dev.runs (wCtl d.val) = true → recordBad d.val (s.dev.ringSize d.val n.val) r = false →
    rIsCop r = false → destsOf (rH r 0) (fld (rW r 0) 31 28) (fld (rW r 0) 27 26) = some ds →
    (∀ x ∈ ds, s.dev.fenced x.slot = true ∨ (s.dev.queue x.q).length < qDepth x.q) →
    exec (.recordDispatch d n) s = .next (s.withDev (s.dev.dispatch d.val n.val r ds))) ∧
  (∀ (e : Device) (die n : Nat) (r : List Word) (x : Dest), e.fenced x.slot = false →
    ∃ c, (e.dispatch die n r [x]).queue x.q = e.queue x.q ++ [c] ∧ c.cid = e.core.nextCid ∧ c.w = r.drop 8 ∧ c.ord = e.core.nextOrd ∧
      c.unit = x.first ∧ mget {} (e.dispatch die n r [x]).core.opens e.core.nextCid = openOf die n (e.stream die n).head r x.parts ∧
      (e.dispatch die n r [x]).stream die n = ((e.stream die n).past (e.ringSize die n) r).settle ∧
      (e.dispatch die n r [x]).core.regs = e.core.regs ∧ (e.dispatch die n r [x]).core.mem = e.core.mem)) ∧
  (∀ (s : State) (d : Fin 4) (n : Fin 8) (r : List Word), (s.dev.stream d.val n.val).rcd = some r →
    (s.dev.stream d.val n.val).state = .run → s.dev.runs (wCtl d.val) = true → recordBad d.val (s.dev.ringSize d.val n.val) r = true →
    ∃ t, exec (.recordDispatch d n) s = .next (s.withDev t) ∧ (t.stream d.val n.val).state = .halted ∧
      (t.stream d.val n.val).hcause = 3 ∧ (t.stream d.val n.val).hrec = (s.dev.stream d.val n.val).head ∧
      t.core.queues = s.dev.core.queues ∧ t.core.opens = s.dev.core.opens ∧ t.core.regs = s.dev.core.regs ∧
      t.core.mem = s.dev.core.mem ∧ t.core.evq.map Event.code = s.dev.core.evq.map Event.code ++ [evCmdInvalid])

/-- R200, R515: the control operations that let the stream go on, each with its effect and its status, STALE where the die
it names is in reset. Each passes its record: it reports one completion word, with its status and, unless that is
DONE, the control core of its die (R22, log entry 39), and its stream goes on past it, or halts where FPOL names the
status (R196). HALT passes its record too and then halts. R201, R515: a branch moves the head by OFFSET within the
ring; BRS branches when the comparison is met, DECBR while its loop register is not 0, and a BRS on an invalid summary
halts the stream with HCAUSE 4. -/
def Obligations.ControlOperationsAndBranches : Prop :=
  ((∀ (s : State) (d : Fin 4) (n : Fin 8) (r : List Word), s.dev.copReady d.val n.val 1 = some r →
    exec (.waitc d n) s = .next (s.withDev (s.dev.copStep d.val n.val r id stDone))) ∧
  (∀ (s : State) (d : Fin 4) (n : Fin 8) (r : List Word), s.dev.copReady d.val n.val 2 = some r →
    ∃ t, exec (.setc d n) s = .next (s.withDev t) ∧
      t = s.dev.copStep d.val n.val r (fun e => e.setSync (fld (rW r 3) 31 30) (fld (rW r 3) 23 16) (fld (rW r 3) 15 0))
        (if s.dev.dieInReset (fld (rW r 3) 31 30) = true then stStale else stDone) ∧
      (s.dev.dieInReset (fld (rW r 3) 31 30) = false →
        t.sync (fld (rW r 3) 31 30) (fld (rW r 3) 23 16) = fld (rW r 3) 15 0 ∧
        ∀ die k, die * 256 + k ≠ fld (rW r 3) 31 30 * 256 + fld (rW r 3) 23 16 → t.sync die k = s.dev.sync die k) ∧
      (s.dev.dieInReset (fld (rW r 3) 31 30) = true → t.core.sync = s.dev.core.sync)) ∧
  (∀ (s : State) (d : Fin 4) (n : Fin 8) (r : List Word), s.dev.copReady d.val n.val 3 = some r →
    ∃ t, exec (.addc d n) s = .next (s.withDev t) ∧
      t = s.dev.copStep d.val n.val r (fun e => e.addSync (fld (rW r 3) 31 30) (fld (rW r 3) 23 16) (fld (rW r 3) 15 0))
        (if s.dev.dieInReset (fld (rW r 3) 31 30) = true then stStale else stDone) ∧
      (s.dev.dieInReset (fld (rW r 3) 31 30) = false →
        t.sync (fld (rW r 3) 31 30) (fld (rW r 3) 23 16) =
          (s.dev.sync (fld (rW r 3) 31 30) (fld (rW r 3) 23 16) + fld (rW r 3) 15 0) % 2 ^ 16 ∧
        ∀ die k, die * 256 + k ≠ fld (rW r 3) 31 30 * 256 + fld (rW r 3) 23 16 → t.sync die k = s.dev.sync die k) ∧
      (s.dev.dieInReset (fld (rW r 3) 31 30) = true → t.core.sync = s.dev.core.sync)) ∧
  (∀ (s : State) (d : Fin 4) (n : Fin 8) (r : List Word), s.dev.copReady d.val n.val 6 = some r →
    exec (.loop d n) s = .next (s.withDev
      (s.dev.copStep d.val n.val r (fun e => e.setLoopReg d.val n.val (fld (rW r 3) 1 0) (rW r 4)) stDone))) ∧
  (∀ (s : State) (d : Fin 4) (n : Fin 8) (r : List Word), s.dev.copReady d.val n.val 8 = some r →
    ∃ t, exec (.halt d n) s = .next (s.withDev t) ∧ (t.stream d.val n.val).state = .halted ∧ (t.stream d.val n.val).hcause = 1 ∧
      (t.stream d.val n.val).hrec = (s.dev.stream d.val n.val).head ∧
      (t.stream d.val n.val).head = ((s.dev.stream d.val n.val).head + 1) % s.dev.ringSize d.val n.val ∧
      t.core.done = s.dev.core.done ++ [Done.mk d.val n.val (s.dev.stream d.val n.val).head 0xFFFFFFFF]) ∧
  (∀ (s : State) (d : Fin 4) (n : Fin 8) (r : List Word), s.dev.copReady d.val n.val 9 = some r →
    ∃ t, exec (.setstep d n) s = .next (s.withDev t) ∧
      t = s.dev.copStep d.val n.val r (fun e => if e.dieInReset (fld (rW r 3) 31 30) = true then e
        else e.setReg (dreg (fld (rW r 3) 31 30) 11 8) (rW r 4)) (if s.dev.dieInReset (fld (rW r 3) 31 30) = true then stStale else stDone) ∧
      (s.dev.dieInReset (fld (rW r 3) 31 30) = false → t.reg (dreg (fld (rW r 3) 31 30) 11 8) = rW r 4 ∧
        ∀ k, k ≠ dreg (fld (rW r 3) 31 30) 11 8 → t.reg k = s.dev.reg k) ∧
      (s.dev.dieInReset (fld (rW r 3) 31 30) = true → t.core.regs = s.dev.core.regs) ∧ t.core.mem = s.dev.core.mem) ∧
  (∀ (e : Device) (die n : Nat) (r : List Word) (act : Device → Device) (status : Nat), ((act e).stream die n).state = .run →
    (e.copStep die n r act status).core.done = (act e).core.done ++ [Done.mk die n (e.stream die n).head
      (BitVec.ofNat 64 (status * 2 ^ 60 + (if status = 0 then 0xFFFFFFFF else 2 ^ 46 + uCtl die % 2 ^ 32)))] ∧
    (e.copStep die n r act status).core.opens = (act e).core.opens ∧ (e.copStep die n r act status).core.sync = (act e).core.sync ∧
    (e.copStep die n r act status).core.queues = (act e).core.queues ∧
    (fpolNames (rFpol r) status = false → (e.copStep die n r act status).core.evq = (act e).core.evq ∧
      (e.copStep die n r act status).stream die n = (((act e).stream die n).past ((act e).ringSize die n) r).settle) ∧
    (fpolNames (rFpol r) status = true →
      (e.copStep die n r act status).core.evq.map Event.code = (act e).core.evq.map Event.code ++ [0x0A06] ∧
      ((e.copStep die n r act status).stream die n).state = .halted ∧ ((e.copStep die n r act status).stream die n).hcause = 2 ∧
      ((e.copStep die n r act status).stream die n).hrec = (e.stream die n).head ∧
      ((e.copStep die n r act status).stream die n).head = (((act e).stream die n).head + 1) % (act e).ringSize die n)) ∧
  (∀ (fpol status : Nat), fpolNames fpol status = true ↔
    (fpol = 1 ∧ status ≠ stDone) ∨ (fpol = 2 ∧ (status = stFault ∨ status = stNoresp)))) ∧
  ((∀ (s : State) (d : Fin 4) (n : Fin 8) (r : List Word), s.dev.copReady d.val n.val 5 = some r →
    ∃ t, exec (.jump d n) s = .next (s.withDev t) ∧
      ((t.stream d.val n.val).head : Int) = (((s.dev.stream d.val n.val).head : Int) + rOffset r) % (s.dev.ringSize d.val n.val : Int) ∧
      (t.stream d.val n.val).loops = (s.dev.stream d.val n.val).loops ∧
      t.core.done.length = s.dev.core.done.length + 1) ∧
  (∀ (s : State) (d : Fin 4) (n : Fin 8) (r : List Word), s.dev.copReady d.val n.val 4 = some r →
    (s.dev.summary d.val (fld (rW r 3) 31 26)).valid = true →
    exec (.brs d n) s = .next (s.withDev
      (if brsMeets (fld (rW r 3) 24 23) (bit (rW r 3) 22) (s.dev.summary d.val (fld (rW r 3) 31 26)).value (rW r 4) = true
       then s.dev.copBranch d.val n.val r id else s.dev.copStep d.val n.val r id stDone))) ∧
  (∀ (s : State) (d : Fin 4) (n : Fin 8) (r : List Word), s.dev.copReady d.val n.val 4 = some r →
    (s.dev.summary d.val (fld (rW r 3) 31 26)).valid = false →
    exec (.brs d n) s = .next (s.withDev (s.dev.haltStream d.val n.val 4 (s.dev.stream d.val n.val).head))) ∧
  (∀ (s : State) (d : Fin 4) (n : Fin 8) (r : List Word), s.dev.copReady d.val n.val 7 = some r →
    fld (rW r 3) 1 0 < (s.dev.stream d.val n.val).loops.length →
    ∃ t, exec (.decbr d n) s = .next (s.withDev t) ∧
      (t.stream d.val n.val).loops.getD (fld (rW r 3) 1 0) 0 =
        wd (((s.dev.stream d.val n.val).loops.getD (fld (rW r 3) 1 0) 0).toNat - 1) ∧
      (1 < ((s.dev.stream d.val n.val).loops.getD (fld (rW r 3) 1 0) 0).toNat →
        ((t.stream d.val n.val).head : Int) = (((s.dev.stream d.val n.val).head : Int) + rOffset r) % (s.dev.ringSize d.val n.val : Int)) ∧
      (((s.dev.stream d.val n.val).loops.getD (fld (rW r 3) 1 0) 0).toNat ≤ 1 →
        (t.stream d.val n.val).head = ((s.dev.stream d.val n.val).head + 1) % s.dev.ringSize d.val n.val)) ∧
  (∀ (st : Stream) (size : Nat) (off : Int), 0 < size → (st.branch size off).head < size))

/-- R194, R199, R204: the writes of a stream's ring registers and of sync counters, and a stream resumed. A doorbell takes
INDEX, the low 20 bits of the value (R11, R420), is discarded with DBRANGE where that lies beyond the ring (R421), and
with POISW where it comes poisoned (R419). -/
def Obligations.RingAndCounterWrites : Prop :=
  (∀ (s : State) (d : Fin 4) (n : Fin 8), (s.dev.stream d.val n.val).state = .halted → s.dev.dieInReset d.val = false →
    exec (.streamResume d n) s = .next (s.withDev
      (s.dev.setStream d.val n.val ({ (s.dev.stream d.val n.val) with state := StreamState.run } : Stream).settle))) ∧
  (∀ (s : State) (d : Fin 4) (n : Fin 8) (v : Word), s.dev.hostOpen = true → s.dev.busyUnits = [] → s.dev.dieInReset d.val = false →
    fld v 19 0 < s.dev.ringSize d.val n.val →
    exec (.doorbell d n v false) s = .next (s.withDev
      (s.dev.setStream d.val n.val ({ (s.dev.stream d.val n.val) with tail := fld v 19 0 } : Stream).settle))) ∧
  (∀ (s : State) (d : Fin 4) (n : Fin 8) (v : Word) (poison : Bool), s.dev.hostOpen = true → s.dev.busyUnits = [] →
    s.dev.dieInReset d.val = false →
    (poison = true ∨ s.dev.ringSize d.val n.val ≤ fld v 19 0) →
    ∃ t, exec (.doorbell d n v poison) s = .next (s.withDev t) ∧ t.ctl = s.dev.ctl ∧
      bit (t.reg (mreg 5 4)) (if poison then 28 else 31) = true) ∧
  (∀ (s : State) (d : Fin 4) (n : Fin 8) (v : Word), s.dev.dieInReset d.val = false →
    ((s.dev.stream d.val n.val).state = .idle ∨ (s.dev.stream d.val n.val).state = .halted) → fld v 19 0 < s.dev.ringSize d.val n.val →
    exec (.ctlSheadWrite d n v) s = .next (s.withDev (s.dev.setStream d.val n.val
      ({ (s.dev.stream d.val n.val) with head := fld v 19 0, ahead := none } : Stream).settle))) ∧
  (∀ (s : State) (d : Fin 4) (c : Fin 256) (v : Word), s.dev.hostOpen = true → s.dev.busyUnits = [] → s.dev.dieInReset d.val = false →
    (∃ t, exec (.ctlSyncWrite d c v) s = .next (s.withDev t) ∧ t.sync d.val c.val = fld v 15 0 ∧
      (∀ die k, die * 256 + k ≠ d.val * 256 + c.val → t.sync die k = s.dev.sync die k)) ∧
    (∃ t, exec (.ctlSyncaddWrite d c v) s = .next (s.withDev t) ∧ t.sync d.val c.val = (s.dev.sync d.val c.val + fld v 15 0) % 2 ^ 16 ∧
      (∀ die k, die * 256 + k ≠ d.val * 256 + c.val → t.sync die k = s.dev.sync die k)))

/-- R195: a wait is met when its counter is at most 2^15 - 1 counts past its value, and once met it stays met, whatever
the counter does next: for the command at the head of a queue (one part of it stands in the queue) through every
command that leaves it there, for the control operation a stream holds through every command that leaves it held, and
for the WAIT a DMA program stands at through every command that leaves it there with the same instruction. -/
def Obligations.MetWaitStaysMet : Prop :=
  (∀ (c v : Nat), c < 2 ^ 16 → v < 2 ^ 16 → (ctrMeets c v = true ↔ ((c : Int) - v) % 2 ^ 16 < 2 ^ 15)) ∧
  (∀ (d : Device) (q : Nat) (k : Cmd) (l : List Cmd), d.queue q = k :: l → k.met = false → bit (k.word 1) 31 = true →
    (d.ready q = some k ↔ ctrMeets (d.sync k.die (fld (k.word 1) 23 16)) (fld (k.word 1) 15 0) = true)) ∧
  (∀ (i : Instr) (s t : State) (q : Nat) (k k' : Cmd) (l l' : List Cmd), exec i s = .next t →
    s.dev.queue q = k :: l → (∀ x ∈ l, x.cid ≠ k.cid) → s.dev.ready q = some k →
    t.dev.queue q = k' :: l' → k'.cid = k.cid → t.dev.ready q = some k' ∧ k'.w = k.w ∧ k'.die = k.die) ∧
  (∀ (i : Instr) (s t : State) (d : Fin 4) (n : Fin 8) (r : List Word), exec i s = .next t →
    (s.dev.stream d.val n.val).rcd = some r → ((s.dev.stream d.val n.val).met || s.dev.w1Met d.val (rW r 1)) = true →
    (t.dev.stream d.val n.val).rcd = some r → ((t.dev.stream d.val n.val).met || t.dev.w1Met d.val (rW r 1)) = true) ∧
  (∀ (i : Instr) (s t : State) (d : Fin 4) (n : Fin 32) (p p' : DmaProg) (w : List Word), exec i s = .next t →
    (s.dev.chan d.val n.val).prog = some p → (t.dev.chan d.val n.val).prog = some p' → s.dev.dmaFetch p = some w →
    t.dev.dmaFetch p' = some w → fld (wordAt w 0) 31 28 = 4 → p'.cmd.cid = p.cmd.cid → p'.pc = p.pc →
    (p.met || dmaWaitMet s.dev (wordAt w 0) p.woff) = true → (p'.met || dmaWaitMet t.dev (wordAt w 0) p'.woff) = true)

/-- R179, R181: integer results: IALU by FN, ADDI and LUI write RD and go on; x0 stays 0. -/
def Obligations.VectorIntegerResults : Prop :=
  (∀ (s : State) (d : Fin 4) (w : Fin 16) (c : Fin 128) (key : Nat) (l : VLoop) (i : Nat) (ins v : Word),
    LaneAt s.dev d.val w.val c.val 0x01 key l i ins → ialu (iFn ins) ((l.lane i).i (iRa ins)) ((l.lane i).i (iRb ins)) = some v →
    exec (.ialu d w c .ok) s = .next (s.laneResult key l i ins v)) ∧
  (∀ (s : State) (d : Fin 4) (w : Fin 16) (c : Fin 128) (key : Nat) (l : VLoop) (i : Nat) (ins : Word),
    LaneAt s.dev d.val w.val c.val 0x02 key l i ins →
    exec (.addi d w c .ok) s = .next (s.laneResult key l i ins ((l.lane i).i (iRa ins) + BitVec.ofInt 32 (sext 16 (fld ins 15 0))))) ∧
  (∀ (s : State) (d : Fin 4) (w : Fin 16) (c : Fin 128) (key : Nat) (l : VLoop) (i : Nat) (ins : Word),
    LaneAt s.dev d.val w.val c.val 0x03 key l i ins → iRa ins = 0 →
    exec (.lui d w c .ok) s = .next (s.laneResult key l i ins (wd (fld ins 15 0 * 2 ^ 16)))) ∧
  (∀ (a b : Word), ∃ hi lo, ialu 8 a b = some lo ∧ ialu 9 a b = some hi ∧ lo.toNat + hi.toNat * 2 ^ 32 = a.toNat * b.toNat) ∧
  (∀ (a b : Word), ialu 0 a b = some (a + b) ∧ ialu 1 a b = some (a - b) ∧ ialu 2 a b = some (a &&& b) ∧ ialu 3 a b = some (a ||| b) ∧
    ialu 4 a b = some (a ^^^ b) ∧ (∀ fn, 0x0E ≤ fn → ialu fn a b = none)) ∧
  (∀ (a b : Word), ∃ mn mx, ialu 0x0A a b = some mn ∧ ialu 0x0B a b = some mx ∧ mn.toInt = min a.toInt b.toInt ∧
    mx.toInt = max a.toInt b.toInt) ∧
  (∀ (ln : Lane) (v : Word) (r k : Nat), (ln.set r v).f 0 = 0 ∧ (0 < r → (ln.set r v).f r = v) ∧ (k ≠ r → (ln.set r v).f k = ln.f k))

/-- R179, R181, R189, R511, R512: floating-point results: FALU, FFMA, BFMA2, FSPEC and CVT. Outside the inputs of R512 the
result of FSPEC lies within 2 units in the last place of the function, or is the nearest code; which one it is is free
(the model's choice, assumption 19). CVT rounds to the nearest even code, toward zero, or stochastically with the grog
word of its element (R68), and is ILLEGAL for RMODE 3 (log entry 78) or for a PSTREAM the loop does not have; that its
events name the die is the model's choice (log entry 77). -/
def Obligations.VectorFloatResults : Prop :=
  (∀ (s : State) (d : Fin 4) (w : Fin 16) (c : Fin 128) (key : Nat) (l : VLoop) (i : Nat) (ins v : Word),
    LaneAt s.dev d.val w.val c.val 0x08 key l i ins →
    falu (iFn ins) ((l.lane i).v (iRa ins)) ((l.lane i).v (iRb ins)) ((l.lane i).f (iRa ins)) = some v →
    exec (.falu d w c .ok) s = .next (s.laneResult key l i ins v)) ∧
  (∀ (s : State) (d : Fin 4) (w : Fin 16) (c : Fin 128) (key : Nat) (l : VLoop) (i : Nat) (ins : Word),
    LaneAt s.dev d.val w.val c.val 0x09 key l i ins →
    exec (.ffma d w c .ok) s = .next (s.laneResult key l i ins
      (w32 (((l.lane i).v (iRa ins)).mul ((l.lane i).v (iRb ins)) |>.add ((l.lane i).v (iRc ins)))))) ∧
  (∀ (s : State) (d : Fin 4) (w : Fin 16) (c : Fin 128) (key : Nat) (l : VLoop) (i : Nat) (ins : Word),
    LaneAt s.dev d.val w.val c.val 0x0A key l i ins →
    exec (.bfma2 d w c .ok) s = .next (s.laneResult key l i ins
      (wd (bfmaHalf ((l.lane i).f (iRa ins)) ((l.lane i).f (iRb ins)) ((l.lane i).f (iRc ins)) 0 +
        2 ^ 16 * bfmaHalf ((l.lane i).f (iRa ins)) ((l.lane i).f (iRb ins)) ((l.lane i).f (iRc ins)) 1)))) ∧
  (∀ (s : State) (d : Fin 4) (w : Fin 16) (c : Fin 128) (key : Nat) (l : VLoop) (i : Nat) (ins : Word),
    LaneAt s.dev d.val w.val c.val 0x0B key l i ins → iFn ins ≤ 5 →
    exec (.fspec d w c .ok) s = .next (s.laneResult key l i ins
      ((fspecSpecial (iFn ins) ((l.lane i).f (iRa ins))).getD (fspecNear (iFn ins) ((l.lane i).f (iRa ins)))))) ∧
  (∀ (y : Int) (pick : Nat), fld (within2 y pick) 30 0 = nearest32 y.natAbs ∨
    ((fxCode (fld (within2 y pick) 30 0) : Int) - y.natAbs).natAbs ≤ 2 * fxUlp y.natAbs) ∧
  (fspecSpecial 1 (wd 0x3F800000) = some (wd 0x3F800000)) ∧
  (∀ (s : State) (d : Fin 4) (w : Fin 16) (c : Fin 128) (key : Nat) (l : VLoop) (i : Nat) (ins : Word) (f : Fmt),
    LaneAt s.dev d.val w.val c.val 0x0C key l i ins → rmodeReserved (iFn ins / 16) = false →
    (iFn ins / 16 = 2 → iFn ins / 4 % 2 = 1 → l.pstream ≠ 0) →
    (iFn ins % 4 = 2 ∧ f = .bf16 ∨ iFn ins % 4 = 3 ∧ f = .fp16) →
    exec (.cvt d w c .ok) s = .next (s.withDev ((s.dev.note (vecReg d.val 0xE000) (uDie d.val)
        { nonfin := nonFinite (f.decode (fld ((l.lane i).f (iRa ins)) 15 0)) }).laneDone key l i
      (((l.lane i).set (iRd ins) (w32 (f.decode (fld ((l.lane i).f (iRa ins)) 15 0)))).next) l.slots false))) ∧
  (∀ (s : State) (d : Fin 4) (w : Fin 16) (c : Fin 128) (key : Nat) (l : VLoop) (i : Nat) (ins : Word) (f : Fmt) (dr : Draw) (q : Conv),
    LaneAt s.dev d.val w.val c.val 0x0C key l i ins → iFn ins / 16 ≠ 3 → (iFn ins / 16 = 2 → iFn ins / 4 % 2 = 1 → l.pstream ≠ 0) →
    (iFn ins % 4 = 0 ∧ f = .bf16 ∨ iFn ins % 4 = 1 ∧ f = .fp16) →
    dr = { k0 := l.k0, k1 := l.k1, stream := if iFn ins / 4 % 2 = 1 then l.pstream else 1, tensor := (l.lane i).i (iRb ins), step := l.step } →
    q = f.convert (dr.rnd (iFn ins / 16) (((l.lane i).i (iRc ins)).toNat + fld ((l.lane i).i 23) 15 0 * 2 ^ 32)) (iFn ins / 8 % 2 == 1)
      ((l.lane i).v (iRa ins)) →
    exec (.cvt d w c .ok) s = .next (s.withDev ((s.dev.note (vecReg d.val 0xE000) (uDie d.val)
        { sat := q.counted.toNat, nonfin := nonFinite ((l.lane i).v (iRa ins)) }).laneDone key l i
      (((l.lane i).set (iRd ins) (wd q.code)).next) l.slots false))) ∧
  (∀ (dr : Draw) (e : Nat), dr.rnd 0 e = .rne ∧ dr.rnd 1 e = .rtz ∧ dr.rnd 2 e = .sr ((dr.word e).toNat / 256)) ∧
  (∀ (s : State) (d : Fin 4) (w : Fin 16) (c : Fin 128) (key : Nat) (l : VLoop) (i : Nat) (ins : Word),
    LaneAt s.dev d.val w.val c.val 0x0C key l i ins →
    (iFn ins / 16 = 3 ∨ iFn ins / 16 = 2 ∧ iFn ins / 4 % 2 = 1 ∧ l.pstream = 0) →
    exec (.cvt d w c .ok) s = .next (s.withDev (s.dev.laneFault key l i 1))) ∧
  (∀ (z : Val), falu 0x03 z .nan 0 = some nan32 ∧ falu 0x04 .nan z 0 = some nan32 ∧ falu 0x07 z .nan 0 = some 0)

/-- R181, R193: loads and stores of a word, halfword or byte of SRAM and of scratch; a load of poisoned data is marked.
LDQ converts under the saturating default (the model's choice, log entry 43) and its events name the die (log entry
77). R181, R187, R188: branches and jumps move the pc by instructions, SUMX contributes to a summary slot, END ends an
element. -/
def Obligations.VectorMemoryAndControlFlow : Prop :=
  ((∀ (n opc : Nat) (f : Fin 4 → Fin 16 → Fin 128 → CoreCheck → Instr), (n, opc, f) ∈ [(4, 0x10, Instr.ldw), (2, 0x11, .ldh), (1, 0x12, .ldb)] →
    ∀ (s : State) (d : Fin 4) (w : Fin 16) (c : Fin 128) (key : Nat) (l : VLoop) (i : Nat) (ins a : Word),
    LaneAt s.dev d.val w.val c.val opc key l i ins → a = (l.lane i).i (iRa ins) + immWord ins → accessFault s.dev a n n = none →
    exec (f d w c .ok) s = .next (if anyPoison (s.dev.readBytes (sramDA a) n)
      then s.withDev (s.dev.laneDone key l i ((l.lane i).set (iRd ins) (if n = 4 then nan32 else 0) n).next l.slots true)
      else s.laneResult key l i ins (wd (ofBytes (values (s.dev.readBytes (sramDA a) n)))))) ∧
  (∀ (n opc : Nat) (f : Fin 4 → Fin 16 → Fin 128 → CoreCheck → Instr), (n, opc, f) ∈ [(4, 0x14, Instr.stw), (2, 0x15, .sth), (1, 0x16, .stb)] →
    ∀ (s : State) (d : Fin 4) (w : Fin 16) (c : Fin 128) (key : Nat) (l : VLoop) (i : Nat) (ins a : Word),
    LaneAt s.dev d.val w.val c.val opc key l i ins → a = (l.lane i).i (iRa ins) + immWord ins → accessFault s.dev a n n = none →
    s.dev.core.flaws = [] →
    ∃ t, exec (f d w c .ok) s = .next (s.withDev t) ∧
      t = (s.dev.write (sramDA a) (mark (mget 0 (l.lane i).mark (iRd ins) == n) (toBytes n ((l.lane i).f (iRd ins)).toNat))).laneDone key l i
        (l.lane i).next l.slots false ∧
      ∀ b, (∀ j, j < n → canonAddr b ≠ canonAddr (sramDA a + j)) → (t.readByte b).1 = (s.dev.readByte b).1) ∧
  (∀ (s : State) (d : Fin 4) (w : Fin 16) (c : Fin 128) (key : Nat) (l : VLoop) (i : Nat) (ins a : Word),
    LaneAt s.dev d.val w.val c.val 0x18 key l i ins → a = (l.lane i).i (iRa ins) + immWord ins → a.toNat % 4 = 0 → a.toNat < 4096 →
    exec (.ldl d w c .ok) s = .next (s.laneResult key l i ins (mget 0 (l.lane i).scr (a.toNat / 4)))) ∧
  (∀ (s : State) (d : Fin 4) (w : Fin 16) (c : Fin 128) (key : Nat) (l : VLoop) (i : Nat) (ins a : Word),
    LaneAt s.dev d.val w.val c.val 0x19 key l i ins → a = (l.lane i).i (iRa ins) + immWord ins → a.toNat % 4 = 0 → a.toNat < 4096 →
    ∃ ln, exec (.stl d w c .ok) s = .next (s.laneNext key l i ln) ∧ ln.pc = (l.lane i).pc + 1 ∧ ln.x = (l.lane i).x ∧
      mget 0 ln.scr (a.toNat / 4) = (l.lane i).f (iRd ins) ∧ ∀ k, k ≠ a.toNat / 4 → mget 0 ln.scr k = mget 0 (l.lane i).scr k) ∧
  (∀ (s : State) (d : Fin 4) (w : Fin 16) (c : Fin 128) (key : Nat) (l : VLoop) (i : Nat) (ins : Word) (f : Fmt) (v : Val),
    LaneAt s.dev d.val w.val c.val 0x1A key l i ins → Fmt.ofCode (iFn ins) = some f → f.scaled = true →
    awRes ((l.lane i).i (iRa ins)) = false → awRes ((l.lane i).i (iRb ins)) = false →
    s.dev.rangeOk (sramDA ((l.lane i).i (iRa ins)) + ((l.lane i).i (iRc ins)).toNat * f.width / 8)
      ((((l.lane i).i (iRc ins)).toNat * f.width % 8 + f.width + 7) / 8) = true →
    s.dev.rangeOk (sramDA ((l.lane i).i (iRb ins)) + ((l.lane i).i (iRc ins)).toNat / 32) 1 = true →
    s.dev.rowVal (sramDA ((l.lane i).i (iRa ins))) (sramDA ((l.lane i).i (iRb ins))) f ((l.lane i).i (iRc ins)).toNat = (v, false) →
    exec (.ldq d w c .ok) s = .next (s.withDev ((s.dev.note (vecReg d.val 0xE000) (uDie d.val)
        { sat := (Fmt.fp32.convert .rne false v).counted.toNat, nonfin := nonFinite v }).laneDone key l i
      (((l.lane i).set (iRd ins) (wd (Fmt.fp32.convert .rne false v).code)).next) l.slots false)))) ∧
  ((∀ (opc : Nat) (f : Fin 4 → Fin 16 → Fin 128 → CoreCheck → Instr) (taken : Word → Word → Bool),
    (opc, f, taken) ∈ [(0x28, Instr.beq, fun a b => a == b), (0x29, .bne, fun a b => a != b), (0x2A, .blt, BitVec.slt), (0x2B, .bltu, BitVec.ult)] →
    ∀ (s : State) (d : Fin 4) (w : Fin 16) (c : Fin 128) (key : Nat) (l : VLoop) (i : Nat) (ins : Word),
    LaneAt s.dev d.val w.val c.val opc key l i ins →
    exec (f d w c .ok) s = .next (s.laneNext key l i (if taken ((l.lane i).i (fld ins 25 21)) ((l.lane i).i (fld ins 20 16))
      then { (l.lane i) with pc := wrap 32 (((l.lane i).pc : Int) + sext 16 (fld ins 15 0)) }
      else { (l.lane i) with pc := (l.lane i).pc + 1 }))) ∧
  (∀ (s : State) (d : Fin 4) (w : Fin 16) (c : Fin 128) (key : Nat) (l : VLoop) (i : Nat) (ins : Word),
    LaneAt s.dev d.val w.val c.val 0x2C key l i ins → iRa ins = 0 →
    exec (.jal d w c .ok) s = .next (s.laneNext key l i { ((l.lane i).set (iRd ins) (wd ((l.lane i).pc + 1))) with
      pc := wrap 32 (((l.lane i).pc : Int) + sext 16 (fld ins 15 0)) })) ∧
  (∀ (s : State) (d : Fin 4) (w : Fin 16) (c : Fin 128) (key : Nat) (l : VLoop) (i : Nat) (ins : Word),
    LaneAt s.dev d.val w.val c.val 0x2D key l i ins → iRd ins = 0 → iRb ins = 0 → iRc ins = 0 → iFn ins = 0 →
    exec (.jr d w c .ok) s = .next (s.laneNext key l i { (l.lane i) with pc := ((l.lane i).i (iRa ins)).toNat })) ∧
  (∀ (s : State) (d : Fin 4) (w : Fin 16) (c : Fin 128) (key : Nat) (l : VLoop) (i : Nat) (ins : Word),
    LaneAt s.dev d.val w.val c.val 0x3F key l i ins → fld ins 25 0 = 0 →
    exec (.end_ d w c .ok) s = .next (s.laneNext key l i { (l.lane i) with ended := true })) ∧
  (∀ (s : State) (d : Fin 4) (w : Fin 16) (c : Fin 128) (key : Nat) (l : VLoop) (i : Nat) (ins : Word) (x : Slot),
    LaneAt s.dev d.val w.val c.val 0x24 key l i ins → iRd ins = 0 → iRb ins = 0 → iRc ins = 0 → iFn ins < 8 →
    (l.slots.getD (iFn ins) (slotInit 0)).add ((l.lane i).contribution (iRa ins)) ((l.lane i).i (iRa ins)) = some x →
    exec (.sumx d w c .ok) s = .next (s.withDev (s.dev.laneDone key l i (l.lane i).next (l.slots.set (iFn ins) x) false))) ∧
  (∀ (e : Device) (key : Nat) (l : VLoop) (i : Nat) (ln : Lane) (sl : List Slot), ln.ended = false →
    ∃ m, mget none (e.laneDone key l i ln sl false).vec.loops key = some m ∧ m.lane i = ln ∧ (∀ j, j ≠ i → m.lane j = l.lane j) ∧
      m.slots = sl ∧ m.iter = l.iter ∧ m.cmd = l.cmd ∧ (e.laneDone key l i ln sl false).core = e.core))

/-- R183, R191, R195: a loop issues when it heads every member's queue (the model's choice, log entry 43), and an
iteration opens with fresh lanes. R186, R190, R192: PERM moves values between the lanes of a loop; QST writes a block
of 32 lanes, each at its own base, with the block's scale; a feed or core check that fails on a core standing at
either faults its lane. That a block whose lanes differ in format, rounding or scale base follows one of them is the
model's choice (assumption 44); they agree here. R192: a lane that faults stops its loop, and its core ends with
FAULT. The fault is recorded with its cause, core, SEQ, pc and element where the record of the lane's cluster is not
valid, and leaves a valid one; it posts VEC_FAULT. A misaligned access is cause 2 and one beyond what is assigned
cause 3, which also posts ADDR_UNASSIGNED (an access that is both is cause 2, log entry 43), a fetch beyond the
program cause 4, a failed feed or core check causes 5 and 6. -/
def Obligations.VectorLoopsMeetAndFault : Prop :=
  ((∀ (s : State) (d : Fin 4) (w : Fin 16) (c : Cmd), s.dev.ready (qVec d.val w.val) = some c →
    (∀ v ∈ targetClusters c.target, (s.dev.ready (qVec d.val v)).map Cmd.cid = some c.cid ∧ s.dev.loopAt d.val v = none ∧
      s.dev.runs (wCluster d.val v) = true) → vloopBad s.dev c = none →
    ∃ t l, exec (.vloop d w) s = .next (s.withDev t) ∧
      mget none t.vec.loops (d.val * 16 + (targetClusters c.target).headD 0) = some l ∧ l.cmd = c ∧ l.group = targetClusters c.target ∧
      l.core = targetCore c.target ∧ l.iter = 0 ∧ l.open_ = false ∧ l.lanes = [] ∧ l.step = s.dev.reg (dreg d.val 11 8) ∧
      t.core = (s.dev.popAll d.val (targetClusters c.target)).core) ∧
  (∀ (s : State) (d : Fin 4) (w : Fin 16) (key : Nat) (l : VLoop), s.dev.loopAt d.val w.val = some (key, l) → l.open_ = false →
    (∀ v ∈ l.group, s.dev.runs (wCluster d.val v) = true) →
    exec (.iterationStart d w) s = .next (s.withDev (s.dev.setLoop key (some { l with open_ := true, lanes := [] })))) ∧
  (∀ (l : VLoop) (i : Nat), ({ l with lanes := [] } : VLoop).lane i = l.laneInit i ∧
    (l.laneInit i).f 1 = wd (l.iter * l.vl + i) ∧ (l.laneInit i).f 2 = wd i ∧ (l.laneInit i).f 3 = wd l.cvl ∧
    (l.laneInit i).f 4 = wd l.iter ∧ ∀ k, k < 8 → (l.laneInit i).f (24 + k) = wordAt l.args k)) ∧
  ((∀ (s : State) (d : Fin 4) (w : Fin 16) (c : Fin 128) (key : Nat) (l : VLoop), s.dev.loopAt d.val w.val = some (key, l) → l.open_ = true →
    (∀ v ∈ l.group, s.dev.runs (wCluster d.val v) = true) → (∃ i, i < l.cvl ∧ (l.lane i).ended = false) →
    (∀ i, i < l.cvl → (l.lane i).ended = false → ∃ u, standsAt s.dev l 0x20 i = some u ∧ fld u 10 0 = 0) →
    ∃ t m, exec (.perm d ⟨w, c, .ok⟩) s = .next (s.withDev t) ∧ mget none t.vec.loops key = some m ∧
      (∀ i u, i < l.cvl → standsAt s.dev l 0x20 i = some u → m.lane i = (l.lane i).permuted u (permValue s.dev l i).1) ∧
      (∀ i, l.cvl ≤ i ∨ (l.lane i).ended = true → m.lane i = l.lane i) ∧ t.core.mem = s.dev.core.mem) ∧
  (∀ (s : State) (d : Fin 4) (w : Fin 16) (c : Fin 128) (blk : Nat) (key : Nat) (l : VLoop) (i0 : Nat) (u : Word) (row : ConvRow)
    (bases : List Word),
    s.dev.loopAt d.val w.val = some (key, l) → l.open_ = true → (∀ v ∈ l.group, s.dev.runs (wCluster d.val v) = true) →
    ((rangeFrom (32 * blk) 32).filter (fun i => i < l.cvl && !(l.lane i).ended)).head? = some i0 →
    standsAt s.dev l 0x1B i0 = some u →
    (∀ i ∈ rangeFrom (32 * blk) 32, i < l.cvl → (l.lane i).ended = false →
      ∃ x, standsAt s.dev l 0x1B i = some x ∧ qstIllegal l x = false ∧ qstAddr s.dev l i x = false ∧ qstBlock l i x = qstBlock l i0 u) →
    row = convPBlock (fmtOf (iFn u % 16)) (List.replicate 32 (if iFn u / 16 % 2 = 1 then Rnd.rtz else Rnd.rne)) false
      (qstVals s.dev l (standsAt s.dev l 0x1B) (rangeFrom (32 * blk) 32) s.dev.core.freeN) →
    bases = (rangeFrom (32 * blk) 32).map (fun i => if i < l.cvl && !(l.lane i).ended
      then (l.lane i).i (iRb ((standsAt s.dev l 0x1B i).getD 0)) else (l.lane i0).i (iRb u)) →
    s.dev.core.flaws = [] →
    ∃ t m, exec (.qst d ⟨w, c, .ok⟩ blk) s = .next (s.withDev t) ∧ mget none t.vec.loops key = some m ∧
      t.core.mem = ((bases.dedup.foldl (fun e b => e.putElems (fmtOf (iFn u % 16)) blk row.codes bases b) s.dev).write
        (sramDA ((l.lane i0).i (iRc u)) + blk) (scaleBytes row.scales)).core.mem ∧
      (∀ i, i < l.cvl → standsAt s.dev l 0x1B i ≠ none → i / 32 = blk → m.lane i = (l.lane i).next)) ∧
  (∀ (e : Device) (f : Fmt) (blk : Nat) (codes : List (Nat × Bool)) (bases : List Word) (base : Word), bases.length = codes.length →
    (∀ b ∈ bases, b = base) →
    e.putElems f blk codes bases base = e.write (sramDA base + blk * 4 * f.width) (packPoison f codes)) ∧
  (∀ (s : State) (d : Fin 4) (w : Fin 16) (c : Fin 128) (x : CoreCheck) (key : Nat) (l : VLoop) (i cause : Nat),
    s.dev.loopAt d.val w.val = some (key, l) → l.open_ = true → (∀ v ∈ l.group, s.dev.runs (wCluster d.val v) = true) →
    (∀ j u, standsAt s.dev l 0x20 j = some u → fld u 10 0 = 0) → checkedLane s.dev l 0x20 w.val c.val x = some (i, cause) →
    (l.lane i).ended = false →
    exec (.perm d ⟨w, c, x⟩) s = .next (s.withDev (s.dev.laneFault key l i cause))) ∧
  (∀ (s : State) (d : Fin 4) (w : Fin 16) (c : Fin 128) (x : CoreCheck) (key : Nat) (l : VLoop) (i cause : Nat),
    s.dev.loopAt d.val w.val = some (key, l) → l.open_ = true → (∀ v ∈ l.group, s.dev.runs (wCluster d.val v) = true) →
    (∀ j u, standsAt s.dev l 0x1B j = some u → qstIllegal l u = false) → checkedLane s.dev l 0x1B w.val c.val x = some (i, cause) →
    (l.lane i).ended = false →
    exec (.qst d ⟨w, c, x⟩ (i / 32)) s = .next (s.withDev (s.dev.laneFault key l i cause)))) ∧
  ((∀ (s : State) (d : Fin 4) (w : Fin 16) (c : Fin 128) (x : CoreCheck) (key : Nat) (l : VLoop) (i cause : Nat),
    s.dev.activeLane d.val w.val c.val = some (key, l, i) → fetchIns s.dev l (l.lane i) = .inl cause →
    exec (.ialu d w c x) s = .next (s.withDev (s.dev.laneFault key l i cause)) ∧
    exec (.end_ d w c x) s = .next (s.withDev (s.dev.laneFault key l i cause))) ∧
  (∀ (s : State) (d : Fin 4) (w : Fin 16) (c : Fin 128) (key : Nat) (l : VLoop) (i : Nat) (ins : Word),
    LaneAt s.dev d.val w.val c.val 0x02 key l i ins →
    exec (.addi d w c .feedError) s = .next (s.withDev (s.dev.laneFault key l i 5)) ∧
    exec (.addi d w c .coreCheck) s = .next (s.withDev (s.dev.laneFault key l i 6))) ∧
  (∀ (e : Device) (l : VLoop) (ln : Lane), (16384 ≤ ln.pc → fetchIns e l ln = .inl 4) ∧
    (∀ ins, fetchIns e l ln = .inr ins → opcListed (iOpc ins) = true ∧ ln.pc < 16384)) ∧
  (∀ (n opc : Nat) (f : Fin 4 → Fin 16 → Fin 128 → CoreCheck → Instr), (n, opc, f) ∈ [(4, 0x10, Instr.ldw), (2, 0x11, .ldh), (1, 0x12, .ldb),
      (4, 0x14, .stw), (2, 0x15, .sth), (1, 0x16, .stb)] →
    ∀ (s : State) (d : Fin 4) (w : Fin 16) (c : Fin 128) (key : Nat) (l : VLoop) (i : Nat) (ins a : Word) (cause : Nat),
    LaneAt s.dev d.val w.val c.val opc key l i ins → a = (l.lane i).i (iRa ins) + immWord ins → accessFault s.dev a n n = some cause →
    exec (f d w c .ok) s = .next (s.withDev (s.dev.laneFault key l i cause))) ∧
  (∀ (e : Device) (a : Word) (n k : Nat), (accessFault e a n n = some k ↔ (a.toNat % n ≠ 0 ∧ k = 2) ∨
    (a.toNat % n = 0 ∧ (awRes a = true ∨ e.sramBad a n = true) ∧ k = 3))) ∧
  (∀ (e : Device) (key : Nat) (l : VLoop) (i cause k : Nat), k = vecWin (key / 16) (l.clusterOf i) 8 → bit (e.reg k) 31 = false →
    (e.laneFault key l i cause).reg k = wd (2 ^ 31 + cause * 2 ^ 28 + l.coreOf i * 2 ^ 21 + l.cmd.seq) ∧
    (e.laneFault key l i cause).reg (k + 4) = wd ((l.lane i).pc % 2 ^ 14) ∧
    (e.laneFault key l i cause).reg (k + 8) = wd (l.iter * l.vl + i) ∧
    (∀ j, j ≠ k → j ≠ k + 4 → j ≠ k + 8 → (e.laneFault key l i cause).reg j = e.reg j)) ∧
  (∀ (e : Device) (key : Nat) (l : VLoop) (i cause u : Nat) (o : Open), u = uCore (key / 16) (l.clusterOf i) (l.coreOf i) →
    mget {} e.core.opens l.cmd.cid = o → o.left = l.leaves → o.worst < stFault →
    (l.pcores.filter (fun x => some u != some x)).length < l.leaves →
    ∃ w, (e.laneFault key l i cause).core.done = e.core.done ++ [Done.mk o.die o.stream o.index w] ∧ w.toNat / 2 ^ 60 = stFault ∧
      w.toNat % 2 ^ 32 = u % 2 ^ 32) ∧
  (∀ (e : Device) (key : Nat) (l : VLoop) (i cause : Nat),
    (∃ r, (e.laneFault key l i cause).core.evq.map Event.code =
      e.core.evq.map Event.code ++ (if cause = 3 then [evAddrUnassigned] else []) ++ [0x0A05] ++ r) ∧
    mget none (e.laneFault key l i cause).vec.loops key = none ∧ (e.laneFault key l i cause).core.mem = e.core.mem ∧
    (bit (e.reg (vecWin (key / 16) (l.clusterOf i) 8)) 31 = true → (e.laneFault key l i cause).core.regs = e.core.regs)))

/-- R209, R210, R215: a DSTART gives its channel a program with fresh offsets, its first instruction already fetched, and
LOOP counts, strides and branches back. R216, R217, R218: WAIT ends when its counter is met and faults with
WAIT_TIMEOUT when its limit runs out first; SIGNAL adds to its counter and raises its interrupt; END latches natural
completion. -/
def Obligations.DmaProgramsLoopWaitAndSignal : Prop :=
  ((∀ (s : State) (d : Fin 4) (n : Fin 32) (c : Cmd), s.dev.ready (qDma d.val n.val) = some c → (s.dev.chan d.val n.val).prog = none →
    s.dev.runs (wDma d.val) = true → w012Reserved c true = false → partShare c = false → fld (c.word 7) 7 0 = 0 → fld (c.word 6) 29 27 = 0 →
    fld (c.word 6) 15 0 = 0 → awRes (c.word 3) = false → awMis 32 (c.word 3) = false → s.dev.sramBad (c.word 3) 32 = false →
    (bit (c.word 6) 30 = true → awRes (c.word 4) = false ∧ awMis 32 (c.word 4) = false ∧
      ∀ k ∈ targetChans c.target, s.dev.rangeOk (sramDA (c.word 4) + 32 * dmaLane c k) 32 = true) →
    ∃ t, exec (.dstart d n) s = .next (s.withDev t) ∧ t.core = (s.dev.popCmd (qDma d.val n.val)).core ∧ ∃ p,
      (t.chan d.val n.val).prog = some p ∧ p.cmd = c ∧ p.pc = 0 ∧ p.cur = none ∧ p.latch = none ∧
      s.dev.dmaFetch p = some (s.dev.descWords (sramDA (c.word 3)) 8) ∧ p.first.isSome = true ∧ p.lane = dmaLane c n.val ∧
      (p.soff : Int) = ((dmaLane c n.val : Int) * sext 32 (c.word 5).toNat) % 2 ^ 52 ∧ p.doff = p.soff ∧ p.scoff = 0 ∧ p.dcoff = 0 ∧
      p.credit = max 1 (fld (c.word 7) 15 8) * 512 ∧ p.risen = s.dev.time d.val ∧ p.crc = 0xFFFFFFFF) ∧
  (∀ (s : State) (d : Fin 4) (n : Fin 32) (p : DmaProg) (w : List Word) (r count : Nat), DmaAt s.dev d.val n.val 3 p w →
    r = fld (wordAt w 0) 27 26 → count = fld (wordAt w 1) 23 0 → fld (wordAt w 1) 31 24 = 0 → wordAt w 7 = 0 → fld (wordAt w 6) 31 16 = 0 →
    fld (wordAt w 0) 25 8 = 0 → 0 < count → 0 < fld (wordAt w 0) 7 0 → fld (wordAt w 0) 7 0 ≤ p.pc → r < p.loops.length →
    ∃ t, exec (.dmaLoop d n) s = .next (s.withDev t) ∧ t.core = s.dev.core ∧ ∃ q, (t.chan d.val n.val).prog = some q ∧
      q.loops.getD r 0 = (if p.loops.getD r 0 = 0 then count else p.loops.getD r 0) - 1 ∧
      (1 < (if p.loops.getD r 0 = 0 then count else p.loops.getD r 0) → q.pc = p.pc - fld (wordAt w 0) 7 0 ∧
        (q.soff : Int) = ((p.soff : Int) + sext 32 (wordAt w 2).toNat) % 2 ^ 52 ∧
        (q.doff : Int) = ((p.doff : Int) + sext 32 (wordAt w 3).toNat) % 2 ^ 52) ∧
      ((if p.loops.getD r 0 = 0 then count else p.loops.getD r 0) = 1 → q.pc = p.pc + 1 ∧
        (q.soff : Int) = ((p.soff : Int) - ((count : Int) - 1) * sext 32 (wordAt w 2).toNat) % 2 ^ 52))) ∧
  ((∀ (s : State) (d : Fin 4) (n : Fin 32) (p : DmaProg) (w : List Word), DmaAt s.dev d.val n.val 4 p w → waitBad w = false →
    (p.met = true ∨ dmaWaitMet s.dev (wordAt w 0) p.woff = true) →
    exec (.wait d n) s = .next (s.withDev (s.dev.dmaNext d.val n.val p))) ∧
  (∀ (s : State) (d : Fin 4) (n : Fin 32) (p : DmaProg) (w : List Word), DmaAt s.dev d.val n.val 4 p w → waitBad w = false →
    p.met = false → dmaWaitMet s.dev (wordAt w 0) p.woff = false →
    exec (.wait d n) s = .next s ∧
    (fld (wordAt w 1) 23 0 ≠ 0 → s.dev.expired (p.timer d.val n.val) (1000 * fld (wordAt w 1) 23 0) = true →
      exec (.waitTimeout d n) s = .next (s.withDev (s.dev.dmaFault d.val n.val p 4))) ∧
    (s.dev.expired (p.timer d.val n.val) (1000 * fld (wordAt w 1) 23 0) = false → exec (.waitTimeout d n) s = .next s)) ∧
  (∀ (s : State) (d : Fin 4) (n : Fin 32) (p : DmaProg) (w : List Word), DmaAt s.dev d.val n.val 5 p w → bit (wordAt w 0) 24 = false →
    fld (wordAt w 0) 13 0 = 0 → fld (wordAt w 1) 31 16 = 0 → anyWord w [2, 3, 4, 5, 6, 7] = false →
    (bit (wordAt w 0) 27 = true → ∀ v ∈ (s.dev.chan d.val n.val).writes, v.cid ≠ p.cmd.cid) →
    ∃ t, exec (.signal d n) s = .next (s.withDev t) ∧
      (bit (wordAt w 0) 26 = true → s.dev.dieInReset (fld (wordAt w 0) 15 14) = false →
        t.sync (fld (wordAt w 0) 15 14) (fld (wordAt w 0) 23 16) =
          (s.dev.sync (fld (wordAt w 0) 15 14) (fld (wordAt w 0) 23 16) + fld (wordAt w 1) 15 0) % 2 ^ 16) ∧
      (bit (wordAt w 0) 26 = false → t.core.sync = s.dev.core.sync) ∧
      (bit (wordAt w 0) 25 = true → bit (t.reg (dmaReg d.val n.val 8)) 2 = true) ∧
      (bit (wordAt w 0) 25 = false → t.core.regs = s.dev.core.regs) ∧ t.core.mem = s.dev.core.mem) ∧
  (∀ (s : State) (d : Fin 4) (n : Fin 32) (p : DmaProg) (w : List Word), DmaAt s.dev d.val n.val 7 p w → fld (wordAt w 0) 27 0 = 0 →
    anyWord w [1, 2, 3, 4, 5, 6, 7] = false →
    exec (.dmaEnd d n) s = .next (s.withDev
      ((s.dev.setProg d.val n.val { p with latch := some .natural, stood := some w }).progress (wDma d.val)))))

/-- R214, R222: a MOVE and the MOVX after it start with their whole length to go. R214, R220, R228, R234, R374: a burst
leaves the channel with its CRC, credit and byte count, each byte outside the overlap of its two ranges as it was
read; an uncorrectable network error of its source is FEED_ERROR. It waits for room in the injection queue where it
goes to the peer window or comes from it; read through that window it leaves with the answer to its last read, and a
read refused there is PEER_ERROR. Credit rises by 16 times RATE for each 64 ns of local time, up to the cap. That a
burst reads its source when BURST comes, and what one burst reads, is the model's choice (log entries 46 and 47). -/
def Obligations.DmaMovesAndBursts : Prop :=
  ((∀ (s : State) (d : Fin 4) (n : Fin 32) (p : DmaProg) (w : List Word), DmaAt s.dev d.val n.val 1 p w →
    moveFault s.dev p w (match s.dev.dmaFetch { p with pc := p.pc + 1, first := none } with
      | some v => fld (wordAt v 0) 31 28
      | none => 0) = none →
    exec (.move d n) s = .next (s.withDev (s.dev.setProg d.val n.val { p with
      cur := some (DmaMove.mk w 0 (moveGeo p w).total none) }))) ∧
  (∀ (s : State) (d : Fin 4) (n : Fin 32) (p : DmaProg) (w mw : List Word), DmaAt s.dev d.val n.val 2 p w → p.xdue = some mw →
    wordAt w 7 = 0 → fld (wordAt w 3) 31 20 = 0 → wordAt w 1 = 0 → fld (wordAt w 0) 26 0 = 0 → awRes (wordAt w 4) = false →
    regionOf (movxGeo p mw w).src ≠ 0xC → s.dev.moveRangeOk (movxGeo p mw w).src (movxGeo p mw w).sspan = true →
    s.dev.moveRangeOk (movxGeo p mw w).dst (movxGeo p mw w).dspan = true →
    exec (.movx d n) s = .next (s.withDev (s.dev.setProg d.val n.val { p with
      cur := some (DmaMove.mk w 0 (movxGeo p mw w).total (some mw)) })))) ∧
  ((∀ (s : State) (d : Fin 4) (n : Fin 32) (p : DmaProg) (m : DmaMove) (g : MoveGeo) (data : List PByte),
    (s.dev.chan d.val n.val).prog = some p → p.cur = some m → p.latch = none → (s.dev.chan d.val n.val).waiting = false →
    s.dev.busyUnits = [] → s.dev.core.flaws = [] → s.dev.core.watch = none →
    s.dev.runs (wDma d.val) = true → fld (wordAt m.w 0) 31 28 ≤ 2 → g = m.geo p → (p.rate = 0 ∨ g.burst m.pos ≤ p.credit) →
    (regionOf (g.daddr m.pos) = 0xE → s.dev.injRoom d.val = true) → regionOf g.src ≠ 0xE →
    data = g.assemble m.pos (g.burst m.pos) ((g.reads m.pos (g.burst m.pos)).map (fun r => s.dev.readBytes r.1 r.2)) →
    exec (.burst d n false) s = .next (s.withDev (s.dev.burstLeaves d.val n.val p m data)) ∧
    exec (.burst d n true) s = .next (s.withDev (s.dev.dmaFault d.val n.val p 6))) ∧
  (∀ (s : State) (d : Fin 4) (n : Fin 32) (p : DmaProg) (m : DmaMove) (g : MoveGeo) (feed : Bool),
    (s.dev.chan d.val n.val).prog = some p → p.cur = some m → p.latch = none → (s.dev.chan d.val n.val).waiting = false →
    s.dev.busyUnits = [] → s.dev.core.flaws = [] → s.dev.core.watch = none →
    s.dev.runs (wDma d.val) = true → fld (wordAt m.w 0) 31 28 ≤ 2 → g = m.geo p → (p.rate = 0 ∨ g.burst m.pos ≤ p.credit) →
    (regionOf (g.daddr m.pos) = 0xE ∨ regionOf g.src = 0xE) →
    (s.dev.injRoom d.val = false → exec (.burst d n feed) s = .next s) ∧
    (regionOf g.src = 0xE → s.dev.injRoom d.val = true → ∃ t, exec (.burst d n feed) s = .next (s.withDev t) ∧
      t.inj = s.dev.inj ++ [(d.val, peerReq 1 ((g.reads m.pos (g.burst m.pos)).headD (0, 0)).1 ((g.reads m.pos (g.burst m.pos)).headD (0, 0)).2 []
        (.dmaRead d.val n.val (s.dev.chan d.val n.val).nextWr))] ∧
      (t.chan d.val n.val).writes = (s.dev.chan d.val n.val).writes ++ [
        { id := (s.dev.chan d.val n.val).nextWr, cid := p.cmd.cid, len := g.burst m.pos, need := g.reads m.pos (g.burst m.pos), bad := feed }] ∧ t.core = s.dev.core)) ∧
  (∀ (e : Device) (die n wr : Nat) (p : DmaProg) (m : DmaMove) (w : DmaWr) (r : Nat × Nat) (data : List PByte),
    (e.chan die n).writes.find? (fun v => v.id == wr && v.data.isNone && !v.need.isEmpty) = some w → (e.chan die n).prog = some p →
    p.cmd.cid = w.cid → p.cur = some m → fld (wordAt m.w 0) 31 28 ≤ 2 → w.need = [r] →
    (w.bad = false → (regionOf ((m.geo p).daddr m.pos) = 0xE → e.injRoom die = true) → e.dmaReadAnswer die n wr true data =
      (e.setChan die n { (e.chan die n) with writes := (e.chan die n).writes.filter (fun v => v.id != wr) }).burstLeaves die n p m
        ((m.geo p).assemble m.pos w.len (w.got ++ [data]))) ∧
    (p.latch = none → w.bad = true → e.dmaReadAnswer die n wr true data =
      (e.setChan die n { (e.chan die n) with writes := (e.chan die n).writes.filter (fun v => v.id != wr) }).dmaFault die n p 6) ∧
    (p.latch = none → e.dmaReadAnswer die n wr false data =
      (e.setChan die n { (e.chan die n) with writes := (e.chan die n).writes.filter (fun v => v.id != wr) }).dmaFault die n p 7)) ∧
  (∀ (e : Device) (die n : Nat) (p : DmaProg) (m : DmaMove) (data : List PByte), regionOf ((m.geo p).daddr m.pos) ≠ 0xE →
    (e.burstLeaves die n p m data).core.mem = e.core.mem ∧
    ((e.burstLeaves die n p m data).chan die n).bytes = (e.chan die n).bytes + data.length ∧
    ∃ out, out.length = data.length ∧
      (∀ i, i < data.length → (m.geo p).sourceHolds ((m.geo p).daddr m.pos + i) = false → out[i]? = data[i]?) ∧
      ((e.burstLeaves die n p m data).chan die n).writes = (e.chan die n).writes ++
        [{ id := (e.chan die n).nextWr, cid := p.cmd.cid, dst := (m.geo p).daddr m.pos, len := data.length, data := some out }] ∧
      ∃ q, ((e.burstLeaves die n p m data).chan die n).prog = some q ∧ q.credit = p.credit - data.length ∧
        q.crc = (if (m.geo p).nocrc then p.crc else crc32cRun p.crc (values out)) ∧ q.cmd = p.cmd) ∧
  (∀ (s : State) (d : Fin 4) (n : Fin 32) (p : DmaProg), (s.dev.chan d.val n.val).prog = some p → p.rate ≠ 0 →
    exec (.creditTick d n) s = .next (s.withDev (s.dev.setProg d.val n.val
      { p with credit := min (max 1 (fld (p.cmd.word 7) 15 8) * 512) (p.credit + 16 * p.rate * ((s.dev.time d.val - p.risen) / 64))
               risen := p.risen + 64 * ((s.dev.time d.val - p.risen) / 64) }))))

/-- R224, R225, R284: a write under way takes effect, and earlier writes of its program that have not arrived keep every
byte that lies outside what it wrote and no other; at a bank whose near-bank unit runs an operation it is held, and
nothing else changes. That each write arrives whole, by a command of its own, is the model's choice (log entries 46
and 73). R220, R234: the channel's CRC-32C is reset, stored as its next burst, and checked against memory; an
uncorrectable network error of the bytes it is checked against is FEED_ERROR. -/
def Obligations.DmaWritesAndCrcs : Prop :=
  ((∀ (s : State) (d : Fin 4) (n : Fin 32) (k : Nat) (w : DmaWr) (l : List PByte), (s.dev.chan d.val n.val).writes[k]? = some w →
    w.data = some l → w.peer = false → s.dev.busyUnits = [] →
    ∃ t, exec (.writeArrival d n k) s = .next (s.withDev t) ∧ t.core = (s.dev.write w.dst l).core ∧ t.slip = s.dev.slip ∧
      (t.chan d.val n.val).writes = ((s.dev.chan d.val n.val).writes.take k).flatMap (fun v => if v.cid ≠ w.cid then [v]
        else if v.peer then [{ v with taken := v.taken ++ [(canonAddr w.dst, l.length)] }]
        else cutWrite (canonAddr w.dst) (canonAddr w.dst + l.length) v) ++ (s.dev.chan d.val n.val).writes.drop (k + 1) ∧
      (t.chan d.val n.val).prog = (s.dev.chan d.val n.val).prog) ∧
  (∀ (s : State) (d : Fin 4) (n : Fin 32) (k u : Nat) (w : DmaWr), (s.dev.chan d.val n.val).writes[k]? = some w →
    s.waitsAt (ordinaryEffect (.writeArrival d n k)) [] = some u →
    exec (.writeArrival d n k) s = .next (s.withDev (s.dev.hold { unit := u, what := .dmaWrite d.val n.val w.id }))) ∧
  (∀ (a b : Nat) (w v : DmaWr) (l m : List PByte), w.data = some l → v ∈ cutWrite a b w → v.data = some m → w.dst = canonAddr w.dst →
    v.cid = w.cid ∧ v.peer = w.peer ∧
    ∀ i, i < m.length → (v.dst + i < a ∨ b ≤ v.dst + i) ∧ w.dst ≤ v.dst ∧ m[i]? = l[v.dst - w.dst + i]?) ∧
  (∀ (a b i : Nat) (w : DmaWr) (l : List PByte), w.data = some l → w.dst = canonAddr w.dst → i < l.length →
    (w.dst + i < a ∨ b ≤ w.dst + i) →
    ∃ v ∈ cutWrite a b w, ∃ m, v.data = some m ∧ v.dst ≤ w.dst + i ∧ w.dst + i < v.dst + m.length)) ∧
  ((∀ (s : State) (d : Fin 4) (n : Fin 32) (p : DmaProg) (w : List Word) (a : Nat), DmaAt s.dev d.val n.val 6 p w →
    fld (wordAt w 0) 25 0 = 0 → fld (wordAt w 2) 31 20 = 0 → anyWord w [3, 4, 5, 6, 7] = false →
    a = join (wordAt w 1) (wd (fld (wordAt w 2) 19 0)) → a % 4 = 0 →
    (fld (wordAt w 0) 27 26 = 0 → exec (.crcReset d n) s = .next (s.withDev (s.dev.dmaNext d.val n.val { p with
      crc := 0xFFFFFFFF, crcPois := false }))) ∧
    (fld (wordAt w 0) 27 26 = 1 → s.dev.moveRangeOk ((a + p.doff) % 2 ^ 52) 4 = true → (p.rate = 0 ∨ 4 ≤ p.credit) →
      regionOf ((a + p.doff) % 2 ^ 52) ≠ 0xE → ∃ t, exec (.crcStore d n) s = .next (s.withDev t) ∧ t.core = s.dev.core ∧
        ((t.chan d.val n.val).writes.getLast?.bind DmaWr.data) = some (mark p.crcPois (toBytes 4 (crc32cValue p.crc).toNat)) ∧
        (t.chan d.val n.val).bytes = (s.dev.chan d.val n.val).bytes + 4 ∧ (t.chan d.val n.val).prog.map DmaProg.pc = some (p.pc + 1)) ∧
    (fld (wordAt w 0) 27 26 = 2 → s.dev.busyUnits = [] → s.dev.core.flaws = [] → s.dev.core.watch = none → s.dev.moveRangeOk ((a + p.soff) % 2 ^ 52) 4 = true → regionOf ((a + p.soff) % 2 ^ 52) ≠ 0xE →
      exec (.crcCheck d ⟨n, true⟩) s = .next (s.withDev (s.dev.dmaFault d.val n.val p 6)) ∧
      exec (.crcCheck d ⟨n, false⟩) s = .next (s.withDev
        (if wd (ofBytes (values (s.dev.readBytes ((a + p.soff) % 2 ^ 52) 4))) = crc32cValue p.crc ∧ p.crcPois = false
         then s.dev.dmaNext d.val n.val p else s.dev.dmaFault d.val n.val p 5))) ∧
    (fld (wordAt w 0) 27 26 = 2 → s.dev.moveRangeOk ((a + p.soff) % 2 ^ 52) 4 = true → regionOf ((a + p.soff) % 2 ^ 52) = 0xE →
      s.dev.injRoom d.val = true → ∀ (feed : Bool), ∃ t, exec (.crcCheck d ⟨n, feed⟩) s = .next (s.withDev t) ∧
        (t.chan d.val n.val).writes = (s.dev.chan d.val n.val).writes ++ [
          { id := (s.dev.chan d.val n.val).nextWr, cid := p.cmd.cid, len := 4, need := blockPieces ((a + p.soff) % 2 ^ 52) 4, bad := feed }] ∧
        (t.chan d.val n.val).prog = some { p with cur := some { w := w, total := 4 } } ∧ t.core = s.dev.core)))

/-- R202, R230, R231, R232, R233: an abort latches; a purge empties the channel's queue with ABORTED; the completing step
shows the status record, completes the program's command with its status and ends the program; ABANDON leaves its
stream idle with nothing of it in any queue, and aborts its programs. That ABANDONING lasts no time is the model's
choice (log entry 41), as are choices of the status record (log entry 47). -/
def Obligations.DmaEndsAndAbandonment : Prop :=
  (∀ (s : State) (d : Fin 4) (n : Fin 32) (p : DmaProg), (s.dev.chan d.val n.val).prog = some p → s.dev.fenced (wDma d.val) = false →
    (p.latch = none → exec (.dmaAbort d n) s = .next (s.withDev (s.dev.setProg d.val n.val
      { p with latch := some .abort, stood := s.dev.dmaFetch p }))) ∧
    (p.latch = some .natural → exec (.dmaAbort d n) s = .next (s.withDev
      ((s.dev.setProg d.val n.val { p with late := true }).post 0x0301 (uChan d.val n.val) (dmaData n.val 0 p.cmd.seq))))) ∧
  (∀ (s : State) (d : Fin 4) (n : Fin 32), s.dev.fenced (wDma d.val) = false → ∃ t, exec (.purge d n) s = .next (s.withDev t) ∧
    t.queue (qDma d.val n.val) = [] ∧ (t.chan d.val n.val).prog.isSome = (s.dev.chan d.val n.val).prog.isSome ∧
    t.core.mem = s.dev.core.mem ∧ t.core.regs = s.dev.core.regs) ∧
  (∀ (s : State) (d : Fin 4) (n : Fin 32) (p : DmaProg), (s.dev.chan d.val n.val).prog = some p → p.latch.isSome = true →
    (s.dev.chan d.val n.val).waiting = false → s.dev.runs (wDma d.val) = true →
    ∃ t, exec (.completingStep d n) s = .next (s.withDev t) ∧ (t.chan d.val n.val).prog = none ∧
      t.reg (dmaReg d.val n.val 0xC) = wordAt (dmaRecord p) 0 ∧ t.reg (dmaReg d.val n.val 0x10) = wordAt (dmaRecord p) 1 ∧
      t.reg (dmaReg d.val n.val 0x14) = wordAt (dmaRecord p) 2 ∧ bit (t.reg (dmaReg d.val n.val 8)) 3 = true ∧
      (t.chan d.val n.val).seq = p.cmd.seq ∧ t.core.done = (s.dev.finish p.cmd p.status.1).core.done ∧
      t.core.opens = (s.dev.finish p.cmd p.status.1).core.opens ∧ t.core.sync = (s.dev.finish p.cmd p.status.1).core.sync) ∧
  (∀ (p : DmaProg) (c : Nat), p.cmd.seq < 2 ^ 12 → (p.latch = some (.fault c) → c < 8 →
      fld (wordAt (dmaRecord p) 0) 31 28 = stFault ∧ fld (wordAt (dmaRecord p) 0) 26 24 = c) ∧
    (p.latch = some .abort → fld (wordAt (dmaRecord p) 0) 31 28 = stAborted ∧ fld (wordAt (dmaRecord p) 0) 26 24 = 0) ∧
    (p.latch = some .natural → fld (wordAt (dmaRecord p) 0) 31 28 = (if p.pois = true then stPoisoned else stDone) ∧
      fld (wordAt (dmaRecord p) 0) 26 24 = 0 ∧ wordAt (dmaRecord p) 1 = 0 ∧ wordAt (dmaRecord p) 2 = 0) ∧
    ((p.latch = some .natural ∨ p.latch = some .abort) →
      fld (wordAt (dmaRecord p) 0) 27 27 = p.late.toNat ∧ fld (wordAt (dmaRecord p) 0) 23 23 = p.crcPois.toNat ∧
      fld (wordAt (dmaRecord p) 0) 19 12 = min p.pc 255 ∧ fld (wordAt (dmaRecord p) 0) 11 0 = p.cmd.seq ∧
      wordAt (dmaRecord p) 3 = crc32cValue p.crc)) ∧
  (∀ (s : State) (d : Fin 4) (n : Fin 8), s.dev.dieInReset d.val = false → ∃ t, exec (.abandon d n) s = .next (s.withDev t) ∧
    (t.stream d.val n.val).state = .idle ∧ (t.stream d.val n.val).hcause = 5 ∧
    (t.stream d.val n.val).head = (t.stream d.val n.val).tail ∧ (t.stream d.val n.val).rcd = none ∧
    ((∀ k, 720 ≤ k → k < 728 → s.dev.queue k = []) → t.core.mem = s.dev.core.mem) ∧
    (∀ q, ∀ c ∈ t.queue q, s.dev.ofStream d.val n.val c.cid = false) ∧
    (∀ (g : Fin 4) (k : Fin 32) (p : DmaProg), (s.dev.chan g.val k.val).prog = some p → s.dev.ofStream d.val n.val p.cmd.cid = true →
      s.dev.fenced (wDma g.val) = false → p.latch = none → ∃ q, (t.chan g.val k.val).prog = some q ∧ q.latch = some .abort ∧ q.cmd = p.cmd) ∧
    ∀ o ∈ t.core.opens, o.2.die = d.val → o.2.stream = n.val → o.2.live = false)

/-- R243, R249, R250, R251, R252, R253: the commands of a segment that break no rule of R249, those that break one or have
a reserved TOP (as a row RAISE), and a RAISE whose frame is not the one it expects. A RAISE that waits lowers the tile
of smallest age once its pin is met, or goes on in a frame that has become free. How a group's members are judged
before any starts is log entry 75, the rest of the order log entry 48. R244, R250, R254: a RAISE of one tile into a
free frame begins its fill from the tile's seat; a hit gives the tile a new age and pin; a lowering under KEEP moves
nothing, under MOVE it copies the frame to the seat. -/
def Obligations.TierCommandsRaiseAndLower : Prop :=
  ((∀ (s : State) (g : Fin 5) (c : Cmd), s.dev.tierHead g.val 1 = some c → s.dev.tierStops g.val c = none →
    ∃ t, exec (.objdef g) s = .next (s.withDev t) ∧
      t.tierObj (tOid c) = some (TierObj.mk [c.word 3, c.word 4, c.word 5, c.word 6] g.val) ∧
      (∀ o, o ≠ tOid c → t.tierObj o = s.dev.tierObj o) ∧ (t.seg g.val).last = c.seq ∧ t.core.mem = s.dev.core.mem ∧
      t.core.regs = s.dev.core.regs) ∧
  (∀ (s : State) (g : Fin 5) (c : Cmd), s.dev.tierHead g.val 4 = some c → s.dev.tierStops g.val c = none →
    ∃ t, exec (.objdel g) s = .next (s.withDev t) ∧ t.tierObj (tOid c) = none ∧ (∀ o, o ≠ tOid c → t.tierObj o = s.dev.tierObj o) ∧
      t.core.mem = s.dev.core.mem ∧ t.core.regs = s.dev.core.regs) ∧
  (∀ (s : State) (g : Fin 5) (c : Cmd), s.dev.tierHead g.val 2 = some c → s.dev.tierStops g.val c = none →
    (bit (c.word 7) 31 = true → s.dev.expectFrame g.val c = fld (c.word 7) 13 0) →
    exec (.raise g) s = .next (s.withDev ((s.dev.popCmd (qTier g.val)).raiseTiles g.val { cmd := c } (tNT c)))) ∧
  (∀ (s : State) (g : Fin 5) (c : Cmd), s.dev.tierHead g.val 2 = some c → s.dev.tierStops g.val c = none →
    bit (c.word 7) 31 = true → s.dev.expectFrame g.val c ≠ fld (c.word 7) 13 0 →
    exec (.raise g) s = .next (s.withDev
      (((s.dev.popCmd (qTier g.val)).post 0x0407 (segOwner g.val) 0).tierFinish g.val c stFault))) ∧
  (∀ (s : State) (g : Fin 5) (c : Cmd), s.dev.tierHead g.val 3 = some c → s.dev.tierStops g.val c = none →
    exec (.lower g) s = .next (s.withDev ((s.dev.popCmd (qTier g.val)).lowerTiles g.val { cmd := c } (tNT c)))) ∧
  (∀ (s : State) (g : Fin 5) (top : Nat) (c : Cmd) (x : Nat × Nat), s.dev.tierHead g.val top = some c → s.dev.tierStops g.val c = some x →
    (top = 1 → exec (.objdef g) s = .next (s.withDev (s.dev.tierRefuse g.val c x))) ∧
    (top = 2 → exec (.raise g) s = .next (s.withDev (s.dev.tierRefuse g.val c x))) ∧
    (top = 3 → exec (.lower g) s = .next (s.withDev (s.dev.tierRefuse g.val c x))) ∧
    (top = 4 → exec (.objdel g) s = .next (s.withDev (s.dev.tierRefuse g.val c x)))) ∧
  (∀ (s : State) (g : Fin 5) (r : TierRun) (f : Nat) (e : TierEnt), (s.dev.seg g.val).cur = some r → tTop r.cmd = 2 →
    s.dev.segRuns g.val = true → s.dev.freeTierFrame g.val = none → s.dev.victim g.val = some (f, e) → e.filling = false → s.dev.pinMet e = true →
    exec (.victimLowering g) s = .next (s.withDev ((s.dev.lowerTile g.val f e r.cmd.cid []).raiseTiles g.val r (tNT r.cmd - r.pos)))) ∧
  (∀ (s : State) (g : Fin 5) (r : TierRun), (s.dev.seg g.val).cur = some r → tTop r.cmd = 2 → s.dev.segRuns g.val = true →
    (s.dev.freeTierFrame g.val).isSome = true →
    exec (.victimLowering g) s = .next (s.withDev (s.dev.raiseTiles g.val r (tNT r.cmd - r.pos)))) ∧
  (∀ (s : State) (g : Fin 5) (c : Cmd), s.dev.segRuns g.val = true → (s.dev.seg g.val).cur = none → s.dev.ready (qTier g.val) = some c →
    (tTop c = 0 ∨ 4 < tTop c) → ∃ x, s.dev.tierStops g.val c = some x ∧ exec (.raise g) s = .next (s.withDev (s.dev.tierRefuse g.val c x)))) ∧
  ((∀ (d : Device) (g : Nat) (c : Cmd) (o : TierObj) (f : Nat), d.tierObj (tOid c) = some o → d.findTile g (tOid c) (tT0 c) = none →
    d.freeTierFrame g = some f →
    (d.raiseTiles g { cmd := c } 1).ent g f =
      some { oid := tOid c, tile := tT0 c, age := (d.seg g).nextAge, pin := c.word 6, pinMet := false, filling := true } ∧
    ((d.raiseTiles g { cmd := c } 1).seg g).moves = (d.seg g).moves ++
      [{ id := d.core.nextOrd, fill := true, oid := tOid c, tile := tT0 c, frame := f, src := o.seat + tT0 c * 65536,
         dst := frameDA (d.seg g) f, cause := c.cid, cids := [c.cid] }] ∧
    (d.raiseTiles g { cmd := c } 1).core = { d.core with nextOrd := d.core.nextOrd + 1 }) ∧
  (∀ (d : Device) (g : Nat) (r : TierRun) (f : Nat) (e : TierEnt), (d.hitFrame g r f e).1.ent g f =
      some { e with age := (d.seg g).nextAge, pin := r.cmd.word 6, pinMet := false } ∧
    (d.hitFrame g r f e).1.core = d.core ∧ (d.hitFrame g r f e).2.pos = r.pos + 1) ∧
  (∀ (d : Device) (g f : Nat) (e : TierEnt) (cause : Nat) (cids : List Nat) (o : TierObj), d.tierObj e.oid = some o →
    (d.lowerTile g f e cause cids).ent g f = none ∧
    (o.keep = true → ((d.lowerTile g f e cause cids).seg g).moves = (d.seg g).moves ∧ (d.lowerTile g f e cause cids).core = d.core) ∧
    (o.keep = false → ((d.lowerTile g f e cause cids).seg g).moves = (d.seg g).moves ++
        [{ id := d.core.nextOrd, fill := false, oid := e.oid, tile := e.tile, frame := f, src := frameDA (d.seg g) f,
           dst := o.seat + e.tile * 65536, cause := cause, cids := cids, old := some { e with pinMet := true } }] ∧
      (d.lowerTile g f e cause cids).core = { d.core with nextOrd := d.core.nextOrd + 1 })))

/-- R244, R247, R254, R255, R257: a tile's move arrives, the seat of a tile raised under MOVE being open from then on, or
is abandoned. A fill that is abandoned leaves its tile lowered, its frame free and what it had written of the frame
open; an abandoned lowering leaves its tile raised in its frame, with the bytes it had there, and its seat as it was;
each fails the command that waits for it. A fill waits for the lowerings that have still to reach its seat, and a
lowering has read its frame before a fill writes it. A segment is committed or refused. What an abandoned move leaves
of other moves is the model's choice (log entry 48). -/
def Obligations.TierMovesAndSegments : Prop :=
  (∀ (s : State) (g : Fin 5) (k : Nat) (m : TierMove), (s.dev.seg g.val).moves[k]? = some m → s.dev.moveFree g.val k = true →
    s.dev.busyUnits = [] → s.dev.core.flaws = [] → s.dev.core.watch = none →
    ∃ t, exec (.tileMoveArrival g k) s = .next (s.withDev t) ∧
      t.core.mem = ((s.dev.write m.dst (s.dev.moveBytes m)).seatOpen g.val m).core.mem ∧
      t.core.pois = ((s.dev.write m.dst (s.dev.moveBytes m)).seatOpen g.val m).core.pois ∧
      ((s.dev.moveBytes m).length = 65536 → ∀ a, (∀ i, i < 65536 → canonAddr a ≠ canonAddr (m.dst + i)) →
        (m.fill = true → ∀ i, i < 65536 → canonAddr a ≠ canonAddr (m.src + i)) → (t.readByte a).1 = (s.dev.readByte a).1) ∧
      t.tier.moved = s.dev.tier.moved + 65536 ∧
      (t.seg g.val).moves.map TierMove.id = removeAt ((s.dev.seg g.val).moves.map TierMove.id) k ∧ t.core.regs = s.dev.core.regs ∧
      (m.fill = true → ∀ e, t.ent g.val m.frame = some e → e.filling = false) ∧
      (m.fill = true → ∀ e ∈ (t.seg g.val).moves, e.fill = false → e.src = m.dst → e.read.isSome = true)) ∧
  (∀ (d : Device) (g k : Nat) (m : TierMove), g < 5 → (d.seg g).moves[k]? = some m → m.fill = true →
    (∃ e ∈ (d.seg g).moves.take k, e.fill = false ∧ e.dst = m.src) → d.moveFree g k = false) ∧
  (∀ (s : State) (g : Fin 5) (k : Nat), s.dev.moveFree g.val k = true → s.dev.busyUnits = [] →
    exec (.tierMoveFault g k) s = .next (s.withDev ((s.dev.abandonMove g.val k).post 0x0408 (segOwner g.val) 0))) ∧
  (∀ (e : Device) (g k : Nat) (m : TierMove), g < 5 → (e.seg g).moves[k]? = some m → m.fill = true → e.core.flaws = [] → e.core.watch = none →
    (e.abandonMove g k).ent g m.frame = none ∧
    (∀ h f, h * 16384 + f ≠ g * 16384 + m.frame → (e.abandonMove g k).ent h f = e.ent h f) ∧
    (∀ o, (e.abandonMove g k).tierObj o = e.tierObj o) ∧
    ((e.abandonMove g k).seg g).moves.map TierMove.id = ((e.seg g).moves.map TierMove.id).filter (fun i => i != m.id) ∧
    (∀ a, (∀ i, i < 65536 → canonAddr a ≠ canonAddr (m.dst + i)) → ((e.abandonMove g k).readByte a).1 = (e.readByte a).1)) ∧
  (∀ (e : Device) (g k : Nat) (m : TierMove), g < 5 → (e.seg g).moves[k]? = some m → m.fill = false → e.core.flaws = [] → e.core.watch = none →
    ((e.seg g).base ≤ m.src → (m.src - (e.seg g).base) / 65536 < (e.seg g).n →
      (e.abandonMove g k).ent g ((m.src - (e.seg g).base) / 65536) = m.old) ∧
    (∀ o, (e.abandonMove g k).tierObj o = e.tierObj o) ∧
    (m.read = none → ∀ a, ((e.abandonMove g k).readByte a).1 = (e.readByte a).1) ∧
    (∀ b, m.read = some b → b.length = 65536 →
      ((∀ i j, i < 65536 → j < 65536 → canonAddr (m.src + i) = canonAddr (m.src + j) → i = j) →
        ∀ i, i < 65536 → ((e.abandonMove g k).readByte (m.src + i)).1 = (b.getD i (0, false)).1) ∧
      ∀ a, (∀ i, i < 65536 → canonAddr a ≠ canonAddr (m.src + i)) → ((e.abandonMove g k).readByte a).1 = (e.readByte a).1) ∧
    (∀ h, h < 5 → ∀ x ∈ ((e.abandonMove g k).seg h).moves, x.fill = true → x.src ≠ m.dst)) ∧
  (∀ (m : TierMove) (pois fault : Bool) (r : TierRun), (r.cmd.cid ∈ m.cids ∨ m.cause = r.cmd.cid) →
    (fault = true → (r.moved m pois fault).status = stFault) ∧
    (r.fault = false → fault = false → m.cause = r.cmd.cid → pois = true → (r.moved m pois fault).status = stPoisoned)) ∧
  (∀ (s : State) (g : Fin 5) (v : Word), s.dev.modRuns = true → segBad s.dev g.val (fld v 14 0) = none →
    ∃ t, exec (.segmentCommit g v) s = .next (s.withDev t) ∧ t.core = s.dev.core ∧ (t.seg g.val).n = fld v 14 0 ∧
      (t.seg g.val).base = join (s.dev.reg (mreg 0 (0x10 + 0x10 * g.val))) (s.dev.reg (mreg 0 (0x14 + 0x10 * g.val))) ∧
      ∀ h, h ≠ g.val → t.seg h = s.dev.seg h) ∧
  (∀ (s : State) (g : Fin 5) (v : Word) (reason : Nat), s.dev.modRuns = true → segBad s.dev g.val (fld v 14 0) = some reason →
    exec (.segmentCommit g v) s = .next (s.withDev (s.dev.setReg (mreg 0 4) (wd (2 ^ 31 + reason * 2 ^ 28 + g.val * 2 ^ 25)))))

/-- R284, R285, R418: an ordinary access that reaches the bank of a unit that runs an operation is held there and nothing
else changes; a request of the host is held also behind the host's last that is held. Between two steps the bank
serves what it holds in arrival order: an access takes effect, or goes on to the next busy bank that it reaches. That
an access of several banks takes effect as a whole is the model's choice (assumption 73). R262, R263, R265, R286: a
symbol of a line of tier 2 that has gone bad meets the coder at the next read. A patrol scrub reads each line once in
an interval; an uncorrectable line is marked, counted and posted, and one that the coder corrects is as it was. -/
def Obligations.AccessesWaitAndMeetTheCoder : Prop :=
  ((∀ (i : Instr) (s : State) (u : Nat),
    ((∃ d k, i = .tileLanding d k) ∨ (∃ d, i = .stashCommandComplete d) ∨ (∃ d n, i = .recordFetch d n) ∨ (∃ d n, i = .crcCheck d n) ∨
      (∃ d n f, i = .burst d n f) ∨ (∃ d n k, i = .writeArrival d n k) ∨ (∃ g k, i = .tileMoveArrival g k) ∨
      (∃ n c b w, i = .tier1PatrolScrub n c b w) ∨ (∃ d f, i = .quant d f) ∨ (∃ d f, i = .stepgate d f) ∨ (∃ d f, i = .rdrv d f) ∨
      (∃ d f, i = .digest d f) ∨ (∃ d f, i = .pack d f) ∨ (∃ m l f, i = .masterLineUpdate m l f) ∨ i = .ingestJob ∨
      (∃ d f, i = .sampleStart d f) ∨ i = .sampleCommit ∨ (∃ d, i = .decodeTimeout d) ∨ (∃ p, i = .wr p) ∨ (∃ p, i = .rd p) ∨
      (∃ p, i = .drd p) ∨ (∃ p, i = .rdr p) ∨ i = .peerRequest ∨ (∃ d, i = .reduceScatter d) ∨ (∃ d, i = .allGather d) ∨
      (∃ d, i = .allReduce d) ∨ (∃ p x, i = .colReduce p x) ∨ (∃ p x, i = .colGather p x) ∨ (∃ p, i = .colClose p) ∨
      (∃ d, i = .sealExpiry d) ∨ (∃ w o x l p, i = .apertureAccess w o x l p) ∨ i = .offerUpdate ∨
      (∃ a o w v p, i = .registerWrite a o w v p) ∨ (∃ p t x, i = .release p t x) ∨ (∃ x m, i = .repair x m) ∨ (∃ t, i = .e2eTimeout t) ∨
      (∃ g k, i = .tierMoveFault g k) ∨ (∃ x d, i = .dieReset x d) ∨ (∃ x, i = .moduleReset x) ∨ (∃ d r, i = .ctlLtcLoRead d r) ∨
      fromHost i = true) →
    s.heldBy (s.dev.accessOf i) (ordinaryEffect i) [] = some u →
    exec i s = .next (s.withDev (s.dev.hold { unit := u, what := s.dev.accessOf i }))) ∧
  (∀ (i : Instr) (s : State) (l : List Held) (h : Held), fromHost i = true → s.dev.slip.held = l ++ [h] → h.what.isHost = true →
    exec i s = .next (s.withDev { s.dev with slip.held := l ++ [h, { unit := h.unit, what := .cmd i }] })) ∧
  (∀ (d : Device) (h : Held), h.what.isHost = true ∨ d.slip.held.any (fun x => x.what == h.what) = false →
    d.hold h = { d with slip.held := d.slip.held ++ [h] }) ∧
  (∀ (d : Device) (h : Held), h.what.isHost = false → d.slip.held.any (fun x => x.what == h.what) = true → d.hold h = d) ∧
  (∀ (d : Device) (n u : Nat) (r : SlipRun) (m : SlipMem), (d.slipStack n).run = some r → r.mem u = some m → m.done = false →
    n * 512 + u ∈ d.busyUnits) ∧
  (∀ (d : Device) (a u : Nat) (l : List PByte), d.core.watch = some [] → d.memHeld a = false → regionOf a = 5 → l ≠ [] →
    u ∈ d.busyUnits → a / 2 ^ 36 % 8 = u / 512 → a / 2 ^ 31 % 32 = u % 512 / 16 → a / 2 ^ 27 % 16 = u % 16 →
    ∃ x, (d.write a l).core.watch = some x ∧ u ∈ x) ∧
  (∀ (s : State) (n : Fin 8) (u : Fin 512), s.dev.slip.held.filter (fun h => h.unit == n.val * 512 + u.val) = [] →
    exec (.ordinaryAccessService n u) s = .next s) ∧
  (∀ (s s0 : State) (n : Fin 8) (u : Fin 512) (h : Held),
    s.dev.slip.held.filter (fun h => h.unit == n.val * 512 + u.val) = [h] →
    s0 = s.withDev { s.dev with slip.held := s.dev.slip.held.filter (fun h => h.unit != n.val * 512 + u.val) } →
    (s0.heldBy h.what (accessEffect h.what) (h.unit :: h.passed) = none →
      exec (.ordinaryAccessService n u) s = .next (accessEffect h.what s0)) ∧
    (∀ v, s0.heldBy h.what (accessEffect h.what) (h.unit :: h.passed) = some v →
      exec (.ordinaryAccessService n u) s = .next (s0.withDev (s0.dev.hold { unit := v, passed := h.unit :: h.passed, what := h.what })))) ∧
  (∀ (s s0 : State) (n : Fin 8) (u : Fin 512) (h g : Held),
    s.dev.slip.held.filter (fun h => h.unit == n.val * 512 + u.val) = [h, g] →
    s0 = s.withDev { s.dev with slip.held := s.dev.slip.held.filter (fun h => h.unit != n.val * 512 + u.val) } →
    s0.dev.busyUnits = [] → (accessEffect h.what s0).dev.busyUnits = [] →
    exec (.ordinaryAccessService n u) s = .next (accessEffect g.what (accessEffect h.what s0)))) ∧
  ((∀ (s : State) (ch : Fin 8) (line a : Nat), a = 8 * 2 ^ 48 + (line / 64 * 512 + ch.val * 64 + line % 64) * 64 →
    s.dev.rangeOk a 64 = true → s.dev.modRuns = true →
    exec (.patrolScrub ch line) s = .next (s.withDev (s.dev.scrubRead ch.val line (s.dev.core.cap / 512) (mreg 2 4) a 64))) ∧
  (∀ (s : State) (sn : Fin 8) (ch : Fin 32) (bank : Fin 16) (word u : Nat), u = ch.val * 16 + bank.val → s.dev.busyUnits = [] →
    s.dev.modRuns = true → word < 3145728 →
    exec (.tier1PatrolScrub sn ch bank word) s = .next (s.withDev
      (s.dev.scrubRead (8 + sn.val) (u * 3145728 + word) (512 * 3145728) (mreg 1 4) (bankDA sn.val u (word * 32)) 32))) ∧
  (∀ (d : Device) (k i n hours a bytes : Nat),
    (∀ x, (mget {} d.tier.scrub k : Scrub).turn (d.time 0) i n (fld (d.reg hours) 7 0) = some x →
      d.scrubRead k i n hours a bytes = ({ d with tier.scrub := mset {} d.tier.scrub k x }).fetch a bytes) ∧
    ((mget {} d.tier.scrub k : Scrub).turn (d.time 0) i n (fld (d.reg hours) 7 0) = none → d.scrubRead k i n hours a bytes = d)) ∧
  (∀ (x : Scrub) (now i n h : Nat), x.on = true → (i ∈ x.seen → x.turn now i n h = none) ∧
    (i ∉ x.seen → ∃ y, x.turn now i n h = some y ∧ (y.on = false ↔ x.seen.length + 1 = n) ∧ (y.on = true → i ∈ y.seen))) ∧
  (∀ (x : Scrub) (now i n h t : Nat), x.on = false → x.start = some t → now < t + h * 3600 * 1000000000 → x.turn now i n h = none) ∧
  (∀ (d : Device) (a : Nat) (l : List Nat), regionOf a = 8 → a % 64 = 0 → d.core.flaws = [(poisonUnit a, l)] →
    d.coderSays (poisonUnit a) = .uncorrectable →
    (d.fetch a 64).core.flaws = [] ∧ (d.fetch a 64).core.pois.contains (poisonUnit a) = true ∧
    (d.fetch a 64).core.evq.map Event.code = d.core.evq.map Event.code ++ [0x0409] ∧
    (d.fetch a 64).reg (mrdReg (t1Stack a) 8) = wd (satAdd32 (d.reg (mrdReg (t1Stack a) 8)).toNat 1)) ∧
  (∀ (d : Device) (a : Nat) (l : List Nat), regionOf a = 8 → a % 64 = 0 → d.core.flaws = [(poisonUnit a, l)] →
    d.coderSays (poisonUnit a) = .corrected →
    (d.fetch a 64).core.flaws = [] ∧ (d.fetch a 64).core.mem = d.core.mem ∧ (d.fetch a 64).core.pois = d.core.pois ∧
    (d.fetch a 64).reg (mrdReg (t1Stack a) 4) = wd (satAdd32 (d.reg (mrdReg (t1Stack a) 4)).toNat 1)) ∧
  (∀ (d : Device) (key : Nat), d.core.pois.contains key = true → mget [] d.core.flaws key ≠ [] → d.coderSays key = .uncorrectable))

/-- R18, R274, R275: a near-bank part issues on its stack with every member it names at its first step; a part that breaks
a rule of R275, or whose group has a member that does, is refused, with one event and no effect (how a group is
refused before any member starts is log entries 50 and 75). R276, R278, R279, R280, R283, R288, R290: a step of a
member makes its writes in its own bank and readies the next; the last one ends the member. What a step reads passes
through the coder first. A step that is struck, or that meets a segment end below its predecessor, faults its member:
it writes no row, and with STEN set its status record; the member's part completes with FAULT, and the other members
stand as they were. GATHER copies one row; REDUCE adds one weighted row to its exact sum, which the last position of a
segment scales, adds to the old row under ACC and writes; MOMENT writes one row of m, v and d. That a step makes its
writes at once is the model's choice (log entry 50). -/
def Obligations.NearBankPartsIssueAndStep : Prop :=
  ((∀ (sop : Nat) (i : Fin 8 → Instr), (sop, i) ∈ [(1, Instr.gather), (2, .reduce), (3, .moment)] →
    ∀ (s : State) (n : Fin 8) (c : Cmd), s.dev.ready (qSlp n.val) = some c → sSop c = sop → (s.dev.slipStack n.val).run = none →
    s.dev.runs (wStack n.val) = true → s.dev.groupBad (qSlp n.val) c (fun _ c => slipBad s.dev c) = none →
    ∃ t, exec (i n) s = .next (s.withDev t) ∧ t.core = (s.dev.popCmd (qSlp n.val)).core ∧ ∃ r, (t.slipStack n.val).run = some r ∧
      r.cmd = c ∧ r.D = s.dev.descWords (sramDA (c.word 4)) 16 ∧ r.mems.map Prod.fst = stackUnits c.target ∧
      (∀ p ∈ r.mems, p.2 = {}) ∧ r.rank0 = rankBase c n.val) ∧
  (∀ (sop : Nat) (i : Fin 8 → Instr), (sop, i) ∈ [(1, Instr.gather), (2, .reduce), (3, .moment)] →
    ∀ (s : State) (n : Fin 8) (c : Cmd) (q ev : Nat), s.dev.ready (qSlp n.val) = some c → sSop c = sop → (s.dev.slipStack n.val).run = none →
    s.dev.runs (wStack n.val) = true → s.dev.groupBad (qSlp n.val) c (fun _ c => slipBad s.dev c) = some (q, ev) →
    ∃ t, exec (i n) s = .next (s.withDev t) ∧ t = s.dev.refuse (qSlp n.val) c ev (uStack (q - 720)) 0 ∧
      t.core.mem = s.dev.core.mem ∧ t.core.pois = s.dev.core.pois ∧ t.core.regs = s.dev.core.regs ∧
      ∀ k, (t.slipStack k).run = (s.dev.slipStack k).run)) ∧
  ((∀ (s : State) (n : Fin 8) (u : Fin 512) (r : SlipRun) (m m' : SlipMem) (d : Device) (fixed : Nat) (ws : List (Nat × List PByte))
    (note : NumNote) (row : Option Bool), (s.dev.slipStack n.val).run = some r → r.mem u.val = some m → m.done = false →
    s.dev.heldAt n.val u.val = false → s.dev.runs (wStack n.val) = true → s.dev.stepCoder n.val u.val r m = (d, fixed) →
    slipStep d n.val u.val (r.rank u.val) r { m with cesym := m.cesym + fixed } = .ok m' ws note row →
    exec (.nearBankStep n u .done) s = .next (s.withDev
      (((d.writes ws).note (mreg 1 0xE000) (uBank n.val (u.val / 16) (u.val % 16)) note).stepDone n.val u.val r
        { m with cesym := m.cesym + fixed } m' row))) ∧
  (∀ (d : Device) (n u : Nat) (r : SlipRun) (m : SlipMem), d.core.flaws = [] → d.stepCoder n u r m = (d, 0)) ∧
  (∀ (s : State) (n : Fin 8) (u : Fin 512) (r : SlipRun) (m : SlipMem) (o : StepOutcome) (k : Nat), (s.dev.slipStack n.val).run = some r →
    r.mem u.val = some m → m.done = false → s.dev.heldAt n.val u.val = false → s.dev.runs (wStack n.val) = true → sSten r.cmd = false →
    (o = .fault 1 ∧ k = 1 ∨ o = .fault 3 ∧ k = 3 ∨
      o = .done ∧ s.dev.core.flaws = [] ∧ k = 2 ∧ slipStep s.dev n.val u.val (r.rank u.val) r m = .segment) →
    ∃ t, exec (.nearBankStep n u o) s = .next (s.withDev t) ∧ t.core.mem = s.dev.core.mem ∧ t.core.pois = s.dev.core.pois ∧
      (bit (s.dev.reg (slpReg n.val 4)) 31 = false → t.reg (slpReg n.val 4) =
        wd (2 ^ 31 + k * 2 ^ 28 + u.val / 16 * 2 ^ 23 + u.val % 16 * 2 ^ 19 + r.cmd.seq))) ∧
  (∀ (s : State) (n : Fin 8) (u : Fin 512) (r : SlipRun) (m : SlipMem) (o : StepOutcome) (k : Nat), (s.dev.slipStack n.val).run = some r →
    r.mem u.val = some m → m.done = false → s.dev.heldAt n.val u.val = false → s.dev.runs (wStack n.val) = true → s.dev.core.flaws = [] →
    (o = .fault 1 ∧ k = 1 ∨ o = .fault 3 ∧ k = 3 ∨ o = .done ∧ k = 2 ∧ slipStep s.dev n.val u.val (r.rank u.val) r m = .segment) →
    ∃ t : Device, exec (.nearBankStep n u o) s = .next (s.withDev t) ∧
      (sSten r.cmd = true → t.core.mem = (s.dev.write (sramDA (r.cmd.word 5) + 32 * r.rank u.val)
        (clean (wordsToBytes (slipRecord r.cmd m stFault k)))).core.mem) ∧
      (∀ x, (t.slipStack n.val).run = some x → x.mem u.val = some { m with done := true } ∧ ∀ v, v ≠ u.val → x.mem v = r.mem v) ∧
      (t.core.evq.map Event.code).take (s.dev.core.evq.length + 1) = s.dev.core.evq.map Event.code ++ [0x040F] ∧
      t.core.done = (s.dev.completePart r.cmd.cid 1 stFault 1 (uBank n.val (u.val / 16) (u.val % 16))).core.done ∧
      t.core.opens = (s.dev.completePart r.cmd.cid 1 stFault 1 (uBank n.val (u.val / 16) (u.val % 16))).core.opens) ∧
  (∀ (d : Device) (n u : Nat) (r : SlipRun) (m : SlipMem) (i : Nat), d.entry n u (r.off 0 + 4 * m.j) = (i, false) → i < (r.d 6).toNat →
    i ≠ 0xFFFFFFFF → anyPoison (d.readBytes (bankDA n u (r.off 1 + i * (r.d 3).toNat)) (fld (r.d 5) 11 0)) = false →
    ∃ m', gatherStep d n u r m = .ok m' [(bankDA n u (r.off 2 + m.j * (r.d 4).toNat),
        clean (values (d.readBytes (bankDA n u (r.off 1 + i * (r.d 3).toNat)) (fld (r.d 5) 11 0))))] {} (some false) ∧
      m'.j = m.j + 1 ∧ m'.noor = m.noor) ∧
  (∀ (d : Device) (n u : Nat) (r : SlipRun) (m : SlipMem) (p : Bool), d.entry n u (r.off 0 + 4 * m.j) = (0xFFFFFFFF, p) →
    gatherStep d n u r m = .ok { m with j := m.j + 1 } [] {} none) ∧
  (∀ (d : Device) (n u rank : Nat) (r : SlipRun) (m : SlipMem) (b e : Nat), m.pois = false →
    d.entry n u (r.off 7 + 4 * m.j) = (e, false) → (m.j = 0 ∧ b = 0 ∨ 0 < m.j ∧ d.entry n u (r.off 7 + 4 * (m.j - 1)) = (b, false)) →
    (e < b → reduceStep d n u rank r m = .segment) ∧
    (e = b → reduceStep d n u rank r m = .ok { m with j := m.j + 1, acc := none } (reduceRow d n u rank r m true).1
      (reduceRow d n u rank r m true).2.1 (some (reduceRow d n u rank r m true).2.2)) ∧
    (∀ (pos i w : Nat) (f : Fmt) (m' : SlipMem) (prods : List Val), b < e → pos = max m.pos b → r.off 0 + 4 * pos + 4 ≤ bankBytes →
      d.entry n u (r.off 0 + 4 * pos) = (i, false) → i < (r.d 6).toNat → i ≠ 0xFFFFFFFF → slipFmt (fld (r.d 5) 31 28) = some f →
      (bit (r.d 5) 22 = false ∧ w = 0x3F800000 ∨
        bit (r.d 5) 22 = true ∧ r.off 8 + 4 * pos + 4 ≤ bankBytes ∧ d.entry n u (r.off 8 + 4 * pos) = (w, false)) →
      (d.bankVals n u (r.off 1 + i * (r.d 3).toNat) f (fld (r.d 5) 9 0 + 1)).any Prod.snd = false →
      prods = (d.bankVals n u (r.off 1 + i * (r.d 3).toNat) f (fld (r.d 5) 9 0 + 1)).map (fun x => (f32 (wd w)).mul x.1) →
      m' = { m with pos := pos + 1, acc := some (match m.acc with | none => prods | some l => (l.zip prods).map (fun x => x.1.add x.2)) } →
      (pos + 1 < e → reduceStep d n u rank r m = .ok m' [] {} none) ∧
      (pos + 1 = e → reduceStep d n u rank r m = .ok { m' with j := m.j + 1, acc := none } (reduceRow d n u rank r m' false).1
        (reduceRow d n u rank r m' false).2.1 (some (reduceRow d n u rank r m' false).2.2)))) ∧
  (∀ (d : Device) (n u rank : Nat) (r : SlipRun) (m : SlipMem) (f : Fmt) (old : List (Val × Bool)) (sums : List Val) (row : ConvRow),
    slipFmt (fld (r.d 5) 27 24) = some f → m.acc = some sums → sums.length = fld (r.d 5) 9 0 + 1 →
    old = (if bit (r.d 5) 23 then d.bankVals n u (r.off 2 + m.j * (r.d 4).toNat) f (fld (r.d 5) 9 0 + 1)
      else List.replicate (fld (r.d 5) 9 0 + 1) (Val.zero, false)) →
    row = convRow f (fun c => (r.draw 5).rnd (sRmode r.cmd) ((r.elem0 + (rank * sCount r.cmd + m.j) * (r.d 13).toNat + c) % 2 ^ 48)) (sNosat r.cmd)
      ((old.zip sums).map (fun x => (x.1.1.add ((f32 (r.d 9)).mul x.2), false))) →
    reduceRow d n u rank r m false = ([(bankDA n u (r.off 2 + m.j * (r.d 4).toNat),
      mark (m.pois || old.any Prod.snd) (packElems f (row.codes.map Prod.fst)))], row.note, (m.pois || old.any Prod.snd))) ∧
  (∀ (d : Device) (n u rank : Nat) (r : SlipRun) (m : SlipMem) (gs ms vs : List (Val × Bool)) (out : List (Val × Val × Val)) (p : Bool),
    slipFmt (fld (r.d 5) 31 28) = some .fp32 → bit (r.d 5) 27 = false → gs = d.bankVals n u (r.off 0 + 1024 * m.j) .fp32 256 →
    ms = d.bankVals n u (r.off 1 + 1024 * m.j) .fp32 256 → vs = d.bankVals n u (r.off 2 + 1024 * m.j) .fp32 256 →
    p = (gs.any Prod.snd || ms.any Prod.snd || vs.any Prod.snd) →
    out = (gs.zip (ms.zip vs)).map (fun x => momentElem r x.1.1 x.2.1.1 x.2.2.1) →
    ∃ note, momentStep d n u rank r m = .ok { m with j := m.j + 1 } [(bankDA n u (r.off 1 + 1024 * m.j), fp32Row p (out.map (fun x => x.1))),
      (bankDA n u (r.off 2 + 1024 * m.j), fp32Row p (out.map (fun x => x.2.1))),
      (bankDA n u (r.off 3 + 1024 * m.j), fp32Row p (out.map (fun x => x.2.2)))] note (some p)) ∧
  (∀ (r : SlipRun) (g m v m1 v1 : Val), m1 = rne32 (((f32 (r.d 6)).mul m).add ((f32 (r.d 7)).mul g)) →
    v1 = rne32 (((f32 (r.d 8)).mul v).add ((f32 (r.d 9)).mul (g.mul g))) →
    momentElem r g m v = (m1, v1, rne32 (((f32 (r.d 10)).mul m1).mul (f32 (rsqrt32 (w32 (((f32 (r.d 11)).mul v1).add (f32 (r.d 12))))))))))

/-- R300, R304 to R307, R313, R317: QUANT, RDRV, DIGEST and PACK at the head of a die's TRS queue, without a fault of the
unit: what each writes, in its order, and that it completes with POISONED where what it read is poisoned, else with
DONE. No bank holds the access, and no symbol of what it reads has gone bad. A fault of the unit fills the fault
record, posts TRS_FAULT and ends the command with FAULT (R321). A command that breaks a rule of R320 is refused with
one event and no effect. That a command runs whole when its row comes is the model's choice (log entry 51). -/
def Obligations.TrainingEngineCommandsWrite : Prop :=
  (∀ (s : State) (d : Fin 4) (c : Cmd) (w : Nat → Word) (us : List UnitOut), s.dev.trsHead d.val [1] = some c → s.dev.trsStops d.val c = none →
    s.dev.busyUnits = [] → s.dev.core.flaws = [] → s.dev.core.watch = none →
    w = wordAt (s.dev.descWords (sramDA (c.word 4)) 16) →
    us = (List.range (qBlocks w)).map (quantBlock s.dev c w (s.dev.draw d.val 3 (w 10)) (fld (s.dev.reg (trsReg d.val 4)) 0 0)
      (lsExp (s.dev.reg (trsReg d.val 0x10)) - elsExp (s.dev.reg (trsReg d.val 0x10)))) →
    ∃ t, exec (.quant d .none) s = .next (s.withDev t) ∧
      t.core.mem = ((s.dev.writes (us.flatMap (·.ws))).write (pairDA w 6)
        (clean (wordsToBytes (quantHeader w (s.dev.reg (dreg d.val 11 8)) (us.any (·.nonfin)))))).core.mem ∧
      t.core.done = (s.dev.finish c (if us.any (·.pois) then stPoisoned else stDone)).core.done ∧
      mget 0 t.train.last d.val = c.seq) ∧
  (∀ (s : State) (d : Fin 4) (c : Cmd) (w : Nat → Word), s.dev.trsHead d.val [3] = some c → s.dev.trsStops d.val c = none →
    s.dev.busyUnits = [] → s.dev.core.flaws = [] → s.dev.core.watch = none →
    w = wordAt (s.dev.descWords (sramDA (c.word 4)) 16) →
    ∃ t, exec (.rdrv d .none) s = .next (s.withDev t) ∧ mget 0 t.train.last d.val = c.seq ∧
      t.core.done = (s.dev.finish c (if ((List.range (fld (w 8) 23 0)).map (rdrvRecord s.dev w)).any (·.pois) then stPoisoned else stDone)).core.done ∧
      t.core.mem = (s.dev.writes (((List.range (fld (w 8) 23 0)).map (rdrvRecord s.dev w)).flatMap (·.ws))).core.mem) ∧
  (∀ (s : State) (d : Fin 4) (c : Cmd) (v : Nat) (p : Bool), s.dev.trsHead d.val [4] = some c → s.dev.trsStops d.val c = none →
    s.dev.busyUnits = [] → s.dev.core.flaws = [] → s.dev.core.watch = none →
    v = ((s.dev.rangeList (sramDA (c.word 4)) (cCount c)).take (cCount c)).foldl (fun r e => crc64Run r (values (s.dev.readBytes e.da e.len))) 0 →
    p = (((s.dev.rangeList (sramDA (c.word 4)) (cCount c)).take (cCount c)).any (fun e => anyPoison (s.dev.readBytes e.da e.len)) ||
      anyPoison (s.dev.readBytes (sramDA (c.word 4)) (16 * cCount c))) →
    ∃ t, exec (.digest d .none) s = .next (s.withDev t) ∧ mget 0 t.train.last d.val = c.seq ∧
      t.core.mem = (s.dev.write (sramDA (c.word 6)) (mark p (toBytes 8 v))).core.mem ∧
      t.core.done = (s.dev.finish c (if p = true then stPoisoned else stDone)).core.done ∧
      t.reg (trsReg d.val 0x20) = lo32 v ∧ t.reg (trsReg d.val 0x24) = hi32 v) ∧
  (∀ (s : State) (d : Fin 4) (c : Cmd) (w : Nat → Word) (first body : List PByte) (p : Bool), s.dev.trsHead d.val [5] = some c → s.dev.trsStops d.val c = none →
    s.dev.busyUnits = [] → s.dev.core.flaws = [] → s.dev.core.watch = none →
    w = wordAt (s.dev.descWords (sramDA (c.word 4)) 16) → fld (w 5) 31 24 ≠ 3 →
    first = (if fld (w 5) 31 24 = 2 then s.dev.readBytes (sramDA (w 8)) 64 else []) → 32 + first.length ≤ (w 7).toNat →
    packFit (w 7).toNat (32 + first.length) 0 (packChunks s.dev w) = (body, none) →
    p = (anyPoison first || (packChunks s.dev w).any (·.2)) →
    ∃ t, exec (.pack d .none) s = .next (s.withDev t) ∧ mget 0 t.train.last d.val = c.seq ∧
      t.core.done = (s.dev.finish c (if p = true then stPoisoned else stDone)).core.done ∧
      t.core.mem = ((s.dev.write (pairDA w 2 + 32) (first ++ body)).write (pairDA w 2) (mark p (packHeader w (s.dev.reg (dreg d.val 11 8))
        (32 + (first ++ body).length) (values (first ++ body))))).core.mem ∧
      t.reg (trsReg d.val 0x1C) = wd (32 + (first ++ body).length)) ∧
  (∀ (s : State) (d : Fin 4) (c : Cmd) (w : Nat → Word), s.dev.trsHead d.val [5] = some c → s.dev.trsStops d.val c = none →
    s.dev.busyUnits = [] → s.dev.core.flaws = [] → s.dev.core.watch = none →
    w = wordAt (s.dev.descWords (sramDA (c.word 4)) 16) → fld (w 5) 31 24 = 3 → 32 + (stepBody s.dev d.val).length ≤ (w 7).toNat →
    ∃ t, exec (.pack d .none) s = .next (s.withDev t) ∧ mget 0 t.train.last d.val = c.seq ∧
      t.reg (trsReg d.val 0x1C) = wd (32 + (stepBody s.dev d.val).length) ∧ t.core.done = (s.dev.finish c stDone).core.done ∧
      t.core.mem = ((s.dev.write (pairDA w 2 + 32) (clean (stepBody s.dev d.val))).write (pairDA w 2)
        (clean (packHeader (fun k => if k = 4 ∨ k = 6 then 0 else w k) (s.dev.reg (dreg d.val 11 8))
          (32 + (stepBody s.dev d.val).length) (stepBody s.dev d.val)))).core.mem) ∧
  (∀ (e : Device) (die i cause : Nat) (c : Cmd) (flt : UnitFault) (p : Bool), (flt = .feedError i ∧ cause = 3 ∨ flt = .unitCheck i ∧ cause = 4) →
    (e.trsEnd die c flt p stDone).reg (trsReg die 0x28) = wd (2 ^ 31 + cause * 2 ^ 28 + cTop c * 2 ^ 24 + c.seq) ∧
    (e.trsEnd die c flt p stDone).reg (trsReg die 0x2C) = wd i ∧ (e.trsEnd die c flt p stDone).core.mem = e.core.mem ∧
    (e.trsEnd die c flt p stDone).core.done = (e.finish c stFault).core.done ∧
    ((e.trsEnd die c flt p stDone).queue (qTrs die)).map Cmd.cid = ((e.queue (qTrs die)).map Cmd.cid).tail ∧
    ((e.trsEnd die c flt p stDone).core.evq.map Event.code).take (e.core.evq.length + (if p = true then 2 else 1)) =
      e.core.evq.map Event.code ++ (if p = true then [0x0505] else []) ++ [0x0504]) ∧
  (∀ (s : State) (d : Fin 4) (c : Cmd) (x : Nat × Nat) (top : Nat) (i : Instr),
    (top, i) ∈ [(1, Instr.quant d .none), (2, .stepgate d .none), (3, .rdrv d .none), (4, .digest d .none), (5, .pack d .none)] →
    s.dev.trsHead d.val [top] = some c → s.dev.trsStops d.val c = some x → s.dev.busyUnits = [] →
    ∃ t, exec i s = .next (s.withDev t) ∧ t = s.dev.trsRefuse d.val c x ∧ t.core.mem = s.dev.core.mem ∧
      t.core.pois = s.dev.core.pois ∧ t.core.regs = s.dev.core.regs)

/-- R309, R321: STEPGATE completes with the outcome its records decide: it sets the loss-scale state, the error parity,
the loss-scale block, the outcome register and its summary; a skipped step posts STEP_SKIPPED, and a vote of 2 or 3
posts REPLICA_DIVERGED and halts every stream of the die. A record that is not valid or of another step stops it with
FAULT and changes none of these. Which record gives SRCMOD is log entry 51. -/
def Obligations.StepgateDecides : Prop :=
  (∀ (s : State) (d : Fin 4) (c : Cmd) (recs : List (List Word)) (g : Gate), s.dev.trsHead d.val [2] = some c → s.dev.trsStops d.val c = none →
    s.dev.busyUnits = [] → s.dev.core.flaws = [] → s.dev.core.watch = none →
    recs = (List.range (cCount c)).map (fun i => s.dev.descWords (sramDA (c.word 4) + 16 * i) 4) →
    (∀ r ∈ recs, bit (wordAt r 0) 31 = true ∧ wordAt r 1 = s.dev.reg (dreg d.val 11 8)) →
    g = gate recs (s.dev.reg (trsReg d.val 8)) (s.dev.reg (trsReg d.val 0xC)) (s.dev.reg (trsReg d.val 0x10)) (fld (s.dev.reg (trsReg d.val 4)) 0 0) →
    ∃ t p, exec (.stepgate d .none) s = .next (s.withDev t) ∧ p = anyPoison (s.dev.readBytes (sramDA (c.word 4)) (16 * cCount c)) ∧
      t.core.done = (s.dev.finish c (max (if g.outcome ≤ 1 then stDone else if g.outcome = 4 then stAborted else stFault)
        (if p = true then stPoisoned else stDone))).core.done ∧
      ((g.outcome = 2 ∨ g.outcome = 3) → (t.core.evq.map Event.code).take (s.dev.core.evq.length + 1) = s.dev.core.evq.map Event.code ++ [0x0502] ∧
        ∀ k : Fin 8, (t.stream d.val k.val).state = .halted ∧ ((s.dev.stream d.val k.val).state ≠ .halted →
          (t.stream d.val k.val).hcause = 2 ∧ (t.stream d.val k.val).hrec = (s.dev.stream d.val k.val).head) ∧
          (t.stream d.val k.val).head = (s.dev.stream d.val k.val).head) ∧
      (g.outcome = 1 → (t.core.evq.map Event.code).take (s.dev.core.evq.length + 1) = s.dev.core.evq.map Event.code ++ [0x0501]) ∧
      (g.outcome ≤ 1 → p = false → ∀ k : Fin 8, (t.stream d.val k.val).state = (s.dev.stream d.val k.val).state) ∧
      t.reg (trsReg d.val 0x10) = wd (g.good * 2 ^ 16 + wrap 8 g.elsexp * 2 ^ 8 + wrap 8 g.lsexp) ∧ t.reg (trsReg d.val 4) = wd g.epar ∧
      t.reg (trsReg d.val 0x14) = wd (2 ^ 31 + g.outcome * 2 ^ 28 + fld (s.dev.reg (dreg d.val 11 8)) 15 0) ∧
      t.core.mem = (s.dev.write (sramDA (c.word 6))
        (mark p (wordsToBytes (lossBlock (lsExp (s.dev.reg (trsReg d.val 0x10))) g.lsexp)))).core.mem ∧
      (∀ r, gateVote recs = 2 → recs.find? (fun r => fld (wordAt r 0) 28 27 == 2) = some r →
        t.reg (trsReg d.val 0x18) = wd (2 ^ 31 + fld (wordAt r 2) 14 0)) ∧
      mget {} t.ctl.sums (d.val * 64 + fld (c.word 5) 31 26) = { value := wd g.outcome, valid := true, kind := 4 }) ∧
  (∀ (s : State) (d : Fin 4) (c : Cmd) (i : Nat), s.dev.trsHead d.val [2] = some c → s.dev.trsStops d.val c = none →
    s.dev.busyUnits = [] → s.dev.core.flaws = [] → s.dev.core.watch = none → i < cCount c →
    (∀ j, j < i → bit (wordAt (s.dev.descWords (sramDA (c.word 4) + 16 * j) 4) 0) 31 = true ∧
      wordAt (s.dev.descWords (sramDA (c.word 4) + 16 * j) 4) 1 = s.dev.reg (dreg d.val 11 8)) →
    (bit (wordAt (s.dev.descWords (sramDA (c.word 4) + 16 * i) 4) 0) 31 = false ∨
      wordAt (s.dev.descWords (sramDA (c.word 4) + 16 * i) 4) 1 ≠ s.dev.reg (dreg d.val 11 8)) →
    ∃ t, exec (.stepgate d .none) s = .next (s.withDev t) ∧ t.core.done = (s.dev.finish c stFault).core.done ∧ t.core.mem = s.dev.core.mem ∧
      t.reg (trsReg d.val 0x28) = wd (2 ^ 31 + 2 ^ 28 + cTop c * 2 ^ 24 + c.seq) ∧ t.reg (trsReg d.val 0x2C) = wd i ∧
      t.reg (trsReg d.val 0x10) = s.dev.reg (trsReg d.val 0x10) ∧ t.reg (trsReg d.val 0x14) = s.dev.reg (trsReg d.val 0x14) ∧
      t.ctl.sums = s.dev.ctl.sums) ∧
  (∀ (recs : List (List Word)) (pol lim st : Word) (epar : Nat),
    ((∃ r ∈ recs, bit (wordAt r 0) 29 = true) → (gate recs pol lim st epar).outcome = 4 ∧ (gate recs pol lim st epar).epar = epar ∧
      (gate recs pol lim st epar).lsexp = lsExp st) ∧
    ((∀ r ∈ recs, bit (wordAt r 0) 29 = false) → 2 ≤ gateVote recs → (gate recs pol lim st epar).outcome = gateVote recs ∧
      (gate recs pol lim st epar).epar = epar ∧ (gate recs pol lim st epar).lsexp = lsExp st ∧ (gate recs pol lim st epar).elsexp = elsExp st) ∧
    ((∀ r ∈ recs, bit (wordAt r 0) 29 = false ∧ bit (wordAt r 0) 30 = false ∧ fld (wordAt r 0) 28 27 < 2) →
      (gate recs pol lim st epar).outcome = 0 ∧ (gate recs pol lim st epar).epar = 1 - epar ∧
      (gate recs pol lim st epar).elsexp = lsExp st ∧
      ((fld pol 31 16 = 0 ∨ (fld st 31 16 + 1) % 65536 < fld pol 31 16) → (gate recs pol lim st epar).lsexp = lsExp st ∧
        (gate recs pol lim st epar).good = (fld st 31 16 + 1) % 65536) ∧
      (fld pol 31 16 ≠ 0 → fld pol 31 16 ≤ (fld st 31 16 + 1) % 65536 →
        (gate recs pol lim st epar).lsexp = min (lsExp st + 1) (sext 8 (fld lim 15 8)) ∧ (gate recs pol lim st epar).good = 0)) ∧
    ((∀ r ∈ recs, bit (wordAt r 0) 29 = false ∧ fld (wordAt r 0) 28 27 < 2) → (∃ r ∈ recs, bit (wordAt r 0) 30 = true) →
      (gate recs pol lim st epar).outcome = 1 ∧ (gate recs pol lim st epar).good = 0 ∧ (gate recs pol lim st epar).epar = epar ∧
      (gate recs pol lim st epar).lsexp = max (lsExp st - fld pol 15 12) (sext 8 (fld lim 7 0))))

/-- R21, R301 to R303, R321: a MUPD issues with each member's lines to do; a line update writes the line once, and its
staging words where XEN is set, and with its last line a member ends; deltas that lie in the peer window are asked of
their module first. A unit that fails stops the whole MUPD with FAULT (that it stops every member is the model's
choice, log entry 51). -/
def Obligations.MasterUpdateRuns : Prop :=
  (∀ (s : State) (c : Cmd), s.dev.ready qMupd = some c → s.dev.train.mupd = none → s.dev.runs wMupd = true → mupdBad s.dev c = none →
    (∀ m ∈ mupdChans c, 0 < linesOn m (pairDA (wordAt (s.dev.descWords (sramDA (c.word 4)) 16)) 0)
      (mLines (wordAt (s.dev.descWords (sramDA (c.word 4)) 16)))) →
    ∃ t, exec .mupd s = .next (s.withDev t) ∧ t.core = (s.dev.popCmd qMupd).core ∧ ∃ r, t.train.mupd = some r ∧ r.cmd = c ∧
      r.D = s.dev.descWords (sramDA (c.word 4)) 16 ∧ r.lines = [] ∧ r.asks = [] ∧ r.mems.map Prod.fst = mupdChans c) ∧
  (∀ (s : State) (m : Fin 8) (line : Nat) (r : MupdRun) (x : MupdMem), s.dev.train.mupd = some r →
    r.mems.find? (fun p => p.1 == m.val) = some (m.val, x) → line < mLines (wordAt r.D) →
    t1Stack (pairDA (wordAt r.D) 0 + 64 * line) = m.val → r.lines.contains line = false → s.dev.runs wMupd = true → 1 < x.left →
    s.dev.busyUnits = [] → s.dev.core.flaws = [] → s.dev.core.watch = none → regionOf (deltaDA (wordAt r.D) line) ≠ 0xE →
    (mget {} r.asks line : MupdAsk).need = [] →
    ∃ t, exec (.masterLineUpdate m line .none) s = .next (s.withDev t) ∧
      t.core.mem = (if bit (r.cmd.word 3) 26
        then (s.dev.write (pairDA (wordAt r.D) 0 + 64 * line) (mupdLine s.dev r line).1).write (pairDA (wordAt r.D) 7 + 64 * line) (mupdLine s.dev r line).2.1
        else s.dev.write (pairDA (wordAt r.D) 0 + 64 * line) (mupdLine s.dev r line).1).core.mem ∧
      ∃ q, t.train.mupd = some q ∧ q.lines.contains line = true ∧ q.cmd = r.cmd) ∧
  (∀ (s : State) (m : Fin 8) (line : Nat) (r : MupdRun) (x : MupdMem), s.dev.train.mupd = some r →
    r.mems.find? (fun p => p.1 == m.val) = some (m.val, x) → line < mLines (wordAt r.D) →
    t1Stack (pairDA (wordAt r.D) 0 + 64 * line) = m.val → r.lines.contains line = false → s.dev.runs wMupd = true →
    s.dev.busyUnits = [] → regionOf (deltaDA (wordAt r.D) line) = 0xE → (mget {} r.asks line : MupdAsk) = {} →
    ∃ t, exec (.masterLineUpdate m line .none) s = .next (s.withDev t) ∧ t.core.mem = s.dev.core.mem ∧ t.core.regs = s.dev.core.regs ∧
      ∃ q, t.train.mupd = some q ∧ q.lines = r.lines ∧ q.mems = r.mems ∧
        (mget {} q.asks line : MupdAsk) = { need := peerReads (deltaDA (wordAt r.D) line) 64 }) ∧
  (∀ (s : State) (m : Fin 8) (line st : Nat) (r : MupdRun) (x : MupdMem), s.dev.train.mupd = some r →
    r.mems.find? (fun p => p.1 == m.val) = some (m.val, x) → line < mLines (wordAt r.D) →
    t1Stack (pairDA (wordAt r.D) 0 + 64 * line) = m.val → r.lines.contains line = false → s.dev.runs wMupd = true → x.left = 1 →
    s.dev.busyUnits = [] → s.dev.core.flaws = [] → s.dev.core.watch = none → regionOf (deltaDA (wordAt r.D) line) ≠ 0xE →
    (mget {} r.asks line : MupdAsk).need = [] → st = (if x.pois = true ∨ anyPoison (mupdLine s.dev r line).1 = true then stPoisoned else stDone) →
    (∃ t, exec (.masterLineUpdate m line .none) s = .next (s.withDev t) ∧
      t.core.done = (s.dev.completePart r.cmd.cid 1 st (if st = stDone then 0 else 1) (uMrd m.val)).core.done ∧
      ((∃ q ∈ r.mems, q.1 ≠ m.val) → ∃ y, t.train.mupd = some y ∧ (∀ q ∈ y.mems, q.1 ≠ m.val) ∧ ∀ q ∈ r.mems, q.1 ≠ m.val → q ∈ y.mems) ∧
      ((∀ q ∈ r.mems, q.1 = m.val) → t.train.mupd = none ∧ t.train.mlast = r.cmd.seq)) ∧
    (∀ k, ∃ t, exec (.masterLineUpdate m line (.unitCheck k)) s = .next (s.withDev t) ∧ t.train.mupd = none ∧
      t.reg (mreg 2 0x10) = wd (2 ^ 31 + 4 * 2 ^ 28 + r.cmd.seq))) ∧
  (∀ (d : Device) (r : MupdRun) (line : Nat), (mupdLine d r line).1.length = 64 ∧ (mupdLine d r line).2.1.length = 64)

/-- R333, R341, R343, R344, R349: a job that breaks no rule of R343 starts, one that does is refused; a position to start
again, else the next free one, starts on a free decoder, but not on the one that failed on it. A stream's place in the
buffer overlaps no other. That a start comes by its own command on the decoder it names is the model's choice (log
entry 52). R345 to R348: the next position commits when its sample has ended and its slot has arrived: its counter
advances and the last one completes the job. A bad sample under MARK is counted and posted, and its slot holds zero
rows; one under STOP is recorded, whatever the record held, and ends the job with FAULT. A decode that runs out of
time ends with cause 7; one whose residue check fails is given up in silence, and ends with cause 8 the second time;
an abort ends the job, and leaves every byte outside the slots of uncommitted positions as it was. That a slot never
arrives where its die is in reset, and the order of causes, are the model's choice (log entry 52). -/
def Obligations.IngestJobsRun : Prop :=
  ((∀ (s : State) (c : Cmd), s.dev.ready qIng = some c → s.dev.ing.job = none → s.dev.runs wIng = true → ingBad s.dev c = none →
    s.dev.busyUnits = [] →
    ∃ t, exec .ingestJob s = .next (s.withDev t) ∧ t.reg (ingReg 0x18) = 0 ∧ t.core.mem = s.dev.core.mem ∧
      t.queue qIng = (s.dev.queue qIng).tail ∧ ∃ j, t.ing.job = some j ∧ j.cmd = c ∧
      j.D = s.dev.descWords (sramDA (c.word 3)) 32 ∧ j.next = 0 ∧ j.done = 0 ∧ j.samps = []) ∧
  (∀ (s : State) (c : Cmd) (ev : Nat), s.dev.ready qIng = some c → s.dev.ing.job = none → s.dev.runs wIng = true →
    ingBad s.dev c = some ev → s.dev.busyUnits = [] →
    ∃ t, exec .ingestJob s = .next (s.withDev t) ∧ t = s.dev.refuse qIng c ev uModule (if ev = 0x0411 then c.seqWord else 0) ∧
      t.ing.job = none ∧ t.core.mem = s.dev.core.mem ∧ t.core.regs = s.dev.core.regs) ∧
  (∀ (s : State) (dec : Fin 48) (flt : SampleFault) (j : IngJob), s.dev.runs wIng = true → s.dev.decoderRuns dec.val = true →
    s.dev.busyUnits = [] → s.dev.ing.job = some j → (∀ x ∈ j.samps, x.dec = dec.val → x.stage = .ended) →
    (∀ r ∈ j.redo, r.failed = some dec.val) → j.next < (j.d 10).toNat → (ingSlots j.d ≤ j.next → s.dev.slotMet j = true) →
    exec (.sampleStart dec flt) s = .next (s.withDev
      (s.dev.startSample { j with next := j.next + 1, free := false } { t := j.next } dec.val flt))) ∧
  (∀ (s : State) (dec : Fin 48) (flt : SampleFault) (j : IngJob) (r : Redo), s.dev.runs wIng = true → s.dev.decoderRuns dec.val = true →
    s.dev.busyUnits = [] → s.dev.ing.job = some j → (∀ x ∈ j.samps, x.dec = dec.val → x.stage = .ended) →
    j.redo.find? (fun r => r.failed != some dec.val) = some r →
    exec (.sampleStart dec flt) s = .next (s.withDev
      (s.dev.startSample { j with redo := j.redo.filter (fun x => x.t != r.t) } r dec.val flt))) ∧
  (∀ (j : IngJob) (size n o : Nat), j.findPlace size n = some o →
    ∀ p i k, p ∈ j.places → i < n → k < p.2 → (o + i) % size ≠ (p.1 + k) % size)) ∧
  ((∀ (s : State) (j : IngJob) (x : Sample), s.dev.runs wIng = true → s.dev.ing.job = some j →
    j.samps.find? (fun x => x.t == j.done && x.stage == .decode) = none →
    j.samps.find? (fun x => x.t == j.done && x.stage == .ended) = some x → x.cause = 0 → x.lost = false →
    s.dev.busyUnits = [] →
    ∃ t, exec .sampleCommit s = .next (s.withDev t) ∧ t.reg (ingReg 0x18) = wd (j.done + 1) ∧ t.core.mem = s.dev.core.mem ∧
      (j.done + 1 < (j.d 10).toNat → s.dev.dieInReset (fld (j.d 15) 31 30) = false →
        t.sync (fld (j.d 15) 31 30) (fld (j.d 15) 27 20) = (s.dev.sync (fld (j.d 15) 31 30) (fld (j.d 15) 27 20) + 1) % 2 ^ 16 ∧
        t.ing.job.map (·.done) = some (j.done + 1)) ∧
      ((j.d 10).toNat ≤ j.done + 1 → t.ing.job = none ∧ t.ing.stopped = false ∧ t.ing.last = j.cmd.seq)) ∧
  (∀ (s : State) (j : IngJob) (x : Sample), s.dev.runs wIng = true → s.dev.ing.job = some j →
    j.samps.find? (fun x => x.t == j.done && x.stage == .decode) = none →
    j.samps.find? (fun x => x.t == j.done && x.stage == .ended) = some x → x.cause ≠ 0 → bit (j.d 18) 19 = true → s.dev.busyUnits = [] →
    ∃ t, exec .sampleCommit s = .next (s.withDev t) ∧ t.ing.job = none ∧ t.ing.stopped = true ∧
      t.reg (ingReg 0x18) = s.dev.reg (ingReg 0x18) ∧
      t.reg (ingReg 0x20) = wd (2 ^ 31 + x.cause * 2 ^ 27 + x.dec * 2 ^ 21 + j.cmd.seq) ∧ t.reg (ingReg 0x24) = wd x.t ∧
      t.core.done = (s.dev.finish j.cmd stFault).core.done ∧
      ∃ l, t.core.evq.map Event.code = s.dev.core.evq.map Event.code ++ 0x0412 :: l) ∧
  (∀ (s : State) (j : IngJob) (x : Sample), s.dev.runs wIng = true → s.dev.ing.job = some j →
    j.samps.find? (fun x => x.t == j.done && x.stage == .decode) = none →
    j.samps.find? (fun x => x.t == j.done && x.stage == .ended) = some x → x.cause ≠ 0 → bit (j.d 18) 19 = false → s.dev.busyUnits = [] →
    (x.lost = true → exec .sampleCommit s = .next s) ∧
    (x.lost = false → ∃ t, exec .sampleCommit s = .next (s.withDev t) ∧ t.reg (ingReg 0x18) = wd (j.done + 1) ∧
      t.reg (ingReg 0x1C) = wd (min ((s.dev.reg (ingReg 0x1C)).toNat + 1) 0xFFFFFFFF) ∧
      (bit (s.dev.reg (ingReg 0x20)) 31 = true → t.reg (ingReg 0x20) = s.dev.reg (ingReg 0x20)) ∧
      (bit (s.dev.reg (ingReg 0x20)) 31 = false → t.reg (ingReg 0x20) = wd (2 ^ 31 + x.cause * 2 ^ 27 + x.dec * 2 ^ 21 + j.cmd.seq)) ∧
      (t.core.evq.map Event.code).take (s.dev.core.evq.length + 1) = s.dev.core.evq.map Event.code ++ [0x0412] ∧ t.core.mem = s.dev.core.mem)) ∧
  (∀ (e : Device) (j : IngJob) (x : Sample) (g : IngGeo) (rows scales : List Byte) (a : Nat), x.cause ≠ 0 → x.cause ≤ 3 → bit (j.d 18) 19 = false →
    g = ingGeo j.d → a = slotDA j x.t → rows = List.replicate (g.fmt.bytes (g.rows * g.k)) 0 →
    scales = (if g.fmt.scaled then List.replicate (g.rows * (g.k / 32)) 0x7F else []) →
    (e.endSample j x).core.mem = (((e.write (a + 0x1000) (clean rows)).write (a + g.sOff) (clean scales)).write a
      (clean (wordsToBytes (slotHeader j x 0 0 g.rows (crc32c (rows ++ scales)))))).core.mem) ∧
  (∀ (s : State) (dec : Fin 48) (j : IngJob) (x : Sample), s.dev.ing.job = some j →
    j.samps.find? (fun x => x.dec == dec.val && x.stage == .decode) = some x → j.d 21 ≠ 0 →
    s.dev.decoderRuns dec.val = true → s.dev.expired (.decode dec.val x.t) (1000 * (j.d 21).toNat) = true → s.dev.busyUnits = [] →
    exec (.decodeTimeout dec) s = .next (s.withDev (s.dev.endSample j { x with cause := 7 }))) ∧
  (∀ (s : State) (j : IngJob), s.dev.ing.job = some j → s.dev.runs wIng = true → ∃ t, exec .ingAbort s = .next (s.withDev t) ∧ t.ing.job = none ∧
    t.ing.stopped = false ∧ t.ing.last = j.cmd.seq ∧ t.core.regs = s.dev.core.regs ∧
    ∀ a, (∀ x i, j.done ≤ x → x < j.next → i < (j.d 13).toNat → canonAddr a ≠ canonAddr (slotDA j x + i)) →
      (t.readByte a).1 = (s.dev.readByte a).1) ∧
  (∀ (e : Device) (j : IngJob) (x : Sample), x.cause ≠ 0 → bit (j.d 18) 19 = true → (e.endSample j x).core = e.core) ∧
  (∀ (e : Device) (j : IngJob) (x : Sample), x.flt = .decoder → x.failed = none →
    (e.decodeEnds j x).core = e.core ∧ ∃ q, (e.decodeEnds j x).ing.job = some q ∧ q.done = j.done ∧ q.next = j.next ∧
      (∀ y ∈ q.samps, y.t ≠ x.t) ∧ ∃ r ∈ q.redo, r.t = x.t ∧ r.failed = some x.dec ∧ r.place = x.held) ∧
  (∀ (e : Device) (j : IngJob) (x : Sample) (n : Nat), x.flt = .decoder → x.failed = some n →
    e.decodeEnds j x = e.endSample j { x with cause := 8 }) ∧
  (∀ (e : Device) (j : IngJob) (x : Sample) (i : Config.Decoded), x.flt ≠ .decoder →
    i = Config.decodeInfo x.codec (values x.bytes) (lastFrame j) →
    ∃ (d : Device) (k : Nat), e.decodeEnds j x = d.endSample j { x with cause := decodeCause j x.codec i } ∧ d.core.mem = e.core.mem ∧ k ≤ lastFrame j + 1 ∧
      join (d.reg (ingReg 0x38)) (d.reg (ingReg 0x3C)) = (join (e.reg (ingReg 0x38)) (e.reg (ingReg 0x3C)) + k) % 2 ^ 64 ∧
      (decodeCause j x.codec i = 0 → k = lastFrame j + 1)))

/-- R351: a test evaluation takes the words as they stand when GO is written and leaves a running job alone; while it is
busy GO is ignored and the result is the previous one; a position at or past N gives 0 with WALK 0. -/
def Obligations.PermTestRuns : Prop :=
  ∀ (s : State) (n j : Nat) (v : Word), s.dev.ing.test = none → n = dPair (fun k => s.dev.reg (ingReg (0x80 + 4 * k))) 3 15 + 1 →
    j = dPair (fun k => s.dev.reg (ingReg (0x80 + 4 * k))) 5 15 →
    ∃ t u, exec .permTestEvaluation s = .next (s.withDev t) ∧ bit (t.reg (ingReg 0xA4)) 31 = true ∧
      t.reg (ingReg 0xA0) = s.dev.reg (ingReg 0xA0) ∧ fld (t.reg (ingReg 0xA4)) 30 0 = fld (s.dev.reg (ingReg 0xA4)) 30 0 ∧
      t.ing.job = s.dev.ing.job ∧
      exec .permTestEvaluation (s.withDev (t.setReg (ingReg 0x88) v)) = .next (s.withDev (t.setReg (ingReg 0x88) v)) ∧
      exec .permTestDone (s.withDev (t.setReg (ingReg 0x88) v)) = .next (s.withDev u) ∧ bit (u.reg (ingReg 0xA4)) 31 = false ∧
      u.ing.job = s.dev.ing.job ∧
      (j < n → u.reg (ingReg 0xA0) =
        lo32 (perm (s.dev.reg (ingReg 0x80)) (s.dev.reg (ingReg 0x84)) (s.dev.reg (ingReg 0x88)) n j).1) ∧
      (n ≤ j → u.reg (ingReg 0xA0) = 0 ∧ u.reg (ingReg 0xA4) = 0)

/-- R358 to R360: a good data flit is accepted exactly when its FSEQ is the one expected, and then its packets and credits
are delivered; an acknowledgement frees what it covers; a replay starts again from the oldest flit; credits go back in
a data flit. What a trailer's acknowledgement does, when a replay starts and which packet goes next rest on log 54. -/
def Obligations.DataFlitsAreSequencedAndReplayed : Prop :=
  (∀ (s : State) (p : Fin 16) (f : Flit), (s.dev.port p.val).up = true → f.p.toNat.testBit 19 = true → flitGood f = true →
    ∃ t, exec (.dataFlit p f) s = .next (s.withDev t) ∧ t.core.mem = s.dev.core.mem ∧ t.out = s.dev.out ∧
      (t.port p.val).txNext = (s.dev.port p.val).txNext ∧ (t.port p.val).state = (s.dev.port p.val).state ∧
      (∀ q, q ≠ p.val → t.port q = s.dev.port q) ∧
      (fld (trailerWord f 0) 31 20 = (s.dev.port p.val).rxNext → (t.port p.val).rxNext = ((s.dev.port p.val).rxNext + 1) % 4096 ∧
        (t.port p.val).ackv = true ∧ (t.port p.val).nak = false ∧
        (t.port p.val).cred = ((s.dev.port p.val).cred.zip (flitReturns f)).map (fun c => c.1 + c.2) ∧
        (f.p.toNat % 2 ^ 19 = 1 → hdrSlots (f.slots.getD 0 []) = 0 → Packet.bad { h := f.slots.getD 0 [] } = false →
          (t.port p.val).rx = (s.dev.port p.val).rx ++ [({ h := f.slots.getD 0 [] }, true)])) ∧
      (fld (trailerWord f 0) 31 20 ≠ (s.dev.port p.val).rxNext → (t.port p.val).rxNext = (s.dev.port p.val).rxNext ∧
        (t.port p.val).nak = true ∧ (t.port p.val).cred = (s.dev.port p.val).cred ∧ (t.port p.val).rx = (s.dev.port p.val).rx ∧
        (t.port p.val).part = (s.dev.port p.val).part) ∧
      (∀ k, bit (trailerWord f 0) 7 = true → 0 < k → k ≤ (s.dev.port p.val).replay.length →
        k = (fld (trailerWord f 0) 19 8 + 4097 - ((s.dev.port p.val).txNext + 4096 - (s.dev.port p.val).replay.length) % 4096) % 4096 →
        (t.port p.val).replay = (s.dev.port p.val).replay.drop k ∧ (t.port p.val).replays = 0)) ∧
  (∀ (s : State) (p : Fin 16) (f : Flit), (s.dev.port p.val).up = true → f.p.toNat.testBit 19 = true → flitGood f = false →
    exec (.dataFlit p f) s = .next (s.withDev ((s.dev.codeword p.val f).setPort p.val { (s.dev.port p.val) with nak := true }))) ∧
  (∀ (s : State) (p : Fin 16) (f : Flit), f.p.toNat.testBit 19 = false → flitGood f = true →
    (fld (wordAt (f.slots.getD 0 []) 0) 31 28 = 1 → ((s.dev.port p.val).state = 1 ∨ (s.dev.port p.val).state = 4) →
      exec (.controlFlit p f) s = .next (s.withDev ((s.dev.codeword p.val f).setPort p.val
        { (s.dev.port p.val) with
          lock := (s.dev.port p.val).lock ||| 2 ^ fld (wordAt (f.slots.getD 0 []) 0) 23 21
          heard := (s.dev.port p.val).heard ||| 2 ^ fld (wordAt (f.slots.getD 0 []) 0) 23 21
          told := some (bit (wordAt (f.slots.getD 0 []) 0) 25, bit (wordAt (f.slots.getD 0 []) 0) 24,
            fld (wordAt (f.slots.getD 0 []) 1) 31 20) }))) ∧
    (fld (wordAt (f.slots.getD 0 []) 0) 31 28 = 2 → (s.dev.port p.val).up = true →
      exec (.controlFlit p f) s = .next (s.withDev ((s.dev.codeword p.val f).ackTrailer p.val (trailerWord f 0))))) ∧
  (∀ (s : State) (p : Fin 16), (s.dev.port p.val).up = true → (∃ c ∈ (s.dev.port p.val).ret, c ≠ 0) →
    (s.dev.port p.val).replay.length < 2048 → (s.dev.port p.val).sent = (s.dev.port p.val).replay.length →
    (s.dev.port p.val).ret.length = 7 → (∀ c ∈ (s.dev.port p.val).ret, c < 4096) →
    ∃ t f, exec (.creditReturn p) s = .next (s.withDev t) ∧ t.out = s.dev.out ++ [Out.flit p.val f] ∧
      flitReturns f = (s.dev.port p.val).ret ∧ fld (trailerWord f 0) 31 20 = (s.dev.port p.val).txNext % 4096 ∧
      (t.port p.val).ret = List.replicate 7 0 ∧ (t.port p.val).txNext = ((s.dev.port p.val).txNext + 1) % 4096 ∧
      (t.port p.val).replay.map Prod.fst = (s.dev.port p.val).replay.map Prod.fst ++ [f]) ∧
  (∀ (s : State) (p : Fin 16) (f : Flit × Nat) (l : List (Flit × Nat)), (s.dev.port p.val).up = true →
    (s.dev.port p.val).replay = f :: l →
    ((s.dev.port p.val).nakDue = true ∨ (s.dev.port p.val).sent ≠ 0 ∧ f.2 + 4000 ≤ s.dev.time (p.val / 4)) →
    ∃ t, exec (.replay p) s = .next (s.withDev t) ∧ (t.port p.val).replay = (s.dev.port p.val).replay ∧
      (t.port p.val).nakDue = false ∧
      ((s.dev.port p.val).replays < 8 → (t.port p.val).sent = 0 ∧ (t.port p.val).replays = (s.dev.port p.val).replays + 1 ∧
        (t.port p.val).state = (s.dev.port p.val).state ∧ t.core.evq = s.dev.core.evq) ∧
      (8 ≤ (s.dev.port p.val).replays → (t.port p.val).state = 4 ∧ (t.port p.val).former = (s.dev.port p.val).state ∧
        t.core.evq.map Event.code = s.dev.core.evq.map Event.code ++ [0x0601])) ∧
  (∀ (s : State) (p : Fin 16) (f : Flit × Nat) (l : List (Flit × Nat)), (s.dev.port p.val).replay = f :: l →
    (s.dev.port p.val).nakDue = false → ((s.dev.port p.val).sent = 0 ∨ s.dev.time (p.val / 4) < f.2 + 4000) →
    exec (.replay p) s = .next s)

/-- R26, R361 to R364, R497: how a port is enabled, trains, is admitted, retrains, loses its link and is disabled; in a
module that has FAILED none is enabled, and no lane launches more than 3.0 dBm. When receivers lock, and what drive
they ask for, is open (log entry 54). -/
def Obligations.PortsChangeState : Prop :=
  (∀ (s : State) (p : Fin 16), s.dev.pwr.state = .failed → exec (.portEnable p) s = .next s) ∧
  (∀ (s : State) (p : Fin 16), s.dev.pwr.state ≠ .failed → ∃ t, exec (.portEnable p) s = .next (s.withDev t) ∧ bit (t.reg (fabReg p.val 0)) 31 = true ∧
    ((s.dev.port p.val).state = 0 → (t.port p.val).state = 1) ∧ ((s.dev.port p.val).state ≠ 0 → t.port p.val = s.dev.port p.val)) ∧
  (∀ (s : State) (p : Fin 16), ∃ t, exec (.portDisable p) s = .next (s.withDev t) ∧ bit (t.reg (fabReg p.val 0)) 31 = false ∧
    (t.port p.val).state = 0 ∧ (t.port p.val).txq = [] ∧ (t.port p.val).replay = []) ∧
  (∀ (s : State) (p : Fin 16) (v : Bool), ∃ t, exec (.portAdmit p v) s = .next (s.withDev t) ∧
    bit (t.reg (fabReg p.val 0)) 30 = v ∧ (t.port p.val).txq = (s.dev.port p.val).txq ∧
    (t.port p.val).state = (if v = true ∧ (s.dev.port p.val).state = 2 ∧ (s.dev.port p.val).dup = false then 3
      else if v = false ∧ (s.dev.port p.val).state = 3 then 2 else (s.dev.port p.val).state)) ∧
  (∀ (s : State) (p : Fin 16) (resume : Bool) (n : Nat), (s.dev.port p.val).told = some (true, resume, n) →
    (s.dev.port p.val).lock = 0xFF → (s.dev.port p.val).heard = 0xFF →
    s.dev.expired (.ready p.val (s.dev.port p.val).attempt) 1000 = true →
    (((s.dev.port p.val).state = 1 ∨ (s.dev.port p.val).state = 4 ∧ resume = false) →
      ∃ t, exec (.trainingComplete p resume n) s = .next (s.withDev t) ∧ (t.port p.val).state = 2 ∧ (t.port p.val).txNext = 0 ∧
        (t.port p.val).rxNext = 0 ∧ (t.port p.val).cred = [2560, 2560, 2560, 2560, 2560, 2560, 1024] ∧ (t.port p.val).replay = [] ∧
        bit (t.reg (fabReg p.val 0)) 30 = false) ∧
    ((s.dev.port p.val).state = 4 → resume = true →
      ∃ t, exec (.trainingComplete p resume n) s = .next (s.withDev t) ∧ (t.port p.val).state = (s.dev.port p.val).former ∧
        (t.port p.val).sent = 0 ∧ (t.port p.val).replays = 0 ∧ (t.port p.val).txq = (s.dev.port p.val).txq ∧
        (t.port p.val).cred = (s.dev.port p.val).cred ∧ (t.port p.val).rxNext = (s.dev.port p.val).rxNext ∧
        ∃ k, (t.port p.val).replay = (s.dev.port p.val).replay.drop k)) ∧
  (∀ (s : State) (p : Fin 16) (resume : Bool) (n : Nat), ((s.dev.port p.val).lock ≠ 0xFF ∨ (s.dev.port p.val).heard ≠ 0xFF ∨
      (s.dev.port p.val).told ≠ some (true, resume, n)) →
    exec (.trainingComplete p resume n) s = .next s) ∧
  (∀ (s : State) (p : Fin 16), ((s.dev.port p.val).state = 1 ∨ (s.dev.port p.val).state = 4 ∧ (s.dev.port p.val).tries < 3) →
    s.dev.expired (.training p.val (s.dev.port p.val).attempt) 250000 = true →
    ∃ t, exec (.trainingAttemptTimeout p) s = .next (s.withDev t) ∧ (t.port p.val).state = (s.dev.port p.val).state ∧
      (t.port p.val).lock = 0 ∧ (t.port p.val).heard = 0 ∧ (t.port p.val).told = none ∧
      (t.port p.val).attempt = (s.dev.port p.val).attempt + 1 ∧ (t.port p.val).replay = (s.dev.port p.val).replay ∧
      ((s.dev.port p.val).state = 4 → (t.port p.val).tries = (s.dev.port p.val).tries + 1) ∧ t.core.evq = s.dev.core.evq) ∧
  (∀ (s : State) (p : Fin 16), (s.dev.port p.val).state = 4 → 3 ≤ (s.dev.port p.val).tries →
    s.dev.expired (.training p.val (s.dev.port p.val).attempt) 250000 = true →
    ∃ t, exec (.trainingAttemptTimeout p) s = .next (s.withDev t) ∧ (t.port p.val).state = 1 ∧ (t.port p.val).replay = [] ∧
      (t.port p.val).txq = [] ∧ (t.port p.val).peer = { (s.dev.port p.val).peer with valid := false } ∧
      t.core.regs = s.dev.core.regs ∧
      ∃ e ∈ t.core.evq, e.code = 0x0602 ∧ e.unit = uPort p.val ∧ e.data = wd (s.dev.port p.val).replay.length) ∧
  (∀ (i : Fin 16 → Instr) (cause : Nat), (i = .retrain ∧ cause = 3) ∨ (∃ lane, i = (fun p => .lossOfSignal p lane) ∧ cause = 2) →
    ∀ (s : State) (p : Fin 16), (s.dev.port p.val).up = true →
    ∃ t, exec (i p) s = .next (s.withDev t) ∧ t.port p.val = { (s.dev.port p.val) with
                                                               state := 4
                                                               former := (s.dev.port p.val).state
                                                               tries := 0
                                                               lock := 0
                                                               heard := 0
                                                               told := none
                                                               attempt := (s.dev.port p.val).attempt + 1
                                                               drive := (t.port p.val).drive } ∧
      t.core.evq = s.dev.core.evq ++ [Event.mk 0x0601 (uPort p.val) (wd (cause * 2 ^ 28)) (p.val / 4) (s.dev.time (p.val / 4))]) ∧
  (∀ (s : State) (p : Fin 16) (lane : Fin 8), (s.dev.port p.val).up = false →
    ∃ t, exec (.lossOfSignal p lane) s = .next (s.withDev t) ∧ (t.port p.val).state = (s.dev.port p.val).state ∧
      (t.port p.val).lock.testBit lane.val = false ∧ (t.port p.val).heard.testBit lane.val = false ∧ t.core = s.dev.core) ∧
  (∀ (x : Port) (lane : Nat), x.launch lane ≤ 30 ∧ (x.clamped = true ↔ ∃ n < 8, 30 < x.drive.getD n 0))

/-- R356, R363, R375, R376, R378 to R380: what a codeword time sends on a port that trains or has nothing to send, and how
keepalives, generation announcements and link-state records are sent and taken. What a keepalive of a new partner
does, and how a link-state record goes on, rest on log 57. -/
def Obligations.NeighboursExchangeTheirState : Prop :=
  (∀ (s : State) (p : Fin 16), (∀ die, die < 4 → ∀ r, (s.dev.colOf die).run = some r → r.wait = []) →
    (s.dev.port p.val).up = true → (s.dev.port p.val).replay[(s.dev.port p.val).sent]? = none → (s.dev.port p.val).ready = false →
    ∃ (t : Device) (fs : List Flit), exec (.codewordTime p) s = .next (s.withDev t) ∧ t.out = s.dev.out ++ fs.map (Out.flit p.val) ∧ fs.length = 8 ∧
      t.fab = s.dev.fab ∧ t.core = s.dev.core ∧
      ∀ f ∈ fs, flitGood f = true ∧ f.p = 0 ∧ fld (trailerWord f 0) 19 8 = ((s.dev.port p.val).rxNext + 4095) % 4096 ∧
        bit (trailerWord f 0) 7 = (s.dev.port p.val).ackv ∧ bit (trailerWord f 0) 6 = (s.dev.port p.val).nak ∧
        wordAt (f.slots.getD 0 []) 0 = wd (2 * 2 ^ 28)) ∧
  (∀ (s : State) (p : Fin 16), (∀ die, die < 4 → ∀ r, (s.dev.colOf die).run = some r → r.wait = []) →
    ((s.dev.port p.val).state = 1 ∨ (s.dev.port p.val).state = 4) →
    ∃ (t : Device) (outs : List Out), exec (.codewordTime p) s = .next (s.withDev t) ∧ t.out = s.dev.out ++ outs ∧ outs.length = 8 ∧
      t.port p.val = { (s.dev.port p.val) with lock := (t.port p.val).lock } ∧
      (∀ n, (s.dev.port p.val).lock.testBit n = true → (t.port p.val).lock.testBit n = true) ∧
      ∀ lane o, outs[lane]? = some o → ((t.port p.val).lock.testBit lane = false → o = .prbs p.val lane) ∧
        ((t.port p.val).lock.testBit lane = true → ∃ f, o = .flit p.val f ∧ flitGood f = true ∧ f.p = 0 ∧
          fld (wordAt (f.slots.getD 0 []) 0) 31 28 = 1 ∧ fld (wordAt (f.slots.getD 0 []) 0) 23 21 = lane ∧
          bit (wordAt (f.slots.getD 0 []) 0) 24 = decide ((s.dev.port p.val).state = 4) ∧
          bit (wordAt (f.slots.getD 0 []) 0) 25 = decide ((t.port p.val).lock = 0xFF ∧ (s.dev.port p.val).heard = 0xFF) ∧
          fld (wordAt (f.slots.getD 0 []) 1) 31 20 = (s.dev.port p.val).rxNext % 4096)) ∧
  (∀ (s : State) (p : Fin 16), (s.dev.port p.val).up = true → ∃ k, exec (.keepalive p) s = .next (s.withDev (s.dev.queueAt p.val k)) ∧
    k.pt = 7 ∧ k.src = s.dev.selfMod ∧ k.sgen = s.dev.selfGen ∧ fld (k.w 2) 31 28 = 0 ∧ fld (k.w 2) 27 24 = p.val ∧
    fld (k.w 2) 23 21 = (s.dev.port p.val).state) ∧
  (∀ (s : State) (p : Fin 16), (s.dev.port p.val).up = false → exec (.keepalive p) s = .next s) ∧
  (∀ (s : State) (p : Fin 16) (k : Packet) (e : Device), s.dev.takeRx p.val (fun k => k.pt == 7) = some (k, e) → (s.dev.port p.val).up = true →
    ∃ t, exec (.ka p) s = .next (s.withDev t) ∧ (t.port p.val).peer = k.identity ∧
      ((s.dev.port p.val).fresh = true → (t.port p.val).fresh = false ∧
        ∃ v ∈ t.core.evq, v.code = 0x0603 ∧ v.unit = uPort p.val ∧ v.data = k.identity.word) ∧
      ((s.dev.port p.val).peer.valid = true → ((s.dev.port p.val).peer.module ≠ k.identity.module ∨
          (s.dev.port p.val).peer.port ≠ k.identity.port ∨ (s.dev.port p.val).peer.kind ≠ k.identity.kind) →
        (t.port p.val).state = 2 ∧ bit (t.reg (fabReg p.val 0)) 30 = false ∧
        ∃ v ∈ t.core.evq, v.code = 0x0604 ∧ v.unit = uPort p.val ∧ v.data = k.identity.word) ∧
      (k.identity.module = s.dev.selfMod → k.identity.kind = 0 → (t.port p.val).dup = true ∧ (t.port p.val).state = 2 ∧
        ∃ v ∈ t.core.evq, v.code = 0x0605 ∧ v.unit = uPort p.val ∧ v.data = k.identity.word) ∧
      ((s.dev.port p.val).fresh = false → (s.dev.port p.val).peer = k.identity →
        (k.identity.module ≠ s.dev.selfMod ∨ k.identity.kind ≠ 0) → (t.port p.val).state = (s.dev.port p.val).state ∧ t.core = s.dev.core)) ∧
  (∀ (s : State) (p : Fin 16) (k : Packet) (e : Device), s.dev.takeMine p.val 6 = some (k, e) →
    ∃ t, exec (.genann p) s = .next (s.withDev t) ∧
      ((bit (k.w 2) 16 = true ∨ (k.sgen + 256 - (s.dev.route k.src).lgen) % 256 ≤ 127) → (t.route k.src).lgen = k.sgen) ∧
      (bit (k.w 2) 16 = false → 128 ≤ (k.sgen + 256 - (s.dev.route k.src).lgen) % 256 → t = e.count (rteReg 0x28)) ∧
      (1 ≤ (k.sgen + 256 - (s.dev.route k.src).lgen) % 256 → (k.sgen + 256 - (s.dev.route k.src).lgen) % 256 ≤ 127 →
        ∃ v ∈ t.core.evq, v.code = 0x0606 ∧ v.data = wd (k.sgen * 2 ^ 24 + k.src))) ∧
  (∀ (s : State) (p : Fin 16) (k : Packet) (e : Device) (w : List Word), s.dev.takeRx p.val (fun k => k.pt == 8) = some (k, e) →
    w = bytesToWords (k.body.length / 4) k.body →
    (mget [] s.dev.fab.lsdb (fld (wordAt w 0) 14 0) = [] ∨ mget 0 s.dev.fab.lsa (fld (wordAt w 0) 14 0) < (wordAt w 1).toNat →
      ∃ t, exec (.lsa p) s = .next (s.withDev t) ∧ mget [] t.fab.lsdb (fld (wordAt w 0) 14 0) = w ∧
        mget 0 t.fab.lsa (fld (wordAt w 0) 14 0) = (wordAt w 1).toNat ∧ (t.port p.val).txq = (s.dev.port p.val).txq ∧
        ∀ q, q < 16 → q ≠ p.val →
          ((s.dev.port q).up = false → t.port q = s.dev.port q) ∧
          ((s.dev.port q).up = true → ∃ g, (t.port q).txq = (s.dev.port q).txq ++ [g] ∧ g.body = k.body ∧ g.pt = 8)) ∧
    (mget [] s.dev.fab.lsdb (fld (wordAt w 0) 14 0) ≠ [] → (wordAt w 1).toNat ≤ mget 0 s.dev.fab.lsa (fld (wordAt w 0) 14 0) →
      exec (.lsa p) s = .next (s.withDev e)))

/-- R372, R373, R375: a request to this module's window (or, for DRD, to its memory) with the recorded generation tag is
served, or refused and recorded, and its reply leaves on a candidate port with the request's tag; a stale tag drops
it; a new one is learned. That memory held by a reset answers REFUSED, and that an access waits at a busy bank like
one of this module, rest on log 56; no trial is under way (log 74). -/
def Obligations.RequestsAreServed : Prop :=
  ∀ (i : Fin 16 → Instr) (pt : Nat), (i = .wr ∧ pt = 1) ∨ (i = .rd ∧ pt = 3) ∨ (i = .drd ∧ pt = 9) →
  ∀ (s : State) (p : Fin 16) (k : Packet) (e : Device), s.dev.takeMine p.val pt = some (k, e) → k.src ≠ s.dev.selfMod →
    s.dev.busyUnits = [] →
    (128 ≤ (k.sgen + 256 - (s.dev.route k.src).lgen) % 256 → exec (i p) s = .next (s.withDev (e.count (rteReg 0x28)))) ∧
    (1 ≤ (k.sgen + 256 - (s.dev.route k.src).lgen) % 256 → (k.sgen + 256 - (s.dev.route k.src).lgen) % 256 ≤ 127 →
      ∃ t, exec (i p) s = .next (s.withDev t) ∧ (t.route k.src).lgen = k.sgen ∧
        ∃ v ∈ t.core.evq, v.code = 0x0606 ∧ v.data = wd (k.sgen * 2 ^ 24 + k.src)) ∧
    (∀ st, (s.dev.route k.src).lgen = k.sgen → s.dev.core.flaws = [] → s.dev.core.watch = none →
      st = (if (s.dev.reach k).2 ≠ 0 then (s.dev.reach k).2 else if s.dev.memHeld (s.dev.reach k).1 = true then 1 else 0) →
      ∃ t, exec (i p) s = .next (s.withDev t) ∧
        (st = 0 → pt = 1 → t.core.mem = (s.dev.write (s.dev.reach k).1 (mark k.poison (k.body.take k.len))).core.mem) ∧
        (st ≠ 0 ∨ pt ≠ 1 → t.core.mem = s.dev.core.mem) ∧ (st ≠ 0 → bit (t.reg (rteReg 0x20)) 3 = true) ∧
        ((s.dev.route k.src).valid = true → s.dev.candidates (s.dev.route k.src).pm ≠ [] →
          ∃ q r, q ∈ s.dev.candidates (s.dev.route k.src).pm ∧ (t.port q).txq = (s.dev.port q).txq ++ [r] ∧ r.dst = k.src ∧
            r.tag = k.tag ∧ r.rgen = k.sgen ∧ r.sgen = s.dev.selfGen ∧ r.rstat = st ∧ r.pt = (if pt = 1 then 2 else 4) ∧
            r.body = (if st = 0 ∧ pt ≠ 1 then values (s.dev.readBytes (s.dev.reach k).1 k.len) else [])))

/-- R374: a request takes a tag and leaves with it; its reply frees the tag; a reply that matches no outstanding request
is dropped and counted; a request without a reply is lost, and its tag is held back until it may be used again. The
lowest free tag is log 55; that the limit has run out since a tick armed it is log 10; requests that find no room wait
outside the queue (log 56). -/
def Obligations.RequestsAndRepliesMatchByTag : Prop :=
  (∀ (s : State) (die tag : Nat) (r : PeerReq) (l : List (Nat × PeerReq)), s.dev.inj = (die, r) :: l →
    s.dev.freeTag (s.dev.fab.tags.length + s.dev.fab.quar.length + 1) 0 = some tag → r.len ≤ 512 → r.off < 2 ^ 52 → r.dst < 2 ^ 15 →
    r.kind < 3 → r.off / 512 = (r.off + r.len - 1) / 512 → r.dst ≠ s.dev.selfMod → (s.dev.route r.dst).valid = true →
    s.dev.candidates (s.dev.route r.dst).pm ≠ [] → s.dev.busyUnits = [] →
    ∃ t q k, exec .peerRequest s = .next (s.withDev t) ∧ (s.dev.injw = [] → t.inj = l) ∧
      t.core = { s.dev.core with armed := t.core.armed } ∧ t.core.armed.lookup (.reply tag) = none ∧
      mget none s.dev.fab.tags tag = none ∧ tag ∉ s.dev.fab.quar ∧
      mget none t.fab.tags tag = some { kind := r.kind, dst := r.dst, who := r.who } ∧
      (∀ x, x ≠ tag → mget none t.fab.tags x = mget none s.dev.fab.tags x) ∧
      q ∈ s.dev.candidates (s.dev.route r.dst).pm ∧ (t.port q).txq = (s.dev.port q).txq ++ [k] ∧ k.tag = tag ∧ k.len = r.len ∧
      k.dst = r.dst ∧ k.offset = r.off ∧ k.body = values r.data ∧ k.sgen = s.dev.selfGen) ∧
  (∀ (i : Fin 16 → Instr) (pt : Nat), (i = .wack ∧ pt = 2) ∨ (i = .rdr ∧ pt = 4) →
    ∀ (s : State) (p : Fin 16) (k : Packet) (e : Device), s.dev.takeMine p.val pt = some (k, e) → (s.dev.route k.src).lgen = k.sgen →
    s.dev.busyUnits = [] →
    (∀ x, mget none s.dev.fab.tags k.tag = some x → k.rgen = s.dev.selfGen → (pt = 2 ↔ x.kind = 0) →
      ∃ t, exec (i p) s = .next (s.withDev t) ∧ mget none t.fab.tags k.tag = none ∧
        (∀ y, y ≠ k.tag → mget none t.fab.tags y = mget none s.dev.fab.tags y) ∧
        ∀ die n wr, x.who = .dmaWrite die n wr → ∀ w ∈ (t.chan die n).writes, w.id = wr → w.peer = false) ∧
    (mget none s.dev.fab.tags k.tag = none ∨ k.rgen ≠ s.dev.selfGen →
      ∃ t, exec (i p) s = .next (s.withDev t) ∧ t.core = (s.dev.count (rteReg 0x28)).core ∧ t.fab.tags = s.dev.fab.tags)) ∧
  (∀ (s : State) (tag : BitVec 16) (x : TagEnt), mget none s.dev.fab.tags tag.toNat = some x →
    s.dev.expired (.reply tag.toNat) s.dev.e2eTmo = true → s.dev.busyUnits = [] →
    ∃ t, exec (.e2eTimeout tag) s = .next (s.withDev t) ∧ mget none t.fab.tags tag.toNat = none ∧ tag.toNat ∈ t.fab.quar ∧
      bit (t.reg (rteReg 0x20)) 4 = true ∧
      (bit (s.dev.reg (rteReg 0x20)) 4 = false → ∃ v ∈ t.core.evq, v.code = 0x0608 ∧ v.data = wd x.dst)) ∧
  (∀ (s : State) (tag : BitVec 16), (mget none s.dev.fab.tags tag.toNat = none ∨ s.dev.expired (.reply tag.toNat) s.dev.e2eTmo = false) →
    s.dev.busyUnits = [] → exec (.e2eTimeout tag) s = .next s) ∧
  (∀ (s : State) (tag : BitVec 16), s.dev.expired (.reuse tag.toNat) (2 * s.dev.e2eTmo) = false → exec (.tagReuse tag) s = .next s) ∧
  (∀ (s : State) (tag : BitVec 16), s.dev.expired (.reuse tag.toNat) (2 * s.dev.e2eTmo) = true → ∃ t, exec (.tagReuse tag) s = .next (s.withDev t) ∧ t.core = s.dev.core ∧
    t.fab.tags = s.dev.fab.tags ∧ ∀ x, x ∈ t.fab.quar ↔ (x ∈ s.dev.fab.quar ∧ x ≠ tag.toNat))

/-- R368, R369, R376: a packet in transit leaves on the candidate port with the most credit, one hop lower, or is dropped
and recorded; an announcement goes to every valid entry (log 57); a table entry is written but for its LGEN. -/
def Obligations.PacketsAreForwarded : Prop :=
  (∀ (s : State) (p : Fin 16) (k : Packet) (e : Device),
    s.dev.takeRx p.val (fun k => [1, 2, 3, 4, 6, 9].contains k.pt && k.dst != s.dev.selfMod) = some (k, e) →
    ((s.dev.route k.dst).valid = true → 0 < k.hops → s.dev.candidates (s.dev.route k.dst).pm ≠ [] →
      ∃ t q r, exec (.routedPacketArrival p) s = .next (s.withDev t) ∧ t.core = s.dev.core ∧
        q ∈ s.dev.candidates (s.dev.route k.dst).pm ∧
        (∀ x ∈ s.dev.candidates (s.dev.route k.dst).pm, s.dev.credits x (hdrClass (k.w 0)) ≤ s.dev.credits q (hdrClass (k.w 0))) ∧
        (t.port q).txq = (s.dev.port q).txq ++ [r] ∧ r.hops = k.hops - 1 ∧ r.dst = k.dst ∧ r.pt = k.pt ∧ r.body = k.body ∧
        r.h.drop 1 = k.h.drop 1) ∧
    ((s.dev.route k.dst).valid = false ∨ (0 < k.hops ∧ s.dev.candidates (s.dev.route k.dst).pm = []) →
      ∃ t, exec (.routedPacketArrival p) s = .next (s.withDev t) ∧ bit (t.reg (rteReg 0x20)) 0 = true) ∧
    ((s.dev.route k.dst).valid = true → k.hops = 0 →
      ∃ t, exec (.routedPacketArrival p) s = .next (s.withDev t) ∧ bit (t.reg (rteReg 0x20)) 1 = true)) ∧
  (∀ (s : State), ∃ t, exec .announce s = .next (s.withDev t) ∧
    ∀ i, i < 2 ^ 15 → i ≠ s.dev.selfMod → (s.dev.route i).valid = true → s.dev.candidates (s.dev.route i).pm ≠ [] →
      ∃ q r, q ∈ s.dev.candidates (s.dev.route i).pm ∧ r ∈ (t.port q).txq ∧ r.pt = 6 ∧ r.dst = i ∧ bit (r.w 2) 16 = true) ∧
  (∀ (s : State) (v : BitVec 64), ∃ t, exec (.tableEntryWrite v) s = .next (s.withDev t) ∧ t.core = s.dev.core ∧
    t.route (fld (s.dev.reg (rteReg 0x10)) 14 0) = { valid := v.toNat.testBit 63
                                                     lgen := (s.dev.route (fld (s.dev.reg (rteReg 0x10)) 14 0)).lgen
                                                     dl := v.toNat / 2 ^ 32 % 2 ^ 16
                                                     pm := v.toNat % 2 ^ 16 } ∧
    ∀ i, i ≠ fld (s.dev.reg (rteReg 0x10)) 14 0 → t.route i = s.dev.route i)

/-- R388, R401, R403, R405: a collective that breaks no rule opens with everything it latches; with more than one member
its memory is untouched but for an ALL_GATHER's own shard. One that breaks a rule of R403 is refused with one event
and no effect; one of an attempt held as aborted completes at once and passes ABORT both ways. Which attempts are
held, and that pieces are numbered shard by shard, rest on log 58; that a whole group is refused at its first member,
on log 75. -/
def Obligations.CollectivesIssue : Prop :=
  ∀ (i : CheckedDie → Instr) (op : Nat), (i = .reduceScatter ∧ op = 1) ∨ (i = .allGather ∧ op = 2) ∨ (i = .allReduce ∧ op = 3) →
  ∀ (s : State) (d : Fin 4) (c : Cmd) (w : Nat → Word) (ax : Word), s.dev.ready (qCol d.val) = some c → (s.dev.colOf d.val).run = none →
    s.dev.runs (wCol d.val) = true → s.dev.busyUnits = [] → s.dev.core.flaws = [] → s.dev.core.watch = none →
    s.dev.sramBad (c.word 3) 64 = false → w = wordAt (s.dev.descWords (sramDA (c.word 3)) 16) →
    fld (w 6) 31 28 = op → ax = s.dev.reg (rteReg (0x40 + 4 * fld (w 6) 27 25)) →
    (∀ q ev, s.dev.groupBad (qCol d.val) c (fun q c => colBad s.dev (q - 716) c) = some (q, ev) →
      ∃ t, exec (i ⟨d, .ok⟩) s = .next (s.withDev t) ∧ t = s.dev.refuse (qCol d.val) c ev (uDie (q - 716)) (if ev = 0x0703 then c.seqWord else 0) ∧
        (t.colOf d.val).run = none ∧ t.core.mem = s.dev.core.mem ∧ t.core.regs = s.dev.core.regs) ∧
    (s.dev.groupBad (qCol d.val) c (fun q c => colBad s.dev (q - 716) c) = none →
    s.dev.colHeld (s.dev.reg (dreg d.val 11 8)).toNat (fld (s.dev.reg (colReg d.val 8)) 7 0) = false →
    ∃ t r, exec (i ⟨d, .ok⟩) s = .next (s.withDev t) ∧ t.queue (qCol d.val) = (s.dev.queue (qCol d.val)).tail ∧
      (t.colOf d.val).run = some r ∧ r.cmd = c ∧ r.D = s.dev.descWords (sramDA (c.word 3)) 16 ∧
      r.k0 = s.dev.reg (dreg d.val 11 0) ∧ r.k1 = s.dev.reg (dreg d.val 11 4) ∧ r.step = s.dev.reg (dreg d.val 11 8) ∧
      r.lsexp = lsExp (s.dev.reg (trsReg d.val 0x10)) ∧ r.try_ = fld (s.dev.reg (colReg d.val 8)) 7 0 ∧
      r.n = fld ax 29 15 + 1 ∧ r.c = fld ax 14 0 ∧
      r.gens = (s.dev.trunk (fld (w 6) 27 25) 0 ++ s.dev.trunk (fld (w 6) 27 25) 1).map (fun p => (p, (s.dev.port p).peer.gen)) ∧
      r.digest = (if bit (w 6) 12 = true then ofBytes (values (s.dev.readBytes (sramDA (w 12)) 8)) else 0) ∧
      r.dgpois = (bit (w 6) 12 && anyPoison (s.dev.readBytes (sramDA (w 12)) 8)) ∧
      r.hdr = (if fld (w 6) 22 20 = 0 ∧ op ≠ 2 then s.dev.readWord (pairDA w 0) else 0) ∧
      (op ≠ 2 → 1 < r.n → t.core.mem = s.dev.core.mem)) ∧
    (s.dev.groupBad (qCol d.val) c (fun q c => colBad s.dev (q - 716) c) = none →
    s.dev.colHeld (s.dev.reg (dreg d.val 11 8)).toNat (fld (s.dev.reg (colReg d.val 8)) 7 0) = true →
    ∃ e : Device, exec (i ⟨d, .ok⟩) s = .next (s.withDev (e.finish c stAborted)) ∧ (e.colOf d.val).run = none ∧
      (e.colOf d.val).last = c.seq ∧ e.queue (qCol d.val) = (s.dev.queue (qCol d.val)).tail ∧
      (0 < fld ax 29 15 → ∀ dir q, dir < 2 → s.dev.trunkPort (fld (w 6) 27 25) dir 5 = some q →
        ∃ g, (e.port q).txq = (s.dev.port q).txq ++ [g] ∧ g.pt = 5 ∧ colKind g = 4 ∧ colRing g = dir ∧ g.body.take 4 =
          toBytes 4 ((s.dev.heldAbort (s.dev.reg (dreg d.val 11 8)).toNat (fld (s.dev.reg (colReg d.val 8)) 7 0)).1 * 2 ^ 28 +
            (s.dev.heldAbort (s.dev.reg (dreg d.val 11 8)).toNat (fld (s.dev.reg (colReg d.val 8)) 7 0)).2)))

/-- R389 to R400: a piece received is summed with this member's own and sent on before the last round, or converted,
written and, in ALL_REDUCE, sent round; a gathered piece is written and sent on; with the last piece the member's
close record follows; close records are kept, and passed on only after this member's own; the last one decides, and
the decision's expiry writes the result record and completes the collective. How a stream ends, which port sends and
when a close record goes rest on log 58. -/
def Obligations.CollectivesAdvance : Prop :=
  (∀ (i : Fin 16 → Instr) (kind : Nat), (i = (fun p => .colReduce p .ok) ∧ kind = 1) ∨ (i = (fun p => .colGather p .ok) ∧ kind = 2) ∨
      (i = (fun p => .colClose ⟨p, .ok⟩) ∧ kind = 3) →
    ∀ (s : State) (p : Fin 16) (k : Packet) (e : Device), s.dev.takeCol p.val kind = some (k, e) → s.dev.colStale p.val k = true →
      s.dev.busyUnits = [] →
      exec (i p) s = .next (s.withDev (e.count (rteReg 0x28)))) ∧
  (∀ (s : State) (p : Fin 16) (k : Packet) (e : Device) (die : Nat) (r r1 : ColRun) (b : List PByte) (ps : List Partial)
      (key : Nat × Nat × Nat × Nat) (j : Nat),
    s.dev.takeCol p.val 1 = some (k, e) → s.dev.colStale p.val k = false → s.dev.colDie k = some (die, r) → r.overrun k = false →
    r.addPart k = some (r1, b) → r1.longer k b.length = false → j = fld (k.w 7) 23 0 →
    decodeStream (8 * r.pieceUnits j) (values b) = .ok ps →
    key = (colRing k, colKind k, fld (k.w 6) 31 16, j) → (∃ x ∈ r.expected, x ∉ r.got ∧ x ≠ key) →
    s.dev.busyUnits = [] → s.dev.core.flaws = [] → s.dev.core.watch = none →
    ∃ t r2, exec (.colReduce p .ok) s = .next (s.withDev t) ∧ (t.colOf die).run = some r2 ∧ r2.got = r.got ++ [key] ∧ r2.closed = r.closed ∧
      (fld (k.w 6) 31 16 + 2 < r.n → t.core.mem = s.dev.core.mem ∧ ∀ q, (t.port q).txq =
        ((e.sendStream die r (colRing k) 1 (fld (k.w 6) 31 16 + 1) j
          ((addPartials ps (partials (s.dev.ownEntries r j))).flatMap encodeBlock)).1.port q).txq) ∧
      (r.n ≤ fld (k.w 6) 31 16 + 2 →
        t.core.mem = (s.dev.writes (r.writesOf j (r.convert j (addPartials ps (partials (s.dev.ownEntries r j)))).1)).core.mem ∧
        (r.op = 3 → ∀ q, (t.port q).txq = ((e.sendStream die r (colRing k) 2 0 j
          (r.convert j (addPartials ps (partials (s.dev.ownEntries r j)))).1).1.port q).txq) ∧
        (r.op ≠ 3 → ∀ q, (t.port q).txq = (e.port q).txq))) ∧
  (∀ (s : State) (p : Fin 16) (k : Packet) (e : Device) (die : Nat) (r r1 : ColRun) (b : List PByte) (key : Nat × Nat × Nat × Nat) (j : Nat),
    s.dev.takeCol p.val 2 = some (k, e) → s.dev.colStale p.val k = false → s.dev.colDie k = some (die, r) → r.overrun k = false →
    r.addPart k = some (r1, b) → r1.longer k b.length = false → j = fld (k.w 7) 23 0 → b.length = r.gatherLen j →
    key = (colRing k, colKind k, fld (k.w 6) 31 16, j) →
    s.dev.busyUnits = [] → s.dev.core.flaws = [] → s.dev.core.watch = none →
    ((∃ x ∈ r.expected, x ∉ r.got ∧ x ≠ key) →
      ∃ t r2, exec (.colGather p .ok) s = .next (s.withDev t) ∧ (t.colOf die).run = some r2 ∧ r2.got = r.got ++ [key] ∧
        t.core.mem = (s.dev.writes (r.writesOf j b)).core.mem ∧
        (fld (k.w 6) 31 16 + 2 < r.n → ∀ q, (t.port q).txq =
          ((e.sendStream die r (colRing k) 2 (fld (k.w 6) 31 16 + 1) j b).1.port q).txq) ∧
        (r.n ≤ fld (k.w 6) 31 16 + 2 → ∀ q, (t.port q).txq = (e.port q).txq)) ∧
    ((∀ x ∈ r.expected, x ∈ r.got ∨ x = key) → r.n ≤ fld (k.w 6) 31 16 + 2 → r.closed = false → r.dec = none → r.wait = [] →
      r.recs.length + 1 < r.n →
      ∃ t r2, exec (.colGather p .ok) s = .next (s.withDev t) ∧ (t.colOf die).run = some r2 ∧ r2.closed = true ∧ r2.dec = none ∧
        r2.recs = r.recs ++ [(ringCoord r.n r.closeRing r.c, s.dev.closeRecord r)] ∧
        t.core.mem = (s.dev.writes (r.writesOf j b)).core.mem ∧
        (r.recs = [] → ∀ q, s.dev.trunkPort r.axis r.closeRing 5 = some q → ∃ g, (t.port q).txq = (e.port q).txq ++ [g] ∧
          g.pt = 5 ∧ colKind g = 3 ∧ colRing g = r.closeRing ∧ g.body = values (clean (wordsToBytes (s.dev.closeRecord r)))))) ∧
  (∀ (s : State) (p : Fin 16) (k : Packet) (e : Device) (die : Nat) (r r1 : ColRun) (b : List PByte) (ps : List Partial) (j : Nat),
    s.dev.takeCol p.val 1 = some (k, e) → s.dev.colStale p.val k = false → s.dev.colDie k = some (die, r) → r.overrun k = false →
    r.addPart k = some (r1, b) → r1.longer k b.length = false → j = fld (k.w 7) 23 0 →
    decodeStream (8 * r.pieceUnits j) (values b) = .ok ps →
    (∀ x ∈ r.expected, x ∈ r.got ∨ x = (colRing k, colKind k, fld (k.w 6) 31 16, j)) → r.n ≤ fld (k.w 6) 31 16 + 2 → r.op ≠ 3 →
    r.closed = false → r.dec = none → r.wait = [] → r.recs.length + 1 < r.n →
    s.dev.busyUnits = [] → s.dev.core.flaws = [] → s.dev.core.watch = none →
    ∃ t r2, exec (.colReduce p .ok) s = .next (s.withDev t) ∧ (t.colOf die).run = some r2 ∧ r2.closed = true ∧ r2.dec = none ∧
      r2.nonfin = (r.nonfin || (s.dev.ownEntries r j).any (·.nonfin)) ∧ r2.range = (r.range || (s.dev.ownEntries r j).any (·.range)) ∧
      r2.recs = r.recs ++ [(ringCoord r.n r.closeRing r.c, s.dev.closeRecord r2)] ∧
      t.core.mem = (s.dev.writes (r.writesOf j (r.convert j (addPartials ps (partials (s.dev.ownEntries r j)))).1)).core.mem) ∧
  (∀ (e : Device) (die : Nat) (r : ColRun) (ring kind round piece : Nat) (l : List PByte), ring < 4 → 0 < kind → kind < 3 → r.try_ < 256 →
    round < 65536 → piece < 2 ^ 24 → r.cid < 65536 → l.length ≤ 1048576 →
    ∃ ks, e.sendStream die r ring kind round piece l = e.colSendAll die r ring ks ∧ ks.length = (l.length + 511) / 512 ∧
      ks.flatMap (·.body) = values l ∧ ∀ n g, ks[n]? = some g → g.pt = 5 ∧ colKind g = kind ∧ colRing g = ring ∧ colTry g = r.try_ ∧
        colCid g = r.cid ∧ colStep g = r.step.toNat % 65536 ∧ fld (g.w 6) 31 16 = round ∧ fld (g.w 6) 15 0 = 16 * n ∧
        fld (g.w 7) 23 0 = piece ∧ g.body.length ≤ 512) ∧
  (∀ (e : Device) (die : Nat) (r : ColRun) (ring q : Nat) (g : Packet) (l : List Packet),
    (e.trunkPort r.axis ring (hdrClass (g.w 0)) = some q →
      ∃ h, ((e.colSend die r ring g).1.port q).txq = (e.port q).txq ++ [h] ∧ h.body = g.body ∧ (∀ n, n ≠ 7 → h.w n = g.w n) ∧
        (7 < g.h.length → fld (h.w 7) 31 24 = (((r.gens.find? (fun g => g.1 == q)).map Prod.snd).getD 0) % 256) ∧
        (e.colSend die r ring g).2 = r ∧ (e.colSend die r ring g).1.core.mem = e.core.mem ∧
        ∀ x, x ≠ q → (e.colSend die r ring g).1.port x = e.port x) ∧
    (e.trunkPort r.axis ring (hdrClass (g.w 0)) = none → e.colSend die r ring g = (e, { r with wait := r.wait ++ [(ring, g)] })) ∧
    e.colSendAll die r ring (g :: l) = (e.colSend die r ring g).1.colSendAll die (e.colSend die r ring g).2 ring l) ∧
  (∀ (s : State) (p : Fin 16) (k : Packet) (e : Device) (die : Nat) (r : ColRun) (x : Nat) (a : List Word), s.dev.takeCol p.val 3 = some (k, e) →
    s.dev.colStale p.val k = false → s.dev.colDie k = some (die, r) → fld (k.w 6) 31 16 + 1 < r.n → colRing k = r.closeRing →
    x = (ringCoord r.n r.closeRing r.c + 2 * r.n - fld (k.w 6) 31 16 - 1) % r.n → (∀ y ∈ r.recs, y.1 ≠ x) →
    a = bytesToWords 8 k.body → s.dev.busyUnits = [] →
    (r.closed = false ∨ r.recs.length + 1 < r.n →
      ∃ t r2, exec (.colClose ⟨p, .ok⟩) s = .next (s.withDev t) ∧ (t.colOf die).run = some r2 ∧ r2.recs = r.recs ++ [(x, a)] ∧
        t.core.mem = s.dev.core.mem ∧ (r.closed = false → ∀ q, q ≠ p.val → t.port q = s.dev.port q) ∧
        (r.closed = true → fld (k.w 6) 31 16 + 2 < r.n → ∀ q, (t.port q).txq = ((e.colSend die r r.closeRing
          (s.dev.colPacket 3 r.closeRing r.try_ r.cid r.step.toNat (fld (k.w 6) 31 16 + 1) 0 0 (clean (wordsToBytes a)))).1.port q).txq)) ∧
    (r.closed = true → r.recs.length + 1 = r.n → fld (k.w 6) 31 16 + 2 = r.n →
      ((decideClose ((r.recs ++ [(x, a)]).map Prod.snd) s.dev.selfMod r.dgcmp).plan = false →
        ∃ t r2, exec (.colClose ⟨p, .ok⟩) s = .next (s.withDev t) ∧ (t.colOf die).run = some r2 ∧
          r2.dec = some (decideClose ((r.recs ++ [(x, a)]).map Prod.snd) s.dev.selfMod r.dgcmp)) ∧
      ((decideClose ((r.recs ++ [(x, a)]).map Prod.snd) s.dev.selfMod r.dgcmp).plan = true →
        ∃ t, exec (.colClose ⟨p, .ok⟩) s = .next (s.withDev t) ∧ (t.colOf die).run = none ∧ (t.colOf die).last = r.cmd.seq ∧
          ∃ v ∈ t.core.evq, v.code = 0x0704 ∧ v.unit = uDie die ∧ v.data = wd (2 ^ 31 + 1 * 2 ^ 28 + r.cmd.seq)))) ∧
  (∀ (s : State) (d : Fin 4) (r : ColRun) (dec : ColDecision), (s.dev.colOf d.val).run = some r → r.dec = some dec →
    s.dev.expired (.seal d.val r.cmd.cid) (1000 * fld (s.dev.reg (colReg d.val 0xC)) 15 0) = true → s.dev.busyUnits = [] →
    ∃ e : Device, exec (.sealExpiry d) s =
        .next (s.withDev (e.finish r.cmd (if dec.abort = true then stAborted else if r.pois = true then stPoisoned else stDone))) ∧
      (e.colOf d.val).run = none ∧ (e.colOf d.val).last = r.cmd.seq ∧
      e.core.mem = ((if dec.abort then s.dev.outputOpen r else s.dev).writeResult r dec dec.abort).core.mem) ∧
  (∀ (recs : List (List Word)) (me : Nat) (dg : Bool),
    ((∃ x ∈ recs, ∃ y ∈ recs, wordAt x 3 ≠ wordAt y 3) → (decideClose recs me dg).plan = true) ∧
    (∀ P, (∀ x ∈ recs, wordAt x 3 = P) → (∃ x ∈ recs, bit (wordAt x 0) 29 = true) → (decideClose recs me dg).abort = true ∧ (decideClose recs me dg).plan = false) ∧
    (∀ P a b, (∀ x ∈ recs, wordAt x 3 = P ∧ bit (wordAt x 0) 29 = false ∧ bit (wordAt x 0) 28 = false ∧ wordAt x 1 = a ∧ wordAt x 2 = b) →
      (decideClose recs me dg).vote = 0 ∧ (decideClose recs me dg).plan = false ∧ (decideClose recs me dg).abort = false ∧
      ((decideClose recs me dg).nonfin = true ↔ ∃ x ∈ recs, bit (wordAt x 0) 31 = true ∨ bit (wordAt x 0) 30 = true)))

/-- R392: an element's entries, each below 2^111, add up below 2^126 whatever their order and grouping, so that a partial
never overflows; and (R396) a piece stream carries partials unchanged. -/
def Obligations.PartialSumsAreExact : Prop :=
  (∀ (emax : Int) (sg p : Bool) (m : Nat) (f : Int), m < 2 ^ 24 → (entryOf emax (.fin sg m f) p).a.natAbs < 2 ^ 111) ∧
  (∀ (l : List Int), l.length ≤ 32768 → (∀ a ∈ l, a.natAbs < 2 ^ 111) → l.sum.natAbs < 2 ^ 126) ∧
  (∀ (l l' : List (List Partial)) (z : List Partial), l.Perm l' → (∀ x ∈ l, x.length = z.length ∧ ∀ p ∈ x, p.1.length = 32) →
    (∀ p ∈ z, p.1.length = 32) → l.foldl addPartials z = l'.foldl addPartials z) ∧
  (∀ (x y z : List Partial), x.length = y.length → y.length = z.length → (∀ p ∈ x ++ y ++ z, p.1.length = 32) →
    addPartials (addPartials x y) z = addPartials x (addPartials y z)) ∧
  (∀ (ps : List Partial), (∀ p ∈ ps, p.1.length = 32 ∧ ∀ a ∈ p.1, a.natAbs < 2 ^ 127) →
    decodeStream ps.length (values (ps.flatMap encodeBlock)) = .ok ps)

/-- R404, R405, R407: a host's abort, an expired limit, an ABORT packet and a fault of the engine mark the attempt on
every die and end its open collectives, which pass ABORT packets both ways; a packet goes on once in its direction on
its ring; an attempt already marked is not aborted again. Which attempts are held, and whose tag an ABORT packet
carries, rest on log 58. -/
def Obligations.CollectivesAbort : Prop :=
  (∀ (i : Fin 4 → Instr) (cause : Nat), (i = .hostAbort ∧ cause = 4) ∨ (i = .collectiveTimeout ∧ cause = 3) →
    ∀ (s : State) (d : Fin 4) (r : ColRun), (s.dev.colOf d.val).run = some r → (cause = 3 → fld (r.w 14) 15 0 ≠ 0) →
    (cause = 3 → s.dev.expired (.collective d.val r.cmd.cid) (16000 * fld (r.w 14) 15 0) = true) → r.try_ < 256 →
    s.dev.colHeld r.step.toNat r.try_ = false → s.dev.busyUnits = [] →
    ∃ t, exec (i d) s = .next (s.withDev t) ∧
      (∀ x, x < 4 → t.reg (colReg x 0x10) = wd (2 ^ 31 + cause * 2 ^ 28 + r.try_ * 2 ^ 16 + fld r.step 15 0)) ∧
      (∀ x, x < 4 → ∃ v ∈ t.core.evq, v.code = 0x0702 ∧ v.unit = uDie x ∧ v.data = wd (fld r.step 15 0 * 2 ^ 16 + cause * 2 ^ 12 +
        ((s.dev.openCol x r.step.toNat r.try_).map (·.cmd.seq)).getD 0)) ∧
      (t.colOf d.val).run = none ∧
      ∀ x rx, x < 4 → s.dev.openCol x r.step.toNat r.try_ = some rx → (t.colOf x).run = none ∧ (t.colOf x).last = rx.cmd.seq ∧
        ((mget {} s.dev.core.opens rx.cmd.cid).left = 1 → (mget {} s.dev.core.opens rx.cmd.cid).worst ≤ stAborted →
          ∃ v ∈ t.core.done, v.word.toNat / 2 ^ 60 = stAborted ∧ v.die = (mget {} s.dev.core.opens rx.cmd.cid).die ∧
            v.stream = (mget {} s.dev.core.opens rx.cmd.cid).stream ∧ v.index = (mget {} s.dev.core.opens rx.cmd.cid).index) ∧
        (1 < rx.n → ∀ dir q, dir < 2 → s.dev.trunkPort rx.axis dir 5 = some q → ∃ g ∈ (t.port q).txq, g.pt = 5 ∧ colKind g = 4 ∧
          colRing g = dir ∧ colStep g = fld r.step 15 0 ∧ colTry g = r.try_ ∧
          wordAt (bytesToWords 8 g.body) 0 = wd (cause * 2 ^ 28 + s.dev.selfMod))) ∧
  (∀ (s : State) (d : Fin 4) (r : ColRun), (s.dev.colOf d.val).run = some r →
    (fld (r.w 14) 15 0 = 0 ∨ s.dev.expired (.collective d.val r.cmd.cid) (16000 * fld (r.w 14) 15 0) = false) →
    exec (.collectiveTimeout d) s = .next s) ∧
  (∀ (s : State) (d : Fin 4), (s.dev.colOf d.val).run = none → s.dev.busyUnits = [] → exec (.hostAbort d) s = .next s) ∧
  (∀ (i : Fin 16 → CoreCheck → Instr) (kind : Nat), (i = .colReduce ∧ kind = 1) ∨ (i = .colGather ∧ kind = 2) →
    ∀ (s : State) (p : Fin 16) (chk : CoreCheck) (k : Packet) (e : Device) (die : Nat) (r : ColRun) (cause : Nat),
    s.dev.takeCol p.val kind = some (k, e) → s.dev.colStale p.val k = false → s.dev.colDie k = some (die, r) → s.dev.busyUnits = [] →
    (r.overrun k = true ∧ cause = 4) ∨ (r.overrun k = false ∧ (r.addPart k).isSome = true ∧ checkCause chk = some cause) →
    ∃ t, exec (i p chk) s = .next (s.withDev t) ∧ (t.colOf die).run = none ∧ (t.colOf die).last = r.cmd.seq ∧
      (∃ v ∈ t.core.evq, v.code = 0x0704 ∧ v.unit = uDie die ∧ v.data = wd (2 ^ 31 + cause * 2 ^ 28 + r.cmd.seq)) ∧
      (bit (s.dev.reg (colReg die 0x18)) 31 = false → t.reg (colReg die 0x18) = wd (2 ^ 31 + cause * 2 ^ 28 + r.cmd.seq) ∧
        t.reg (colReg die 0x1C) = wd (fld (k.w 7) 23 0)) ∧
      ∀ x, x < 4 → t.reg (colReg x 0x10) = wd (2 ^ 31 + 5 * 2 ^ 28 + r.try_ * 2 ^ 16 + fld r.step 15 0)) ∧
  (∀ (s : State) (p : Fin 16) (k : Packet) (e : Device) (a : Nat → Word) (axis : Nat), s.dev.takeCol p.val 4 = some (k, e) →
    a = wordAt (bytesToWords 8 k.body) →
    axis = fld (s.dev.reg (rteReg (if p.val < 8 then 0x30 else 0x34))) (4 * (p.val % 8) + 3) (4 * (p.val % 8) + 1) →
    (s.dev.colStale p.val k = true → exec (.abortPacket p) s = .next (s.withDev (e.count (rteReg 0x28)))) ∧
    (s.dev.colStale p.val k = false → s.dev.colHeld (a 1).toNat (fld (a 2) 7 0) = true →
      ((axis, colRing k) ∈ s.dev.fab.aborted → exec (.abortPacket p) s = .next (s.withDev e)) ∧
      ((axis, colRing k) ∉ s.dev.fab.aborted →
        ∃ t, exec (.abortPacket p) s = .next (s.withDev t) ∧ t.core = s.dev.core ∧ (axis, colRing k) ∈ t.fab.aborted ∧
          (e.trunkPort axis (colRing k) 5 = none → ∀ q, t.port q = e.port q) ∧
          ∀ q, e.trunkPort axis (colRing k) 5 = some q → ∃ g, (t.port q).txq = (e.port q).txq ++ [g] ∧ g.pt = 5 ∧ colKind g = 4 ∧
            colRing g = colRing k ∧ g.body = k.body ∧ fld (g.w 7) 31 24 = (e.port q).peer.gen % 256)) ∧
    (s.dev.colStale p.val k = false → s.dev.colHeld (a 1).toNat (fld (a 2) 7 0) = false →
      ∃ t, exec (.abortPacket p) s = .next (s.withDev t) ∧
        (∀ x, x < 4 → t.reg (colReg x 0x10) = wd (2 ^ 31 + fld (a 0) 30 28 * 2 ^ 28 + fld (a 2) 7 0 * 2 ^ 16 + fld (a 1) 15 0)) ∧
        (∀ x r, x < 4 → s.dev.openCol x (a 1).toNat (fld (a 2) 7 0) = some r → (t.colOf x).run = none ∧ (t.colOf x).last = r.cmd.seq ∧
          (1 < r.n → ∀ dir q, dir < 2 → e.trunkPort r.axis dir 5 = some q → ∃ g ∈ (t.port q).txq, g.pt = 5 ∧ colKind g = 4 ∧
            colRing g = dir ∧ colTry g = fld (a 2) 7 0 ∧
            wordAt (bytesToWords 8 g.body) 0 = wd (fld (a 0) 30 28 * 2 ^ 28 + fld (a 0) 14 0))) ∧
        ((∀ x r, x < 4 → s.dev.openCol x (a 1).toNat (fld (a 2) 7 0) = some r → r.n ≤ 1 ∨ r.axis ≠ axis) →
          ∀ q, e.trunkPort axis (colRing k) 5 = some q → ∃ g, (t.port q).txq = (e.port q).txq ++ [g] ∧ g.pt = 5 ∧ colKind g = 4 ∧
            colRing g = colRing k ∧ g.body = k.body)))

/-- R411, R413, R414, R432, R437: the host link comes up, changes and goes down; a configuration request is answered, with
Retry Status until the module has been ready; FLR, hot reset and link down reset the function and mask every vector,
and do nothing else. Which bits a configuration write keeps beside Memory Space Enable, and what its reset state
holds, rest on log 23; that the count of dropped events is cleared too, on log 59. -/
def Obligations.HostLinkAndFunctionResets : Prop :=
  (∀ (s : State) (speed : Fin 8) (width : Fin 64) (flit : Bool), s.dev.hif.link = 0 →
    ∃ t, exec (.linkUp speed width flit) s = .next (s.withDev t) ∧ t.hif.link = 1 ∧ fld (t.reg (hifReg 0)) 27 24 = speed.val ∧
      fld (t.reg (hifReg 0)) 23 18 = width.val ∧ bit (t.reg (hifReg 0)) 17 = flit ∧ t.core.evq = s.dev.core.evq) ∧
  (∀ (s : State) (speed : Fin 8) (width : Fin 64) (flit : Bool), s.dev.hif.link ≠ 0 →
    (s.dev.hif.link = 2 ∨ fld (s.dev.reg (hifReg 0)) 27 24 ≠ speed.val ∨ fld (s.dev.reg (hifReg 0)) 23 18 ≠ width.val) →
    ∃ t, exec (.linkState speed width flit) s = .next (s.withDev t) ∧ t.hif.link = 1 ∧ fld (t.reg (hifReg 0)) 27 24 = speed.val ∧
      fld (t.reg (hifReg 0)) 23 18 = width.val ∧ bit (t.reg (hifReg 0)) 17 = flit ∧
      t.core.evq = s.dev.core.evq ++ [Event.mk 0x0804 uHif
        (wd (speed.val * 2 ^ 24 + width.val * 2 ^ 18 + (if s.dev.hif.link = 2 then 1 else 0))) 0 (s.dev.time 0)]) ∧
  (∀ (s : State) (w : Bool) (r : Fin 1024) (v : Word) (bdf : BitVec 16), s.dev.hif.ever = false →
    ∃ t, exec (.configRequest w r v bdf) s = .next (s.withDev t) ∧ t.out = s.dev.out ++ [Out.cfgReply 0 true] ∧ t.core = s.dev.core ∧
      t.hif.cfg = s.dev.hif.cfg ∧ t.hif.bdf = (if w = true then bdf.toNat / 8 else s.dev.hif.bdf)) ∧
  (∀ (s : State) (r : Fin 1024) (v : Word) (bdf : BitVec 16), s.dev.hif.ever = true →
    exec (.configRequest false r v bdf) s = .next (s.withDev (s.dev.emit (Out.cfgReply (s.dev.cfgWord r.val) false)))) ∧
  (∀ (s : State) (v : Word) (bdf : BitVec 16), s.dev.hif.ever = true →
    ∃ t, exec (.configRequest true 1 v bdf) s = .next (s.withDev t) ∧ t.hif.memEn = bit v 1 ∧ t.hif.bdf = bdf.toNat / 8 ∧
      Out.cfgReply 0 false ∈ t.out ∧ t.core = s.dev.core) ∧
  (∀ (i : Instr), i = .flr ∨ i = .hotReset ∨ i = .hostLinkDown → ∀ (s : State), (i = .hostLinkDown → s.dev.hif.link = 1) →
    ∃ t, exec i s = .next (s.withDev t) ∧ t.core.mem = s.dev.core.mem ∧ t.core.queues = s.dev.core.queues ∧ t.core.evq = s.dev.core.evq ∧
      (∀ off, 4 ≤ off → off < 0x10000 → t.reg (hifReg off) = regReset (hifReg off)) ∧
      (∀ k, k < hifReg 0 ∨ hifReg 0x10000 ≤ k → t.reg k = s.dev.reg k) ∧
      fld (t.reg (hifReg 0)) 15 0 = (fld (s.dev.reg (hifReg 0)) 15 0 + 1) % 2 ^ 16 ∧ t.hif.memEn = false ∧ t.hif.msixEn = false ∧
      t.hif.cfg = [] ∧ t.hif.pba = [] ∧ t.hif.armed = false ∧ t.hif.link = (if i = .hostLinkDown then 2 else s.dev.hif.link) ∧
      (∀ v, bit (t.msixWord v 3) 0 = true) ∧ (∀ v w, w < 3 → t.msixWord v w = s.dev.msixWord v w) ∧
      t.hif.held = s.dev.hif.held ∧ t.hif.seq = s.dev.hif.seq ∧ t.fab = s.dev.fab ∧ t.col = s.dev.col)

/-- R413, R415, R417, R419, R420, R423: an aperture access reaches the device address its aperture maps, or is refused and
recorded; a table entry written reads back; a doorbell page reads as INDEX and takes writes of it; a poisoned write is
discarded and recorded; with no space decoded a read completes as an Unsupported Request and a write is dropped, each
logged. That no unit is busy (log 73) and no trial under way (log 74) keeps the access from waiting; where the log
keeps its bits is log 23, what a masked vector does log 59. -/
def Obligations.HostAccessesAreServedOrRefused : Prop :=
  (∀ (s : State) (off a : Nat) (data : List Byte), s.dev.hostOpen = true → off < 2 ^ 36 → off % 2 ^ 32 + data.length ≤ 2 ^ 32 →
    a = fld (s.dev.reg (hifReg (0x40 + 4 * (off / 2 ^ 32)))) 19 0 * 2 ^ 32 + off % 2 ^ 32 →
    bit (s.dev.reg (hifReg (0x40 + 4 * (off / 2 ^ 32)))) 31 = true → regionOf a ∈ [0, 1, 2, 3, 4, 5, 8] → s.dev.rangeOk a data.length = true →
    s.dev.busyUnits = [] →
    exec (.apertureAccess true off data data.length false) s = .next (s.withDev (s.dev.write a (clean data)))) ∧
  (∀ (s : State) (off len a : Nat), s.dev.hostOpen = true → off < 2 ^ 36 → off % 2 ^ 32 + len ≤ 2 ^ 32 →
    a = fld (s.dev.reg (hifReg (0x40 + 4 * (off / 2 ^ 32)))) 19 0 * 2 ^ 32 + off % 2 ^ 32 →
    bit (s.dev.reg (hifReg (0x40 + 4 * (off / 2 ^ 32)))) 31 = true → regionOf a ∈ [0, 1, 2, 3, 4, 5, 8] → s.dev.rangeOk a len = true →
    s.dev.busyUnits = [] → s.dev.core.flaws = [] → s.dev.core.watch = none →
    exec (.apertureAccess false off [] len false) s = .next (s.withDev
      ((if anyPoison (s.dev.readBytes a len) then s.dev.aerLog 12 else s.dev).emit (Out.hostRead (values (s.dev.readBytes a len)) (anyPoison (s.dev.readBytes a len)) true)))) ∧
  (∀ (s : State) (off : Nat) (data : List Byte), s.dev.hostOpen = true → off < 2 ^ 36 → off % 2 ^ 32 + data.length ≤ 2 ^ 32 →
    bit (s.dev.reg (hifReg (0x40 + 4 * (off / 2 ^ 32)))) 31 = false → s.dev.busyUnits = [] →
    ∃ t, exec (.apertureAccess true off data data.length false) s = .next (s.withDev t) ∧ t.core.mem = s.dev.core.mem ∧
      bit (t.reg (hifReg 4)) 30 = true ∧ fld (t.reg (hifReg 4)) 3 0 = 1 ∧ t.reg (hifReg 0x80) = lo32 off ∧ t.reg (hifReg 0x84) = hi32 off) ∧
  (∀ (s : State) (k : Nat) (v : BitVec 64), s.dev.memSpace = true → s.dev.busyUnits = [] → k < 0x2000 → k % 4 ≠ 3 → s.dev.hif.pba = [] →
    ∃ t, exec (.msixTableAccess true (4 * k) 4 v false) s = .next (s.withDev t) ∧ t.core = s.dev.core ∧
      exec (.msixTableAccess false (4 * k) 4 0 false) (s.withDev t) = .next (s.withDev
        (t.emit (Out.hostRead (wordsToBytes [lo32 v.toNat]) false true)))) ∧
  (∀ (s : State) (off width : Nat) (v : BitVec 64), s.dev.memSpace = true → s.dev.busyUnits = [] →
    exec (.msixTableAccess true off width v true) s = .next (s.withDev s.dev.poisonedWrite)) ∧
  (∀ (s : State) (d : Fin 4) (n : Fin 8) (v : BitVec 64) (off : Nat), s.dev.busyUnits = [] → off = 0x10000 + 0x1000 * (8 * d.val + n.val) →
    (s.dev.memSpace = true → exec (.msixTableAccess false off 4 v false) s =
      .next (s.withDev (s.dev.emit (Out.hostRead (toBytes 4 (s.dev.stream d.val n.val).tail) false true)))) ∧
    (s.dev.hostOpen = true → exec (.msixTableAccess true off 4 v false) s = exec (.doorbell d n (lo32 v.toNat) false) s)) ∧
  (∀ (i : Bool → Instr), (∃ off data, off < 2 ^ 36 ∧ off % 2 ^ 32 + data.length ≤ 2 ^ 32 ∧
      i = fun w => .apertureAccess w off data data.length false) ∨ (∃ off width v, i = fun w => .msixTableAccess w off width v false) →
    ∀ (s : State), s.dev.memSpace = false → s.dev.busyUnits = [] →
    exec (i false) s = .next (s.withDev ((s.dev.aerLog 20).emit (Out.hostRead [] false false))) ∧
    exec (i true) s = .next (s.withDev (s.dev.aerLog 20)) ∧
    bit (s.dev.aerLog 20).hif.uncor 20 = true ∧ (s.dev.aerLog 20).core = s.dev.core)

/-- R424 to R427, R431: the event ring is enabled, changed and disabled, and what was posted before goes to Synian only;
the oldest posted event reaches Synian with its SEQ, and is left out of the ring under its class's HIF_EVFILT bit,
written to a ring with space with one message where the interrupt is armed, or dropped and counted; a head past the
tail is refused, one short of the tail sends the message at once, one at the tail arms; after drops EVENT_OVERFLOW is
the first record. That events wait in the order of their posting, and what a head that already differs does, rest on
log 60; that a masked vector keeps its message pending, on log 59. -/
def Obligations.EventRingRecordsEvents : Prop :=
  (∀ (s : State) (v : Word), s.dev.hostOpen = true → s.dev.busyUnits = [] → s.dev.ringEn = false → bit v 31 = true → s.dev.hif.drops = 0 →
    ∃ t, exec (.eventRingEnable v) s = .next (s.withDev t) ∧ t.ringEn = true ∧ t.ringVec = fld v 26 16 ∧
      t.ringLog = min 16 (max 6 (fld v 4 0)) ∧ t.evHead = 0 ∧ t.evTail = 0 ∧ t.hif.armed = true ∧ t.core.mem = s.dev.core.mem ∧
      t.core.evq = [] ∧ (∀ e ∈ s.dev.core.evq, ∃ n, Out.event n (s.dev.record e n 0) ∈ t.out)) ∧
  (∀ (s : State) (v : Word), s.dev.hostOpen = true → s.dev.busyUnits = [] → bit v 31 = false →
    ∃ t, exec (.eventRingDisable v) s = .next (s.withDev t) ∧ t.ringEn = false ∧ t.ringVec = fld v 26 16 ∧
      t.ringLog = (if s.dev.ringEn = true then s.dev.ringLog else min 16 (max 6 (fld v 4 0))) ∧ t.evHead = s.dev.evHead ∧
      t.evTail = s.dev.evTail ∧ t.hif = s.dev.hif) ∧
  (∀ (s : State) (v : Word), s.dev.hostOpen = true → s.dev.busyUnits = [] → s.dev.ringEn = true → bit v 31 = true →
    ∃ t, exec (.eventRingVecChange v) s = .next (s.withDev t) ∧ t.ringEn = true ∧ t.ringVec = fld v 26 16 ∧
      t.ringLog = s.dev.ringLog ∧ t.evHead = s.dev.evHead ∧ t.evTail = s.dev.evTail ∧ t.hif = s.dev.hif) ∧
  (∀ (s : State) (v : Word), s.dev.hostOpen = true → s.dev.busyUnits = [] →
    ((s.dev.evTail + 2 ^ 32 - s.dev.evHead) % 2 ^ 32 < (v.toNat + 2 ^ 32 - s.dev.evHead) % 2 ^ 32 →
      ∃ t, exec (.hifEvheadWrite v) s = .next (s.withDev t) ∧ bit (t.reg (hifReg 4)) 27 = true ∧ t.evHead = s.dev.evHead ∧
        t.hif = s.dev.hif) ∧
    ((v.toNat + 2 ^ 32 - s.dev.evHead) % 2 ^ 32 ≤ (s.dev.evTail + 2 ^ 32 - s.dev.evHead) % 2 ^ 32 → s.dev.hif.drops = 0 →
      ∃ t, exec (.hifEvheadWrite v) s = .next (s.withDev t) ∧ t.evHead = v.toNat ∧
        t.hif.armed = decide (s.dev.evTail = v.toNat) ∧ (s.dev.evTail = v.toNat → t.out = s.dev.out) ∧
        (s.dev.evTail ≠ v.toNat → t.out = s.dev.out ++ (if s.dev.msixOpen s.dev.ringVec = true then [(Out.msix s.dev.ringVec (join (s.dev.msixWord s.dev.ringVec 0) (s.dev.msixWord s.dev.ringVec 1)) (s.dev.msixWord s.dev.ringVec 2))] else []) ∧
          (s.dev.msixOpen s.dev.ringVec = false → s.dev.ringVec ∈ t.hif.pba))) ∧
    ((v.toNat + 2 ^ 32 - s.dev.evHead) % 2 ^ 32 ≤ (s.dev.evTail + 2 ^ 32 - s.dev.evHead) % 2 ^ 32 → s.dev.ringEn = true →
      0 < s.dev.hif.drops → (s.dev.evTail + 2 ^ 32 - v.toNat) % 2 ^ 32 ≠ 2 ^ s.dev.ringLog →
      ∃ t w, exec (.hifEvheadWrite v) s = .next (s.withDev t) ∧ t.evHead = v.toNat ∧ t.evTail = (s.dev.evTail + 1) % 2 ^ 32 ∧
        t.hif.drops = 0 ∧ wordAt w 0 = wd (0x0801 * 2 ^ 16 + fld (s.dev.reg (mreg 4 0)) 31 24 * 2 ^ 8 +
          (1 - s.dev.evTail / 2 ^ s.dev.ringLog % 2)) ∧ wordAt w 2 = wd (min s.dev.hif.drops 0xFFFFFFFF) ∧
        Out.hostWrite (join (s.dev.reg (hifReg 0x10)) (s.dev.reg (hifReg 0x14)) + 32 * (s.dev.evTail % 2 ^ s.dev.ringLog))
          (wordsToBytes w) ∈ t.out)) ∧
  (∀ (s : State) (e : Event) (l : List Event), s.dev.core.evq = e :: l →
    ∃ t, exec .eventRecordWrite s = .next (s.withDev t) ∧ t.core.evq = l ∧ t.core.mem = s.dev.core.mem ∧
      t.hif.seq = (s.dev.hif.seq + 1) % 2 ^ 32 ∧
      (s.dev.hif.held.length < 4096 → t.hif.held = s.dev.hif.held ++ [(s.dev.hif.seq, s.dev.record e s.dev.hif.seq 0)]) ∧
      (s.dev.ringEn = true → s.dev.modRuns = true → s.dev.ringFull = false →
        (e.code / 256 = 0 ∨ 10 < e.code / 256 ∨ bit (s.dev.reg (hifReg 0x28)) (e.code / 256) = false) →
        t.evTail = (s.dev.evTail + 1) % 2 ^ 32 ∧ t.hif.armed = false ∧ t.hif.drops = s.dev.hif.drops ∧
        t.out = s.dev.out ++ [Out.event s.dev.hif.seq (s.dev.record e s.dev.hif.seq 0),
          Out.hostWrite (join (s.dev.reg (hifReg 0x10)) (s.dev.reg (hifReg 0x14)) + 32 * (s.dev.evTail % 2 ^ s.dev.ringLog))
            (wordsToBytes (s.dev.record e s.dev.hif.seq (1 - s.dev.evTail / 2 ^ s.dev.ringLog % 2)))] ++
          (if s.dev.hif.armed = true ∧ s.dev.msixOpen s.dev.ringVec = true then [(Out.msix s.dev.ringVec (join (s.dev.msixWord s.dev.ringVec 0) (s.dev.msixWord s.dev.ringVec 1)) (s.dev.msixWord s.dev.ringVec 2))] else [])) ∧
      (s.dev.ringEn = false ∨ s.dev.modRuns = false ∨
          (1 ≤ e.code / 256 ∧ e.code / 256 ≤ 10 ∧ bit (s.dev.reg (hifReg 0x28)) (e.code / 256) = true) →
        t.evTail = s.dev.evTail ∧ t.core.regs = s.dev.core.regs ∧ t.hif.drops = s.dev.hif.drops ∧ t.hif.armed = s.dev.hif.armed ∧
        t.out = s.dev.out ++ [Out.event s.dev.hif.seq (s.dev.record e s.dev.hif.seq 0)]) ∧
      (s.dev.ringEn = true → s.dev.modRuns = true → s.dev.ringFull = true →
        (e.code / 256 = 0 ∨ 10 < e.code / 256 ∨ bit (s.dev.reg (hifReg 0x28)) (e.code / 256) = false) →
        t.evTail = s.dev.evTail ∧ t.hif.drops = s.dev.hif.drops + 1 ∧
        t.out = s.dev.out ++ [Out.event s.dev.hif.seq (s.dev.record e s.dev.hif.seq 0)] ∧ bit (t.reg (hifReg 4)) 29 = true ∧
        t.reg (hifReg 0x24) = wd (satAdd32 (s.dev.reg (hifReg 0x24)).toNat 1)))

/-- R428, R429: the endpoint answers each control message and each Daxelm command that reaches it, with a completion code,
and refuses data of the wrong length; GET_EVENTS answers the records that Synian holds; an answer leaves in units of
64 bytes. The control messages' bytes are the model's (log 24); that GET_QUOTE answers in one command, and
GET_STATUS's state, rest on log 63. -/
def Obligations.ManagementMessagesAreAnswered : Prop :=
  (∀ (s : State) (ty ins cmd op eid : Byte), s.dev.mctpUp = true → (op &&& 3 = 0 ∨ op &&& 3 = 1) → eid ≠ 0 → eid ≠ 0xFF →
    ∃ t, exec (.setEndpointId [ty, ins, cmd, op, eid]) s = .next (s.withDev t) ∧ t.hif.eid = eid.toNat ∧
      t.out = s.dev.out ++ [Out.mctp (mctpUnits [0, ins &&& 0x1F, cmd, 0, 0, eid, 0])] ∧ t.core = s.dev.core ∧
      exec (.getEndpointId [ty, ins, cmd]) (s.withDev t) = .next (s.withDev (t.emit (Out.mctp (mctpUnits [0, ins &&& 0x1F, cmd, 0, eid, 0, 0]))))) ∧
  (∀ (i : List Byte → Instr), i = .setEndpointId ∨ i = .getEndpointId ∨ i = .getEndpointUuid ∨ i = .getMctpVersionSupport ∨
      i = .getMessageTypeSupport ∨ i = .getVendorDefinedMessageSupport →
    ∀ (s : State) (ty ins cmd a b c : Byte) (l : List Byte), s.dev.mctpUp = true → exec (i (ty :: ins :: cmd :: a :: b :: c :: l)) s =
      .next (s.withDev (s.dev.emit (Out.mctp (mctpUnits [0, ins &&& 0x1F, cmd, 3]))))) ∧
  (∀ (s : State) (ty ins cmd : Byte), s.dev.mctpUp = true →
    exec (.getMessageTypeSupport [ty, ins, cmd]) s = .next (s.withDev (s.dev.emit (Out.mctp (mctpUnits [0, ins &&& 0x1F, cmd, 0, 2, 0x00, 0x7E])))) ∧
    exec (.getEndpointUuid [ty, ins, cmd]) s = .next (s.withDev (s.dev.emit
      (Out.mctp (mctpUnits ([0, ins &&& 0x1F, cmd, 0] ++ (Config.uuid ++ List.replicate 16 0).take 16))))) ∧
    (∀ sel, sel ≠ 0 → exec (.getVendorDefinedMessageSupport [ty, ins, cmd, sel]) s =
      .next (s.withDev (s.dev.emit (Out.mctp (mctpUnits [0, ins &&& 0x1F, cmd, 2]))))) ∧
    (∃ v, exec (.getVendorDefinedMessageSupport [ty, ins, cmd, 0]) s = .next (s.withDev (s.dev.emit
      (Out.mctp (mctpUnits ([0, ins &&& 0x1F, cmd, 0, 0xFF, 0] ++ vidBytes ++ v)))))) ∧
    (∀ m l, Config.mctpVersions m.toNat = some l → exec (.getMctpVersionSupport [ty, ins, cmd, m]) s = .next (s.withDev (s.dev.emit
      (Out.mctp (mctpUnits ([0, ins &&& 0x1F, cmd, 0, BitVec.ofNat 8 (l.length / 4)] ++ l)))))) ∧
    (∀ m, Config.mctpVersions m.toNat = none → exec (.getMctpVersionSupport [ty, ins, cmd, m]) s = .next (s.withDev (s.dev.emit
      (Out.mctp (mctpUnits [0, ins &&& 0x1F, cmd, 0x80])))))) ∧
  (∀ (s : State) (ins : Byte), s.dev.mctpUp = true →
    (∃ p : List Byte, exec (.getStatus ins []) s = .next (s.withDev (s.dev.emit (Out.mctp (mctpUnits ([0x7E] ++ vidBytes ++ [1, 1, ins, 0, 0] ++ p))))) ∧ p.length = 16 ∧
      p.take 1 = toBytes 1 s.dev.statusState ∧ (p.drop 2).take 2 = toBytes 2 s.dev.selfMod ∧ (p.drop 4).take 1 = toBytes 1 s.dev.selfGen) ∧
    (s.dev.boot.synian = true → ∃ p : List Byte, exec (.getHealth ins []) s =
      .next (s.withDev (s.dev.emit (Out.mctp (mctpUnits ([0x7E] ++ vidBytes ++ [1, 2, ins, 0, 0] ++ p))))) ∧ p.length = 32 ∧
      p.take 8 = wordsToBytes [s.dev.reg (pwrReg 4), s.dev.reg (pwrReg 0xC)] ∧
      ∀ die, die < 4 → (p.drop (8 + 4 * die)).take 2 = toBytes 2 (fld (s.dev.reg (coneReg die 0)) 15 0)) ∧
    (s.dev.boot.synian = false → ∀ l : List Byte, exec (.getHealth ins l) s =
      .next (s.withDev (s.dev.emit (Out.mctp (mctpUnits ([0x7E] ++ vidBytes ++ [1, 2, ins, 4, 0])))))) ∧
    (∀ l : List Byte, l.length = 4 → ∀ n : Byte, 1 ≤ n.toNat → n.toNat ≤ 100 → s.dev.boot.synian = true →
      exec (.getEvents ins (l ++ [n])) s = .next (s.withDev (s.dev.emit (Out.mctp (mctpUnits ([0x7E] ++ vidBytes ++ [1, 3, ins, 0, 0] ++
        (toBytes 1 ((heldFrom s.dev.hif.held (ofBytes l)).take n.toNat).length ++ List.replicate 7 0 ++
          ((heldFrom s.dev.hif.held (ofBytes l)).take n.toNat).flatMap wordsToBytes))))))) ∧
    (∀ l : List Byte, l.length = 32 → s.dev.boot.synian = true →
      ∃ (t : Device) (q : List Byte), exec (.getQuote ins l) s = .next (s.withDev t) ∧ t.out = s.dev.out ++ [Out.mctp (mctpUnits ([0x7E] ++ vidBytes ++ [1, 4, ins, 0, 0] ++ q))] ∧
        q.length = 2740 ∧ (q.drop 32).take 32 = l ∧ t.core.mem = s.dev.core.mem)) ∧
  (∀ (held : List (Nat × List Word)) (k : Nat) (e : List Word), (∀ i, i < held.length → (held.map Prod.fst)[i]? = some ((held.map Prod.fst).headD 0 + i)) →
    (held.map Prod.fst).headD 0 + held.length ≤ 2 ^ 31 → held[k]? = some ((held.map Prod.fst).headD 0 + k, e) →
    heldFrom held ((held.map Prod.fst).headD 0 + k) = (held.drop k).map Prod.snd) ∧
  (∀ m : List Byte, (mctpUnits m).flatten = m ∧ (∀ u ∈ mctpUnits m, 0 < u.length ∧ u.length ≤ 64) ∧
    (mctpUnits m).length = (m.length + 63) / 64)

/-- R435 to R437, R449: good power starts the module, which then runs an image or stops with its failure code; BOOTOK, its
deadline and the end of training carry the start-up on. What the probe finds comes with the commands, and what STAGE
names and when the module takes its first values, rest on log 61; a limit runs from the tick that finds it (log 10). -/
def Obligations.StartUpProceedsOrStops : Prop :=
  (∀ (s : State) (b : BootProbe), s.dev.pwr.state = .off →
    exec (.powerGood false b) s = .next s ∧
    ∃ t, exec (.powerGood true b) s = .next (s.withDev t) ∧ t.boot.starts = s.dev.boot.starts + 1 ∧ (∀ die, t.time die = 0) ∧
      t.core.mem = s.dev.core.mem ∧
      ((t.pwr.state = .starting ∧ t.boot.synian = true ∧ fld (t.reg (mgtReg 0)) 23 20 = 6) ∨
        (t.pwr.state = .failed ∧ t.boot.synian = false ∧ fld (t.reg (mgtReg 0)) 31 28 = 2 ∧ 1 ≤ fld (t.reg (mgtReg 0)) 27 24 ∧
          fld (t.reg (mgtReg 0)) 27 24 ≤ 4)) ∧
      (b.flashOk = false → fld (t.reg (mgtReg 0)) 27 24 = 1) ∧ (b.flashOk = true → b.partOk = false → fld (t.reg (mgtReg 0)) 27 24 = 2)) ∧
  (∀ (s : State) (v : Word), bit v 0 = true → s.dev.boot.synian = true → s.dev.boot.bootok = false → s.dev.pwr.state = .starting →
    ∃ t, exec (.mgtBootokWrite v) s = .next (s.withDev t) ∧ t.boot.bootok = true ∧ t.ras.kick = s.dev.time 0 ∧
      fld (t.reg (mgtReg 0)) 23 20 = 7 ∧
      (∀ die, die < 4 → t.reg (pwrReg (0x10 + 4 * die)) = wd (supplySetting (fld (s.dev.cfgCur 5) 15 0))) ∧
      ∀ p, p < 16 → (s.dev.port p).state = 0 → (t.port p).state = (if bit (s.dev.cfgCur 4) p = true then 1 else 0)) ∧
  (∀ (s : State) (err : ReadError), s.dev.boot.synian = true → s.dev.boot.bootok = false → s.dev.pwr.state = .starting →
    s.dev.expired .bootok (2 * 10 ^ 9) = true →
    ∃ t, exec (.bootokTimeout err) s = .next (s.withDev t) ∧ s.dev.boot.slot ∈ t.boot.failed ∧
      ((s.dev.boot.failed ≠ [] ∨ err ≠ .none) → t.pwr.state = .failed ∧ t.boot.synian = false ∧ fld (t.reg (mgtReg 0)) 27 24 = 4) ∧
      (t.pwr.state = .failed ∨ (t.pwr.state = .starting ∧ t.boot.synian = true ∧ t.boot.slot = 1 - s.dev.boot.slot ∧
        fld (t.reg (mgtReg 0)) 19 16 = 6))) ∧
  (∀ (s : State) (err : ReadError), s.dev.expired .bootok (2 * 10 ^ 9) = false → exec (.bootokTimeout err) s = .next s) ∧
  (∀ (s : State) (t1 t2 : Bool) (n : BitVec 16), s.dev.pwr.state = .starting → s.dev.boot.bootok = true →
    s.dev.modRuns = true → ∃ t, exec (.moduleReady t1 t2 n) s = .next (s.withDev t) ∧
      (t1 = true → t2 = true → t.pwr.state = .ready ∧ t.core.mem = [] ∧ t.core.pois = [] ∧ t.core.flaws = [] ∧ bit (t.reg (hifReg 0)) 31 = true ∧
        t.hif.ever = true ∧ fld (t.reg (mgtReg 0)) 31 28 = 1 ∧ fld (t.reg (mgtReg 0)) 23 20 = 10 ∧ fld (t.reg (mgtReg 0)) 15 0 = n.toNat) ∧
      (t1 = false → t.pwr.state = .failed ∧ fld (t.reg (mgtReg 0)) 27 24 = 5) ∧
      (t1 = true → t2 = false → t.pwr.state = .failed ∧ fld (t.reg (mgtReg 0)) 27 24 = 6)) ∧
  (∀ (s : State) (t1 t2 : Bool) (n : BitVec 16), s.dev.pwr.state = .ready → s.dev.modRuns = true →
    ∃ t, exec (.moduleReady t1 t2 n) s = .next (s.withDev t) ∧ bit (t.reg (hifReg 0)) 31 = true ∧ t.core.mem = s.dev.core.mem)

/-- R440, R445, R446, R448, R450, R461: programming the configuration image, updating the other slot, whose image is
checked once more when it is written, and reading the flash through BAR0. That an update's image is read when it is
offered is log 63; an interrupted programming is log 62. R452, R454, R455: an extension hashes the digest into its
measurement, but waits while a quote is signed; a quote is formed at GO and appears when it is complete. That an
extension waits is log 63; the signature is a function without a body (log 22). -/
def Obligations.ImagesMeasurementsAndQuotes : Prop :=
  ((∀ (s : State), s.dev.boot.prog = none → ∃ t c, exec .program s = .next (s.withDev t) ∧ t.boot.prog = some c ∧ c.length = 63 ∧
    (∀ i, i < 63 → wordAt c i = s.dev.reg (cfgReg (0x200 + 4 * i))) ∧ bit (t.reg (cfgReg 8)) 31 = true ∧
    exec .program (s.withDev t) = .next (s.withDev t)) ∧
  (∀ (s : State) (c : List Word), s.dev.boot.prog = some c → c.length = 63 → cfgReason c false = 0 →
    ∃ t, exec (.cfgProgram true) s = .next (s.withDev t) ∧ t.boot.prog = none ∧ t.reg (cfgReg 8) = wd (2 ^ 28) ∧
      t.flashBytes 0x10000 256 = wordsToBytes (c ++ [cfgCheck c]) ∧
      (∀ a, a < 0x10000 ∨ 0x11000 ≤ a → t.flashBytes a 1 = s.dev.flashBytes a 1) ∧
      t.core.evq.map Event.code = s.dev.core.evq.map Event.code ++ [0x0903]) ∧
  (∀ (s : State) (c : List Word) (ok : Bool), s.dev.boot.prog = some c → cfgReason c false ≠ 0 →
    ∃ t, exec (.cfgProgram ok) s = .next (s.withDev t) ∧ t.boot.flash = s.dev.boot.flash ∧ t.reg (cfgReg 8) = wd (2 * 2 ^ 28)) ∧
  (∀ (s : State), s.dev.boot.upd = none → s.dev.boot.synian = true → s.dev.busyUnits = [] →
    ∃ t u, exec .offerUpdate s = .next (s.withDev t) ∧ t.boot.upd = some u ∧ u.slot = 1 - s.dev.boot.slot ∧
      bit (t.reg (secReg 0x30)) 31 = true ∧ t.boot.flash = s.dev.boot.flash ∧
      (s.dev.rangeOk (join (s.dev.reg (secReg 0x20)) (s.dev.reg (secReg 0x24))) (s.dev.reg (secReg 0x28)).toNat = false → u.result = 6) ∧
      (u.result = 1 → imgSeq s.dev.boot.hdr < imgSeq (bytesToWords 64 (u.image.take 256)))) ∧
  (∀ (s : State) (u : Update), s.dev.boot.upd = some u →
    (∀ (ok : Bool), s.dev.flashRefused (slotBase u.slot) slotLen = true → ∃ t, exec (.imageUpdate ok) s = .next (s.withDev t) ∧
      t.boot.upd = none ∧ t.boot.flash = s.dev.boot.flash) ∧
    (u.result = 1 → u.slot < 2 → s.dev.flashRefused (slotBase u.slot) slotLen = false →
      ∃ t, exec (.imageUpdate true) s = .next (s.withDev t) ∧ t.boot.upd = none ∧
      t.flashBytes (slotBase u.slot) u.image.length = u.image ∧ fld (t.reg (secReg 0x30)) 30 27 =
        (if s.dev.imageReason .none (fun off k => (u.image.drop off).take k) = 0 then 1
          else if s.dev.imageReason .none (fun off k => (u.image.drop off).take k) = 5 then 4 else 2)) ∧
    (u.result = 1 → ∃ t, exec (.imageUpdate false) s = .next (s.withDev t) ∧ t.boot.upd = none ∧ fld (t.reg (secReg 0x30)) 30 27 = 5 ∧
      ∃ v ∈ t.core.evq, v.code = 0x0904 ∧ v.data = wd (5 * 2 ^ 28)) ∧
    (u.result ≠ 1 → u.result < 16 → u.result ≠ 5 → ∃ t, exec (.imageUpdate true) s = .next (s.withDev t) ∧ t.boot.upd = none ∧
      t.boot.flash = s.dev.boot.flash ∧ fld (t.reg (secReg 0x30)) 30 27 = u.result)) ∧
  (∀ (s : State) (i : Nat), i = fld (s.dev.reg (secReg 0x10)) 23 0 → s.dev.busyUnits = [] →
    (s.dev.hostOpen = true → ∃ t, exec .secFldataRead s = .next (s.withDev t) ∧
      t.out = s.dev.out ++ [Out.hostRead (toBytes 4 (s.dev.flashWord (4 * i)).toNat) false true] ∧ t.reg (secReg 0x10) = wd ((i + 1) % 2 ^ 24)) ∧
    (s.dev.hostOpen = false → exec .secFldataRead s = .next (s.withDev (s.dev.barShutRead 4))))) ∧
  ((∀ (s : State) (k : Fin 8), 5 ≤ k.val → s.dev.boot.quote = none → ∃ t, exec (.extend k) s = .next (s.withDev t) ∧
    t.measurement k.val = sha256 (s.dev.measurement k.val ++ wordsToBytes ((List.range 8).map (fun w => s.dev.reg (secReg (0x40 + 4 * w))))) ∧
    ∀ j, j < 8 → j ≠ k.val → t.measurement j = s.dev.measurement j) ∧
  (∀ (s : State) (k : Fin 8), k.val < 5 → exec (.extend k) s = .next s) ∧
  (∀ (s : State) (k : Fin 8) (m : List Byte), 5 ≤ k.val → s.dev.boot.quote = some m → ∃ t, exec (.extend k) s = .next (s.withDev t) ∧
    t.core = s.dev.core ∧ t.boot.ext = s.dev.boot.ext ++
      [(k.val, wordsToBytes ((List.range 8).map (fun w => s.dev.reg (secReg (0x40 + 4 * w)))))]) ∧
  (∀ (s : State), s.dev.boot.quote = none → ∃ t m, exec .quote s = .next (s.withDev t) ∧ t.boot.quote = some m ∧ m.length = 320 ∧
    m.take 4 = [0x48, 0x4B, 0x51, 0x31] ∧ (∀ k, k < 8 → (m.drop (64 + 32 * k)).take 32 = s.dev.measurement k) ∧
    (m.drop 32).take 32 = wordsToBytes ((List.range 8).map (fun w => s.dev.reg (secReg (0x80 + 4 * w)))) ∧
    t.reg (secReg 0xA4) = wd (2 ^ 31) ∧ exec .quote (s.withDev t) = .next (s.withDev t)) ∧
  (∀ (s : State) (m : List Byte), s.dev.boot.quote = some m → (∀ x ∈ s.dev.boot.ext, x.1 < 8) →
    ∃ t, exec .quoteReady s = .next (s.withDev t) ∧ t.boot.quote = none ∧
    t.boot.ext = [] ∧ t.reg (secReg 0xA4) = wd (2 ^ 30) ∧
    ∀ i, i < 685 → t.reg (secReg (0x1000 + 4 * i)) = wordAt (bytesToWords 685 (s.dev.signQuote m)) i))

/-- R467 to R474, R480: an armed slot fires once and the module is latched for it, or it waits while a snapshot is held;
Synian then owes it a reset, a wider one where it fires again within 1 s, or stops with SERVICE_ADVISED; shadow words
are read one by one; RELEASE writes the dump with the sections that fit, asks for the reset still owed, and latches
for the lowest slot that waits. Where state that no register shows stands in a shadow, and when Synian decides and
asks, rest on logs 65 and 70; a slot's limit runs from a tick (log 10). -/
def Obligations.HangsLatchASnapshot : Prop :=
  (∀ (s : State) (w : Nat), slotOk w = true → s.dev.armed w = true → mget false s.dev.ras.fired w = false → s.dev.paused w = false →
    s.dev.expired (.hang w (mget 0 s.dev.ras.prog w)) (1000 * (s.dev.period w).toNat) = true →
    ∃ t, exec (.hang w) s = .next t ∧ t.pending = s.pending ∧ mget false t.dev.ras.fired w = true ∧ t.dev.core.mem = s.dev.core.mem ∧
      (w ∈ s.dev.ras.stopped → t.dev.ras.owed = s.dev.ras.owed) ∧
      (w ∉ s.dev.ras.stopped → (∀ l b, mget none s.dev.ras.hung w = some (l, b) → b + 10 ^ 9 < s.dev.time 0) →
        mget none t.dev.ras.owed w = some (slotLevel w)) ∧
      (∀ l b, w ∉ s.dev.ras.stopped → mget none s.dev.ras.hung w = some (l, b) → s.dev.time 0 ≤ b + 10 ^ 9 →
        (l ≠ 2 → mget none t.dev.ras.owed w = some (max (slotLevel w) (l + 1))) ∧
        (l = 2 → w ∈ t.dev.ras.stopped ∧ t.dev.ras.owed = s.dev.ras.owed ∧ bit (t.dev.reg (rasReg 0x40)) 2 = true)) ∧
      t.dev.core.evq.map Event.code = s.dev.core.evq.map Event.code ++ [0x0A01] ++
        (if !s.dev.ras.stopped.contains w && (mget none s.dev.ras.hung w).any (fun x => x.1 == 2 && decide (s.dev.time 0 ≤ x.2 + 10 ^ 9))
          then [0x0A0B] else []) ∧
      (s.dev.ras.snapw = none → t.dev.ras.snapw = some w ∧ ∃ x, t.snap = some x ∧ x.core.mem = s.dev.core.mem ∧
        (∀ k, k ≠ rasReg 0x40 → x.reg k = s.dev.reg k) ∧
        x.core.queues = s.dev.core.queues ∧ x.kiln = s.dev.kiln ∧ x.vec = s.dev.vec ∧ x.dma = s.dev.dma) ∧
      (s.dev.ras.snapw ≠ none → t.dev.ras.snapw = s.dev.ras.snapw ∧ t.snap = s.snap ∧ w ∈ t.dev.ras.pend)) ∧
  (∀ (s : State) (w : Nat), s.dev.armed w = false ∨ mget false s.dev.ras.fired w = true ∨ s.dev.paused w = true ∨
    s.dev.expired (.hang w (mget 0 s.dev.ras.prog w)) (1000 * (s.dev.period w).toNat) = false → exec (.hang w) s = .next s) ∧
  (∀ (s : State), s.dev.ras.sgBusy = false → ∃ t, exec .shadowRead s = .next (s.withDev t) ∧ t.ras.sgBusy = true ∧
    t.ras.sgUnit = (s.dev.reg (rasReg 8)).toNat ∧ t.ras.sgIdx = fld (s.dev.reg (rasReg 0xC)) 19 0 ∧
    t.reg (rasReg 0x14) = wd (2 ^ 31) ∧ exec .shadowRead (s.withDev t) = .next (s.withDev t)) ∧
  (∀ (s : State) (x : Device), s.dev.ras.sgBusy = true → s.snap = some x →
    ∃ t, exec .shadowWordReady s = .next (s.withDev t) ∧ t.ras.sgBusy = false ∧ t.reg (rasReg 0x14) = wd (2 ^ 30) ∧
      t.reg (rasReg 0x18) = x.shadowWord s.dev.ras.sgUnit s.dev.ras.sgIdx ∧
      t.reg (rasReg 0xC) = wd ((s.dev.ras.sgIdx + 1) % 2 ^ 20)) ∧
  (∀ (s : State), s.dev.ras.sgBusy = true → s.dev.expired .noresp 100000 = true → ∃ t, exec .noresp s = .next (s.withDev t) ∧ t.ras.sgBusy = false ∧
    t.reg (rasReg 0x14) = wd (2 ^ 29) ∧ s.dev.ras.sgUnit ∈ t.ras.noresp ∧
    t.core.evq.map Event.code = s.dev.core.evq.map Event.code ++ [0x0A02]) ∧
  (∀ (s : State) (w : Nat) (us fs ws : List Nat) (l : List (List Byte)) (trunc : Bool), s.dev.ras.snapw = some w →
    l = (if s.dev.dumpRoom = 0 then [] else fitSections (s.dev.dumpRoom - 64) (s.collected us fs ws)) →
    trunc = decide (s.dev.dumpRoom = 0 ∨ l.length ≠ (us.zip (fs.zip ws)).length) → s.dev.busyUnits = [] →
    ∃ t, exec (.release us fs ws) s = .next t ∧ t.pending = s.pending ∧ t.dev.ras.dseq = (s.dev.ras.dseq + 1) % 2 ^ 32 ∧
      (s.dev.dumpRoom = 0 → t.dev.core.mem = s.dev.core.mem) ∧
      (s.dev.dumpRoom ≠ 0 → t.dev.core.mem = (s.dev.write s.dev.dumpBase
        (clean (dumpBytes (s.snap.getD s.dev) w ((s.dev.ras.dseq + 1) % 2 ^ 32) trunc l))).core.mem) ∧
      (∃ e ∈ t.dev.core.evq, e.code = 0x0A08 ∧ e.data = wd ((s.dev.ras.dseq + 1) % 2 ^ 32 % 2 ^ 16 * 2 ^ 16 +
        (if trunc = true then 1 else 0) * 2 ^ 15 + l.length % 2 ^ 15)) ∧
      (∀ x, mget none s.dev.ras.owed w = some x → mget none t.dev.ras.owed w = none ∧
        (s.dev.ras.run = none → t.dev.ras.run = some (resetOf w x))) ∧
      (mget none s.dev.ras.owed w = none → t.dev.ras.run = s.dev.ras.run ∧ t.dev.ras.noresp = []) ∧
      (s.dev.ras.pend = [] → t.dev.ras.snapw = none ∧ t.snap = s.snap) ∧
      (∀ v m, s.dev.ras.pend = v :: m → t.dev.ras.snapw = some v ∧ t.dev.ras.pend = m ∧ ∃ x, t.snap = some x ∧ x.core.mem = t.dev.core.mem) ∧
      t.dev.core.evq.map Event.code = s.dev.core.evq.map Event.code ++ [0x0A08]) ∧
  (∀ (s : State), s.dev.ras.snapw = none → s.dev.busyUnits = [] → ∀ (us fs ws : List Nat), exec (.release us fs ws) s = .next s) ∧
  (∀ (room : Nat) (l : List (List Byte)), (fitSections room l).Sublist l ∧ (fitSections room l).flatten.length ≤ room ∧
    (l.flatten.length ≤ room → fitSections room l = l)) ∧
  (∀ (x : Device) (nr : Bool) (unit index n : Nat), (sectionBytes x nr unit index n).length % 16 = 0 ∧
    (sectionBytes x nr unit index n).take 4 = toBytes 4 unit ∧
    (nr = true → (sectionBytes x nr unit index n).length = 16) ∧
    (nr = false → ∀ i, i < n → ((sectionBytes x nr unit index n).drop (16 + 4 * i)).take 4 = toBytes 4 (x.shadowWord unit (index + i)).toNat)) ∧
  (∀ (x : Device) (w n : Nat) (tr : Bool) (l : List (List Byte)), (dumpBytes x w n tr l).length = 64 + l.flatten.length ∧
    (dumpBytes x w n tr l).take 4 = [0x48, 0x4B, 0x44, 0x50] ∧ (dumpBytes x w n tr l).drop 64 = l.flatten ∧
    ((dumpBytes x w n tr l).drop 60).take 4 =
      toBytes 4 (crc32c ((dumpBytes x w n tr l).take 60 ++ [0, 0, 0, 0] ++ (dumpBytes x w n tr l).drop 64)).toNat)

/-- R414, R475 to R477, R480: a reset starts, is merged into one that encloses it, or is queued; a host's needs the host's
access, the watchdog asks for the module only. When it is done its slots can fire again and are owed nothing more, its
tag is one higher and its domain is released. Which steps come with the request and what each level clears rest on log
67; what Synian keeps of a handled hang, on log 70. -/
def Obligations.ResetsStartAndEnd : Prop :=
  (∀ (i : Instr) (r : Reset), (∃ w, i = .groupReset w ∧ r = { level := 0, target := w } ∧ w < 256 ∧ (w % 64 < 25 ∨ (30 ≤ w % 64 ∧ w % 64 < 36))) ∨
      (∃ d, i = .dieReset .synian d ∧ r = { level := 1, target := d.val }) ∨ i = .moduleReset .synian ∧ r = { level := 2 } ∨
      i = .moduleReset .watchdog ∧ r = { level := 2, src := .watchdog } →
    ∀ (s : State), s.dev.busyUnits = [] →
    (s.dev.ras.run = none → ∃ t, exec i s = .next (s.withDev t) ∧ t.ras.run = some r ∧ r.key ∈ t.ras.fence ∧ t.core.mem = s.dev.core.mem ∧
      (r.level = 2 → bit (t.reg (hifReg 0)) 31 = false)) ∧
    (∀ x, s.dev.ras.run = some x → (∃ y ∈ x :: s.dev.ras.queue, y.encloses r = true) → exec i s = .next s) ∧
    (∀ x, s.dev.ras.run = some x → (∀ y ∈ x :: s.dev.ras.queue, y.encloses r = false) →
      exec i s = .next (s.withDev { s.dev with ras.queue := s.dev.ras.queue ++ [r] }))) ∧
  (∀ (s : State) (d : Fin 4), s.dev.busyUnits = [] → exec (.dieReset .watchdog d) s = .next s ∧
    (s.dev.hostOpen = false → exec (.dieReset .host d) s = .next (s.withDev s.dev.barShut) ∧
      exec (.moduleReset .host) s = .next (s.withDev s.dev.barShut)) ∧
    (s.dev.hostOpen = true → s.dev.ras.run = none → ∃ t u, exec (.dieReset .host d) s = .next (s.withDev t) ∧
      t.ras.run = some { level := 1, target := d.val, src := .host } ∧ exec (.moduleReset .host) s = .next (s.withDev u) ∧
      u.ras.run = some { level := 2, src := .host })) ∧
  (∀ (s : State) (w : Nat), slotOk w = false ∨ 256 ≤ w ∨ (25 ≤ w % 64 ∧ w % 64 < 30) → exec (.groupReset w) s = .next s) ∧
  (∀ (s : State) (r : Reset), s.dev.ras.run = some r → s.dev.ras.queue = [] → r.key ∈ s.dev.ras.fence → r.level < 3 →
    (r.level = 1 → r.target < 4) → (r.level = 0 → r.target < 256) → (r.level = 2 → r.target = 0) →
    ∃ t, exec .resetDone s = .next (s.withDev t) ∧ t.ras.run = none ∧ r.key ∉ t.ras.fence ∧
      (∀ w, r.holds w = true → mget false t.ras.fired w = false ∧ mget none t.ras.owed w = none) ∧
      (∀ w, w < 263 → slotOk w = true → r.holds w = true → mget false s.dev.ras.fired w = true →
        mget none t.ras.hung w = some (r.level, s.dev.time 0)) ∧ t.core.ltc = s.dev.core.ltc ∧ t.boot = s.dev.boot ∧
      (∃ e l, t.core.evq = l ++ [e] ∧ e.code = 0x0A09 ∧ e.unit = r.unit) ∧
      (r.level = 2 → t.selfGen = (s.dev.selfGen + 1) % 256 ∧ t.fab.tags = []) ∧
      (r.level < 2 → mget 0 t.ras.gens r.key = (mget 0 s.dev.ras.gens r.key + 1) % 256) ∧
      (r.level = 1 → (∀ c, c < 256 → t.sync r.target c = 0) ∧
        ∀ off, off < 0x10000 → t.reg (dreg r.target 1 off) = regReset (dreg r.target 1 off)))

/-- R484, R485, R489: KICK and the management core's watchdog (log 70); a repair is asked for, refused or done (log 69). -/
def Obligations.ManagementCoreAndRepairs : Prop :=
  (∀ (s : State), exec .kick s = .next (s.withDev { s.dev with ras.kick := s.dev.time 0 })) ∧
  (∀ (s : State) (err : ReadError), s.dev.time 0 < s.dev.ras.kick + 10 ^ 9 → exec (.mgtWatchdog err) s = .next s) ∧
  (∀ (s : State) (err : ReadError), s.dev.boot.bootok = true → (s.dev.pwr.state = .starting ∨ s.dev.pwr.state = .ready) →
    s.dev.ras.kick + 10 ^ 9 ≤ s.dev.time 0 →
    s.dev.ras.run = none →
    ∃ t, exec (.mgtWatchdog err) s = .next t ∧ t.dev.ras.run = some { level := 2, src := .watchdog } ∧
      (s.dev.ras.snapw = none → t.dev.ras.snapw = some 0x1FF ∧ t.snap = some s.dev) ∧
      (s.dev.ras.snapw ≠ none → t.dev.ras.snapw = s.dev.ras.snapw ∧ t.snap = s.snap) ∧
      (err ≠ .none → t.dev.pwr.state = .failed ∧ fld (t.dev.reg (mgtReg 0)) 27 24 = 4) ∧
      ((t.dev.pwr.state = .failed ∧ t.dev.boot.synian = false) ∨ (t.dev.pwr.state = s.dev.pwr.state ∧ t.dev.ras.kick = s.dev.time 0 ∧
        t.dev.reg (rasReg 0x48) = wd ((fld (s.dev.reg (rasReg 0x48)) 15 0 + 1) % 65536) ∧ ∃ e ∈ t.dev.core.evq, e.code = 0x0A0C))) ∧
  (∀ (s : State) (src : BitVec 15), s.dev.ras.repair = none → s.dev.busyUnits = [] →
    (∀ l, l = (List.range 4).flatMap s.dev.stateTable →
      ((∃ x ∈ l, x = none) → ∃ t, exec (.repair src false) s = .next (s.withDev t) ∧ t.inj = s.dev.inj ∧
        t.ras.repair.map Repairing.result = some 4) ∧
      (∀ a n m, l = some (a, n) :: m → 0 < n → (∀ x ∈ l, x ≠ none) → src.toNat ≠ s.dev.selfMod →
        ∃ t q, exec (.repair src false) s = .next (s.withDev t) ∧
          (s.dev.injFits 0 1 = true → t.inj = s.dev.inj ++ [(0, q)] ∧ t.injw = s.dev.injw) ∧
          (s.dev.injFits 0 1 = false → t.inj = s.dev.inj ∧ t.injw = s.dev.injw ++ [(0, q)]) ∧ q.kind = 2 ∧ q.dst = src.toNat ∧ q.off = a ∧
          q.len = min n (512 - a % 512) ∧ t.ras.repair.map Repairing.result = some 0) ∧
      (l = [] → src.toNat ≠ s.dev.selfMod → ∃ t, exec (.repair src false) s = .next (s.withDev t) ∧ t.inj = s.dev.inj ∧
        t.ras.repair.map Repairing.result = some 1))) ∧
  (∀ (s : State) (src : BitVec 15) (m : Bool) (r : Repairing), s.dev.ras.repair = some r → s.dev.busyUnits = [] →
    exec (.repair src m) s = .next s) ∧
  (∀ (s : State) (ls : List Word) (ep : BitVec 4) (r : Repairing), s.dev.ras.repair = some r → r.result ≠ 0 →
    ∃ t, exec (.repairDone ls ep) s = .next (s.withDev t) ∧ t.ras.repair = none ∧ (r.result = 1 → t.core.mem = s.dev.core.mem) ∧
      (∀ a, (∀ x ∈ r.regions, ∀ i, i < x.2 → canonAddr a ≠ canonAddr (x.1 + i)) → (t.readByte a).1 = (s.dev.readByte a).1) ∧
      t.core.evq.map Event.code = s.dev.core.evq.map Event.code ++ [0x0A0A] ∧
      (r.result = 1 → r.source ≠ s.dev.selfMod → ∀ die, die < 4 → t.reg (trsReg die 0x10) = wordAt ls die ∧
        t.reg (trsReg die 4) = wd (ep.toNat / 2 ^ die % 2)) ∧
      (r.result ≠ 1 → t.core.regs = s.dev.core.regs)) ∧
  (∀ (s : State) (ls : List Word) (ep : BitVec 4), (∀ r, s.dev.ras.repair = some r → r.result = 0) → exec (.repairDone ls ep) s = .next s)

/-- R31, R32, R238, R419, R482, R488, R490: a register write sets the fields of the one register it names and only those,
or does what that register's write does; 8 bytes are its two registers, any other access writes nothing and reads 0; a
step abort marks every die and goes out on every axis; SVCSET posts what wants service; a threshold reached twice
within 24 h asks for service, and else shortens its tier's scrub interval. The order of what one write does, and a
dump without sections for RELEASE, rest on log 64; step aborts and service on log 70. -/
def Obligations.RegisterWritesAndStepAborts : Prop :=
  (∀ (s : State) (ag : Agent) (own blk off : Nat) (v : Word) (r : RegRow), own < 9 → blk < 16 → off < 0x10000 → off % 4 = 0 →
    findReg (regKey own blk off) = some r → s.dev.busyUnits = [] → s.dev.regAct ag (regKey own blk off) v = none → r.w ≠ 0 → r.w1 = 0 → (r.mgmt = true → ag = .mgmt) →
    (ag = .host → s.dev.hostOpen = true) → s.dev.regHeld own blk off = false → s.dev.regWritable own blk off = true →
    (∀ x, regClamp own blk off x = x) →
    ∃ t, exec (.registerWrite ag (regKey own blk off) 4 (BitVec.ofNat 64 v.toNat) false) s = .next (s.withDev t) ∧
      t.reg (regKey own blk off) = (s.dev.reg (regKey own blk off) &&& ~~~(wd r.w)) ||| (v &&& wd r.w) ∧
      (∀ k, k ≠ regKey own blk off → (own = 8 ∧ (blk = 1 ∨ blk = 2) → k ∉ [mreg 1 4, mreg 2 4, rasReg 0x40]) → t.reg k = s.dev.reg k) ∧ t.core.mem = s.dev.core.mem ∧ t.core.queues = s.dev.core.queues) ∧
  (∀ (s : State) (ag : Agent) (off : Nat) (v : BitVec 64) (r : RegRow), findReg off = some r → r.mgmt = true → ag ≠ .mgmt →
    (ag = .host → s.dev.hostOpen = true) → s.dev.busyUnits = [] → exec (.registerWrite ag off 4 v false) s = .next s) ∧
  (∀ (s : State) (ag : Agent) (key : Nat) (v : Word) (t : Device), s.dev.busyUnits = [] → s.dev.regAct ag key v = some t →
    key % 4 = 0 → key < 2 ^ 24 → (ag = .host → s.dev.hostOpen = true) → (ag = .mgmt → key = rasReg 4 → bit v 0 = false) →
    exec (.registerWrite ag key 4 (BitVec.ofNat 64 v.toNat) false) s = .next (s.withDev t)) ∧
  (∀ (s : State) (v : BitVec 64), v.getLsbD 0 = true → s.dev.busyUnits = [] →
    exec (.registerWrite .mgmt (rasReg 4) 4 v false) s = exec (.release [] [] []) s) ∧
  (∀ (s : State) (d : Fin 4) (n : Fin 32) (t : State), s.dev.busyUnits = [] → s.dev.regHeld d.val 8 (0x1004 + 64 * n.val) = false →
    exec (.dmaAbort d n) s = .next t →
    exec (.registerWrite .mgmt (dreg d.val 8 (0x1004 + 64 * n.val)) 4 3 false) s = exec (.purge d n) t) ∧
  (∀ (s : State) (ag : Agent) (off width : Nat) (v : BitVec 64), s.dev.busyUnits = [] → (ag = .host → s.dev.hostOpen = true) →
    (2 ^ 24 ≤ off ∨ (width ≠ 4 ∧ width ≠ 8) ∨ off % width ≠ 0) → exec (.registerWrite ag off width v false) s = .next s ∧
      s.dev.readAccess off width = 0) ∧
  (∀ (d : Device) (off : Nat), off < 2 ^ 24 → off % 8 = 0 → (∀ die, die < 4 → off ≠ dreg die 6 0xF000) →
    d.readAccess off 8 = (d.readReg off).toNat + 2 ^ 32 * (d.readReg (off + 4)).toNat) ∧
  (∀ (s t : State) (ag : Agent) (off : Nat) (v : BitVec 64), s.dev.busyUnits = [] → off < 2 ^ 24 → off % 8 = 0 →
    (ag = .host → s.dev.hostOpen = true) → off ≠ rteReg 0x18 → (∀ die, die < 4 → off / 2 ^ 16 ≠ dreg die 9 0 / 2 ^ 16) →
    (∀ (d : Device) (v : Word), Device.regAct d ag off v = none ∧ Device.regAct d ag (off + 4) v = none) →
    exec (.registerWrite ag off 4 (BitVec.ofNat 64 (v.toNat % 2 ^ 32)) false) s = .next t →
    exec (.registerWrite ag off 8 v false) s = exec (.registerWrite ag (off + 4) 4 (BitVec.ofNat 64 (v.toNat / 2 ^ 32)) false) t) ∧
  (∀ (s : State) (off w : Nat) (v : BitVec 64), s.dev.hostOpen = true → s.dev.busyUnits = [] →
    exec (.registerWrite .host off w v true) s = .next (s.withDev s.dev.poisonedWrite)) ∧
  (∀ (s : State) (try_ : BitVec 8), s.dev.colHeld (s.dev.reg (rasReg 0x50)).toNat try_.toNat = false →
    ∃ t, exec (.stepAbort try_) s = .next (s.withDev t) ∧
      (∀ x, x < 4 → t.reg (colReg x 0x10) = wd (2 ^ 31 + 4 * 2 ^ 28 + try_.toNat * 2 ^ 16 + fld (s.dev.reg (rasReg 0x50)) 15 0)) ∧
      (∀ (x : Nat) (r : ColRun), x < 4 → s.dev.openCol x (s.dev.reg (rasReg 0x50)).toNat try_.toNat = some r → (t.colOf x).run = none) ∧
      ∀ (k dir q : Nat), 1 ≤ k → k ≤ 5 → dir < 2 → bit (s.dev.reg (rteReg (0x40 + 4 * k))) 31 = true → s.dev.trunkPort k dir 5 = some q →
        ∃ g ∈ (t.port q).txq, g.pt = 5 ∧ colKind g = 4) ∧
  (∀ (s : State) (try_ : BitVec 8), s.dev.colHeld (s.dev.reg (rasReg 0x50)).toNat try_.toNat = true → exec (.stepAbort try_) s = .next s) ∧
  (∀ (s : State) (m : BitVec 3) (who : Nat), ∃ t, exec (.svcset m who) s = .next (s.withDev t) ∧
    t.reg (rasReg 0x40) = s.dev.reg (rasReg 0x40) ||| wd m.toNat ∧ t.core.mem = s.dev.core.mem ∧
    t.core.evq.map Event.code = s.dev.core.evq.map Event.code ++
      List.replicate ((List.range 3).filter (fun k => m.toNat.testBit k)).length 0x0A0B ∧
    ∀ k, k < 3 → m.toNat.testBit k = true → ∃ v : Event, v ∈ t.core.evq ∧ v.code = 0x0A0B ∧
      v.unit = (if k = 0 then uStack (who % 8) else if k = 1 then uMrd (who % 8) else uModule) ∧
      v.data = wd ((k + 1) * 2 ^ 28 + (if k = 2 then who % 512 else who % 8))) ∧
  (∀ (e : Device) (tier n code unit : Nat), tier < 2 → n < 8 → unit = (if tier = 0 then uStack n else uMrd n) →
    code = (if tier = 0 then 0x040D else 0x040A) →
    mget none (e.answerCe code unit).core.crossed (8 * tier + n) = some (e.time 0) ∧
    ((∀ (b : Nat), mget none e.core.crossed (8 * tier + n) = some b → b + 24 * 3600 * 10 ^ 9 < e.time 0) →
      fld ((e.answerCe code unit).reg (mreg (1 + tier) 4)) 7 0 = 1 ∧ (e.answerCe code unit).core.evq = e.core.evq) ∧
    (∀ (b : Nat), mget none e.core.crossed (8 * tier + n) = some b → e.time 0 ≤ b + 24 * 3600 * 10 ^ 9 →
      bit ((e.answerCe code unit).reg (rasReg 0x40)) tier = true ∧
      ∃ v : Event, (e.answerCe code unit).core.evq = e.core.evq ++ [v] ∧ v.code = 0x0A0B ∧ v.unit = unit ∧ v.data = wd ((tier + 1) * 2 ^ 28 + n)))

/-- R493, R494, R500 to R502: losing power or a thermal shutdown clears all but the flash, the fuses and the count of
starts; a warning is posted once until its sensor has read 5 K below; a shutdown is held until the feed has been away
or the presence contact opens. That a thermal row carries the reading it acts on is log 71. -/
def Obligations.PowerIsLostAndWarned : Prop :=
  (∀ (i : Instr) (s : State) (st : PowerState), (i = .lossOfPower ∧ s.dev.pwr.state ≠ .shutdown ∧ st = .off) ∨
      (∃ (k : Fin 5) (x : Fin 64) (v : BitVec 16) (y : Int), i = .thermalShutdown k x v ∧ s.dev.powered = true ∧ x.val < sensorCount k.val ∧
        shutAt k.val = some y ∧ y ≤ v.toInt ∧ st = .shutdown) →
    ∃ t, exec i s = .next t ∧ t.pending = s.pending ∧ t.snap = none ∧ t.dev.pwr.state = st ∧ t.dev.core.mem = [] ∧ t.dev.core.regs = [] ∧
      t.dev.core.queues = [] ∧ t.dev.boot.starts = s.dev.boot.starts ∧ t.dev.floor = s.dev.floor ∧ t.dev.revoked = s.dev.revoked ∧
      (s.dev.boot.prog = none → s.dev.boot.upd = none → t.dev.boot.flash = s.dev.boot.flash)) ∧
  (∀ (s : State), s.dev.pwr.state = .shutdown → exec .lossOfPower s = .next s) ∧
  (∀ (s : State) (k : Fin 5) (x : Fin 64) (v : BitVec 16), (∀ y, shutAt k.val = some y → v.toInt < y) → exec (.thermalShutdown k x v) s = .next s) ∧
  (∀ (s : State) (k : Fin 5) (x : Fin 64) (v : BitVec 16), s.dev.powered = true → x.val < sensorCount k.val → warnAt k.val x.val ≤ v.toInt →
    mget false s.dev.pwr.warned (k.val * 64 + x.val) = false →
    ∃ t u, exec (.thermWarn k x v) s = .next (s.withDev t) ∧ mget false t.pwr.warned (k.val * 64 + x.val) = true ∧
      bit (t.reg (pwrReg 0xC8)) k.val = true ∧ t.core.mem = s.dev.core.mem ∧ t.core.queues = s.dev.core.queues ∧
      t.core.sync = s.dev.core.sync ∧ t.pwr.state = s.dev.pwr.state ∧ t.pwr.held = s.dev.pwr.held ∧ t.kiln = s.dev.kiln ∧
      (∃ e l, t.core.evq = l ++ [e] ∧ e.code = 0x0A0D ∧ e.unit = sensorUnit k.val x.val ∧ e.data = wd (v.toNat * 2 ^ 16 + k.val * 2 ^ 8 + x.val)) ∧
      exec (.thermWarn k x v) (s.withDev t) = .next (s.withDev u) ∧ u.core.evq = t.core.evq) ∧
  (∀ (s : State) (k : Fin 5) (x : Fin 64) (v : BitVec 16), s.dev.powered = true → x.val < sensorCount k.val →
    ∃ t, exec (.thermWarnRearm k x v) s = .next (s.withDev t) ∧ t.core.evq = s.dev.core.evq ∧
      mget false t.pwr.warned (k.val * 64 + x.val) =
        (mget false s.dev.pwr.warned (k.val * 64 + x.val) && decide (warnAt k.val x.val - 50 < v.toInt))) ∧
  (∀ (s : State) (ms : Nat) (op : Bool), s.dev.pwr.state = .shutdown →
    ((1000 ≤ ms ∨ op = true) → ∃ t, exec (.shutdownRelease ms op) s = .next (s.withDev t) ∧ t.pwr.state = .off ∧ t.core = s.dev.core) ∧
    (ms < 1000 → op = false → exec (.shutdownRelease ms op) s = .next s))
end

