-- ==== Sys2Proof/Laws/State.lean ====
section
/-! SUPPORT. What each update of the device leaves alone: one lemma per field and update, all by unfolding. -/

namespace Sys2Proof.Machine

variable (d : Device)

/-! `setReg` -/
@[simp] theorem Device.setReg_kiln (k : Nat) (v : Word) : (d.setReg k v).kiln = d.kiln := rfl
@[simp] theorem Device.setReg_mvp (k : Nat) (v : Word) : (d.setReg k v).mvp = d.mvp := rfl
@[simp] theorem Device.setReg_sts (k : Nat) (v : Word) : (d.setReg k v).sts = d.sts := rfl
@[simp] theorem Device.setReg_vec (k : Nat) (v : Word) : (d.setReg k v).vec = d.vec := rfl
@[simp] theorem Device.setReg_ctl (k : Nat) (v : Word) : (d.setReg k v).ctl = d.ctl := rfl
@[simp] theorem Device.setReg_dma (k : Nat) (v : Word) : (d.setReg k v).dma = d.dma := rfl
@[simp] theorem Device.setReg_tier (k : Nat) (v : Word) : (d.setReg k v).tier = d.tier := rfl
@[simp] theorem Device.setReg_slip (k : Nat) (v : Word) : (d.setReg k v).slip = d.slip := rfl
@[simp] theorem Device.setReg_train (k : Nat) (v : Word) : (d.setReg k v).train = d.train := rfl
@[simp] theorem Device.setReg_ing (k : Nat) (v : Word) : (d.setReg k v).ing = d.ing := rfl
@[simp] theorem Device.setReg_fab (k : Nat) (v : Word) : (d.setReg k v).fab = d.fab := rfl
@[simp] theorem Device.setReg_col (k : Nat) (v : Word) : (d.setReg k v).col = d.col := rfl
@[simp] theorem Device.setReg_inj (k : Nat) (v : Word) : (d.setReg k v).inj = d.inj := rfl
@[simp] theorem Device.setReg_injw (k : Nat) (v : Word) : (d.setReg k v).injw = d.injw := rfl
@[simp] theorem Device.setReg_hif (k : Nat) (v : Word) : (d.setReg k v).hif = d.hif := rfl
@[simp] theorem Device.setReg_boot (k : Nat) (v : Word) : (d.setReg k v).boot = d.boot := rfl
@[simp] theorem Device.setReg_ras (k : Nat) (v : Word) : (d.setReg k v).ras = d.ras := rfl
@[simp] theorem Device.setReg_pwr (k : Nat) (v : Word) : (d.setReg k v).pwr = d.pwr := rfl
@[simp] theorem Device.setReg_out (k : Nat) (v : Word) : (d.setReg k v).out = d.out := rfl
@[simp] theorem Device.setReg_core_mem (k : Nat) (v : Word) : (d.setReg k v).core.mem = d.core.mem := rfl
@[simp] theorem Device.setReg_core_pois (k : Nat) (v : Word) : (d.setReg k v).core.pois = d.core.pois := rfl
@[simp] theorem Device.setReg_core_flaws (k : Nat) (v : Word) : (d.setReg k v).core.flaws = d.core.flaws := rfl
@[simp] theorem Device.setReg_core_cap (k : Nat) (v : Word) : (d.setReg k v).core.cap = d.core.cap := rfl
@[simp] theorem Device.setReg_core_queues (k : Nat) (v : Word) : (d.setReg k v).core.queues = d.core.queues := rfl
@[simp] theorem Device.setReg_core_opens (k : Nat) (v : Word) : (d.setReg k v).core.opens = d.core.opens := rfl
@[simp] theorem Device.setReg_core_nextCid (k : Nat) (v : Word) : (d.setReg k v).core.nextCid = d.core.nextCid := rfl
@[simp] theorem Device.setReg_core_nextOrd (k : Nat) (v : Word) : (d.setReg k v).core.nextOrd = d.core.nextOrd := rfl
@[simp] theorem Device.setReg_core_done (k : Nat) (v : Word) : (d.setReg k v).core.done = d.core.done := rfl
@[simp] theorem Device.setReg_core_sync (k : Nat) (v : Word) : (d.setReg k v).core.sync = d.core.sync := rfl
@[simp] theorem Device.setReg_core_ltc (k : Nat) (v : Word) : (d.setReg k v).core.ltc = d.core.ltc := rfl
@[simp] theorem Device.setReg_core_evq (k : Nat) (v : Word) : (d.setReg k v).core.evq = d.core.evq := rfl
@[simp] theorem Device.setReg_core_arb (k : Nat) (v : Word) : (d.setReg k v).core.arb = d.core.arb := rfl
@[simp] theorem Device.setReg_core_grg (k : Nat) (v : Word) : (d.setReg k v).core.grg = d.core.grg := rfl
@[simp] theorem Device.setReg_core_cePost (k : Nat) (v : Word) : (d.setReg k v).core.cePost = d.core.cePost := rfl
@[simp] theorem Device.setReg_core_crossed (k : Nat) (v : Word) : (d.setReg k v).core.crossed = d.core.crossed := rfl
@[simp] theorem Device.setReg_core_hourly (k : Nat) (v : Word) : (d.setReg k v).core.hourly = d.core.hourly := rfl
@[simp] theorem Device.setReg_core_now (k : Nat) (v : Word) : (d.setReg k v).core.now = d.core.now := rfl
@[simp] theorem Device.setReg_core_armed (k : Nat) (v : Word) : (d.setReg k v).core.armed = d.core.armed := rfl
@[simp] theorem Device.setReg_core_freeN (k : Nat) (v : Word) : (d.setReg k v).core.freeN = d.core.freeN := rfl
@[simp] theorem Device.setReg_core_watch (k : Nat) (v : Word) : (d.setReg k v).core.watch = d.core.watch := rfl

/-! `post` -/
@[simp] theorem Device.post_kiln (c u : Nat) (w : Word) : (d.post c u w).kiln = d.kiln := rfl
@[simp] theorem Device.post_mvp (c u : Nat) (w : Word) : (d.post c u w).mvp = d.mvp := rfl
@[simp] theorem Device.post_sts (c u : Nat) (w : Word) : (d.post c u w).sts = d.sts := rfl
@[simp] theorem Device.post_vec (c u : Nat) (w : Word) : (d.post c u w).vec = d.vec := rfl
@[simp] theorem Device.post_ctl (c u : Nat) (w : Word) : (d.post c u w).ctl = d.ctl := rfl
@[simp] theorem Device.post_dma (c u : Nat) (w : Word) : (d.post c u w).dma = d.dma := rfl
@[simp] theorem Device.post_tier (c u : Nat) (w : Word) : (d.post c u w).tier = d.tier := rfl
@[simp] theorem Device.post_slip (c u : Nat) (w : Word) : (d.post c u w).slip = d.slip := rfl
@[simp] theorem Device.post_train (c u : Nat) (w : Word) : (d.post c u w).train = d.train := rfl
@[simp] theorem Device.post_ing (c u : Nat) (w : Word) : (d.post c u w).ing = d.ing := rfl
@[simp] theorem Device.post_fab (c u : Nat) (w : Word) : (d.post c u w).fab = d.fab := rfl
@[simp] theorem Device.post_col (c u : Nat) (w : Word) : (d.post c u w).col = d.col := rfl
@[simp] theorem Device.post_inj (c u : Nat) (w : Word) : (d.post c u w).inj = d.inj := rfl
@[simp] theorem Device.post_injw (c u : Nat) (w : Word) : (d.post c u w).injw = d.injw := rfl
@[simp] theorem Device.post_hif (c u : Nat) (w : Word) : (d.post c u w).hif = d.hif := rfl
@[simp] theorem Device.post_boot (c u : Nat) (w : Word) : (d.post c u w).boot = d.boot := rfl
@[simp] theorem Device.post_ras (c u : Nat) (w : Word) : (d.post c u w).ras = d.ras := rfl
@[simp] theorem Device.post_pwr (c u : Nat) (w : Word) : (d.post c u w).pwr = d.pwr := rfl
@[simp] theorem Device.post_out (c u : Nat) (w : Word) : (d.post c u w).out = d.out := rfl
@[simp] theorem Device.post_core_regs (c u : Nat) (w : Word) : (d.post c u w).core.regs = d.core.regs := rfl
@[simp] theorem Device.post_core_mem (c u : Nat) (w : Word) : (d.post c u w).core.mem = d.core.mem := rfl
@[simp] theorem Device.post_core_pois (c u : Nat) (w : Word) : (d.post c u w).core.pois = d.core.pois := rfl
@[simp] theorem Device.post_core_flaws (c u : Nat) (w : Word) : (d.post c u w).core.flaws = d.core.flaws := rfl
@[simp] theorem Device.post_core_cap (c u : Nat) (w : Word) : (d.post c u w).core.cap = d.core.cap := rfl
@[simp] theorem Device.post_core_queues (c u : Nat) (w : Word) : (d.post c u w).core.queues = d.core.queues := rfl
@[simp] theorem Device.post_core_opens (c u : Nat) (w : Word) : (d.post c u w).core.opens = d.core.opens := rfl
@[simp] theorem Device.post_core_nextCid (c u : Nat) (w : Word) : (d.post c u w).core.nextCid = d.core.nextCid := rfl
@[simp] theorem Device.post_core_nextOrd (c u : Nat) (w : Word) : (d.post c u w).core.nextOrd = d.core.nextOrd := rfl
@[simp] theorem Device.post_core_done (c u : Nat) (w : Word) : (d.post c u w).core.done = d.core.done := rfl
@[simp] theorem Device.post_core_sync (c u : Nat) (w : Word) : (d.post c u w).core.sync = d.core.sync := rfl
@[simp] theorem Device.post_core_ltc (c u : Nat) (w : Word) : (d.post c u w).core.ltc = d.core.ltc := rfl
@[simp] theorem Device.post_core_arb (c u : Nat) (w : Word) : (d.post c u w).core.arb = d.core.arb := rfl
@[simp] theorem Device.post_core_grg (c u : Nat) (w : Word) : (d.post c u w).core.grg = d.core.grg := rfl
@[simp] theorem Device.post_core_cePost (c u : Nat) (w : Word) : (d.post c u w).core.cePost = d.core.cePost := rfl
@[simp] theorem Device.post_core_crossed (c u : Nat) (w : Word) : (d.post c u w).core.crossed = d.core.crossed := rfl
@[simp] theorem Device.post_core_hourly (c u : Nat) (w : Word) : (d.post c u w).core.hourly = d.core.hourly := rfl
@[simp] theorem Device.post_core_now (c u : Nat) (w : Word) : (d.post c u w).core.now = d.core.now := rfl
@[simp] theorem Device.post_core_armed (c u : Nat) (w : Word) : (d.post c u w).core.armed = d.core.armed := rfl
@[simp] theorem Device.post_core_freeN (c u : Nat) (w : Word) : (d.post c u w).core.freeN = d.core.freeN := rfl
@[simp] theorem Device.post_core_watch (c u : Nat) (w : Word) : (d.post c u w).core.watch = d.core.watch := rfl

/-! `setQueue` -/
@[simp] theorem Device.setQueue_kiln (q : Nat) (l : List Cmd) : (d.setQueue q l).kiln = d.kiln := rfl
@[simp] theorem Device.setQueue_mvp (q : Nat) (l : List Cmd) : (d.setQueue q l).mvp = d.mvp := rfl
@[simp] theorem Device.setQueue_sts (q : Nat) (l : List Cmd) : (d.setQueue q l).sts = d.sts := rfl
@[simp] theorem Device.setQueue_vec (q : Nat) (l : List Cmd) : (d.setQueue q l).vec = d.vec := rfl
@[simp] theorem Device.setQueue_ctl (q : Nat) (l : List Cmd) : (d.setQueue q l).ctl = d.ctl := rfl
@[simp] theorem Device.setQueue_dma (q : Nat) (l : List Cmd) : (d.setQueue q l).dma = d.dma := rfl
@[simp] theorem Device.setQueue_tier (q : Nat) (l : List Cmd) : (d.setQueue q l).tier = d.tier := rfl
@[simp] theorem Device.setQueue_slip (q : Nat) (l : List Cmd) : (d.setQueue q l).slip = d.slip := rfl
@[simp] theorem Device.setQueue_train (q : Nat) (l : List Cmd) : (d.setQueue q l).train = d.train := rfl
@[simp] theorem Device.setQueue_ing (q : Nat) (l : List Cmd) : (d.setQueue q l).ing = d.ing := rfl
@[simp] theorem Device.setQueue_fab (q : Nat) (l : List Cmd) : (d.setQueue q l).fab = d.fab := rfl
@[simp] theorem Device.setQueue_col (q : Nat) (l : List Cmd) : (d.setQueue q l).col = d.col := rfl
@[simp] theorem Device.setQueue_inj (q : Nat) (l : List Cmd) : (d.setQueue q l).inj = d.inj := rfl
@[simp] theorem Device.setQueue_injw (q : Nat) (l : List Cmd) : (d.setQueue q l).injw = d.injw := rfl
@[simp] theorem Device.setQueue_hif (q : Nat) (l : List Cmd) : (d.setQueue q l).hif = d.hif := rfl
@[simp] theorem Device.setQueue_boot (q : Nat) (l : List Cmd) : (d.setQueue q l).boot = d.boot := rfl
@[simp] theorem Device.setQueue_ras (q : Nat) (l : List Cmd) : (d.setQueue q l).ras = d.ras := rfl
@[simp] theorem Device.setQueue_pwr (q : Nat) (l : List Cmd) : (d.setQueue q l).pwr = d.pwr := rfl
@[simp] theorem Device.setQueue_out (q : Nat) (l : List Cmd) : (d.setQueue q l).out = d.out := rfl
@[simp] theorem Device.setQueue_core_regs (q : Nat) (l : List Cmd) : (d.setQueue q l).core.regs = d.core.regs := rfl
@[simp] theorem Device.setQueue_core_mem (q : Nat) (l : List Cmd) : (d.setQueue q l).core.mem = d.core.mem := rfl
@[simp] theorem Device.setQueue_core_pois (q : Nat) (l : List Cmd) : (d.setQueue q l).core.pois = d.core.pois := rfl
@[simp] theorem Device.setQueue_core_flaws (q : Nat) (l : List Cmd) : (d.setQueue q l).core.flaws = d.core.flaws := rfl
@[simp] theorem Device.setQueue_core_cap (q : Nat) (l : List Cmd) : (d.setQueue q l).core.cap = d.core.cap := rfl
@[simp] theorem Device.setQueue_core_opens (q : Nat) (l : List Cmd) : (d.setQueue q l).core.opens = d.core.opens := rfl
@[simp] theorem Device.setQueue_core_nextCid (q : Nat) (l : List Cmd) : (d.setQueue q l).core.nextCid = d.core.nextCid := rfl
@[simp] theorem Device.setQueue_core_nextOrd (q : Nat) (l : List Cmd) : (d.setQueue q l).core.nextOrd = d.core.nextOrd := rfl
@[simp] theorem Device.setQueue_core_done (q : Nat) (l : List Cmd) : (d.setQueue q l).core.done = d.core.done := rfl
@[simp] theorem Device.setQueue_core_sync (q : Nat) (l : List Cmd) : (d.setQueue q l).core.sync = d.core.sync := rfl
@[simp] theorem Device.setQueue_core_ltc (q : Nat) (l : List Cmd) : (d.setQueue q l).core.ltc = d.core.ltc := rfl
@[simp] theorem Device.setQueue_core_evq (q : Nat) (l : List Cmd) : (d.setQueue q l).core.evq = d.core.evq := rfl
@[simp] theorem Device.setQueue_core_arb (q : Nat) (l : List Cmd) : (d.setQueue q l).core.arb = d.core.arb := rfl
@[simp] theorem Device.setQueue_core_grg (q : Nat) (l : List Cmd) : (d.setQueue q l).core.grg = d.core.grg := rfl
@[simp] theorem Device.setQueue_core_cePost (q : Nat) (l : List Cmd) : (d.setQueue q l).core.cePost = d.core.cePost := rfl
@[simp] theorem Device.setQueue_core_crossed (q : Nat) (l : List Cmd) : (d.setQueue q l).core.crossed = d.core.crossed := rfl
@[simp] theorem Device.setQueue_core_hourly (q : Nat) (l : List Cmd) : (d.setQueue q l).core.hourly = d.core.hourly := rfl
@[simp] theorem Device.setQueue_core_now (q : Nat) (l : List Cmd) : (d.setQueue q l).core.now = d.core.now := rfl
@[simp] theorem Device.setQueue_core_armed (q : Nat) (l : List Cmd) : (d.setQueue q l).core.armed = d.core.armed := rfl
@[simp] theorem Device.setQueue_core_freeN (q : Nat) (l : List Cmd) : (d.setQueue q l).core.freeN = d.core.freeN := rfl
@[simp] theorem Device.setQueue_core_watch (q : Nat) (l : List Cmd) : (d.setQueue q l).core.watch = d.core.watch := rfl

/-! `drawn` -/
@[simp] theorem Device.drawn_kiln : (d.drawn).kiln = d.kiln := rfl
@[simp] theorem Device.drawn_mvp : (d.drawn).mvp = d.mvp := rfl
@[simp] theorem Device.drawn_sts : (d.drawn).sts = d.sts := rfl
@[simp] theorem Device.drawn_vec : (d.drawn).vec = d.vec := rfl
@[simp] theorem Device.drawn_ctl : (d.drawn).ctl = d.ctl := rfl
@[simp] theorem Device.drawn_dma : (d.drawn).dma = d.dma := rfl
@[simp] theorem Device.drawn_tier : (d.drawn).tier = d.tier := rfl
@[simp] theorem Device.drawn_slip : (d.drawn).slip = d.slip := rfl
@[simp] theorem Device.drawn_train : (d.drawn).train = d.train := rfl
@[simp] theorem Device.drawn_ing : (d.drawn).ing = d.ing := rfl
@[simp] theorem Device.drawn_fab : (d.drawn).fab = d.fab := rfl
@[simp] theorem Device.drawn_col : (d.drawn).col = d.col := rfl
@[simp] theorem Device.drawn_inj : (d.drawn).inj = d.inj := rfl
@[simp] theorem Device.drawn_injw : (d.drawn).injw = d.injw := rfl
@[simp] theorem Device.drawn_hif : (d.drawn).hif = d.hif := rfl
@[simp] theorem Device.drawn_boot : (d.drawn).boot = d.boot := rfl
@[simp] theorem Device.drawn_ras : (d.drawn).ras = d.ras := rfl
@[simp] theorem Device.drawn_pwr : (d.drawn).pwr = d.pwr := rfl
@[simp] theorem Device.drawn_out : (d.drawn).out = d.out := rfl
@[simp] theorem Device.drawn_core_regs : (d.drawn).core.regs = d.core.regs := rfl
@[simp] theorem Device.drawn_core_mem : (d.drawn).core.mem = d.core.mem := rfl
@[simp] theorem Device.drawn_core_pois : (d.drawn).core.pois = d.core.pois := rfl
@[simp] theorem Device.drawn_core_flaws : (d.drawn).core.flaws = d.core.flaws := rfl
@[simp] theorem Device.drawn_core_cap : (d.drawn).core.cap = d.core.cap := rfl
@[simp] theorem Device.drawn_core_queues : (d.drawn).core.queues = d.core.queues := rfl
@[simp] theorem Device.drawn_core_opens : (d.drawn).core.opens = d.core.opens := rfl
@[simp] theorem Device.drawn_core_nextCid : (d.drawn).core.nextCid = d.core.nextCid := rfl
@[simp] theorem Device.drawn_core_nextOrd : (d.drawn).core.nextOrd = d.core.nextOrd := rfl
@[simp] theorem Device.drawn_core_done : (d.drawn).core.done = d.core.done := rfl
@[simp] theorem Device.drawn_core_sync : (d.drawn).core.sync = d.core.sync := rfl
@[simp] theorem Device.drawn_core_ltc : (d.drawn).core.ltc = d.core.ltc := rfl
@[simp] theorem Device.drawn_core_evq : (d.drawn).core.evq = d.core.evq := rfl
@[simp] theorem Device.drawn_core_arb : (d.drawn).core.arb = d.core.arb := rfl
@[simp] theorem Device.drawn_core_grg : (d.drawn).core.grg = d.core.grg := rfl
@[simp] theorem Device.drawn_core_cePost : (d.drawn).core.cePost = d.core.cePost := rfl
@[simp] theorem Device.drawn_core_crossed : (d.drawn).core.crossed = d.core.crossed := rfl
@[simp] theorem Device.drawn_core_hourly : (d.drawn).core.hourly = d.core.hourly := rfl
@[simp] theorem Device.drawn_core_now : (d.drawn).core.now = d.core.now := rfl
@[simp] theorem Device.drawn_core_armed : (d.drawn).core.armed = d.core.armed := rfl
@[simp] theorem Device.drawn_core_watch : (d.drawn).core.watch = d.core.watch := rfl

/-! `emit` -/
@[simp] theorem Device.emit_core (o : Out) : (d.emit o).core = d.core := rfl
@[simp] theorem Device.emit_kiln (o : Out) : (d.emit o).kiln = d.kiln := rfl
@[simp] theorem Device.emit_mvp (o : Out) : (d.emit o).mvp = d.mvp := rfl
@[simp] theorem Device.emit_sts (o : Out) : (d.emit o).sts = d.sts := rfl
@[simp] theorem Device.emit_vec (o : Out) : (d.emit o).vec = d.vec := rfl
@[simp] theorem Device.emit_ctl (o : Out) : (d.emit o).ctl = d.ctl := rfl
@[simp] theorem Device.emit_dma (o : Out) : (d.emit o).dma = d.dma := rfl
@[simp] theorem Device.emit_tier (o : Out) : (d.emit o).tier = d.tier := rfl
@[simp] theorem Device.emit_slip (o : Out) : (d.emit o).slip = d.slip := rfl
@[simp] theorem Device.emit_train (o : Out) : (d.emit o).train = d.train := rfl
@[simp] theorem Device.emit_ing (o : Out) : (d.emit o).ing = d.ing := rfl
@[simp] theorem Device.emit_fab (o : Out) : (d.emit o).fab = d.fab := rfl
@[simp] theorem Device.emit_col (o : Out) : (d.emit o).col = d.col := rfl
@[simp] theorem Device.emit_inj (o : Out) : (d.emit o).inj = d.inj := rfl
@[simp] theorem Device.emit_injw (o : Out) : (d.emit o).injw = d.injw := rfl
@[simp] theorem Device.emit_hif (o : Out) : (d.emit o).hif = d.hif := rfl
@[simp] theorem Device.emit_boot (o : Out) : (d.emit o).boot = d.boot := rfl
@[simp] theorem Device.emit_ras (o : Out) : (d.emit o).ras = d.ras := rfl
@[simp] theorem Device.emit_pwr (o : Out) : (d.emit o).pwr = d.pwr := rfl

/-! `progress` -/
@[simp] theorem Device.progress_core (w : Nat) : (d.progress w).core = d.core := rfl
@[simp] theorem Device.progress_kiln (w : Nat) : (d.progress w).kiln = d.kiln := rfl
@[simp] theorem Device.progress_mvp (w : Nat) : (d.progress w).mvp = d.mvp := rfl
@[simp] theorem Device.progress_sts (w : Nat) : (d.progress w).sts = d.sts := rfl
@[simp] theorem Device.progress_vec (w : Nat) : (d.progress w).vec = d.vec := rfl
@[simp] theorem Device.progress_ctl (w : Nat) : (d.progress w).ctl = d.ctl := rfl
@[simp] theorem Device.progress_dma (w : Nat) : (d.progress w).dma = d.dma := rfl
@[simp] theorem Device.progress_tier (w : Nat) : (d.progress w).tier = d.tier := rfl
@[simp] theorem Device.progress_slip (w : Nat) : (d.progress w).slip = d.slip := rfl
@[simp] theorem Device.progress_train (w : Nat) : (d.progress w).train = d.train := rfl
@[simp] theorem Device.progress_ing (w : Nat) : (d.progress w).ing = d.ing := rfl
@[simp] theorem Device.progress_fab (w : Nat) : (d.progress w).fab = d.fab := rfl
@[simp] theorem Device.progress_col (w : Nat) : (d.progress w).col = d.col := rfl
@[simp] theorem Device.progress_inj (w : Nat) : (d.progress w).inj = d.inj := rfl
@[simp] theorem Device.progress_injw (w : Nat) : (d.progress w).injw = d.injw := rfl
@[simp] theorem Device.progress_hif (w : Nat) : (d.progress w).hif = d.hif := rfl
@[simp] theorem Device.progress_boot (w : Nat) : (d.progress w).boot = d.boot := rfl
@[simp] theorem Device.progress_pwr (w : Nat) : (d.progress w).pwr = d.pwr := rfl
@[simp] theorem Device.progress_out (w : Nat) : (d.progress w).out = d.out := rfl

/-! `setStream` -/
@[simp] theorem Device.setStream_core (die s : Nat) (v : Stream) : (d.setStream die s v).core = d.core := rfl
@[simp] theorem Device.setStream_kiln (die s : Nat) (v : Stream) : (d.setStream die s v).kiln = d.kiln := rfl
@[simp] theorem Device.setStream_mvp (die s : Nat) (v : Stream) : (d.setStream die s v).mvp = d.mvp := rfl
@[simp] theorem Device.setStream_sts (die s : Nat) (v : Stream) : (d.setStream die s v).sts = d.sts := rfl
@[simp] theorem Device.setStream_vec (die s : Nat) (v : Stream) : (d.setStream die s v).vec = d.vec := rfl
@[simp] theorem Device.setStream_dma (die s : Nat) (v : Stream) : (d.setStream die s v).dma = d.dma := rfl
@[simp] theorem Device.setStream_tier (die s : Nat) (v : Stream) : (d.setStream die s v).tier = d.tier := rfl
@[simp] theorem Device.setStream_slip (die s : Nat) (v : Stream) : (d.setStream die s v).slip = d.slip := rfl
@[simp] theorem Device.setStream_train (die s : Nat) (v : Stream) : (d.setStream die s v).train = d.train := rfl
@[simp] theorem Device.setStream_ing (die s : Nat) (v : Stream) : (d.setStream die s v).ing = d.ing := rfl
@[simp] theorem Device.setStream_fab (die s : Nat) (v : Stream) : (d.setStream die s v).fab = d.fab := rfl
@[simp] theorem Device.setStream_col (die s : Nat) (v : Stream) : (d.setStream die s v).col = d.col := rfl
@[simp] theorem Device.setStream_inj (die s : Nat) (v : Stream) : (d.setStream die s v).inj = d.inj := rfl
@[simp] theorem Device.setStream_injw (die s : Nat) (v : Stream) : (d.setStream die s v).injw = d.injw := rfl
@[simp] theorem Device.setStream_hif (die s : Nat) (v : Stream) : (d.setStream die s v).hif = d.hif := rfl
@[simp] theorem Device.setStream_boot (die s : Nat) (v : Stream) : (d.setStream die s v).boot = d.boot := rfl
@[simp] theorem Device.setStream_ras (die s : Nat) (v : Stream) : (d.setStream die s v).ras = d.ras := rfl
@[simp] theorem Device.setStream_pwr (die s : Nat) (v : Stream) : (d.setStream die s v).pwr = d.pwr := rfl
@[simp] theorem Device.setStream_out (die s : Nat) (v : Stream) : (d.setStream die s v).out = d.out := rfl

/-! `setPart` -/
@[simp] theorem Device.setPart_core (die a p : Nat) (v : Part) : (d.setPart die a p v).core = d.core := rfl
@[simp] theorem Device.setPart_mvp (die a p : Nat) (v : Part) : (d.setPart die a p v).mvp = d.mvp := rfl
@[simp] theorem Device.setPart_sts (die a p : Nat) (v : Part) : (d.setPart die a p v).sts = d.sts := rfl
@[simp] theorem Device.setPart_vec (die a p : Nat) (v : Part) : (d.setPart die a p v).vec = d.vec := rfl
@[simp] theorem Device.setPart_ctl (die a p : Nat) (v : Part) : (d.setPart die a p v).ctl = d.ctl := rfl
@[simp] theorem Device.setPart_dma (die a p : Nat) (v : Part) : (d.setPart die a p v).dma = d.dma := rfl
@[simp] theorem Device.setPart_tier (die a p : Nat) (v : Part) : (d.setPart die a p v).tier = d.tier := rfl
@[simp] theorem Device.setPart_slip (die a p : Nat) (v : Part) : (d.setPart die a p v).slip = d.slip := rfl
@[simp] theorem Device.setPart_train (die a p : Nat) (v : Part) : (d.setPart die a p v).train = d.train := rfl
@[simp] theorem Device.setPart_ing (die a p : Nat) (v : Part) : (d.setPart die a p v).ing = d.ing := rfl
@[simp] theorem Device.setPart_fab (die a p : Nat) (v : Part) : (d.setPart die a p v).fab = d.fab := rfl
@[simp] theorem Device.setPart_col (die a p : Nat) (v : Part) : (d.setPart die a p v).col = d.col := rfl
@[simp] theorem Device.setPart_inj (die a p : Nat) (v : Part) : (d.setPart die a p v).inj = d.inj := rfl
@[simp] theorem Device.setPart_injw (die a p : Nat) (v : Part) : (d.setPart die a p v).injw = d.injw := rfl
@[simp] theorem Device.setPart_hif (die a p : Nat) (v : Part) : (d.setPart die a p v).hif = d.hif := rfl
@[simp] theorem Device.setPart_boot (die a p : Nat) (v : Part) : (d.setPart die a p v).boot = d.boot := rfl
@[simp] theorem Device.setPart_ras (die a p : Nat) (v : Part) : (d.setPart die a p v).ras = d.ras := rfl
@[simp] theorem Device.setPart_pwr (die a p : Nat) (v : Part) : (d.setPart die a p v).pwr = d.pwr := rfl
@[simp] theorem Device.setPart_out (die a p : Nat) (v : Part) : (d.setPart die a p v).out = d.out := rfl

/-! `setArr` -/
@[simp] theorem Device.setArr_core (die a : Nat) (v : Arr) : (d.setArr die a v).core = d.core := rfl
@[simp] theorem Device.setArr_mvp (die a : Nat) (v : Arr) : (d.setArr die a v).mvp = d.mvp := rfl
@[simp] theorem Device.setArr_sts (die a : Nat) (v : Arr) : (d.setArr die a v).sts = d.sts := rfl
@[simp] theorem Device.setArr_vec (die a : Nat) (v : Arr) : (d.setArr die a v).vec = d.vec := rfl
@[simp] theorem Device.setArr_ctl (die a : Nat) (v : Arr) : (d.setArr die a v).ctl = d.ctl := rfl
@[simp] theorem Device.setArr_dma (die a : Nat) (v : Arr) : (d.setArr die a v).dma = d.dma := rfl
@[simp] theorem Device.setArr_tier (die a : Nat) (v : Arr) : (d.setArr die a v).tier = d.tier := rfl
@[simp] theorem Device.setArr_slip (die a : Nat) (v : Arr) : (d.setArr die a v).slip = d.slip := rfl
@[simp] theorem Device.setArr_train (die a : Nat) (v : Arr) : (d.setArr die a v).train = d.train := rfl
@[simp] theorem Device.setArr_ing (die a : Nat) (v : Arr) : (d.setArr die a v).ing = d.ing := rfl
@[simp] theorem Device.setArr_fab (die a : Nat) (v : Arr) : (d.setArr die a v).fab = d.fab := rfl
@[simp] theorem Device.setArr_col (die a : Nat) (v : Arr) : (d.setArr die a v).col = d.col := rfl
@[simp] theorem Device.setArr_inj (die a : Nat) (v : Arr) : (d.setArr die a v).inj = d.inj := rfl
@[simp] theorem Device.setArr_injw (die a : Nat) (v : Arr) : (d.setArr die a v).injw = d.injw := rfl
@[simp] theorem Device.setArr_hif (die a : Nat) (v : Arr) : (d.setArr die a v).hif = d.hif := rfl
@[simp] theorem Device.setArr_boot (die a : Nat) (v : Arr) : (d.setArr die a v).boot = d.boot := rfl
@[simp] theorem Device.setArr_ras (die a : Nat) (v : Arr) : (d.setArr die a v).ras = d.ras := rfl
@[simp] theorem Device.setArr_pwr (die a : Nat) (v : Arr) : (d.setArr die a v).pwr = d.pwr := rfl
@[simp] theorem Device.setArr_out (die a : Nat) (v : Arr) : (d.setArr die a v).out = d.out := rfl

/-! `setChan` -/
@[simp] theorem Device.setChan_core (die n : Nat) (v : DmaCh) : (d.setChan die n v).core = d.core := rfl
@[simp] theorem Device.setChan_kiln (die n : Nat) (v : DmaCh) : (d.setChan die n v).kiln = d.kiln := rfl
@[simp] theorem Device.setChan_mvp (die n : Nat) (v : DmaCh) : (d.setChan die n v).mvp = d.mvp := rfl
@[simp] theorem Device.setChan_sts (die n : Nat) (v : DmaCh) : (d.setChan die n v).sts = d.sts := rfl
@[simp] theorem Device.setChan_vec (die n : Nat) (v : DmaCh) : (d.setChan die n v).vec = d.vec := rfl
@[simp] theorem Device.setChan_ctl (die n : Nat) (v : DmaCh) : (d.setChan die n v).ctl = d.ctl := rfl
@[simp] theorem Device.setChan_tier (die n : Nat) (v : DmaCh) : (d.setChan die n v).tier = d.tier := rfl
@[simp] theorem Device.setChan_slip (die n : Nat) (v : DmaCh) : (d.setChan die n v).slip = d.slip := rfl
@[simp] theorem Device.setChan_train (die n : Nat) (v : DmaCh) : (d.setChan die n v).train = d.train := rfl
@[simp] theorem Device.setChan_ing (die n : Nat) (v : DmaCh) : (d.setChan die n v).ing = d.ing := rfl
@[simp] theorem Device.setChan_fab (die n : Nat) (v : DmaCh) : (d.setChan die n v).fab = d.fab := rfl
@[simp] theorem Device.setChan_col (die n : Nat) (v : DmaCh) : (d.setChan die n v).col = d.col := rfl
@[simp] theorem Device.setChan_inj (die n : Nat) (v : DmaCh) : (d.setChan die n v).inj = d.inj := rfl
@[simp] theorem Device.setChan_injw (die n : Nat) (v : DmaCh) : (d.setChan die n v).injw = d.injw := rfl
@[simp] theorem Device.setChan_hif (die n : Nat) (v : DmaCh) : (d.setChan die n v).hif = d.hif := rfl
@[simp] theorem Device.setChan_boot (die n : Nat) (v : DmaCh) : (d.setChan die n v).boot = d.boot := rfl
@[simp] theorem Device.setChan_ras (die n : Nat) (v : DmaCh) : (d.setChan die n v).ras = d.ras := rfl
@[simp] theorem Device.setChan_pwr (die n : Nat) (v : DmaCh) : (d.setChan die n v).pwr = d.pwr := rfl
@[simp] theorem Device.setChan_out (die n : Nat) (v : DmaCh) : (d.setChan die n v).out = d.out := rfl

/-! `setSeg` -/
@[simp] theorem Device.setSeg_core (g : Nat) (v : Seg) : (d.setSeg g v).core = d.core := rfl
@[simp] theorem Device.setSeg_kiln (g : Nat) (v : Seg) : (d.setSeg g v).kiln = d.kiln := rfl
@[simp] theorem Device.setSeg_mvp (g : Nat) (v : Seg) : (d.setSeg g v).mvp = d.mvp := rfl
@[simp] theorem Device.setSeg_sts (g : Nat) (v : Seg) : (d.setSeg g v).sts = d.sts := rfl
@[simp] theorem Device.setSeg_vec (g : Nat) (v : Seg) : (d.setSeg g v).vec = d.vec := rfl
@[simp] theorem Device.setSeg_ctl (g : Nat) (v : Seg) : (d.setSeg g v).ctl = d.ctl := rfl
@[simp] theorem Device.setSeg_dma (g : Nat) (v : Seg) : (d.setSeg g v).dma = d.dma := rfl
@[simp] theorem Device.setSeg_slip (g : Nat) (v : Seg) : (d.setSeg g v).slip = d.slip := rfl
@[simp] theorem Device.setSeg_train (g : Nat) (v : Seg) : (d.setSeg g v).train = d.train := rfl
@[simp] theorem Device.setSeg_ing (g : Nat) (v : Seg) : (d.setSeg g v).ing = d.ing := rfl
@[simp] theorem Device.setSeg_fab (g : Nat) (v : Seg) : (d.setSeg g v).fab = d.fab := rfl
@[simp] theorem Device.setSeg_col (g : Nat) (v : Seg) : (d.setSeg g v).col = d.col := rfl
@[simp] theorem Device.setSeg_inj (g : Nat) (v : Seg) : (d.setSeg g v).inj = d.inj := rfl
@[simp] theorem Device.setSeg_injw (g : Nat) (v : Seg) : (d.setSeg g v).injw = d.injw := rfl
@[simp] theorem Device.setSeg_hif (g : Nat) (v : Seg) : (d.setSeg g v).hif = d.hif := rfl
@[simp] theorem Device.setSeg_boot (g : Nat) (v : Seg) : (d.setSeg g v).boot = d.boot := rfl
@[simp] theorem Device.setSeg_ras (g : Nat) (v : Seg) : (d.setSeg g v).ras = d.ras := rfl
@[simp] theorem Device.setSeg_pwr (g : Nat) (v : Seg) : (d.setSeg g v).pwr = d.pwr := rfl
@[simp] theorem Device.setSeg_out (g : Nat) (v : Seg) : (d.setSeg g v).out = d.out := rfl

/-! `setPort` -/
@[simp] theorem Device.setPort_core (p : Nat) (v : Port) : (d.setPort p v).core = d.core := rfl
@[simp] theorem Device.setPort_kiln (p : Nat) (v : Port) : (d.setPort p v).kiln = d.kiln := rfl
@[simp] theorem Device.setPort_mvp (p : Nat) (v : Port) : (d.setPort p v).mvp = d.mvp := rfl
@[simp] theorem Device.setPort_sts (p : Nat) (v : Port) : (d.setPort p v).sts = d.sts := rfl
@[simp] theorem Device.setPort_vec (p : Nat) (v : Port) : (d.setPort p v).vec = d.vec := rfl
@[simp] theorem Device.setPort_ctl (p : Nat) (v : Port) : (d.setPort p v).ctl = d.ctl := rfl
@[simp] theorem Device.setPort_dma (p : Nat) (v : Port) : (d.setPort p v).dma = d.dma := rfl
@[simp] theorem Device.setPort_tier (p : Nat) (v : Port) : (d.setPort p v).tier = d.tier := rfl
@[simp] theorem Device.setPort_slip (p : Nat) (v : Port) : (d.setPort p v).slip = d.slip := rfl
@[simp] theorem Device.setPort_train (p : Nat) (v : Port) : (d.setPort p v).train = d.train := rfl
@[simp] theorem Device.setPort_ing (p : Nat) (v : Port) : (d.setPort p v).ing = d.ing := rfl
@[simp] theorem Device.setPort_col (p : Nat) (v : Port) : (d.setPort p v).col = d.col := rfl
@[simp] theorem Device.setPort_inj (p : Nat) (v : Port) : (d.setPort p v).inj = d.inj := rfl
@[simp] theorem Device.setPort_injw (p : Nat) (v : Port) : (d.setPort p v).injw = d.injw := rfl
@[simp] theorem Device.setPort_hif (p : Nat) (v : Port) : (d.setPort p v).hif = d.hif := rfl
@[simp] theorem Device.setPort_boot (p : Nat) (v : Port) : (d.setPort p v).boot = d.boot := rfl
@[simp] theorem Device.setPort_ras (p : Nat) (v : Port) : (d.setPort p v).ras = d.ras := rfl
@[simp] theorem Device.setPort_pwr (p : Nat) (v : Port) : (d.setPort p v).pwr = d.pwr := rfl
@[simp] theorem Device.setPort_out (p : Nat) (v : Port) : (d.setPort p v).out = d.out := rfl

/-! `setCol` -/
@[simp] theorem Device.setCol_core (die : Nat) (v : Col) : (d.setCol die v).core = d.core := rfl
@[simp] theorem Device.setCol_kiln (die : Nat) (v : Col) : (d.setCol die v).kiln = d.kiln := rfl
@[simp] theorem Device.setCol_mvp (die : Nat) (v : Col) : (d.setCol die v).mvp = d.mvp := rfl
@[simp] theorem Device.setCol_sts (die : Nat) (v : Col) : (d.setCol die v).sts = d.sts := rfl
@[simp] theorem Device.setCol_vec (die : Nat) (v : Col) : (d.setCol die v).vec = d.vec := rfl
@[simp] theorem Device.setCol_ctl (die : Nat) (v : Col) : (d.setCol die v).ctl = d.ctl := rfl
@[simp] theorem Device.setCol_dma (die : Nat) (v : Col) : (d.setCol die v).dma = d.dma := rfl
@[simp] theorem Device.setCol_tier (die : Nat) (v : Col) : (d.setCol die v).tier = d.tier := rfl
@[simp] theorem Device.setCol_slip (die : Nat) (v : Col) : (d.setCol die v).slip = d.slip := rfl
@[simp] theorem Device.setCol_train (die : Nat) (v : Col) : (d.setCol die v).train = d.train := rfl
@[simp] theorem Device.setCol_ing (die : Nat) (v : Col) : (d.setCol die v).ing = d.ing := rfl
@[simp] theorem Device.setCol_fab (die : Nat) (v : Col) : (d.setCol die v).fab = d.fab := rfl
@[simp] theorem Device.setCol_inj (die : Nat) (v : Col) : (d.setCol die v).inj = d.inj := rfl
@[simp] theorem Device.setCol_injw (die : Nat) (v : Col) : (d.setCol die v).injw = d.injw := rfl
@[simp] theorem Device.setCol_hif (die : Nat) (v : Col) : (d.setCol die v).hif = d.hif := rfl
@[simp] theorem Device.setCol_boot (die : Nat) (v : Col) : (d.setCol die v).boot = d.boot := rfl
@[simp] theorem Device.setCol_ras (die : Nat) (v : Col) : (d.setCol die v).ras = d.ras := rfl
@[simp] theorem Device.setCol_pwr (die : Nat) (v : Col) : (d.setCol die v).pwr = d.pwr := rfl
@[simp] theorem Device.setCol_out (die : Nat) (v : Col) : (d.setCol die v).out = d.out := rfl

/-! `setStash` -/
@[simp] theorem Device.setStash_core (die : Nat) (v : Stash) : (d.setStash die v).core = d.core := rfl
@[simp] theorem Device.setStash_kiln (die : Nat) (v : Stash) : (d.setStash die v).kiln = d.kiln := rfl
@[simp] theorem Device.setStash_mvp (die : Nat) (v : Stash) : (d.setStash die v).mvp = d.mvp := rfl
@[simp] theorem Device.setStash_vec (die : Nat) (v : Stash) : (d.setStash die v).vec = d.vec := rfl
@[simp] theorem Device.setStash_ctl (die : Nat) (v : Stash) : (d.setStash die v).ctl = d.ctl := rfl
@[simp] theorem Device.setStash_dma (die : Nat) (v : Stash) : (d.setStash die v).dma = d.dma := rfl
@[simp] theorem Device.setStash_tier (die : Nat) (v : Stash) : (d.setStash die v).tier = d.tier := rfl
@[simp] theorem Device.setStash_slip (die : Nat) (v : Stash) : (d.setStash die v).slip = d.slip := rfl
@[simp] theorem Device.setStash_train (die : Nat) (v : Stash) : (d.setStash die v).train = d.train := rfl
@[simp] theorem Device.setStash_ing (die : Nat) (v : Stash) : (d.setStash die v).ing = d.ing := rfl
@[simp] theorem Device.setStash_fab (die : Nat) (v : Stash) : (d.setStash die v).fab = d.fab := rfl
@[simp] theorem Device.setStash_col (die : Nat) (v : Stash) : (d.setStash die v).col = d.col := rfl
@[simp] theorem Device.setStash_inj (die : Nat) (v : Stash) : (d.setStash die v).inj = d.inj := rfl
@[simp] theorem Device.setStash_injw (die : Nat) (v : Stash) : (d.setStash die v).injw = d.injw := rfl
@[simp] theorem Device.setStash_hif (die : Nat) (v : Stash) : (d.setStash die v).hif = d.hif := rfl
@[simp] theorem Device.setStash_boot (die : Nat) (v : Stash) : (d.setStash die v).boot = d.boot := rfl
@[simp] theorem Device.setStash_ras (die : Nat) (v : Stash) : (d.setStash die v).ras = d.ras := rfl
@[simp] theorem Device.setStash_pwr (die : Nat) (v : Stash) : (d.setStash die v).pwr = d.pwr := rfl
@[simp] theorem Device.setStash_out (die : Nat) (v : Stash) : (d.setStash die v).out = d.out := rfl

/-! `setMvp` -/
@[simp] theorem Device.setMvp_core (die : Nat) (v : Mvp) : (d.setMvp die v).core = d.core := rfl
@[simp] theorem Device.setMvp_kiln (die : Nat) (v : Mvp) : (d.setMvp die v).kiln = d.kiln := rfl
@[simp] theorem Device.setMvp_sts (die : Nat) (v : Mvp) : (d.setMvp die v).sts = d.sts := rfl
@[simp] theorem Device.setMvp_vec (die : Nat) (v : Mvp) : (d.setMvp die v).vec = d.vec := rfl
@[simp] theorem Device.setMvp_ctl (die : Nat) (v : Mvp) : (d.setMvp die v).ctl = d.ctl := rfl
@[simp] theorem Device.setMvp_dma (die : Nat) (v : Mvp) : (d.setMvp die v).dma = d.dma := rfl
@[simp] theorem Device.setMvp_tier (die : Nat) (v : Mvp) : (d.setMvp die v).tier = d.tier := rfl
@[simp] theorem Device.setMvp_slip (die : Nat) (v : Mvp) : (d.setMvp die v).slip = d.slip := rfl
@[simp] theorem Device.setMvp_train (die : Nat) (v : Mvp) : (d.setMvp die v).train = d.train := rfl
@[simp] theorem Device.setMvp_ing (die : Nat) (v : Mvp) : (d.setMvp die v).ing = d.ing := rfl
@[simp] theorem Device.setMvp_fab (die : Nat) (v : Mvp) : (d.setMvp die v).fab = d.fab := rfl
@[simp] theorem Device.setMvp_col (die : Nat) (v : Mvp) : (d.setMvp die v).col = d.col := rfl
@[simp] theorem Device.setMvp_inj (die : Nat) (v : Mvp) : (d.setMvp die v).inj = d.inj := rfl
@[simp] theorem Device.setMvp_injw (die : Nat) (v : Mvp) : (d.setMvp die v).injw = d.injw := rfl
@[simp] theorem Device.setMvp_hif (die : Nat) (v : Mvp) : (d.setMvp die v).hif = d.hif := rfl
@[simp] theorem Device.setMvp_boot (die : Nat) (v : Mvp) : (d.setMvp die v).boot = d.boot := rfl
@[simp] theorem Device.setMvp_ras (die : Nat) (v : Mvp) : (d.setMvp die v).ras = d.ras := rfl
@[simp] theorem Device.setMvp_pwr (die : Nat) (v : Mvp) : (d.setMvp die v).pwr = d.pwr := rfl
@[simp] theorem Device.setMvp_out (die : Nat) (v : Mvp) : (d.setMvp die v).out = d.out := rfl

/-! `setSlipStack` -/
@[simp] theorem Device.setSlipStack_core (s : Nat) (v : SlipStack) : (d.setSlipStack s v).core = d.core := rfl
@[simp] theorem Device.setSlipStack_kiln (s : Nat) (v : SlipStack) : (d.setSlipStack s v).kiln = d.kiln := rfl
@[simp] theorem Device.setSlipStack_mvp (s : Nat) (v : SlipStack) : (d.setSlipStack s v).mvp = d.mvp := rfl
@[simp] theorem Device.setSlipStack_sts (s : Nat) (v : SlipStack) : (d.setSlipStack s v).sts = d.sts := rfl
@[simp] theorem Device.setSlipStack_vec (s : Nat) (v : SlipStack) : (d.setSlipStack s v).vec = d.vec := rfl
@[simp] theorem Device.setSlipStack_ctl (s : Nat) (v : SlipStack) : (d.setSlipStack s v).ctl = d.ctl := rfl
@[simp] theorem Device.setSlipStack_dma (s : Nat) (v : SlipStack) : (d.setSlipStack s v).dma = d.dma := rfl
@[simp] theorem Device.setSlipStack_tier (s : Nat) (v : SlipStack) : (d.setSlipStack s v).tier = d.tier := rfl
@[simp] theorem Device.setSlipStack_train (s : Nat) (v : SlipStack) : (d.setSlipStack s v).train = d.train := rfl
@[simp] theorem Device.setSlipStack_ing (s : Nat) (v : SlipStack) : (d.setSlipStack s v).ing = d.ing := rfl
@[simp] theorem Device.setSlipStack_fab (s : Nat) (v : SlipStack) : (d.setSlipStack s v).fab = d.fab := rfl
@[simp] theorem Device.setSlipStack_col (s : Nat) (v : SlipStack) : (d.setSlipStack s v).col = d.col := rfl
@[simp] theorem Device.setSlipStack_inj (s : Nat) (v : SlipStack) : (d.setSlipStack s v).inj = d.inj := rfl
@[simp] theorem Device.setSlipStack_injw (s : Nat) (v : SlipStack) : (d.setSlipStack s v).injw = d.injw := rfl
@[simp] theorem Device.setSlipStack_hif (s : Nat) (v : SlipStack) : (d.setSlipStack s v).hif = d.hif := rfl
@[simp] theorem Device.setSlipStack_boot (s : Nat) (v : SlipStack) : (d.setSlipStack s v).boot = d.boot := rfl
@[simp] theorem Device.setSlipStack_ras (s : Nat) (v : SlipStack) : (d.setSlipStack s v).ras = d.ras := rfl
@[simp] theorem Device.setSlipStack_pwr (s : Nat) (v : SlipStack) : (d.setSlipStack s v).pwr = d.pwr := rfl
@[simp] theorem Device.setSlipStack_out (s : Nat) (v : SlipStack) : (d.setSlipStack s v).out = d.out := rfl

/-! `setLoop` -/
@[simp] theorem Device.setLoop_core (key : Nat) (l : Option VLoop) : (d.setLoop key l).core = d.core := rfl
@[simp] theorem Device.setLoop_kiln (key : Nat) (l : Option VLoop) : (d.setLoop key l).kiln = d.kiln := rfl
@[simp] theorem Device.setLoop_mvp (key : Nat) (l : Option VLoop) : (d.setLoop key l).mvp = d.mvp := rfl
@[simp] theorem Device.setLoop_sts (key : Nat) (l : Option VLoop) : (d.setLoop key l).sts = d.sts := rfl
@[simp] theorem Device.setLoop_ctl (key : Nat) (l : Option VLoop) : (d.setLoop key l).ctl = d.ctl := rfl
@[simp] theorem Device.setLoop_dma (key : Nat) (l : Option VLoop) : (d.setLoop key l).dma = d.dma := rfl
@[simp] theorem Device.setLoop_tier (key : Nat) (l : Option VLoop) : (d.setLoop key l).tier = d.tier := rfl
@[simp] theorem Device.setLoop_slip (key : Nat) (l : Option VLoop) : (d.setLoop key l).slip = d.slip := rfl
@[simp] theorem Device.setLoop_train (key : Nat) (l : Option VLoop) : (d.setLoop key l).train = d.train := rfl
@[simp] theorem Device.setLoop_ing (key : Nat) (l : Option VLoop) : (d.setLoop key l).ing = d.ing := rfl
@[simp] theorem Device.setLoop_fab (key : Nat) (l : Option VLoop) : (d.setLoop key l).fab = d.fab := rfl
@[simp] theorem Device.setLoop_col (key : Nat) (l : Option VLoop) : (d.setLoop key l).col = d.col := rfl
@[simp] theorem Device.setLoop_inj (key : Nat) (l : Option VLoop) : (d.setLoop key l).inj = d.inj := rfl
@[simp] theorem Device.setLoop_injw (key : Nat) (l : Option VLoop) : (d.setLoop key l).injw = d.injw := rfl
@[simp] theorem Device.setLoop_hif (key : Nat) (l : Option VLoop) : (d.setLoop key l).hif = d.hif := rfl
@[simp] theorem Device.setLoop_boot (key : Nat) (l : Option VLoop) : (d.setLoop key l).boot = d.boot := rfl
@[simp] theorem Device.setLoop_ras (key : Nat) (l : Option VLoop) : (d.setLoop key l).ras = d.ras := rfl
@[simp] theorem Device.setLoop_pwr (key : Nat) (l : Option VLoop) : (d.setLoop key l).pwr = d.pwr := rfl
@[simp] theorem Device.setLoop_out (key : Nat) (l : Option VLoop) : (d.setLoop key l).out = d.out := rfl

/-! The state. -/
@[simp] theorem State.withDev_dev (s : State) : (s.withDev d).dev = d := rfl
@[simp] theorem State.withDev_snap (s : State) : (s.withDev d).snap = s.snap := rfl
@[simp] theorem State.withDev_pending (s : State) : (s.withDev d).pending = s.pending := rfl
@[simp] theorem onDevice_eq (f : Device → Device) (s : State) : onDevice f s = .next { s with dev := f s.dev } := rfl

end Sys2Proof.Machine
end

