-- ==== Sys2Proof/Laws/Ops.lean ====
section
/-! SUPPORT. What the shared operations leave alone: completion, sync counters, refusals, notes, records and writes of memory. -/

namespace Sys2Proof.Machine

variable (d : Device)

/-! `popCmd` -/
@[simp] theorem Device.popCmd_kiln (q : Nat) : (d.popCmd q).kiln = d.kiln := by
  rfl
@[simp] theorem Device.popCmd_mvp (q : Nat) : (d.popCmd q).mvp = d.mvp := by
  rfl
@[simp] theorem Device.popCmd_sts (q : Nat) : (d.popCmd q).sts = d.sts := by
  rfl
@[simp] theorem Device.popCmd_vec (q : Nat) : (d.popCmd q).vec = d.vec := by
  rfl
@[simp] theorem Device.popCmd_ctl (q : Nat) : (d.popCmd q).ctl = d.ctl := by
  rfl
@[simp] theorem Device.popCmd_dma (q : Nat) : (d.popCmd q).dma = d.dma := by
  rfl
@[simp] theorem Device.popCmd_tier (q : Nat) : (d.popCmd q).tier = d.tier := by
  rfl
@[simp] theorem Device.popCmd_slip (q : Nat) : (d.popCmd q).slip = d.slip := by
  rfl
@[simp] theorem Device.popCmd_train (q : Nat) : (d.popCmd q).train = d.train := by
  rfl
@[simp] theorem Device.popCmd_ing (q : Nat) : (d.popCmd q).ing = d.ing := by
  rfl
@[simp] theorem Device.popCmd_fab (q : Nat) : (d.popCmd q).fab = d.fab := by
  rfl
@[simp] theorem Device.popCmd_col (q : Nat) : (d.popCmd q).col = d.col := by
  rfl
@[simp] theorem Device.popCmd_inj (q : Nat) : (d.popCmd q).inj = d.inj := by
  rfl
@[simp] theorem Device.popCmd_injw (q : Nat) : (d.popCmd q).injw = d.injw := by
  rfl
@[simp] theorem Device.popCmd_hif (q : Nat) : (d.popCmd q).hif = d.hif := by
  rfl
@[simp] theorem Device.popCmd_boot (q : Nat) : (d.popCmd q).boot = d.boot := by
  rfl
@[simp] theorem Device.popCmd_ras (q : Nat) : (d.popCmd q).ras = d.ras := by
  rfl
@[simp] theorem Device.popCmd_pwr (q : Nat) : (d.popCmd q).pwr = d.pwr := by
  rfl
@[simp] theorem Device.popCmd_out (q : Nat) : (d.popCmd q).out = d.out := by
  rfl
@[simp] theorem Device.popCmd_core_regs (q : Nat) : (d.popCmd q).core.regs = d.core.regs := by
  rfl
@[simp] theorem Device.popCmd_core_mem (q : Nat) : (d.popCmd q).core.mem = d.core.mem := by
  rfl
@[simp] theorem Device.popCmd_core_pois (q : Nat) : (d.popCmd q).core.pois = d.core.pois := by
  rfl
@[simp] theorem Device.popCmd_core_flaws (q : Nat) : (d.popCmd q).core.flaws = d.core.flaws := by
  rfl
@[simp] theorem Device.popCmd_core_cap (q : Nat) : (d.popCmd q).core.cap = d.core.cap := by
  rfl
@[simp] theorem Device.popCmd_core_opens (q : Nat) : (d.popCmd q).core.opens = d.core.opens := by
  rfl
@[simp] theorem Device.popCmd_core_nextCid (q : Nat) : (d.popCmd q).core.nextCid = d.core.nextCid := by
  rfl
@[simp] theorem Device.popCmd_core_nextOrd (q : Nat) : (d.popCmd q).core.nextOrd = d.core.nextOrd := by
  rfl
@[simp] theorem Device.popCmd_core_done (q : Nat) : (d.popCmd q).core.done = d.core.done := by
  rfl
@[simp] theorem Device.popCmd_core_sync (q : Nat) : (d.popCmd q).core.sync = d.core.sync := by
  rfl
@[simp] theorem Device.popCmd_core_ltc (q : Nat) : (d.popCmd q).core.ltc = d.core.ltc := by
  rfl
@[simp] theorem Device.popCmd_core_evq (q : Nat) : (d.popCmd q).core.evq = d.core.evq := by
  rfl
@[simp] theorem Device.popCmd_core_arb (q : Nat) : (d.popCmd q).core.arb = d.core.arb := by
  rfl
@[simp] theorem Device.popCmd_core_grg (q : Nat) : (d.popCmd q).core.grg = d.core.grg := by
  rfl
@[simp] theorem Device.popCmd_core_cePost (q : Nat) : (d.popCmd q).core.cePost = d.core.cePost := by
  rfl
@[simp] theorem Device.popCmd_core_crossed (q : Nat) : (d.popCmd q).core.crossed = d.core.crossed := by
  rfl
@[simp] theorem Device.popCmd_core_hourly (q : Nat) : (d.popCmd q).core.hourly = d.core.hourly := by
  rfl
@[simp] theorem Device.popCmd_core_now (q : Nat) : (d.popCmd q).core.now = d.core.now := by
  rfl
@[simp] theorem Device.popCmd_core_armed (q : Nat) : (d.popCmd q).core.armed = d.core.armed := by
  rfl
@[simp] theorem Device.popCmd_core_freeN (q : Nat) : (d.popCmd q).core.freeN = d.core.freeN := by
  rfl
@[simp] theorem Device.popCmd_core_watch (q : Nat) : (d.popCmd q).core.watch = d.core.watch := by
  rfl

/-! `pushCmd` -/
@[simp] theorem Device.pushCmd_kiln (q : Nat) (c : Cmd) : (d.pushCmd q c).kiln = d.kiln := by
  rfl
@[simp] theorem Device.pushCmd_mvp (q : Nat) (c : Cmd) : (d.pushCmd q c).mvp = d.mvp := by
  rfl
@[simp] theorem Device.pushCmd_sts (q : Nat) (c : Cmd) : (d.pushCmd q c).sts = d.sts := by
  rfl
@[simp] theorem Device.pushCmd_vec (q : Nat) (c : Cmd) : (d.pushCmd q c).vec = d.vec := by
  rfl
@[simp] theorem Device.pushCmd_ctl (q : Nat) (c : Cmd) : (d.pushCmd q c).ctl = d.ctl := by
  rfl
@[simp] theorem Device.pushCmd_dma (q : Nat) (c : Cmd) : (d.pushCmd q c).dma = d.dma := by
  rfl
@[simp] theorem Device.pushCmd_tier (q : Nat) (c : Cmd) : (d.pushCmd q c).tier = d.tier := by
  rfl
@[simp] theorem Device.pushCmd_slip (q : Nat) (c : Cmd) : (d.pushCmd q c).slip = d.slip := by
  rfl
@[simp] theorem Device.pushCmd_train (q : Nat) (c : Cmd) : (d.pushCmd q c).train = d.train := by
  rfl
@[simp] theorem Device.pushCmd_ing (q : Nat) (c : Cmd) : (d.pushCmd q c).ing = d.ing := by
  rfl
@[simp] theorem Device.pushCmd_fab (q : Nat) (c : Cmd) : (d.pushCmd q c).fab = d.fab := by
  rfl
@[simp] theorem Device.pushCmd_col (q : Nat) (c : Cmd) : (d.pushCmd q c).col = d.col := by
  rfl
@[simp] theorem Device.pushCmd_inj (q : Nat) (c : Cmd) : (d.pushCmd q c).inj = d.inj := by
  rfl
@[simp] theorem Device.pushCmd_injw (q : Nat) (c : Cmd) : (d.pushCmd q c).injw = d.injw := by
  rfl
@[simp] theorem Device.pushCmd_hif (q : Nat) (c : Cmd) : (d.pushCmd q c).hif = d.hif := by
  rfl
@[simp] theorem Device.pushCmd_boot (q : Nat) (c : Cmd) : (d.pushCmd q c).boot = d.boot := by
  rfl
@[simp] theorem Device.pushCmd_ras (q : Nat) (c : Cmd) : (d.pushCmd q c).ras = d.ras := by
  rfl
@[simp] theorem Device.pushCmd_pwr (q : Nat) (c : Cmd) : (d.pushCmd q c).pwr = d.pwr := by
  rfl
@[simp] theorem Device.pushCmd_out (q : Nat) (c : Cmd) : (d.pushCmd q c).out = d.out := by
  rfl
@[simp] theorem Device.pushCmd_core_regs (q : Nat) (c : Cmd) : (d.pushCmd q c).core.regs = d.core.regs := by
  rfl
@[simp] theorem Device.pushCmd_core_mem (q : Nat) (c : Cmd) : (d.pushCmd q c).core.mem = d.core.mem := by
  rfl
@[simp] theorem Device.pushCmd_core_pois (q : Nat) (c : Cmd) : (d.pushCmd q c).core.pois = d.core.pois := by
  rfl
@[simp] theorem Device.pushCmd_core_flaws (q : Nat) (c : Cmd) : (d.pushCmd q c).core.flaws = d.core.flaws := by
  rfl
@[simp] theorem Device.pushCmd_core_cap (q : Nat) (c : Cmd) : (d.pushCmd q c).core.cap = d.core.cap := by
  rfl
@[simp] theorem Device.pushCmd_core_opens (q : Nat) (c : Cmd) : (d.pushCmd q c).core.opens = d.core.opens := by
  rfl
@[simp] theorem Device.pushCmd_core_nextCid (q : Nat) (c : Cmd) : (d.pushCmd q c).core.nextCid = d.core.nextCid := by
  rfl
@[simp] theorem Device.pushCmd_core_nextOrd (q : Nat) (c : Cmd) : (d.pushCmd q c).core.nextOrd = d.core.nextOrd := by
  rfl
@[simp] theorem Device.pushCmd_core_done (q : Nat) (c : Cmd) : (d.pushCmd q c).core.done = d.core.done := by
  rfl
@[simp] theorem Device.pushCmd_core_sync (q : Nat) (c : Cmd) : (d.pushCmd q c).core.sync = d.core.sync := by
  rfl
@[simp] theorem Device.pushCmd_core_ltc (q : Nat) (c : Cmd) : (d.pushCmd q c).core.ltc = d.core.ltc := by
  rfl
@[simp] theorem Device.pushCmd_core_evq (q : Nat) (c : Cmd) : (d.pushCmd q c).core.evq = d.core.evq := by
  rfl
@[simp] theorem Device.pushCmd_core_arb (q : Nat) (c : Cmd) : (d.pushCmd q c).core.arb = d.core.arb := by
  rfl
@[simp] theorem Device.pushCmd_core_grg (q : Nat) (c : Cmd) : (d.pushCmd q c).core.grg = d.core.grg := by
  rfl
@[simp] theorem Device.pushCmd_core_cePost (q : Nat) (c : Cmd) : (d.pushCmd q c).core.cePost = d.core.cePost := by
  rfl
@[simp] theorem Device.pushCmd_core_crossed (q : Nat) (c : Cmd) : (d.pushCmd q c).core.crossed = d.core.crossed := by
  rfl
@[simp] theorem Device.pushCmd_core_hourly (q : Nat) (c : Cmd) : (d.pushCmd q c).core.hourly = d.core.hourly := by
  rfl
@[simp] theorem Device.pushCmd_core_now (q : Nat) (c : Cmd) : (d.pushCmd q c).core.now = d.core.now := by
  rfl
@[simp] theorem Device.pushCmd_core_armed (q : Nat) (c : Cmd) : (d.pushCmd q c).core.armed = d.core.armed := by
  rfl
@[simp] theorem Device.pushCmd_core_freeN (q : Nat) (c : Cmd) : (d.pushCmd q c).core.freeN = d.core.freeN := by
  rfl
@[simp] theorem Device.pushCmd_core_watch (q : Nat) (c : Cmd) : (d.pushCmd q c).core.watch = d.core.watch := by
  rfl

/-! `setReg64` -/
@[simp] theorem Device.setReg64_kiln (k n : Nat) : (d.setReg64 k n).kiln = d.kiln := by
  rfl
@[simp] theorem Device.setReg64_mvp (k n : Nat) : (d.setReg64 k n).mvp = d.mvp := by
  rfl
@[simp] theorem Device.setReg64_sts (k n : Nat) : (d.setReg64 k n).sts = d.sts := by
  rfl
@[simp] theorem Device.setReg64_vec (k n : Nat) : (d.setReg64 k n).vec = d.vec := by
  rfl
@[simp] theorem Device.setReg64_ctl (k n : Nat) : (d.setReg64 k n).ctl = d.ctl := by
  rfl
@[simp] theorem Device.setReg64_dma (k n : Nat) : (d.setReg64 k n).dma = d.dma := by
  rfl
@[simp] theorem Device.setReg64_tier (k n : Nat) : (d.setReg64 k n).tier = d.tier := by
  rfl
@[simp] theorem Device.setReg64_slip (k n : Nat) : (d.setReg64 k n).slip = d.slip := by
  rfl
@[simp] theorem Device.setReg64_train (k n : Nat) : (d.setReg64 k n).train = d.train := by
  rfl
@[simp] theorem Device.setReg64_ing (k n : Nat) : (d.setReg64 k n).ing = d.ing := by
  rfl
@[simp] theorem Device.setReg64_fab (k n : Nat) : (d.setReg64 k n).fab = d.fab := by
  rfl
@[simp] theorem Device.setReg64_col (k n : Nat) : (d.setReg64 k n).col = d.col := by
  rfl
@[simp] theorem Device.setReg64_inj (k n : Nat) : (d.setReg64 k n).inj = d.inj := by
  rfl
@[simp] theorem Device.setReg64_injw (k n : Nat) : (d.setReg64 k n).injw = d.injw := by
  rfl
@[simp] theorem Device.setReg64_hif (k n : Nat) : (d.setReg64 k n).hif = d.hif := by
  rfl
@[simp] theorem Device.setReg64_boot (k n : Nat) : (d.setReg64 k n).boot = d.boot := by
  rfl
@[simp] theorem Device.setReg64_ras (k n : Nat) : (d.setReg64 k n).ras = d.ras := by
  rfl
@[simp] theorem Device.setReg64_pwr (k n : Nat) : (d.setReg64 k n).pwr = d.pwr := by
  rfl
@[simp] theorem Device.setReg64_out (k n : Nat) : (d.setReg64 k n).out = d.out := by
  rfl
@[simp] theorem Device.setReg64_core_mem (k n : Nat) : (d.setReg64 k n).core.mem = d.core.mem := by
  rfl
@[simp] theorem Device.setReg64_core_pois (k n : Nat) : (d.setReg64 k n).core.pois = d.core.pois := by
  rfl
@[simp] theorem Device.setReg64_core_flaws (k n : Nat) : (d.setReg64 k n).core.flaws = d.core.flaws := by
  rfl
@[simp] theorem Device.setReg64_core_cap (k n : Nat) : (d.setReg64 k n).core.cap = d.core.cap := by
  rfl
@[simp] theorem Device.setReg64_core_queues (k n : Nat) : (d.setReg64 k n).core.queues = d.core.queues := by
  rfl
@[simp] theorem Device.setReg64_core_opens (k n : Nat) : (d.setReg64 k n).core.opens = d.core.opens := by
  rfl
@[simp] theorem Device.setReg64_core_nextCid (k n : Nat) : (d.setReg64 k n).core.nextCid = d.core.nextCid := by
  rfl
@[simp] theorem Device.setReg64_core_nextOrd (k n : Nat) : (d.setReg64 k n).core.nextOrd = d.core.nextOrd := by
  rfl
@[simp] theorem Device.setReg64_core_done (k n : Nat) : (d.setReg64 k n).core.done = d.core.done := by
  rfl
@[simp] theorem Device.setReg64_core_sync (k n : Nat) : (d.setReg64 k n).core.sync = d.core.sync := by
  rfl
@[simp] theorem Device.setReg64_core_ltc (k n : Nat) : (d.setReg64 k n).core.ltc = d.core.ltc := by
  rfl
@[simp] theorem Device.setReg64_core_evq (k n : Nat) : (d.setReg64 k n).core.evq = d.core.evq := by
  rfl
@[simp] theorem Device.setReg64_core_arb (k n : Nat) : (d.setReg64 k n).core.arb = d.core.arb := by
  rfl
@[simp] theorem Device.setReg64_core_grg (k n : Nat) : (d.setReg64 k n).core.grg = d.core.grg := by
  rfl
@[simp] theorem Device.setReg64_core_cePost (k n : Nat) : (d.setReg64 k n).core.cePost = d.core.cePost := by
  rfl
@[simp] theorem Device.setReg64_core_crossed (k n : Nat) : (d.setReg64 k n).core.crossed = d.core.crossed := by
  rfl
@[simp] theorem Device.setReg64_core_hourly (k n : Nat) : (d.setReg64 k n).core.hourly = d.core.hourly := by
  rfl
@[simp] theorem Device.setReg64_core_now (k n : Nat) : (d.setReg64 k n).core.now = d.core.now := by
  rfl
@[simp] theorem Device.setReg64_core_armed (k n : Nat) : (d.setReg64 k n).core.armed = d.core.armed := by
  rfl
@[simp] theorem Device.setReg64_core_freeN (k n : Nat) : (d.setReg64 k n).core.freeN = d.core.freeN := by
  rfl
@[simp] theorem Device.setReg64_core_watch (k n : Nat) : (d.setReg64 k n).core.watch = d.core.watch := by
  rfl

/-! `setRecord` -/
@[simp] theorem Device.setRecord_kiln (k : Nat) (lo hi : Word) : (d.setRecord k lo hi).kiln = d.kiln := by
  unfold Device.setRecord; split <;> rfl
@[simp] theorem Device.setRecord_mvp (k : Nat) (lo hi : Word) : (d.setRecord k lo hi).mvp = d.mvp := by
  unfold Device.setRecord; split <;> rfl
@[simp] theorem Device.setRecord_sts (k : Nat) (lo hi : Word) : (d.setRecord k lo hi).sts = d.sts := by
  unfold Device.setRecord; split <;> rfl
@[simp] theorem Device.setRecord_vec (k : Nat) (lo hi : Word) : (d.setRecord k lo hi).vec = d.vec := by
  unfold Device.setRecord; split <;> rfl
@[simp] theorem Device.setRecord_ctl (k : Nat) (lo hi : Word) : (d.setRecord k lo hi).ctl = d.ctl := by
  unfold Device.setRecord; split <;> rfl
@[simp] theorem Device.setRecord_dma (k : Nat) (lo hi : Word) : (d.setRecord k lo hi).dma = d.dma := by
  unfold Device.setRecord; split <;> rfl
@[simp] theorem Device.setRecord_tier (k : Nat) (lo hi : Word) : (d.setRecord k lo hi).tier = d.tier := by
  unfold Device.setRecord; split <;> rfl
@[simp] theorem Device.setRecord_slip (k : Nat) (lo hi : Word) : (d.setRecord k lo hi).slip = d.slip := by
  unfold Device.setRecord; split <;> rfl
@[simp] theorem Device.setRecord_train (k : Nat) (lo hi : Word) : (d.setRecord k lo hi).train = d.train := by
  unfold Device.setRecord; split <;> rfl
@[simp] theorem Device.setRecord_ing (k : Nat) (lo hi : Word) : (d.setRecord k lo hi).ing = d.ing := by
  unfold Device.setRecord; split <;> rfl
@[simp] theorem Device.setRecord_fab (k : Nat) (lo hi : Word) : (d.setRecord k lo hi).fab = d.fab := by
  unfold Device.setRecord; split <;> rfl
@[simp] theorem Device.setRecord_col (k : Nat) (lo hi : Word) : (d.setRecord k lo hi).col = d.col := by
  unfold Device.setRecord; split <;> rfl
@[simp] theorem Device.setRecord_inj (k : Nat) (lo hi : Word) : (d.setRecord k lo hi).inj = d.inj := by
  unfold Device.setRecord; split <;> rfl
@[simp] theorem Device.setRecord_injw (k : Nat) (lo hi : Word) : (d.setRecord k lo hi).injw = d.injw := by
  unfold Device.setRecord; split <;> rfl
@[simp] theorem Device.setRecord_hif (k : Nat) (lo hi : Word) : (d.setRecord k lo hi).hif = d.hif := by
  unfold Device.setRecord; split <;> rfl
@[simp] theorem Device.setRecord_boot (k : Nat) (lo hi : Word) : (d.setRecord k lo hi).boot = d.boot := by
  unfold Device.setRecord; split <;> rfl
@[simp] theorem Device.setRecord_ras (k : Nat) (lo hi : Word) : (d.setRecord k lo hi).ras = d.ras := by
  unfold Device.setRecord; split <;> rfl
@[simp] theorem Device.setRecord_pwr (k : Nat) (lo hi : Word) : (d.setRecord k lo hi).pwr = d.pwr := by
  unfold Device.setRecord; split <;> rfl
@[simp] theorem Device.setRecord_out (k : Nat) (lo hi : Word) : (d.setRecord k lo hi).out = d.out := by
  unfold Device.setRecord; split <;> rfl
@[simp] theorem Device.setRecord_core_mem (k : Nat) (lo hi : Word) : (d.setRecord k lo hi).core.mem = d.core.mem := by
  unfold Device.setRecord; split <;> rfl
@[simp] theorem Device.setRecord_core_pois (k : Nat) (lo hi : Word) : (d.setRecord k lo hi).core.pois = d.core.pois := by
  unfold Device.setRecord; split <;> rfl
@[simp] theorem Device.setRecord_core_flaws (k : Nat) (lo hi : Word) : (d.setRecord k lo hi).core.flaws = d.core.flaws := by
  unfold Device.setRecord; split <;> rfl
@[simp] theorem Device.setRecord_core_cap (k : Nat) (lo hi : Word) : (d.setRecord k lo hi).core.cap = d.core.cap := by
  unfold Device.setRecord; split <;> rfl
@[simp] theorem Device.setRecord_core_queues (k : Nat) (lo hi : Word) : (d.setRecord k lo hi).core.queues = d.core.queues := by
  unfold Device.setRecord; split <;> rfl
@[simp] theorem Device.setRecord_core_opens (k : Nat) (lo hi : Word) : (d.setRecord k lo hi).core.opens = d.core.opens := by
  unfold Device.setRecord; split <;> rfl
@[simp] theorem Device.setRecord_core_nextCid (k : Nat) (lo hi : Word) : (d.setRecord k lo hi).core.nextCid = d.core.nextCid := by
  unfold Device.setRecord; split <;> rfl
@[simp] theorem Device.setRecord_core_nextOrd (k : Nat) (lo hi : Word) : (d.setRecord k lo hi).core.nextOrd = d.core.nextOrd := by
  unfold Device.setRecord; split <;> rfl
@[simp] theorem Device.setRecord_core_done (k : Nat) (lo hi : Word) : (d.setRecord k lo hi).core.done = d.core.done := by
  unfold Device.setRecord; split <;> rfl
@[simp] theorem Device.setRecord_core_sync (k : Nat) (lo hi : Word) : (d.setRecord k lo hi).core.sync = d.core.sync := by
  unfold Device.setRecord; split <;> rfl
@[simp] theorem Device.setRecord_core_ltc (k : Nat) (lo hi : Word) : (d.setRecord k lo hi).core.ltc = d.core.ltc := by
  unfold Device.setRecord; split <;> rfl
@[simp] theorem Device.setRecord_core_evq (k : Nat) (lo hi : Word) : (d.setRecord k lo hi).core.evq = d.core.evq := by
  unfold Device.setRecord; split <;> rfl
@[simp] theorem Device.setRecord_core_arb (k : Nat) (lo hi : Word) : (d.setRecord k lo hi).core.arb = d.core.arb := by
  unfold Device.setRecord; split <;> rfl
@[simp] theorem Device.setRecord_core_grg (k : Nat) (lo hi : Word) : (d.setRecord k lo hi).core.grg = d.core.grg := by
  unfold Device.setRecord; split <;> rfl
@[simp] theorem Device.setRecord_core_cePost (k : Nat) (lo hi : Word) : (d.setRecord k lo hi).core.cePost = d.core.cePost := by
  unfold Device.setRecord; split <;> rfl
@[simp] theorem Device.setRecord_core_crossed (k : Nat) (lo hi : Word) : (d.setRecord k lo hi).core.crossed = d.core.crossed := by
  unfold Device.setRecord; split <;> rfl
@[simp] theorem Device.setRecord_core_hourly (k : Nat) (lo hi : Word) : (d.setRecord k lo hi).core.hourly = d.core.hourly := by
  unfold Device.setRecord; split <;> rfl
@[simp] theorem Device.setRecord_core_now (k : Nat) (lo hi : Word) : (d.setRecord k lo hi).core.now = d.core.now := by
  unfold Device.setRecord; split <;> rfl
@[simp] theorem Device.setRecord_core_armed (k : Nat) (lo hi : Word) : (d.setRecord k lo hi).core.armed = d.core.armed := by
  unfold Device.setRecord; split <;> rfl
@[simp] theorem Device.setRecord_core_freeN (k : Nat) (lo hi : Word) : (d.setRecord k lo hi).core.freeN = d.core.freeN := by
  unfold Device.setRecord; split <;> rfl
@[simp] theorem Device.setRecord_core_watch (k : Nat) (lo hi : Word) : (d.setRecord k lo hi).core.watch = d.core.watch := by
  unfold Device.setRecord; split <;> rfl

/-! `progressN` -/
@[simp] theorem Device.progressN_kiln (w n : Nat) : (d.progressN w n).kiln = d.kiln := by
  rfl
@[simp] theorem Device.progressN_mvp (w n : Nat) : (d.progressN w n).mvp = d.mvp := by
  rfl
@[simp] theorem Device.progressN_sts (w n : Nat) : (d.progressN w n).sts = d.sts := by
  rfl
@[simp] theorem Device.progressN_vec (w n : Nat) : (d.progressN w n).vec = d.vec := by
  rfl
@[simp] theorem Device.progressN_ctl (w n : Nat) : (d.progressN w n).ctl = d.ctl := by
  rfl
@[simp] theorem Device.progressN_dma (w n : Nat) : (d.progressN w n).dma = d.dma := by
  rfl
@[simp] theorem Device.progressN_tier (w n : Nat) : (d.progressN w n).tier = d.tier := by
  rfl
@[simp] theorem Device.progressN_slip (w n : Nat) : (d.progressN w n).slip = d.slip := by
  rfl
@[simp] theorem Device.progressN_train (w n : Nat) : (d.progressN w n).train = d.train := by
  rfl
@[simp] theorem Device.progressN_ing (w n : Nat) : (d.progressN w n).ing = d.ing := by
  rfl
@[simp] theorem Device.progressN_fab (w n : Nat) : (d.progressN w n).fab = d.fab := by
  rfl
@[simp] theorem Device.progressN_col (w n : Nat) : (d.progressN w n).col = d.col := by
  rfl
@[simp] theorem Device.progressN_inj (w n : Nat) : (d.progressN w n).inj = d.inj := by
  rfl
@[simp] theorem Device.progressN_injw (w n : Nat) : (d.progressN w n).injw = d.injw := by
  rfl
@[simp] theorem Device.progressN_hif (w n : Nat) : (d.progressN w n).hif = d.hif := by
  rfl
@[simp] theorem Device.progressN_boot (w n : Nat) : (d.progressN w n).boot = d.boot := by
  rfl
@[simp] theorem Device.progressN_pwr (w n : Nat) : (d.progressN w n).pwr = d.pwr := by
  rfl
@[simp] theorem Device.progressN_out (w n : Nat) : (d.progressN w n).out = d.out := by
  rfl
@[simp] theorem Device.progressN_core_regs (w n : Nat) : (d.progressN w n).core.regs = d.core.regs := by
  rfl
@[simp] theorem Device.progressN_core_mem (w n : Nat) : (d.progressN w n).core.mem = d.core.mem := by
  rfl
@[simp] theorem Device.progressN_core_pois (w n : Nat) : (d.progressN w n).core.pois = d.core.pois := by
  rfl
@[simp] theorem Device.progressN_core_flaws (w n : Nat) : (d.progressN w n).core.flaws = d.core.flaws := by
  rfl
@[simp] theorem Device.progressN_core_cap (w n : Nat) : (d.progressN w n).core.cap = d.core.cap := by
  rfl
@[simp] theorem Device.progressN_core_queues (w n : Nat) : (d.progressN w n).core.queues = d.core.queues := by
  rfl
@[simp] theorem Device.progressN_core_opens (w n : Nat) : (d.progressN w n).core.opens = d.core.opens := by
  rfl
@[simp] theorem Device.progressN_core_nextCid (w n : Nat) : (d.progressN w n).core.nextCid = d.core.nextCid := by
  rfl
@[simp] theorem Device.progressN_core_nextOrd (w n : Nat) : (d.progressN w n).core.nextOrd = d.core.nextOrd := by
  rfl
@[simp] theorem Device.progressN_core_done (w n : Nat) : (d.progressN w n).core.done = d.core.done := by
  rfl
@[simp] theorem Device.progressN_core_sync (w n : Nat) : (d.progressN w n).core.sync = d.core.sync := by
  rfl
@[simp] theorem Device.progressN_core_ltc (w n : Nat) : (d.progressN w n).core.ltc = d.core.ltc := by
  rfl
@[simp] theorem Device.progressN_core_evq (w n : Nat) : (d.progressN w n).core.evq = d.core.evq := by
  rfl
@[simp] theorem Device.progressN_core_arb (w n : Nat) : (d.progressN w n).core.arb = d.core.arb := by
  rfl
@[simp] theorem Device.progressN_core_grg (w n : Nat) : (d.progressN w n).core.grg = d.core.grg := by
  rfl
@[simp] theorem Device.progressN_core_cePost (w n : Nat) : (d.progressN w n).core.cePost = d.core.cePost := by
  rfl
@[simp] theorem Device.progressN_core_crossed (w n : Nat) : (d.progressN w n).core.crossed = d.core.crossed := by
  rfl
@[simp] theorem Device.progressN_core_hourly (w n : Nat) : (d.progressN w n).core.hourly = d.core.hourly := by
  rfl
@[simp] theorem Device.progressN_core_now (w n : Nat) : (d.progressN w n).core.now = d.core.now := by
  rfl
@[simp] theorem Device.progressN_core_armed (w n : Nat) : (d.progressN w n).core.armed = d.core.armed := by
  rfl
@[simp] theorem Device.progressN_core_freeN (w n : Nat) : (d.progressN w n).core.freeN = d.core.freeN := by
  rfl
@[simp] theorem Device.progressN_core_watch (w n : Nat) : (d.progressN w n).core.watch = d.core.watch := by
  rfl

/-! `latchWaits` -/
@[simp] theorem Device.latchWaits_kiln : (d.latchWaits).kiln = d.kiln := by
  rfl
@[simp] theorem Device.latchWaits_mvp : (d.latchWaits).mvp = d.mvp := by
  rfl
@[simp] theorem Device.latchWaits_sts : (d.latchWaits).sts = d.sts := by
  rfl
@[simp] theorem Device.latchWaits_vec : (d.latchWaits).vec = d.vec := by
  rfl
@[simp] theorem Device.latchWaits_slip : (d.latchWaits).slip = d.slip := by
  rfl
@[simp] theorem Device.latchWaits_train : (d.latchWaits).train = d.train := by
  rfl
@[simp] theorem Device.latchWaits_fab : (d.latchWaits).fab = d.fab := by
  rfl
@[simp] theorem Device.latchWaits_col : (d.latchWaits).col = d.col := by
  rfl
@[simp] theorem Device.latchWaits_inj : (d.latchWaits).inj = d.inj := by
  rfl
@[simp] theorem Device.latchWaits_injw : (d.latchWaits).injw = d.injw := by
  rfl
@[simp] theorem Device.latchWaits_hif : (d.latchWaits).hif = d.hif := by
  rfl
@[simp] theorem Device.latchWaits_boot : (d.latchWaits).boot = d.boot := by
  rfl
@[simp] theorem Device.latchWaits_ras : (d.latchWaits).ras = d.ras := by
  rfl
@[simp] theorem Device.latchWaits_pwr : (d.latchWaits).pwr = d.pwr := by
  rfl
@[simp] theorem Device.latchWaits_out : (d.latchWaits).out = d.out := by
  rfl
@[simp] theorem Device.latchWaits_core_regs : (d.latchWaits).core.regs = d.core.regs := by
  rfl
@[simp] theorem Device.latchWaits_core_mem : (d.latchWaits).core.mem = d.core.mem := by
  rfl
@[simp] theorem Device.latchWaits_core_pois : (d.latchWaits).core.pois = d.core.pois := by
  rfl
@[simp] theorem Device.latchWaits_core_flaws : (d.latchWaits).core.flaws = d.core.flaws := by
  rfl
@[simp] theorem Device.latchWaits_core_cap : (d.latchWaits).core.cap = d.core.cap := by
  rfl
@[simp] theorem Device.latchWaits_core_opens : (d.latchWaits).core.opens = d.core.opens := by
  rfl
@[simp] theorem Device.latchWaits_core_nextCid : (d.latchWaits).core.nextCid = d.core.nextCid := by
  rfl
@[simp] theorem Device.latchWaits_core_nextOrd : (d.latchWaits).core.nextOrd = d.core.nextOrd := by
  rfl
@[simp] theorem Device.latchWaits_core_done : (d.latchWaits).core.done = d.core.done := by
  rfl
@[simp] theorem Device.latchWaits_core_sync : (d.latchWaits).core.sync = d.core.sync := by
  rfl
@[simp] theorem Device.latchWaits_core_ltc : (d.latchWaits).core.ltc = d.core.ltc := by
  rfl
@[simp] theorem Device.latchWaits_core_evq : (d.latchWaits).core.evq = d.core.evq := by
  rfl
@[simp] theorem Device.latchWaits_core_arb : (d.latchWaits).core.arb = d.core.arb := by
  rfl
@[simp] theorem Device.latchWaits_core_grg : (d.latchWaits).core.grg = d.core.grg := by
  rfl
@[simp] theorem Device.latchWaits_core_cePost : (d.latchWaits).core.cePost = d.core.cePost := by
  rfl
@[simp] theorem Device.latchWaits_core_crossed : (d.latchWaits).core.crossed = d.core.crossed := by
  rfl
@[simp] theorem Device.latchWaits_core_hourly : (d.latchWaits).core.hourly = d.core.hourly := by
  rfl
@[simp] theorem Device.latchWaits_core_now : (d.latchWaits).core.now = d.core.now := by
  rfl
@[simp] theorem Device.latchWaits_core_armed : (d.latchWaits).core.armed = d.core.armed := by
  rfl
@[simp] theorem Device.latchWaits_core_freeN : (d.latchWaits).core.freeN = d.core.freeN := by
  rfl
@[simp] theorem Device.latchWaits_core_watch : (d.latchWaits).core.watch = d.core.watch := by
  rfl

/-! `putSync` -/
@[simp] theorem Device.putSync_kiln (die c v : Nat) : (d.putSync die c v).kiln = d.kiln := by
  rfl
@[simp] theorem Device.putSync_mvp (die c v : Nat) : (d.putSync die c v).mvp = d.mvp := by
  rfl
@[simp] theorem Device.putSync_sts (die c v : Nat) : (d.putSync die c v).sts = d.sts := by
  rfl
@[simp] theorem Device.putSync_vec (die c v : Nat) : (d.putSync die c v).vec = d.vec := by
  rfl
@[simp] theorem Device.putSync_slip (die c v : Nat) : (d.putSync die c v).slip = d.slip := by
  rfl
@[simp] theorem Device.putSync_train (die c v : Nat) : (d.putSync die c v).train = d.train := by
  rfl
@[simp] theorem Device.putSync_fab (die c v : Nat) : (d.putSync die c v).fab = d.fab := by
  rfl
@[simp] theorem Device.putSync_col (die c v : Nat) : (d.putSync die c v).col = d.col := by
  rfl
@[simp] theorem Device.putSync_inj (die c v : Nat) : (d.putSync die c v).inj = d.inj := by
  rfl
@[simp] theorem Device.putSync_injw (die c v : Nat) : (d.putSync die c v).injw = d.injw := by
  rfl
@[simp] theorem Device.putSync_hif (die c v : Nat) : (d.putSync die c v).hif = d.hif := by
  rfl
@[simp] theorem Device.putSync_boot (die c v : Nat) : (d.putSync die c v).boot = d.boot := by
  rfl
@[simp] theorem Device.putSync_ras (die c v : Nat) : (d.putSync die c v).ras = d.ras := by
  rfl
@[simp] theorem Device.putSync_pwr (die c v : Nat) : (d.putSync die c v).pwr = d.pwr := by
  rfl
@[simp] theorem Device.putSync_out (die c v : Nat) : (d.putSync die c v).out = d.out := by
  rfl
@[simp] theorem Device.putSync_core_regs (die c v : Nat) : (d.putSync die c v).core.regs = d.core.regs := by
  rfl
@[simp] theorem Device.putSync_core_mem (die c v : Nat) : (d.putSync die c v).core.mem = d.core.mem := by
  rfl
@[simp] theorem Device.putSync_core_pois (die c v : Nat) : (d.putSync die c v).core.pois = d.core.pois := by
  rfl
@[simp] theorem Device.putSync_core_flaws (die c v : Nat) : (d.putSync die c v).core.flaws = d.core.flaws := by
  rfl
@[simp] theorem Device.putSync_core_cap (die c v : Nat) : (d.putSync die c v).core.cap = d.core.cap := by
  rfl
@[simp] theorem Device.putSync_core_opens (die c v : Nat) : (d.putSync die c v).core.opens = d.core.opens := by
  rfl
@[simp] theorem Device.putSync_core_nextCid (die c v : Nat) : (d.putSync die c v).core.nextCid = d.core.nextCid := by
  rfl
@[simp] theorem Device.putSync_core_nextOrd (die c v : Nat) : (d.putSync die c v).core.nextOrd = d.core.nextOrd := by
  rfl
@[simp] theorem Device.putSync_core_done (die c v : Nat) : (d.putSync die c v).core.done = d.core.done := by
  rfl
@[simp] theorem Device.putSync_core_ltc (die c v : Nat) : (d.putSync die c v).core.ltc = d.core.ltc := by
  rfl
@[simp] theorem Device.putSync_core_evq (die c v : Nat) : (d.putSync die c v).core.evq = d.core.evq := by
  rfl
@[simp] theorem Device.putSync_core_arb (die c v : Nat) : (d.putSync die c v).core.arb = d.core.arb := by
  rfl
@[simp] theorem Device.putSync_core_grg (die c v : Nat) : (d.putSync die c v).core.grg = d.core.grg := by
  rfl
@[simp] theorem Device.putSync_core_cePost (die c v : Nat) : (d.putSync die c v).core.cePost = d.core.cePost := by
  rfl
@[simp] theorem Device.putSync_core_crossed (die c v : Nat) : (d.putSync die c v).core.crossed = d.core.crossed := by
  rfl
@[simp] theorem Device.putSync_core_hourly (die c v : Nat) : (d.putSync die c v).core.hourly = d.core.hourly := by
  rfl
@[simp] theorem Device.putSync_core_now (die c v : Nat) : (d.putSync die c v).core.now = d.core.now := by
  rfl
@[simp] theorem Device.putSync_core_armed (die c v : Nat) : (d.putSync die c v).core.armed = d.core.armed := by
  rfl
@[simp] theorem Device.putSync_core_freeN (die c v : Nat) : (d.putSync die c v).core.freeN = d.core.freeN := by
  rfl
@[simp] theorem Device.putSync_core_watch (die c v : Nat) : (d.putSync die c v).core.watch = d.core.watch := by
  rfl

/-! `signal` -/
@[simp] theorem Device.signal_kiln (die c : Nat) : (d.signal die c).kiln = d.kiln := by
  rfl
@[simp] theorem Device.signal_mvp (die c : Nat) : (d.signal die c).mvp = d.mvp := by
  rfl
@[simp] theorem Device.signal_sts (die c : Nat) : (d.signal die c).sts = d.sts := by
  rfl
@[simp] theorem Device.signal_vec (die c : Nat) : (d.signal die c).vec = d.vec := by
  rfl
@[simp] theorem Device.signal_slip (die c : Nat) : (d.signal die c).slip = d.slip := by
  rfl
@[simp] theorem Device.signal_train (die c : Nat) : (d.signal die c).train = d.train := by
  rfl
@[simp] theorem Device.signal_fab (die c : Nat) : (d.signal die c).fab = d.fab := by
  rfl
@[simp] theorem Device.signal_col (die c : Nat) : (d.signal die c).col = d.col := by
  rfl
@[simp] theorem Device.signal_inj (die c : Nat) : (d.signal die c).inj = d.inj := by
  rfl
@[simp] theorem Device.signal_injw (die c : Nat) : (d.signal die c).injw = d.injw := by
  rfl
@[simp] theorem Device.signal_hif (die c : Nat) : (d.signal die c).hif = d.hif := by
  rfl
@[simp] theorem Device.signal_boot (die c : Nat) : (d.signal die c).boot = d.boot := by
  rfl
@[simp] theorem Device.signal_ras (die c : Nat) : (d.signal die c).ras = d.ras := by
  rfl
@[simp] theorem Device.signal_pwr (die c : Nat) : (d.signal die c).pwr = d.pwr := by
  rfl
@[simp] theorem Device.signal_out (die c : Nat) : (d.signal die c).out = d.out := by
  rfl
@[simp] theorem Device.signal_core_regs (die c : Nat) : (d.signal die c).core.regs = d.core.regs := by
  rfl
@[simp] theorem Device.signal_core_mem (die c : Nat) : (d.signal die c).core.mem = d.core.mem := by
  rfl
@[simp] theorem Device.signal_core_pois (die c : Nat) : (d.signal die c).core.pois = d.core.pois := by
  rfl
@[simp] theorem Device.signal_core_flaws (die c : Nat) : (d.signal die c).core.flaws = d.core.flaws := by
  rfl
@[simp] theorem Device.signal_core_cap (die c : Nat) : (d.signal die c).core.cap = d.core.cap := by
  rfl
@[simp] theorem Device.signal_core_opens (die c : Nat) : (d.signal die c).core.opens = d.core.opens := by
  rfl
@[simp] theorem Device.signal_core_nextCid (die c : Nat) : (d.signal die c).core.nextCid = d.core.nextCid := by
  rfl
@[simp] theorem Device.signal_core_nextOrd (die c : Nat) : (d.signal die c).core.nextOrd = d.core.nextOrd := by
  rfl
@[simp] theorem Device.signal_core_done (die c : Nat) : (d.signal die c).core.done = d.core.done := by
  rfl
@[simp] theorem Device.signal_core_ltc (die c : Nat) : (d.signal die c).core.ltc = d.core.ltc := by
  rfl
@[simp] theorem Device.signal_core_evq (die c : Nat) : (d.signal die c).core.evq = d.core.evq := by
  rfl
@[simp] theorem Device.signal_core_arb (die c : Nat) : (d.signal die c).core.arb = d.core.arb := by
  rfl
@[simp] theorem Device.signal_core_grg (die c : Nat) : (d.signal die c).core.grg = d.core.grg := by
  rfl
@[simp] theorem Device.signal_core_cePost (die c : Nat) : (d.signal die c).core.cePost = d.core.cePost := by
  rfl
@[simp] theorem Device.signal_core_crossed (die c : Nat) : (d.signal die c).core.crossed = d.core.crossed := by
  rfl
@[simp] theorem Device.signal_core_hourly (die c : Nat) : (d.signal die c).core.hourly = d.core.hourly := by
  rfl
@[simp] theorem Device.signal_core_now (die c : Nat) : (d.signal die c).core.now = d.core.now := by
  rfl
@[simp] theorem Device.signal_core_armed (die c : Nat) : (d.signal die c).core.armed = d.core.armed := by
  rfl
@[simp] theorem Device.signal_core_freeN (die c : Nat) : (d.signal die c).core.freeN = d.core.freeN := by
  rfl
@[simp] theorem Device.signal_core_watch (die c : Nat) : (d.signal die c).core.watch = d.core.watch := by
  rfl

/-! `setSync` -/
@[simp] theorem Device.setSync_kiln (die c v : Nat) : (d.setSync die c v).kiln = d.kiln := by
  unfold Device.setSync; split <;> rfl
@[simp] theorem Device.setSync_mvp (die c v : Nat) : (d.setSync die c v).mvp = d.mvp := by
  unfold Device.setSync; split <;> rfl
@[simp] theorem Device.setSync_sts (die c v : Nat) : (d.setSync die c v).sts = d.sts := by
  unfold Device.setSync; split <;> rfl
@[simp] theorem Device.setSync_vec (die c v : Nat) : (d.setSync die c v).vec = d.vec := by
  unfold Device.setSync; split <;> rfl
@[simp] theorem Device.setSync_slip (die c v : Nat) : (d.setSync die c v).slip = d.slip := by
  unfold Device.setSync; split <;> rfl
@[simp] theorem Device.setSync_train (die c v : Nat) : (d.setSync die c v).train = d.train := by
  unfold Device.setSync; split <;> rfl
@[simp] theorem Device.setSync_fab (die c v : Nat) : (d.setSync die c v).fab = d.fab := by
  unfold Device.setSync; split <;> rfl
@[simp] theorem Device.setSync_col (die c v : Nat) : (d.setSync die c v).col = d.col := by
  unfold Device.setSync; split <;> rfl
@[simp] theorem Device.setSync_inj (die c v : Nat) : (d.setSync die c v).inj = d.inj := by
  unfold Device.setSync; split <;> rfl
@[simp] theorem Device.setSync_injw (die c v : Nat) : (d.setSync die c v).injw = d.injw := by
  unfold Device.setSync; split <;> rfl
@[simp] theorem Device.setSync_hif (die c v : Nat) : (d.setSync die c v).hif = d.hif := by
  unfold Device.setSync; split <;> rfl
@[simp] theorem Device.setSync_boot (die c v : Nat) : (d.setSync die c v).boot = d.boot := by
  unfold Device.setSync; split <;> rfl
@[simp] theorem Device.setSync_ras (die c v : Nat) : (d.setSync die c v).ras = d.ras := by
  unfold Device.setSync; split <;> rfl
@[simp] theorem Device.setSync_pwr (die c v : Nat) : (d.setSync die c v).pwr = d.pwr := by
  unfold Device.setSync; split <;> rfl
@[simp] theorem Device.setSync_out (die c v : Nat) : (d.setSync die c v).out = d.out := by
  unfold Device.setSync; split <;> rfl
@[simp] theorem Device.setSync_core_regs (die c v : Nat) : (d.setSync die c v).core.regs = d.core.regs := by
  unfold Device.setSync; split <;> rfl
@[simp] theorem Device.setSync_core_mem (die c v : Nat) : (d.setSync die c v).core.mem = d.core.mem := by
  unfold Device.setSync; split <;> rfl
@[simp] theorem Device.setSync_core_pois (die c v : Nat) : (d.setSync die c v).core.pois = d.core.pois := by
  unfold Device.setSync; split <;> rfl
@[simp] theorem Device.setSync_core_flaws (die c v : Nat) : (d.setSync die c v).core.flaws = d.core.flaws := by
  unfold Device.setSync; split <;> rfl
@[simp] theorem Device.setSync_core_cap (die c v : Nat) : (d.setSync die c v).core.cap = d.core.cap := by
  unfold Device.setSync; split <;> rfl
@[simp] theorem Device.setSync_core_opens (die c v : Nat) : (d.setSync die c v).core.opens = d.core.opens := by
  unfold Device.setSync; split <;> rfl
@[simp] theorem Device.setSync_core_nextCid (die c v : Nat) : (d.setSync die c v).core.nextCid = d.core.nextCid := by
  unfold Device.setSync; split <;> rfl
@[simp] theorem Device.setSync_core_nextOrd (die c v : Nat) : (d.setSync die c v).core.nextOrd = d.core.nextOrd := by
  unfold Device.setSync; split <;> rfl
@[simp] theorem Device.setSync_core_done (die c v : Nat) : (d.setSync die c v).core.done = d.core.done := by
  unfold Device.setSync; split <;> rfl
@[simp] theorem Device.setSync_core_ltc (die c v : Nat) : (d.setSync die c v).core.ltc = d.core.ltc := by
  unfold Device.setSync; split <;> rfl
@[simp] theorem Device.setSync_core_evq (die c v : Nat) : (d.setSync die c v).core.evq = d.core.evq := by
  unfold Device.setSync; split <;> rfl
@[simp] theorem Device.setSync_core_arb (die c v : Nat) : (d.setSync die c v).core.arb = d.core.arb := by
  unfold Device.setSync; split <;> rfl
@[simp] theorem Device.setSync_core_grg (die c v : Nat) : (d.setSync die c v).core.grg = d.core.grg := by
  unfold Device.setSync; split <;> rfl
@[simp] theorem Device.setSync_core_cePost (die c v : Nat) : (d.setSync die c v).core.cePost = d.core.cePost := by
  unfold Device.setSync; split <;> rfl
@[simp] theorem Device.setSync_core_crossed (die c v : Nat) : (d.setSync die c v).core.crossed = d.core.crossed := by
  unfold Device.setSync; split <;> rfl
@[simp] theorem Device.setSync_core_hourly (die c v : Nat) : (d.setSync die c v).core.hourly = d.core.hourly := by
  unfold Device.setSync; split <;> rfl
@[simp] theorem Device.setSync_core_now (die c v : Nat) : (d.setSync die c v).core.now = d.core.now := by
  unfold Device.setSync; split <;> rfl
@[simp] theorem Device.setSync_core_armed (die c v : Nat) : (d.setSync die c v).core.armed = d.core.armed := by
  unfold Device.setSync; split <;> rfl
@[simp] theorem Device.setSync_core_freeN (die c v : Nat) : (d.setSync die c v).core.freeN = d.core.freeN := by
  unfold Device.setSync; split <;> rfl
@[simp] theorem Device.setSync_core_watch (die c v : Nat) : (d.setSync die c v).core.watch = d.core.watch := by
  unfold Device.setSync; split <;> rfl

/-! `addSync` -/
@[simp] theorem Device.addSync_kiln (die c v : Nat) : (d.addSync die c v).kiln = d.kiln := by
  unfold Device.addSync; simp
@[simp] theorem Device.addSync_mvp (die c v : Nat) : (d.addSync die c v).mvp = d.mvp := by
  unfold Device.addSync; simp
@[simp] theorem Device.addSync_sts (die c v : Nat) : (d.addSync die c v).sts = d.sts := by
  unfold Device.addSync; simp
@[simp] theorem Device.addSync_vec (die c v : Nat) : (d.addSync die c v).vec = d.vec := by
  unfold Device.addSync; simp
@[simp] theorem Device.addSync_slip (die c v : Nat) : (d.addSync die c v).slip = d.slip := by
  unfold Device.addSync; simp
@[simp] theorem Device.addSync_train (die c v : Nat) : (d.addSync die c v).train = d.train := by
  unfold Device.addSync; simp
@[simp] theorem Device.addSync_fab (die c v : Nat) : (d.addSync die c v).fab = d.fab := by
  unfold Device.addSync; simp
@[simp] theorem Device.addSync_col (die c v : Nat) : (d.addSync die c v).col = d.col := by
  unfold Device.addSync; simp
@[simp] theorem Device.addSync_inj (die c v : Nat) : (d.addSync die c v).inj = d.inj := by
  unfold Device.addSync; simp
@[simp] theorem Device.addSync_injw (die c v : Nat) : (d.addSync die c v).injw = d.injw := by
  unfold Device.addSync; simp
@[simp] theorem Device.addSync_hif (die c v : Nat) : (d.addSync die c v).hif = d.hif := by
  unfold Device.addSync; simp
@[simp] theorem Device.addSync_boot (die c v : Nat) : (d.addSync die c v).boot = d.boot := by
  unfold Device.addSync; simp
@[simp] theorem Device.addSync_ras (die c v : Nat) : (d.addSync die c v).ras = d.ras := by
  unfold Device.addSync; simp
@[simp] theorem Device.addSync_pwr (die c v : Nat) : (d.addSync die c v).pwr = d.pwr := by
  unfold Device.addSync; simp
@[simp] theorem Device.addSync_out (die c v : Nat) : (d.addSync die c v).out = d.out := by
  unfold Device.addSync; simp
@[simp] theorem Device.addSync_core_regs (die c v : Nat) : (d.addSync die c v).core.regs = d.core.regs := by
  unfold Device.addSync; simp
@[simp] theorem Device.addSync_core_mem (die c v : Nat) : (d.addSync die c v).core.mem = d.core.mem := by
  unfold Device.addSync; simp
@[simp] theorem Device.addSync_core_pois (die c v : Nat) : (d.addSync die c v).core.pois = d.core.pois := by
  unfold Device.addSync; simp
@[simp] theorem Device.addSync_core_flaws (die c v : Nat) : (d.addSync die c v).core.flaws = d.core.flaws := by
  unfold Device.addSync; simp
@[simp] theorem Device.addSync_core_cap (die c v : Nat) : (d.addSync die c v).core.cap = d.core.cap := by
  unfold Device.addSync; simp
@[simp] theorem Device.addSync_core_opens (die c v : Nat) : (d.addSync die c v).core.opens = d.core.opens := by
  unfold Device.addSync; simp
@[simp] theorem Device.addSync_core_nextCid (die c v : Nat) : (d.addSync die c v).core.nextCid = d.core.nextCid := by
  unfold Device.addSync; simp
@[simp] theorem Device.addSync_core_nextOrd (die c v : Nat) : (d.addSync die c v).core.nextOrd = d.core.nextOrd := by
  unfold Device.addSync; simp
@[simp] theorem Device.addSync_core_done (die c v : Nat) : (d.addSync die c v).core.done = d.core.done := by
  unfold Device.addSync; simp
@[simp] theorem Device.addSync_core_ltc (die c v : Nat) : (d.addSync die c v).core.ltc = d.core.ltc := by
  unfold Device.addSync; simp
@[simp] theorem Device.addSync_core_evq (die c v : Nat) : (d.addSync die c v).core.evq = d.core.evq := by
  unfold Device.addSync; simp
@[simp] theorem Device.addSync_core_arb (die c v : Nat) : (d.addSync die c v).core.arb = d.core.arb := by
  unfold Device.addSync; simp
@[simp] theorem Device.addSync_core_grg (die c v : Nat) : (d.addSync die c v).core.grg = d.core.grg := by
  unfold Device.addSync; simp
@[simp] theorem Device.addSync_core_cePost (die c v : Nat) : (d.addSync die c v).core.cePost = d.core.cePost := by
  unfold Device.addSync; simp
@[simp] theorem Device.addSync_core_crossed (die c v : Nat) : (d.addSync die c v).core.crossed = d.core.crossed := by
  unfold Device.addSync; simp
@[simp] theorem Device.addSync_core_hourly (die c v : Nat) : (d.addSync die c v).core.hourly = d.core.hourly := by
  unfold Device.addSync; simp
@[simp] theorem Device.addSync_core_now (die c v : Nat) : (d.addSync die c v).core.now = d.core.now := by
  unfold Device.addSync; simp
@[simp] theorem Device.addSync_core_armed (die c v : Nat) : (d.addSync die c v).core.armed = d.core.armed := by
  unfold Device.addSync; simp
@[simp] theorem Device.addSync_core_freeN (die c v : Nat) : (d.addSync die c v).core.freeN = d.core.freeN := by
  unfold Device.addSync; simp
@[simp] theorem Device.addSync_core_watch (die c v : Nat) : (d.addSync die c v).core.watch = d.core.watch := by
  unfold Device.addSync; simp

/-! `haltStream` -/
@[simp] theorem Device.haltStream_kiln (die s cause index : Nat) : (d.haltStream die s cause index).kiln = d.kiln := by
  rfl
@[simp] theorem Device.haltStream_mvp (die s cause index : Nat) : (d.haltStream die s cause index).mvp = d.mvp := by
  rfl
@[simp] theorem Device.haltStream_sts (die s cause index : Nat) : (d.haltStream die s cause index).sts = d.sts := by
  rfl
@[simp] theorem Device.haltStream_vec (die s cause index : Nat) : (d.haltStream die s cause index).vec = d.vec := by
  rfl
@[simp] theorem Device.haltStream_dma (die s cause index : Nat) : (d.haltStream die s cause index).dma = d.dma := by
  rfl
@[simp] theorem Device.haltStream_tier (die s cause index : Nat) : (d.haltStream die s cause index).tier = d.tier := by
  rfl
@[simp] theorem Device.haltStream_slip (die s cause index : Nat) : (d.haltStream die s cause index).slip = d.slip := by
  rfl
@[simp] theorem Device.haltStream_train (die s cause index : Nat) : (d.haltStream die s cause index).train = d.train := by
  rfl
@[simp] theorem Device.haltStream_ing (die s cause index : Nat) : (d.haltStream die s cause index).ing = d.ing := by
  rfl
@[simp] theorem Device.haltStream_fab (die s cause index : Nat) : (d.haltStream die s cause index).fab = d.fab := by
  rfl
@[simp] theorem Device.haltStream_col (die s cause index : Nat) : (d.haltStream die s cause index).col = d.col := by
  rfl
@[simp] theorem Device.haltStream_inj (die s cause index : Nat) : (d.haltStream die s cause index).inj = d.inj := by
  rfl
@[simp] theorem Device.haltStream_injw (die s cause index : Nat) : (d.haltStream die s cause index).injw = d.injw := by
  rfl
@[simp] theorem Device.haltStream_hif (die s cause index : Nat) : (d.haltStream die s cause index).hif = d.hif := by
  rfl
@[simp] theorem Device.haltStream_boot (die s cause index : Nat) : (d.haltStream die s cause index).boot = d.boot := by
  rfl
@[simp] theorem Device.haltStream_ras (die s cause index : Nat) : (d.haltStream die s cause index).ras = d.ras := by
  rfl
@[simp] theorem Device.haltStream_pwr (die s cause index : Nat) : (d.haltStream die s cause index).pwr = d.pwr := by
  rfl
@[simp] theorem Device.haltStream_out (die s cause index : Nat) : (d.haltStream die s cause index).out = d.out := by
  rfl
@[simp] theorem Device.haltStream_core_regs (die s cause index : Nat) : (d.haltStream die s cause index).core.regs = d.core.regs := by
  rfl
@[simp] theorem Device.haltStream_core_mem (die s cause index : Nat) : (d.haltStream die s cause index).core.mem = d.core.mem := by
  rfl
@[simp] theorem Device.haltStream_core_pois (die s cause index : Nat) : (d.haltStream die s cause index).core.pois = d.core.pois := by
  rfl
@[simp] theorem Device.haltStream_core_flaws (die s cause index : Nat) : (d.haltStream die s cause index).core.flaws = d.core.flaws := by
  rfl
@[simp] theorem Device.haltStream_core_cap (die s cause index : Nat) : (d.haltStream die s cause index).core.cap = d.core.cap := by
  rfl
@[simp] theorem Device.haltStream_core_queues (die s cause index : Nat) : (d.haltStream die s cause index).core.queues = d.core.queues := by
  rfl
@[simp] theorem Device.haltStream_core_opens (die s cause index : Nat) : (d.haltStream die s cause index).core.opens = d.core.opens := by
  rfl
@[simp] theorem Device.haltStream_core_nextCid (die s cause index : Nat) : (d.haltStream die s cause index).core.nextCid = d.core.nextCid := by
  rfl
@[simp] theorem Device.haltStream_core_nextOrd (die s cause index : Nat) : (d.haltStream die s cause index).core.nextOrd = d.core.nextOrd := by
  rfl
@[simp] theorem Device.haltStream_core_done (die s cause index : Nat) : (d.haltStream die s cause index).core.done = d.core.done := by
  rfl
@[simp] theorem Device.haltStream_core_sync (die s cause index : Nat) : (d.haltStream die s cause index).core.sync = d.core.sync := by
  rfl
@[simp] theorem Device.haltStream_core_ltc (die s cause index : Nat) : (d.haltStream die s cause index).core.ltc = d.core.ltc := by
  rfl
@[simp] theorem Device.haltStream_core_arb (die s cause index : Nat) : (d.haltStream die s cause index).core.arb = d.core.arb := by
  rfl
@[simp] theorem Device.haltStream_core_grg (die s cause index : Nat) : (d.haltStream die s cause index).core.grg = d.core.grg := by
  rfl
@[simp] theorem Device.haltStream_core_cePost (die s cause index : Nat) : (d.haltStream die s cause index).core.cePost = d.core.cePost := by
  rfl
@[simp] theorem Device.haltStream_core_crossed (die s cause index : Nat) : (d.haltStream die s cause index).core.crossed = d.core.crossed := by
  rfl
@[simp] theorem Device.haltStream_core_hourly (die s cause index : Nat) : (d.haltStream die s cause index).core.hourly = d.core.hourly := by
  rfl
@[simp] theorem Device.haltStream_core_now (die s cause index : Nat) : (d.haltStream die s cause index).core.now = d.core.now := by
  rfl
@[simp] theorem Device.haltStream_core_armed (die s cause index : Nat) : (d.haltStream die s cause index).core.armed = d.core.armed := by
  rfl
@[simp] theorem Device.haltStream_core_freeN (die s cause index : Nat) : (d.haltStream die s cause index).core.freeN = d.core.freeN := by
  rfl
@[simp] theorem Device.haltStream_core_watch (die s cause index : Nat) : (d.haltStream die s cause index).core.watch = d.core.watch := by
  rfl

/-! `closeCmd` -/
@[simp] theorem Device.closeCmd_kiln (o : Open) : (d.closeCmd o).kiln = d.kiln := by
  unfold Device.closeCmd; simp only []; split <;> split <;> simp
@[simp] theorem Device.closeCmd_mvp (o : Open) : (d.closeCmd o).mvp = d.mvp := by
  unfold Device.closeCmd; simp only []; split <;> split <;> simp
@[simp] theorem Device.closeCmd_sts (o : Open) : (d.closeCmd o).sts = d.sts := by
  unfold Device.closeCmd; simp only []; split <;> split <;> simp
@[simp] theorem Device.closeCmd_vec (o : Open) : (d.closeCmd o).vec = d.vec := by
  unfold Device.closeCmd; simp only []; split <;> split <;> simp
@[simp] theorem Device.closeCmd_slip (o : Open) : (d.closeCmd o).slip = d.slip := by
  unfold Device.closeCmd; simp only []; split <;> split <;> simp
@[simp] theorem Device.closeCmd_train (o : Open) : (d.closeCmd o).train = d.train := by
  unfold Device.closeCmd; simp only []; split <;> split <;> simp
@[simp] theorem Device.closeCmd_fab (o : Open) : (d.closeCmd o).fab = d.fab := by
  unfold Device.closeCmd; simp only []; split <;> split <;> simp
@[simp] theorem Device.closeCmd_col (o : Open) : (d.closeCmd o).col = d.col := by
  unfold Device.closeCmd; simp only []; split <;> split <;> simp
@[simp] theorem Device.closeCmd_inj (o : Open) : (d.closeCmd o).inj = d.inj := by
  unfold Device.closeCmd; simp only []; split <;> split <;> simp
@[simp] theorem Device.closeCmd_injw (o : Open) : (d.closeCmd o).injw = d.injw := by
  unfold Device.closeCmd; simp only []; split <;> split <;> simp
@[simp] theorem Device.closeCmd_hif (o : Open) : (d.closeCmd o).hif = d.hif := by
  unfold Device.closeCmd; simp only []; split <;> split <;> simp
@[simp] theorem Device.closeCmd_boot (o : Open) : (d.closeCmd o).boot = d.boot := by
  unfold Device.closeCmd; simp only []; split <;> split <;> simp
@[simp] theorem Device.closeCmd_ras (o : Open) : (d.closeCmd o).ras = d.ras := by
  unfold Device.closeCmd; simp only []; split <;> split <;> simp
@[simp] theorem Device.closeCmd_pwr (o : Open) : (d.closeCmd o).pwr = d.pwr := by
  unfold Device.closeCmd; simp only []; split <;> split <;> simp
@[simp] theorem Device.closeCmd_out (o : Open) : (d.closeCmd o).out = d.out := by
  unfold Device.closeCmd; simp only []; split <;> split <;> simp
@[simp] theorem Device.closeCmd_core_regs (o : Open) : (d.closeCmd o).core.regs = d.core.regs := by
  unfold Device.closeCmd; simp only []; split <;> split <;> simp
@[simp] theorem Device.closeCmd_core_mem (o : Open) : (d.closeCmd o).core.mem = d.core.mem := by
  unfold Device.closeCmd; simp only []; split <;> split <;> simp
@[simp] theorem Device.closeCmd_core_pois (o : Open) : (d.closeCmd o).core.pois = d.core.pois := by
  unfold Device.closeCmd; simp only []; split <;> split <;> simp
@[simp] theorem Device.closeCmd_core_flaws (o : Open) : (d.closeCmd o).core.flaws = d.core.flaws := by
  unfold Device.closeCmd; simp only []; split <;> split <;> simp
@[simp] theorem Device.closeCmd_core_cap (o : Open) : (d.closeCmd o).core.cap = d.core.cap := by
  unfold Device.closeCmd; simp only []; split <;> split <;> simp
@[simp] theorem Device.closeCmd_core_opens (o : Open) : (d.closeCmd o).core.opens = d.core.opens := by
  unfold Device.closeCmd; simp only []; split <;> split <;> simp
@[simp] theorem Device.closeCmd_core_nextCid (o : Open) : (d.closeCmd o).core.nextCid = d.core.nextCid := by
  unfold Device.closeCmd; simp only []; split <;> split <;> simp
@[simp] theorem Device.closeCmd_core_nextOrd (o : Open) : (d.closeCmd o).core.nextOrd = d.core.nextOrd := by
  unfold Device.closeCmd; simp only []; split <;> split <;> simp
@[simp] theorem Device.closeCmd_core_ltc (o : Open) : (d.closeCmd o).core.ltc = d.core.ltc := by
  unfold Device.closeCmd; simp only []; split <;> split <;> simp
@[simp] theorem Device.closeCmd_core_arb (o : Open) : (d.closeCmd o).core.arb = d.core.arb := by
  unfold Device.closeCmd; simp only []; split <;> split <;> simp
@[simp] theorem Device.closeCmd_core_grg (o : Open) : (d.closeCmd o).core.grg = d.core.grg := by
  unfold Device.closeCmd; simp only []; split <;> split <;> simp
@[simp] theorem Device.closeCmd_core_cePost (o : Open) : (d.closeCmd o).core.cePost = d.core.cePost := by
  unfold Device.closeCmd; simp only []; split <;> split <;> simp
@[simp] theorem Device.closeCmd_core_crossed (o : Open) : (d.closeCmd o).core.crossed = d.core.crossed := by
  unfold Device.closeCmd; simp only []; split <;> split <;> simp
@[simp] theorem Device.closeCmd_core_hourly (o : Open) : (d.closeCmd o).core.hourly = d.core.hourly := by
  unfold Device.closeCmd; simp only []; split <;> split <;> simp
@[simp] theorem Device.closeCmd_core_now (o : Open) : (d.closeCmd o).core.now = d.core.now := by
  unfold Device.closeCmd; simp only []; split <;> split <;> simp
@[simp] theorem Device.closeCmd_core_armed (o : Open) : (d.closeCmd o).core.armed = d.core.armed := by
  unfold Device.closeCmd; simp only []; split <;> split <;> simp
@[simp] theorem Device.closeCmd_core_freeN (o : Open) : (d.closeCmd o).core.freeN = d.core.freeN := by
  unfold Device.closeCmd; simp only []; split <;> split <;> simp
@[simp] theorem Device.closeCmd_core_watch (o : Open) : (d.closeCmd o).core.watch = d.core.watch := by
  unfold Device.closeCmd; simp only []; split <;> split <;> simp

/-! `completePart` -/
@[simp] theorem Device.completePart_kiln (cid n status nfail first : Nat) : (d.completePart cid n status nfail first).kiln = d.kiln := by
  unfold Device.completePart; simp only []; split; · rfl
  · split <;> simp
@[simp] theorem Device.completePart_mvp (cid n status nfail first : Nat) : (d.completePart cid n status nfail first).mvp = d.mvp := by
  unfold Device.completePart; simp only []; split; · rfl
  · split <;> simp
@[simp] theorem Device.completePart_sts (cid n status nfail first : Nat) : (d.completePart cid n status nfail first).sts = d.sts := by
  unfold Device.completePart; simp only []; split; · rfl
  · split <;> simp
@[simp] theorem Device.completePart_vec (cid n status nfail first : Nat) : (d.completePart cid n status nfail first).vec = d.vec := by
  unfold Device.completePart; simp only []; split; · rfl
  · split <;> simp
@[simp] theorem Device.completePart_slip (cid n status nfail first : Nat) : (d.completePart cid n status nfail first).slip = d.slip := by
  unfold Device.completePart; simp only []; split; · rfl
  · split <;> simp
@[simp] theorem Device.completePart_train (cid n status nfail first : Nat) : (d.completePart cid n status nfail first).train = d.train := by
  unfold Device.completePart; simp only []; split; · rfl
  · split <;> simp
@[simp] theorem Device.completePart_fab (cid n status nfail first : Nat) : (d.completePart cid n status nfail first).fab = d.fab := by
  unfold Device.completePart; simp only []; split; · rfl
  · split <;> simp
@[simp] theorem Device.completePart_col (cid n status nfail first : Nat) : (d.completePart cid n status nfail first).col = d.col := by
  unfold Device.completePart; simp only []; split; · rfl
  · split <;> simp
@[simp] theorem Device.completePart_inj (cid n status nfail first : Nat) : (d.completePart cid n status nfail first).inj = d.inj := by
  unfold Device.completePart; simp only []; split; · rfl
  · split <;> simp
@[simp] theorem Device.completePart_injw (cid n status nfail first : Nat) : (d.completePart cid n status nfail first).injw = d.injw := by
  unfold Device.completePart; simp only []; split; · rfl
  · split <;> simp
@[simp] theorem Device.completePart_hif (cid n status nfail first : Nat) : (d.completePart cid n status nfail first).hif = d.hif := by
  unfold Device.completePart; simp only []; split; · rfl
  · split <;> simp
@[simp] theorem Device.completePart_boot (cid n status nfail first : Nat) : (d.completePart cid n status nfail first).boot = d.boot := by
  unfold Device.completePart; simp only []; split; · rfl
  · split <;> simp
@[simp] theorem Device.completePart_ras (cid n status nfail first : Nat) : (d.completePart cid n status nfail first).ras = d.ras := by
  unfold Device.completePart; simp only []; split; · rfl
  · split <;> simp
@[simp] theorem Device.completePart_pwr (cid n status nfail first : Nat) : (d.completePart cid n status nfail first).pwr = d.pwr := by
  unfold Device.completePart; simp only []; split; · rfl
  · split <;> simp
@[simp] theorem Device.completePart_out (cid n status nfail first : Nat) : (d.completePart cid n status nfail first).out = d.out := by
  unfold Device.completePart; simp only []; split; · rfl
  · split <;> simp
@[simp] theorem Device.completePart_core_regs (cid n status nfail first : Nat) : (d.completePart cid n status nfail first).core.regs = d.core.regs := by
  unfold Device.completePart; simp only []; split; · rfl
  · split <;> simp
@[simp] theorem Device.completePart_core_mem (cid n status nfail first : Nat) : (d.completePart cid n status nfail first).core.mem = d.core.mem := by
  unfold Device.completePart; simp only []; split; · rfl
  · split <;> simp
@[simp] theorem Device.completePart_core_pois (cid n status nfail first : Nat) : (d.completePart cid n status nfail first).core.pois = d.core.pois := by
  unfold Device.completePart; simp only []; split; · rfl
  · split <;> simp
@[simp] theorem Device.completePart_core_flaws (cid n status nfail first : Nat) : (d.completePart cid n status nfail first).core.flaws = d.core.flaws := by
  unfold Device.completePart; simp only []; split; · rfl
  · split <;> simp
@[simp] theorem Device.completePart_core_cap (cid n status nfail first : Nat) : (d.completePart cid n status nfail first).core.cap = d.core.cap := by
  unfold Device.completePart; simp only []; split; · rfl
  · split <;> simp
@[simp] theorem Device.completePart_core_nextCid (cid n status nfail first : Nat) : (d.completePart cid n status nfail first).core.nextCid = d.core.nextCid := by
  unfold Device.completePart; simp only []; split; · rfl
  · split <;> simp
@[simp] theorem Device.completePart_core_nextOrd (cid n status nfail first : Nat) : (d.completePart cid n status nfail first).core.nextOrd = d.core.nextOrd := by
  unfold Device.completePart; simp only []; split; · rfl
  · split <;> simp
@[simp] theorem Device.completePart_core_ltc (cid n status nfail first : Nat) : (d.completePart cid n status nfail first).core.ltc = d.core.ltc := by
  unfold Device.completePart; simp only []; split; · rfl
  · split <;> simp
@[simp] theorem Device.completePart_core_arb (cid n status nfail first : Nat) : (d.completePart cid n status nfail first).core.arb = d.core.arb := by
  unfold Device.completePart; simp only []; split; · rfl
  · split <;> simp
@[simp] theorem Device.completePart_core_grg (cid n status nfail first : Nat) : (d.completePart cid n status nfail first).core.grg = d.core.grg := by
  unfold Device.completePart; simp only []; split; · rfl
  · split <;> simp
@[simp] theorem Device.completePart_core_cePost (cid n status nfail first : Nat) : (d.completePart cid n status nfail first).core.cePost = d.core.cePost := by
  unfold Device.completePart; simp only []; split; · rfl
  · split <;> simp
@[simp] theorem Device.completePart_core_crossed (cid n status nfail first : Nat) : (d.completePart cid n status nfail first).core.crossed = d.core.crossed := by
  unfold Device.completePart; simp only []; split; · rfl
  · split <;> simp
@[simp] theorem Device.completePart_core_hourly (cid n status nfail first : Nat) : (d.completePart cid n status nfail first).core.hourly = d.core.hourly := by
  unfold Device.completePart; simp only []; split; · rfl
  · split <;> simp
@[simp] theorem Device.completePart_core_now (cid n status nfail first : Nat) : (d.completePart cid n status nfail first).core.now = d.core.now := by
  unfold Device.completePart; simp only []; split; · rfl
  · split <;> simp
@[simp] theorem Device.completePart_core_armed (cid n status nfail first : Nat) : (d.completePart cid n status nfail first).core.armed = d.core.armed := by
  unfold Device.completePart; simp only []; split; · rfl
  · split <;> simp
@[simp] theorem Device.completePart_core_freeN (cid n status nfail first : Nat) : (d.completePart cid n status nfail first).core.freeN = d.core.freeN := by
  unfold Device.completePart; simp only []; split; · rfl
  · split <;> simp
@[simp] theorem Device.completePart_core_watch (cid n status nfail first : Nat) : (d.completePart cid n status nfail first).core.watch = d.core.watch := by
  unfold Device.completePart; simp only []; split; · rfl
  · split <;> simp

/-! `finish` -/
@[simp] theorem Device.finish_kiln (c : Cmd) (status : Nat) : (d.finish c status).kiln = d.kiln := by
  unfold Device.finish; simp
@[simp] theorem Device.finish_mvp (c : Cmd) (status : Nat) : (d.finish c status).mvp = d.mvp := by
  unfold Device.finish; simp
@[simp] theorem Device.finish_sts (c : Cmd) (status : Nat) : (d.finish c status).sts = d.sts := by
  unfold Device.finish; simp
@[simp] theorem Device.finish_vec (c : Cmd) (status : Nat) : (d.finish c status).vec = d.vec := by
  unfold Device.finish; simp
@[simp] theorem Device.finish_slip (c : Cmd) (status : Nat) : (d.finish c status).slip = d.slip := by
  unfold Device.finish; simp
@[simp] theorem Device.finish_train (c : Cmd) (status : Nat) : (d.finish c status).train = d.train := by
  unfold Device.finish; simp
@[simp] theorem Device.finish_fab (c : Cmd) (status : Nat) : (d.finish c status).fab = d.fab := by
  unfold Device.finish; simp
@[simp] theorem Device.finish_col (c : Cmd) (status : Nat) : (d.finish c status).col = d.col := by
  unfold Device.finish; simp
@[simp] theorem Device.finish_inj (c : Cmd) (status : Nat) : (d.finish c status).inj = d.inj := by
  unfold Device.finish; simp
@[simp] theorem Device.finish_injw (c : Cmd) (status : Nat) : (d.finish c status).injw = d.injw := by
  unfold Device.finish; simp
@[simp] theorem Device.finish_hif (c : Cmd) (status : Nat) : (d.finish c status).hif = d.hif := by
  unfold Device.finish; simp
@[simp] theorem Device.finish_boot (c : Cmd) (status : Nat) : (d.finish c status).boot = d.boot := by
  unfold Device.finish; simp
@[simp] theorem Device.finish_ras (c : Cmd) (status : Nat) : (d.finish c status).ras = d.ras := by
  unfold Device.finish; simp
@[simp] theorem Device.finish_pwr (c : Cmd) (status : Nat) : (d.finish c status).pwr = d.pwr := by
  unfold Device.finish; simp
@[simp] theorem Device.finish_out (c : Cmd) (status : Nat) : (d.finish c status).out = d.out := by
  unfold Device.finish; simp
@[simp] theorem Device.finish_core_regs (c : Cmd) (status : Nat) : (d.finish c status).core.regs = d.core.regs := by
  unfold Device.finish; simp
@[simp] theorem Device.finish_core_mem (c : Cmd) (status : Nat) : (d.finish c status).core.mem = d.core.mem := by
  unfold Device.finish; simp
@[simp] theorem Device.finish_core_pois (c : Cmd) (status : Nat) : (d.finish c status).core.pois = d.core.pois := by
  unfold Device.finish; simp
@[simp] theorem Device.finish_core_flaws (c : Cmd) (status : Nat) : (d.finish c status).core.flaws = d.core.flaws := by
  unfold Device.finish; simp
@[simp] theorem Device.finish_core_cap (c : Cmd) (status : Nat) : (d.finish c status).core.cap = d.core.cap := by
  unfold Device.finish; simp
@[simp] theorem Device.finish_core_nextCid (c : Cmd) (status : Nat) : (d.finish c status).core.nextCid = d.core.nextCid := by
  unfold Device.finish; simp
@[simp] theorem Device.finish_core_nextOrd (c : Cmd) (status : Nat) : (d.finish c status).core.nextOrd = d.core.nextOrd := by
  unfold Device.finish; simp
@[simp] theorem Device.finish_core_ltc (c : Cmd) (status : Nat) : (d.finish c status).core.ltc = d.core.ltc := by
  unfold Device.finish; simp
@[simp] theorem Device.finish_core_arb (c : Cmd) (status : Nat) : (d.finish c status).core.arb = d.core.arb := by
  unfold Device.finish; simp
@[simp] theorem Device.finish_core_grg (c : Cmd) (status : Nat) : (d.finish c status).core.grg = d.core.grg := by
  unfold Device.finish; simp
@[simp] theorem Device.finish_core_cePost (c : Cmd) (status : Nat) : (d.finish c status).core.cePost = d.core.cePost := by
  unfold Device.finish; simp
@[simp] theorem Device.finish_core_crossed (c : Cmd) (status : Nat) : (d.finish c status).core.crossed = d.core.crossed := by
  unfold Device.finish; simp
@[simp] theorem Device.finish_core_hourly (c : Cmd) (status : Nat) : (d.finish c status).core.hourly = d.core.hourly := by
  unfold Device.finish; simp
@[simp] theorem Device.finish_core_now (c : Cmd) (status : Nat) : (d.finish c status).core.now = d.core.now := by
  unfold Device.finish; simp
@[simp] theorem Device.finish_core_armed (c : Cmd) (status : Nat) : (d.finish c status).core.armed = d.core.armed := by
  unfold Device.finish; simp
@[simp] theorem Device.finish_core_freeN (c : Cmd) (status : Nat) : (d.finish c status).core.freeN = d.core.freeN := by
  unfold Device.finish; simp
@[simp] theorem Device.finish_core_watch (c : Cmd) (status : Nat) : (d.finish c status).core.watch = d.core.watch := by
  unfold Device.finish; simp

/-! `note` -/
@[simp] theorem Device.note_kiln (k unit : Nat) (n : NumNote) : (d.note k unit n).kiln = d.kiln := by
  unfold Device.note; simp only []; split <;> split <;> simp
@[simp] theorem Device.note_mvp (k unit : Nat) (n : NumNote) : (d.note k unit n).mvp = d.mvp := by
  unfold Device.note; simp only []; split <;> split <;> simp
@[simp] theorem Device.note_sts (k unit : Nat) (n : NumNote) : (d.note k unit n).sts = d.sts := by
  unfold Device.note; simp only []; split <;> split <;> simp
@[simp] theorem Device.note_vec (k unit : Nat) (n : NumNote) : (d.note k unit n).vec = d.vec := by
  unfold Device.note; simp only []; split <;> split <;> simp
@[simp] theorem Device.note_ctl (k unit : Nat) (n : NumNote) : (d.note k unit n).ctl = d.ctl := by
  unfold Device.note; simp only []; split <;> split <;> simp
@[simp] theorem Device.note_dma (k unit : Nat) (n : NumNote) : (d.note k unit n).dma = d.dma := by
  unfold Device.note; simp only []; split <;> split <;> simp
@[simp] theorem Device.note_tier (k unit : Nat) (n : NumNote) : (d.note k unit n).tier = d.tier := by
  unfold Device.note; simp only []; split <;> split <;> simp
@[simp] theorem Device.note_slip (k unit : Nat) (n : NumNote) : (d.note k unit n).slip = d.slip := by
  unfold Device.note; simp only []; split <;> split <;> simp
@[simp] theorem Device.note_train (k unit : Nat) (n : NumNote) : (d.note k unit n).train = d.train := by
  unfold Device.note; simp only []; split <;> split <;> simp
@[simp] theorem Device.note_ing (k unit : Nat) (n : NumNote) : (d.note k unit n).ing = d.ing := by
  unfold Device.note; simp only []; split <;> split <;> simp
@[simp] theorem Device.note_fab (k unit : Nat) (n : NumNote) : (d.note k unit n).fab = d.fab := by
  unfold Device.note; simp only []; split <;> split <;> simp
@[simp] theorem Device.note_col (k unit : Nat) (n : NumNote) : (d.note k unit n).col = d.col := by
  unfold Device.note; simp only []; split <;> split <;> simp
@[simp] theorem Device.note_inj (k unit : Nat) (n : NumNote) : (d.note k unit n).inj = d.inj := by
  unfold Device.note; simp only []; split <;> split <;> simp
@[simp] theorem Device.note_injw (k unit : Nat) (n : NumNote) : (d.note k unit n).injw = d.injw := by
  unfold Device.note; simp only []; split <;> split <;> simp
@[simp] theorem Device.note_hif (k unit : Nat) (n : NumNote) : (d.note k unit n).hif = d.hif := by
  unfold Device.note; simp only []; split <;> split <;> simp
@[simp] theorem Device.note_boot (k unit : Nat) (n : NumNote) : (d.note k unit n).boot = d.boot := by
  unfold Device.note; simp only []; split <;> split <;> simp
@[simp] theorem Device.note_ras (k unit : Nat) (n : NumNote) : (d.note k unit n).ras = d.ras := by
  unfold Device.note; simp only []; split <;> split <;> simp
@[simp] theorem Device.note_pwr (k unit : Nat) (n : NumNote) : (d.note k unit n).pwr = d.pwr := by
  unfold Device.note; simp only []; split <;> split <;> simp
@[simp] theorem Device.note_out (k unit : Nat) (n : NumNote) : (d.note k unit n).out = d.out := by
  unfold Device.note; simp only []; split <;> split <;> simp
@[simp] theorem Device.note_core_mem (k unit : Nat) (n : NumNote) : (d.note k unit n).core.mem = d.core.mem := by
  unfold Device.note; simp only []; split <;> split <;> simp
@[simp] theorem Device.note_core_pois (k unit : Nat) (n : NumNote) : (d.note k unit n).core.pois = d.core.pois := by
  unfold Device.note; simp only []; split <;> split <;> simp
@[simp] theorem Device.note_core_flaws (k unit : Nat) (n : NumNote) : (d.note k unit n).core.flaws = d.core.flaws := by
  unfold Device.note; simp only []; split <;> split <;> simp
@[simp] theorem Device.note_core_cap (k unit : Nat) (n : NumNote) : (d.note k unit n).core.cap = d.core.cap := by
  unfold Device.note; simp only []; split <;> split <;> simp
@[simp] theorem Device.note_core_queues (k unit : Nat) (n : NumNote) : (d.note k unit n).core.queues = d.core.queues := by
  unfold Device.note; simp only []; split <;> split <;> simp
@[simp] theorem Device.note_core_opens (k unit : Nat) (n : NumNote) : (d.note k unit n).core.opens = d.core.opens := by
  unfold Device.note; simp only []; split <;> split <;> simp
@[simp] theorem Device.note_core_nextCid (k unit : Nat) (n : NumNote) : (d.note k unit n).core.nextCid = d.core.nextCid := by
  unfold Device.note; simp only []; split <;> split <;> simp
@[simp] theorem Device.note_core_nextOrd (k unit : Nat) (n : NumNote) : (d.note k unit n).core.nextOrd = d.core.nextOrd := by
  unfold Device.note; simp only []; split <;> split <;> simp
@[simp] theorem Device.note_core_done (k unit : Nat) (n : NumNote) : (d.note k unit n).core.done = d.core.done := by
  unfold Device.note; simp only []; split <;> split <;> simp
@[simp] theorem Device.note_core_sync (k unit : Nat) (n : NumNote) : (d.note k unit n).core.sync = d.core.sync := by
  unfold Device.note; simp only []; split <;> split <;> simp
@[simp] theorem Device.note_core_ltc (k unit : Nat) (n : NumNote) : (d.note k unit n).core.ltc = d.core.ltc := by
  unfold Device.note; simp only []; split <;> split <;> simp
@[simp] theorem Device.note_core_arb (k unit : Nat) (n : NumNote) : (d.note k unit n).core.arb = d.core.arb := by
  unfold Device.note; simp only []; split <;> split <;> simp
@[simp] theorem Device.note_core_grg (k unit : Nat) (n : NumNote) : (d.note k unit n).core.grg = d.core.grg := by
  unfold Device.note; simp only []; split <;> split <;> simp
@[simp] theorem Device.note_core_cePost (k unit : Nat) (n : NumNote) : (d.note k unit n).core.cePost = d.core.cePost := by
  unfold Device.note; simp only []; split <;> split <;> simp
@[simp] theorem Device.note_core_crossed (k unit : Nat) (n : NumNote) : (d.note k unit n).core.crossed = d.core.crossed := by
  unfold Device.note; simp only []; split <;> split <;> simp
@[simp] theorem Device.note_core_hourly (k unit : Nat) (n : NumNote) : (d.note k unit n).core.hourly = d.core.hourly := by
  unfold Device.note; simp only []; split <;> split <;> simp
@[simp] theorem Device.note_core_now (k unit : Nat) (n : NumNote) : (d.note k unit n).core.now = d.core.now := by
  unfold Device.note; simp only []; split <;> split <;> simp
@[simp] theorem Device.note_core_armed (k unit : Nat) (n : NumNote) : (d.note k unit n).core.armed = d.core.armed := by
  unfold Device.note; simp only []; split <;> split <;> simp
@[simp] theorem Device.note_core_freeN (k unit : Nat) (n : NumNote) : (d.note k unit n).core.freeN = d.core.freeN := by
  unfold Device.note; simp only []; split <;> split <;> simp
@[simp] theorem Device.note_core_watch (k unit : Nat) (n : NumNote) : (d.note k unit n).core.watch = d.core.watch := by
  unfold Device.note; simp only []; split <;> split <;> simp

/-! `hifErr` -/
@[simp] theorem Device.hifErr_kiln (n code : Nat) (data : Word) : (d.hifErr n code data).kiln = d.kiln := by
  unfold Device.hifErr; simp only []; split <;> simp
@[simp] theorem Device.hifErr_mvp (n code : Nat) (data : Word) : (d.hifErr n code data).mvp = d.mvp := by
  unfold Device.hifErr; simp only []; split <;> simp
@[simp] theorem Device.hifErr_sts (n code : Nat) (data : Word) : (d.hifErr n code data).sts = d.sts := by
  unfold Device.hifErr; simp only []; split <;> simp
@[simp] theorem Device.hifErr_vec (n code : Nat) (data : Word) : (d.hifErr n code data).vec = d.vec := by
  unfold Device.hifErr; simp only []; split <;> simp
@[simp] theorem Device.hifErr_ctl (n code : Nat) (data : Word) : (d.hifErr n code data).ctl = d.ctl := by
  unfold Device.hifErr; simp only []; split <;> simp
@[simp] theorem Device.hifErr_dma (n code : Nat) (data : Word) : (d.hifErr n code data).dma = d.dma := by
  unfold Device.hifErr; simp only []; split <;> simp
@[simp] theorem Device.hifErr_tier (n code : Nat) (data : Word) : (d.hifErr n code data).tier = d.tier := by
  unfold Device.hifErr; simp only []; split <;> simp
@[simp] theorem Device.hifErr_slip (n code : Nat) (data : Word) : (d.hifErr n code data).slip = d.slip := by
  unfold Device.hifErr; simp only []; split <;> simp
@[simp] theorem Device.hifErr_train (n code : Nat) (data : Word) : (d.hifErr n code data).train = d.train := by
  unfold Device.hifErr; simp only []; split <;> simp
@[simp] theorem Device.hifErr_ing (n code : Nat) (data : Word) : (d.hifErr n code data).ing = d.ing := by
  unfold Device.hifErr; simp only []; split <;> simp
@[simp] theorem Device.hifErr_fab (n code : Nat) (data : Word) : (d.hifErr n code data).fab = d.fab := by
  unfold Device.hifErr; simp only []; split <;> simp
@[simp] theorem Device.hifErr_col (n code : Nat) (data : Word) : (d.hifErr n code data).col = d.col := by
  unfold Device.hifErr; simp only []; split <;> simp
@[simp] theorem Device.hifErr_inj (n code : Nat) (data : Word) : (d.hifErr n code data).inj = d.inj := by
  unfold Device.hifErr; simp only []; split <;> simp
@[simp] theorem Device.hifErr_injw (n code : Nat) (data : Word) : (d.hifErr n code data).injw = d.injw := by
  unfold Device.hifErr; simp only []; split <;> simp
@[simp] theorem Device.hifErr_hif (n code : Nat) (data : Word) : (d.hifErr n code data).hif = d.hif := by
  unfold Device.hifErr; simp only []; split <;> simp
@[simp] theorem Device.hifErr_boot (n code : Nat) (data : Word) : (d.hifErr n code data).boot = d.boot := by
  unfold Device.hifErr; simp only []; split <;> simp
@[simp] theorem Device.hifErr_ras (n code : Nat) (data : Word) : (d.hifErr n code data).ras = d.ras := by
  unfold Device.hifErr; simp only []; split <;> simp
@[simp] theorem Device.hifErr_pwr (n code : Nat) (data : Word) : (d.hifErr n code data).pwr = d.pwr := by
  unfold Device.hifErr; simp only []; split <;> simp
@[simp] theorem Device.hifErr_out (n code : Nat) (data : Word) : (d.hifErr n code data).out = d.out := by
  unfold Device.hifErr; simp only []; split <;> simp
@[simp] theorem Device.hifErr_core_mem (n code : Nat) (data : Word) : (d.hifErr n code data).core.mem = d.core.mem := by
  unfold Device.hifErr; simp only []; split <;> simp
@[simp] theorem Device.hifErr_core_pois (n code : Nat) (data : Word) : (d.hifErr n code data).core.pois = d.core.pois := by
  unfold Device.hifErr; simp only []; split <;> simp
@[simp] theorem Device.hifErr_core_flaws (n code : Nat) (data : Word) : (d.hifErr n code data).core.flaws = d.core.flaws := by
  unfold Device.hifErr; simp only []; split <;> simp
@[simp] theorem Device.hifErr_core_cap (n code : Nat) (data : Word) : (d.hifErr n code data).core.cap = d.core.cap := by
  unfold Device.hifErr; simp only []; split <;> simp
@[simp] theorem Device.hifErr_core_queues (n code : Nat) (data : Word) : (d.hifErr n code data).core.queues = d.core.queues := by
  unfold Device.hifErr; simp only []; split <;> simp
@[simp] theorem Device.hifErr_core_opens (n code : Nat) (data : Word) : (d.hifErr n code data).core.opens = d.core.opens := by
  unfold Device.hifErr; simp only []; split <;> simp
@[simp] theorem Device.hifErr_core_nextCid (n code : Nat) (data : Word) : (d.hifErr n code data).core.nextCid = d.core.nextCid := by
  unfold Device.hifErr; simp only []; split <;> simp
@[simp] theorem Device.hifErr_core_nextOrd (n code : Nat) (data : Word) : (d.hifErr n code data).core.nextOrd = d.core.nextOrd := by
  unfold Device.hifErr; simp only []; split <;> simp
@[simp] theorem Device.hifErr_core_done (n code : Nat) (data : Word) : (d.hifErr n code data).core.done = d.core.done := by
  unfold Device.hifErr; simp only []; split <;> simp
@[simp] theorem Device.hifErr_core_sync (n code : Nat) (data : Word) : (d.hifErr n code data).core.sync = d.core.sync := by
  unfold Device.hifErr; simp only []; split <;> simp
@[simp] theorem Device.hifErr_core_ltc (n code : Nat) (data : Word) : (d.hifErr n code data).core.ltc = d.core.ltc := by
  unfold Device.hifErr; simp only []; split <;> simp
@[simp] theorem Device.hifErr_core_arb (n code : Nat) (data : Word) : (d.hifErr n code data).core.arb = d.core.arb := by
  unfold Device.hifErr; simp only []; split <;> simp
@[simp] theorem Device.hifErr_core_grg (n code : Nat) (data : Word) : (d.hifErr n code data).core.grg = d.core.grg := by
  unfold Device.hifErr; simp only []; split <;> simp
@[simp] theorem Device.hifErr_core_cePost (n code : Nat) (data : Word) : (d.hifErr n code data).core.cePost = d.core.cePost := by
  unfold Device.hifErr; simp only []; split <;> simp
@[simp] theorem Device.hifErr_core_crossed (n code : Nat) (data : Word) : (d.hifErr n code data).core.crossed = d.core.crossed := by
  unfold Device.hifErr; simp only []; split <;> simp
@[simp] theorem Device.hifErr_core_hourly (n code : Nat) (data : Word) : (d.hifErr n code data).core.hourly = d.core.hourly := by
  unfold Device.hifErr; simp only []; split <;> simp
@[simp] theorem Device.hifErr_core_now (n code : Nat) (data : Word) : (d.hifErr n code data).core.now = d.core.now := by
  unfold Device.hifErr; simp only []; split <;> simp
@[simp] theorem Device.hifErr_core_armed (n code : Nat) (data : Word) : (d.hifErr n code data).core.armed = d.core.armed := by
  unfold Device.hifErr; simp only []; split <;> simp
@[simp] theorem Device.hifErr_core_freeN (n code : Nat) (data : Word) : (d.hifErr n code data).core.freeN = d.core.freeN := by
  unfold Device.hifErr; simp only []; split <;> simp
@[simp] theorem Device.hifErr_core_watch (n code : Nat) (data : Word) : (d.hifErr n code data).core.watch = d.core.watch := by
  unfold Device.hifErr; simp only []; split <;> simp

/-- What a fact says of both branches of a choice, it says of the choice. -/
theorem iteInd {α : Type} (P : α → Prop) {c : Prop} [Decidable c] {x y : α} (hx : P x) (hy : P y) : P (if c then x else y) := by
  split <;> assumption

theorem Core.pokeBytes_regs (c : Core) (a : Nat) (l : List PByte) : (c.pokeBytes a l) = { c with mem := (c.pokeBytes a l).mem } := by
  induction l generalizing c a with
  | nil => rfl
  | cons b l ih => rw [Core.pokeBytes, ih]; rfl

theorem Core.markUnit_only (c : Core) (u a : Nat) (l : List PByte) : c.markUnit u a l = { c with pois := (c.markUnit u a l).pois } := by
  unfold Core.markUnit; simp only []; split
  · rfl
  · split <;> rfl

theorem Core.markUnits_only (c : Core) (a : Nat) (l : List PByte) (u n : Nat) : c.markUnits a l u n = { c with pois := (c.markUnits a l u n).pois } := by
  induction n generalizing c u with
  | zero => rfl
  | succ n ih => rw [Core.markUnits, ih, Core.markUnit_only]

/-- `e` is `d` after reads through coders and writes: registers, memory, marks, flaws, posted events, thresholds crossed and what the model draws or notes
may differ, nothing else. -/
def MemFrame (d e : Device) : Prop :=
  e = { d with core := { d.core with
    regs := e.core.regs, mem := e.core.mem, pois := e.core.pois, flaws := e.core.flaws, evq := e.core.evq, cePost := e.core.cePost
    crossed := e.core.crossed, hourly := e.core.hourly, freeN := e.core.freeN, watch := e.core.watch } }

theorem MemFrame.refl : MemFrame d d := rfl

theorem MemFrame.trans {d e f : Device} (h : MemFrame d e) (g : MemFrame e f) : MemFrame d f := by
  unfold MemFrame at g ⊢
  rw [h] at g
  exact g

theorem MemFrame.fold {α : Type} (f : Device → α → Device) (h : ∀ d a, MemFrame d (f d a)) (l : List α) (d : Device) : MemFrame d (l.foldl f d) := by
  induction l generalizing d with
  | nil => exact .refl d
  | cons a l ih => exact (h d a).trans (ih _)

theorem MemFrame.setReg (k : Nat) (v : Word) : MemFrame d (d.setReg k v) := rfl
theorem MemFrame.setReg64 (k n : Nat) : MemFrame d (d.setReg64 k n) := rfl
theorem MemFrame.post (c u : Nat) (w : Word) : MemFrame d (d.post c u w) := rfl
theorem MemFrame.count1 (k : Nat) : MemFrame d (d.count1 k) := rfl
theorem MemFrame.watched (rs : List (Nat × Nat)) : MemFrame d (d.watched rs) := by
  unfold Device.watched; split <;> rfl
theorem MemFrame.answerCe (code unit : Nat) : MemFrame d (d.answerCe code unit) := by
  unfold Device.answerCe; simp only []
  split <;> exact iteInd (MemFrame d) rfl rfl
theorem MemFrame.ceTest (cnt thr code unit : Nat) : MemFrame d (d.ceTest cnt thr code unit) := by
  unfold Device.ceTest; simp only []
  have h : MemFrame d ({ d with core.cePost := mset false d.core.cePost cnt true }.post code unit 0) := rfl
  exact iteInd (MemFrame d) (h.trans (.answerCe _ _ _)) (.refl d)
theorem MemFrame.ceCount (cnt thr code unit : Nat) : MemFrame d (d.ceCount cnt thr code unit) :=
  (MemFrame.count1 d cnt).trans (.ceTest _ _ _ _ _)
theorem MemFrame.spoil (key : Nat) (p : Bool) : MemFrame d (d.spoil key p) := by
  unfold Device.spoil MemFrame; simp only []; rw [Core.pokeBytes_regs]

theorem MemFrame.meetCoder (step : Bool) (key : Nat) : MemFrame d (Device.meetCoder step d key) := by
  have h0 : MemFrame d { d with core.flaws := mset [] d.core.flaws key [] } := rfl
  unfold Device.meetCoder
  simp only []
  refine h0.trans ?_
  generalize { d with core.flaws := mset [] d.core.flaws key [] } = e
  split
  · exact .refl _
  · split
    · exact (MemFrame.setReg _ _ _).trans (.ceCount _ _ _ _ _)
    · exact .ceCount _ _ _ _ _
  · split
    · exact (MemFrame.spoil _ _ _).trans ((MemFrame.setReg _ _ _).trans (.ceCount _ _ _ _ _))
    · exact (MemFrame.spoil _ _ _).trans (.ceCount _ _ _ _ _)
  · refine (MemFrame.spoil _ key true).trans ?_
    generalize e.spoil key true = f
    split
    · exact (MemFrame.count1 f _).trans ((MemFrame.setReg64 _ _ _).trans (.post _ _ _ _))
    · exact (MemFrame.count1 f _).trans ((MemFrame.setReg _ _ _).trans (.post _ _ _ _))

theorem MemFrame.coder (step : Bool) (rs : List (Nat × Nat)) : MemFrame d (d.coder step rs) :=
  (MemFrame.watched d rs).trans (.fold _ (fun d => .meetCoder d step) _ _)
theorem MemFrame.fetch (a n : Nat) : MemFrame d (d.fetch a n) := .coder _ _ _
theorem MemFrame.write (a : Nat) (l : List PByte) : MemFrame d (d.write a l) := by
  unfold Device.write
  split
  · exact .refl d
  · simp only []
    refine (MemFrame.watched d [(a, l.length)]).trans ?_
    generalize d.watched [(a, l.length)] = e
    refine MemFrame.trans (MemFrame.fold _ (fun d => .meetCoder d false) ((e.flawedIn [(a, l.length)]).filter (fun k => !coversWord k a l.length)) e) ?_
    generalize List.foldl (Device.meetCoder false) e _ = f
    rw [Core.markUnits_only, Core.pokeBytes_regs]
    rfl
theorem MemFrame.writes (l : List (Nat × List PByte)) : MemFrame d (d.writes l) := by
  induction l generalizing d with
  | nil => exact .refl d
  | cons p l ih => exact (MemFrame.write d _ _).trans (ih _)
theorem MemFrame.slipStatus (c : Cmd) (rank : Nat) (m : SlipMem) (status cause : Nat) : MemFrame d (d.slipStatus c rank m status cause) := by
  unfold Device.slipStatus; split
  · exact .write _ _ _
  · exact .refl d
theorem MemFrame.idleRecords (q : Nat) (c : Cmd) (status : Nat) : MemFrame d (d.idleRecords q c status) := by
  unfold Device.idleRecords; split
  · exact .fold _ (fun d k => .slipStatus d _ _ _ _ _) _ _
  · exact .refl d

/-! What `MemFrame` leaves alone, field by field. -/
theorem MemFrame.kiln {d e : Device} (h : MemFrame d e) : e.kiln = d.kiln := by rw [h]
theorem MemFrame.mvp {d e : Device} (h : MemFrame d e) : e.mvp = d.mvp := by rw [h]
theorem MemFrame.sts {d e : Device} (h : MemFrame d e) : e.sts = d.sts := by rw [h]
theorem MemFrame.vec {d e : Device} (h : MemFrame d e) : e.vec = d.vec := by rw [h]
theorem MemFrame.ctl {d e : Device} (h : MemFrame d e) : e.ctl = d.ctl := by rw [h]
theorem MemFrame.dma {d e : Device} (h : MemFrame d e) : e.dma = d.dma := by rw [h]
theorem MemFrame.tier {d e : Device} (h : MemFrame d e) : e.tier = d.tier := by rw [h]
theorem MemFrame.slip {d e : Device} (h : MemFrame d e) : e.slip = d.slip := by rw [h]
theorem MemFrame.train {d e : Device} (h : MemFrame d e) : e.train = d.train := by rw [h]
theorem MemFrame.ing {d e : Device} (h : MemFrame d e) : e.ing = d.ing := by rw [h]
theorem MemFrame.fab {d e : Device} (h : MemFrame d e) : e.fab = d.fab := by rw [h]
theorem MemFrame.col {d e : Device} (h : MemFrame d e) : e.col = d.col := by rw [h]
theorem MemFrame.inj {d e : Device} (h : MemFrame d e) : e.inj = d.inj := by rw [h]
theorem MemFrame.injw {d e : Device} (h : MemFrame d e) : e.injw = d.injw := by rw [h]
theorem MemFrame.hif {d e : Device} (h : MemFrame d e) : e.hif = d.hif := by rw [h]
theorem MemFrame.boot {d e : Device} (h : MemFrame d e) : e.boot = d.boot := by rw [h]
theorem MemFrame.ras {d e : Device} (h : MemFrame d e) : e.ras = d.ras := by rw [h]
theorem MemFrame.pwr {d e : Device} (h : MemFrame d e) : e.pwr = d.pwr := by rw [h]
theorem MemFrame.out {d e : Device} (h : MemFrame d e) : e.out = d.out := by rw [h]
theorem MemFrame.core_cap {d e : Device} (h : MemFrame d e) : e.core.cap = d.core.cap := by rw [h]
theorem MemFrame.core_queues {d e : Device} (h : MemFrame d e) : e.core.queues = d.core.queues := by rw [h]
theorem MemFrame.core_opens {d e : Device} (h : MemFrame d e) : e.core.opens = d.core.opens := by rw [h]
theorem MemFrame.core_nextCid {d e : Device} (h : MemFrame d e) : e.core.nextCid = d.core.nextCid := by rw [h]
theorem MemFrame.core_nextOrd {d e : Device} (h : MemFrame d e) : e.core.nextOrd = d.core.nextOrd := by rw [h]
theorem MemFrame.core_done {d e : Device} (h : MemFrame d e) : e.core.done = d.core.done := by rw [h]
theorem MemFrame.core_sync {d e : Device} (h : MemFrame d e) : e.core.sync = d.core.sync := by rw [h]
theorem MemFrame.core_ltc {d e : Device} (h : MemFrame d e) : e.core.ltc = d.core.ltc := by rw [h]
theorem MemFrame.core_arb {d e : Device} (h : MemFrame d e) : e.core.arb = d.core.arb := by rw [h]
theorem MemFrame.core_grg {d e : Device} (h : MemFrame d e) : e.core.grg = d.core.grg := by rw [h]
theorem MemFrame.core_now {d e : Device} (h : MemFrame d e) : e.core.now = d.core.now := by rw [h]
theorem MemFrame.core_armed {d e : Device} (h : MemFrame d e) : e.core.armed = d.core.armed := by rw [h]

/-! `watched` -/
@[simp] theorem Device.watched_kiln (rs : List (Nat × Nat)) : (d.watched rs).kiln = d.kiln := by
  unfold Device.watched; split <;> rfl
@[simp] theorem Device.watched_mvp (rs : List (Nat × Nat)) : (d.watched rs).mvp = d.mvp := by
  unfold Device.watched; split <;> rfl
@[simp] theorem Device.watched_sts (rs : List (Nat × Nat)) : (d.watched rs).sts = d.sts := by
  unfold Device.watched; split <;> rfl
@[simp] theorem Device.watched_vec (rs : List (Nat × Nat)) : (d.watched rs).vec = d.vec := by
  unfold Device.watched; split <;> rfl
@[simp] theorem Device.watched_ctl (rs : List (Nat × Nat)) : (d.watched rs).ctl = d.ctl := by
  unfold Device.watched; split <;> rfl
@[simp] theorem Device.watched_dma (rs : List (Nat × Nat)) : (d.watched rs).dma = d.dma := by
  unfold Device.watched; split <;> rfl
@[simp] theorem Device.watched_tier (rs : List (Nat × Nat)) : (d.watched rs).tier = d.tier := by
  unfold Device.watched; split <;> rfl
@[simp] theorem Device.watched_slip (rs : List (Nat × Nat)) : (d.watched rs).slip = d.slip := by
  unfold Device.watched; split <;> rfl
@[simp] theorem Device.watched_train (rs : List (Nat × Nat)) : (d.watched rs).train = d.train := by
  unfold Device.watched; split <;> rfl
@[simp] theorem Device.watched_ing (rs : List (Nat × Nat)) : (d.watched rs).ing = d.ing := by
  unfold Device.watched; split <;> rfl
@[simp] theorem Device.watched_fab (rs : List (Nat × Nat)) : (d.watched rs).fab = d.fab := by
  unfold Device.watched; split <;> rfl
@[simp] theorem Device.watched_col (rs : List (Nat × Nat)) : (d.watched rs).col = d.col := by
  unfold Device.watched; split <;> rfl
@[simp] theorem Device.watched_inj (rs : List (Nat × Nat)) : (d.watched rs).inj = d.inj := by
  unfold Device.watched; split <;> rfl
@[simp] theorem Device.watched_injw (rs : List (Nat × Nat)) : (d.watched rs).injw = d.injw := by
  unfold Device.watched; split <;> rfl
@[simp] theorem Device.watched_hif (rs : List (Nat × Nat)) : (d.watched rs).hif = d.hif := by
  unfold Device.watched; split <;> rfl
@[simp] theorem Device.watched_boot (rs : List (Nat × Nat)) : (d.watched rs).boot = d.boot := by
  unfold Device.watched; split <;> rfl
@[simp] theorem Device.watched_ras (rs : List (Nat × Nat)) : (d.watched rs).ras = d.ras := by
  unfold Device.watched; split <;> rfl
@[simp] theorem Device.watched_pwr (rs : List (Nat × Nat)) : (d.watched rs).pwr = d.pwr := by
  unfold Device.watched; split <;> rfl
@[simp] theorem Device.watched_out (rs : List (Nat × Nat)) : (d.watched rs).out = d.out := by
  unfold Device.watched; split <;> rfl
@[simp] theorem Device.watched_core_regs (rs : List (Nat × Nat)) : (d.watched rs).core.regs = d.core.regs := by
  unfold Device.watched; split <;> rfl
@[simp] theorem Device.watched_core_mem (rs : List (Nat × Nat)) : (d.watched rs).core.mem = d.core.mem := by
  unfold Device.watched; split <;> rfl
@[simp] theorem Device.watched_core_pois (rs : List (Nat × Nat)) : (d.watched rs).core.pois = d.core.pois := by
  unfold Device.watched; split <;> rfl
@[simp] theorem Device.watched_core_flaws (rs : List (Nat × Nat)) : (d.watched rs).core.flaws = d.core.flaws := by
  unfold Device.watched; split <;> rfl
@[simp] theorem Device.watched_core_cap (rs : List (Nat × Nat)) : (d.watched rs).core.cap = d.core.cap := by
  unfold Device.watched; split <;> rfl
@[simp] theorem Device.watched_core_queues (rs : List (Nat × Nat)) : (d.watched rs).core.queues = d.core.queues := by
  unfold Device.watched; split <;> rfl
@[simp] theorem Device.watched_core_opens (rs : List (Nat × Nat)) : (d.watched rs).core.opens = d.core.opens := by
  unfold Device.watched; split <;> rfl
@[simp] theorem Device.watched_core_nextCid (rs : List (Nat × Nat)) : (d.watched rs).core.nextCid = d.core.nextCid := by
  unfold Device.watched; split <;> rfl
@[simp] theorem Device.watched_core_nextOrd (rs : List (Nat × Nat)) : (d.watched rs).core.nextOrd = d.core.nextOrd := by
  unfold Device.watched; split <;> rfl
@[simp] theorem Device.watched_core_done (rs : List (Nat × Nat)) : (d.watched rs).core.done = d.core.done := by
  unfold Device.watched; split <;> rfl
@[simp] theorem Device.watched_core_sync (rs : List (Nat × Nat)) : (d.watched rs).core.sync = d.core.sync := by
  unfold Device.watched; split <;> rfl
@[simp] theorem Device.watched_core_ltc (rs : List (Nat × Nat)) : (d.watched rs).core.ltc = d.core.ltc := by
  unfold Device.watched; split <;> rfl
@[simp] theorem Device.watched_core_evq (rs : List (Nat × Nat)) : (d.watched rs).core.evq = d.core.evq := by
  unfold Device.watched; split <;> rfl
@[simp] theorem Device.watched_core_arb (rs : List (Nat × Nat)) : (d.watched rs).core.arb = d.core.arb := by
  unfold Device.watched; split <;> rfl
@[simp] theorem Device.watched_core_grg (rs : List (Nat × Nat)) : (d.watched rs).core.grg = d.core.grg := by
  unfold Device.watched; split <;> rfl
@[simp] theorem Device.watched_core_cePost (rs : List (Nat × Nat)) : (d.watched rs).core.cePost = d.core.cePost := by
  unfold Device.watched; split <;> rfl
@[simp] theorem Device.watched_core_crossed (rs : List (Nat × Nat)) : (d.watched rs).core.crossed = d.core.crossed := by
  unfold Device.watched; split <;> rfl
@[simp] theorem Device.watched_core_hourly (rs : List (Nat × Nat)) : (d.watched rs).core.hourly = d.core.hourly := by
  unfold Device.watched; split <;> rfl
@[simp] theorem Device.watched_core_now (rs : List (Nat × Nat)) : (d.watched rs).core.now = d.core.now := by
  unfold Device.watched; split <;> rfl
@[simp] theorem Device.watched_core_armed (rs : List (Nat × Nat)) : (d.watched rs).core.armed = d.core.armed := by
  unfold Device.watched; split <;> rfl
@[simp] theorem Device.watched_core_freeN (rs : List (Nat × Nat)) : (d.watched rs).core.freeN = d.core.freeN := by
  unfold Device.watched; split <;> rfl

/-! `count1` -/
@[simp] theorem Device.count1_kiln (k : Nat) : (d.count1 k).kiln = d.kiln := by
  rfl
@[simp] theorem Device.count1_mvp (k : Nat) : (d.count1 k).mvp = d.mvp := by
  rfl
@[simp] theorem Device.count1_sts (k : Nat) : (d.count1 k).sts = d.sts := by
  rfl
@[simp] theorem Device.count1_vec (k : Nat) : (d.count1 k).vec = d.vec := by
  rfl
@[simp] theorem Device.count1_ctl (k : Nat) : (d.count1 k).ctl = d.ctl := by
  rfl
@[simp] theorem Device.count1_dma (k : Nat) : (d.count1 k).dma = d.dma := by
  rfl
@[simp] theorem Device.count1_tier (k : Nat) : (d.count1 k).tier = d.tier := by
  rfl
@[simp] theorem Device.count1_slip (k : Nat) : (d.count1 k).slip = d.slip := by
  rfl
@[simp] theorem Device.count1_train (k : Nat) : (d.count1 k).train = d.train := by
  rfl
@[simp] theorem Device.count1_ing (k : Nat) : (d.count1 k).ing = d.ing := by
  rfl
@[simp] theorem Device.count1_fab (k : Nat) : (d.count1 k).fab = d.fab := by
  rfl
@[simp] theorem Device.count1_col (k : Nat) : (d.count1 k).col = d.col := by
  rfl
@[simp] theorem Device.count1_inj (k : Nat) : (d.count1 k).inj = d.inj := by
  rfl
@[simp] theorem Device.count1_injw (k : Nat) : (d.count1 k).injw = d.injw := by
  rfl
@[simp] theorem Device.count1_hif (k : Nat) : (d.count1 k).hif = d.hif := by
  rfl
@[simp] theorem Device.count1_boot (k : Nat) : (d.count1 k).boot = d.boot := by
  rfl
@[simp] theorem Device.count1_ras (k : Nat) : (d.count1 k).ras = d.ras := by
  rfl
@[simp] theorem Device.count1_pwr (k : Nat) : (d.count1 k).pwr = d.pwr := by
  rfl
@[simp] theorem Device.count1_out (k : Nat) : (d.count1 k).out = d.out := by
  rfl
@[simp] theorem Device.count1_core_mem (k : Nat) : (d.count1 k).core.mem = d.core.mem := by
  rfl
@[simp] theorem Device.count1_core_pois (k : Nat) : (d.count1 k).core.pois = d.core.pois := by
  rfl
@[simp] theorem Device.count1_core_flaws (k : Nat) : (d.count1 k).core.flaws = d.core.flaws := by
  rfl
@[simp] theorem Device.count1_core_cap (k : Nat) : (d.count1 k).core.cap = d.core.cap := by
  rfl
@[simp] theorem Device.count1_core_queues (k : Nat) : (d.count1 k).core.queues = d.core.queues := by
  rfl
@[simp] theorem Device.count1_core_opens (k : Nat) : (d.count1 k).core.opens = d.core.opens := by
  rfl
@[simp] theorem Device.count1_core_nextCid (k : Nat) : (d.count1 k).core.nextCid = d.core.nextCid := by
  rfl
@[simp] theorem Device.count1_core_nextOrd (k : Nat) : (d.count1 k).core.nextOrd = d.core.nextOrd := by
  rfl
@[simp] theorem Device.count1_core_done (k : Nat) : (d.count1 k).core.done = d.core.done := by
  rfl
@[simp] theorem Device.count1_core_sync (k : Nat) : (d.count1 k).core.sync = d.core.sync := by
  rfl
@[simp] theorem Device.count1_core_ltc (k : Nat) : (d.count1 k).core.ltc = d.core.ltc := by
  rfl
@[simp] theorem Device.count1_core_evq (k : Nat) : (d.count1 k).core.evq = d.core.evq := by
  rfl
@[simp] theorem Device.count1_core_arb (k : Nat) : (d.count1 k).core.arb = d.core.arb := by
  rfl
@[simp] theorem Device.count1_core_grg (k : Nat) : (d.count1 k).core.grg = d.core.grg := by
  rfl
@[simp] theorem Device.count1_core_cePost (k : Nat) : (d.count1 k).core.cePost = d.core.cePost := by
  rfl
@[simp] theorem Device.count1_core_crossed (k : Nat) : (d.count1 k).core.crossed = d.core.crossed := by
  rfl
@[simp] theorem Device.count1_core_hourly (k : Nat) : (d.count1 k).core.hourly = d.core.hourly := by
  rfl
@[simp] theorem Device.count1_core_now (k : Nat) : (d.count1 k).core.now = d.core.now := by
  rfl
@[simp] theorem Device.count1_core_armed (k : Nat) : (d.count1 k).core.armed = d.core.armed := by
  rfl
@[simp] theorem Device.count1_core_freeN (k : Nat) : (d.count1 k).core.freeN = d.core.freeN := by
  rfl
@[simp] theorem Device.count1_core_watch (k : Nat) : (d.count1 k).core.watch = d.core.watch := by
  rfl

/-- The answer to a threshold event is one of two. -/
theorem Device.answerCe_eq (code unit : Nat) : ∃ (again : Bool) (tier n k : Nat) (l : List (Nat × Option Nat)),
    d.answerCe code unit = bif again then { d with core.crossed := l }.advise tier unit n
      else { { d with core.crossed := l }.setReg k (setFld ({ d with core.crossed := l }.reg k) 7 0 1) with core.hourly := sinsert tier d.core.hourly } := by
  exact ⟨match mget none d.core.crossed (8 * (if code = 0x040D then 0 else 1) + unit / 2 ^ 23 % 32) with
      | some t => decide (d.time 0 ≤ t + 24 * 3600 * 10 ^ 9)
      | none => false,
    if code = 0x040D then 0 else 1, unit / 2 ^ 23 % 32, mreg (1 + if code = 0x040D then 0 else 1) 4, _,
    (Bool.cond_eq_ite ..).symm⟩

/-! `answerCe` -/
@[simp] theorem Device.answerCe_kiln (code unit : Nat) : (d.answerCe code unit).kiln = d.kiln := by
  obtain ⟨b, _, _, _, _, h⟩ := d.answerCe_eq code unit; rw [h]; cases b <;> rfl
@[simp] theorem Device.answerCe_mvp (code unit : Nat) : (d.answerCe code unit).mvp = d.mvp := by
  obtain ⟨b, _, _, _, _, h⟩ := d.answerCe_eq code unit; rw [h]; cases b <;> rfl
@[simp] theorem Device.answerCe_sts (code unit : Nat) : (d.answerCe code unit).sts = d.sts := by
  obtain ⟨b, _, _, _, _, h⟩ := d.answerCe_eq code unit; rw [h]; cases b <;> rfl
@[simp] theorem Device.answerCe_vec (code unit : Nat) : (d.answerCe code unit).vec = d.vec := by
  obtain ⟨b, _, _, _, _, h⟩ := d.answerCe_eq code unit; rw [h]; cases b <;> rfl
@[simp] theorem Device.answerCe_ctl (code unit : Nat) : (d.answerCe code unit).ctl = d.ctl := by
  obtain ⟨b, _, _, _, _, h⟩ := d.answerCe_eq code unit; rw [h]; cases b <;> rfl
@[simp] theorem Device.answerCe_dma (code unit : Nat) : (d.answerCe code unit).dma = d.dma := by
  obtain ⟨b, _, _, _, _, h⟩ := d.answerCe_eq code unit; rw [h]; cases b <;> rfl
@[simp] theorem Device.answerCe_tier (code unit : Nat) : (d.answerCe code unit).tier = d.tier := by
  obtain ⟨b, _, _, _, _, h⟩ := d.answerCe_eq code unit; rw [h]; cases b <;> rfl
@[simp] theorem Device.answerCe_slip (code unit : Nat) : (d.answerCe code unit).slip = d.slip := by
  obtain ⟨b, _, _, _, _, h⟩ := d.answerCe_eq code unit; rw [h]; cases b <;> rfl
@[simp] theorem Device.answerCe_train (code unit : Nat) : (d.answerCe code unit).train = d.train := by
  obtain ⟨b, _, _, _, _, h⟩ := d.answerCe_eq code unit; rw [h]; cases b <;> rfl
@[simp] theorem Device.answerCe_ing (code unit : Nat) : (d.answerCe code unit).ing = d.ing := by
  obtain ⟨b, _, _, _, _, h⟩ := d.answerCe_eq code unit; rw [h]; cases b <;> rfl
@[simp] theorem Device.answerCe_fab (code unit : Nat) : (d.answerCe code unit).fab = d.fab := by
  obtain ⟨b, _, _, _, _, h⟩ := d.answerCe_eq code unit; rw [h]; cases b <;> rfl
@[simp] theorem Device.answerCe_col (code unit : Nat) : (d.answerCe code unit).col = d.col := by
  obtain ⟨b, _, _, _, _, h⟩ := d.answerCe_eq code unit; rw [h]; cases b <;> rfl
@[simp] theorem Device.answerCe_inj (code unit : Nat) : (d.answerCe code unit).inj = d.inj := by
  obtain ⟨b, _, _, _, _, h⟩ := d.answerCe_eq code unit; rw [h]; cases b <;> rfl
@[simp] theorem Device.answerCe_injw (code unit : Nat) : (d.answerCe code unit).injw = d.injw := by
  obtain ⟨b, _, _, _, _, h⟩ := d.answerCe_eq code unit; rw [h]; cases b <;> rfl
@[simp] theorem Device.answerCe_hif (code unit : Nat) : (d.answerCe code unit).hif = d.hif := by
  obtain ⟨b, _, _, _, _, h⟩ := d.answerCe_eq code unit; rw [h]; cases b <;> rfl
@[simp] theorem Device.answerCe_boot (code unit : Nat) : (d.answerCe code unit).boot = d.boot := by
  obtain ⟨b, _, _, _, _, h⟩ := d.answerCe_eq code unit; rw [h]; cases b <;> rfl
@[simp] theorem Device.answerCe_ras (code unit : Nat) : (d.answerCe code unit).ras = d.ras := by
  obtain ⟨b, _, _, _, _, h⟩ := d.answerCe_eq code unit; rw [h]; cases b <;> rfl
@[simp] theorem Device.answerCe_pwr (code unit : Nat) : (d.answerCe code unit).pwr = d.pwr := by
  obtain ⟨b, _, _, _, _, h⟩ := d.answerCe_eq code unit; rw [h]; cases b <;> rfl
@[simp] theorem Device.answerCe_out (code unit : Nat) : (d.answerCe code unit).out = d.out := by
  obtain ⟨b, _, _, _, _, h⟩ := d.answerCe_eq code unit; rw [h]; cases b <;> rfl
@[simp] theorem Device.answerCe_core_mem (code unit : Nat) : (d.answerCe code unit).core.mem = d.core.mem := by
  obtain ⟨b, _, _, _, _, h⟩ := d.answerCe_eq code unit; rw [h]; cases b <;> rfl
@[simp] theorem Device.answerCe_core_pois (code unit : Nat) : (d.answerCe code unit).core.pois = d.core.pois := by
  obtain ⟨b, _, _, _, _, h⟩ := d.answerCe_eq code unit; rw [h]; cases b <;> rfl
@[simp] theorem Device.answerCe_core_flaws (code unit : Nat) : (d.answerCe code unit).core.flaws = d.core.flaws := by
  obtain ⟨b, _, _, _, _, h⟩ := d.answerCe_eq code unit; rw [h]; cases b <;> rfl
@[simp] theorem Device.answerCe_core_cap (code unit : Nat) : (d.answerCe code unit).core.cap = d.core.cap := by
  obtain ⟨b, _, _, _, _, h⟩ := d.answerCe_eq code unit; rw [h]; cases b <;> rfl
@[simp] theorem Device.answerCe_core_queues (code unit : Nat) : (d.answerCe code unit).core.queues = d.core.queues := by
  obtain ⟨b, _, _, _, _, h⟩ := d.answerCe_eq code unit; rw [h]; cases b <;> rfl
@[simp] theorem Device.answerCe_core_opens (code unit : Nat) : (d.answerCe code unit).core.opens = d.core.opens := by
  obtain ⟨b, _, _, _, _, h⟩ := d.answerCe_eq code unit; rw [h]; cases b <;> rfl
@[simp] theorem Device.answerCe_core_nextCid (code unit : Nat) : (d.answerCe code unit).core.nextCid = d.core.nextCid := by
  obtain ⟨b, _, _, _, _, h⟩ := d.answerCe_eq code unit; rw [h]; cases b <;> rfl
@[simp] theorem Device.answerCe_core_nextOrd (code unit : Nat) : (d.answerCe code unit).core.nextOrd = d.core.nextOrd := by
  obtain ⟨b, _, _, _, _, h⟩ := d.answerCe_eq code unit; rw [h]; cases b <;> rfl
@[simp] theorem Device.answerCe_core_done (code unit : Nat) : (d.answerCe code unit).core.done = d.core.done := by
  obtain ⟨b, _, _, _, _, h⟩ := d.answerCe_eq code unit; rw [h]; cases b <;> rfl
@[simp] theorem Device.answerCe_core_sync (code unit : Nat) : (d.answerCe code unit).core.sync = d.core.sync := by
  obtain ⟨b, _, _, _, _, h⟩ := d.answerCe_eq code unit; rw [h]; cases b <;> rfl
@[simp] theorem Device.answerCe_core_ltc (code unit : Nat) : (d.answerCe code unit).core.ltc = d.core.ltc := by
  obtain ⟨b, _, _, _, _, h⟩ := d.answerCe_eq code unit; rw [h]; cases b <;> rfl
@[simp] theorem Device.answerCe_core_arb (code unit : Nat) : (d.answerCe code unit).core.arb = d.core.arb := by
  obtain ⟨b, _, _, _, _, h⟩ := d.answerCe_eq code unit; rw [h]; cases b <;> rfl
@[simp] theorem Device.answerCe_core_grg (code unit : Nat) : (d.answerCe code unit).core.grg = d.core.grg := by
  obtain ⟨b, _, _, _, _, h⟩ := d.answerCe_eq code unit; rw [h]; cases b <;> rfl
@[simp] theorem Device.answerCe_core_cePost (code unit : Nat) : (d.answerCe code unit).core.cePost = d.core.cePost := by
  obtain ⟨b, _, _, _, _, h⟩ := d.answerCe_eq code unit; rw [h]; cases b <;> rfl
@[simp] theorem Device.answerCe_core_now (code unit : Nat) : (d.answerCe code unit).core.now = d.core.now := by
  obtain ⟨b, _, _, _, _, h⟩ := d.answerCe_eq code unit; rw [h]; cases b <;> rfl
@[simp] theorem Device.answerCe_core_armed (code unit : Nat) : (d.answerCe code unit).core.armed = d.core.armed := by
  obtain ⟨b, _, _, _, _, h⟩ := d.answerCe_eq code unit; rw [h]; cases b <;> rfl
@[simp] theorem Device.answerCe_core_freeN (code unit : Nat) : (d.answerCe code unit).core.freeN = d.core.freeN := by
  obtain ⟨b, _, _, _, _, h⟩ := d.answerCe_eq code unit; rw [h]; cases b <;> rfl
@[simp] theorem Device.answerCe_core_watch (code unit : Nat) : (d.answerCe code unit).core.watch = d.core.watch := by
  obtain ⟨b, _, _, _, _, h⟩ := d.answerCe_eq code unit; rw [h]; cases b <;> rfl

/-! `ceTest` -/
@[simp] theorem Device.ceTest_kiln (cnt thr code unit : Nat) : (d.ceTest cnt thr code unit).kiln = d.kiln := by
  unfold Device.ceTest; simp only []; split <;> simp
@[simp] theorem Device.ceTest_mvp (cnt thr code unit : Nat) : (d.ceTest cnt thr code unit).mvp = d.mvp := by
  unfold Device.ceTest; simp only []; split <;> simp
@[simp] theorem Device.ceTest_sts (cnt thr code unit : Nat) : (d.ceTest cnt thr code unit).sts = d.sts := by
  unfold Device.ceTest; simp only []; split <;> simp
@[simp] theorem Device.ceTest_vec (cnt thr code unit : Nat) : (d.ceTest cnt thr code unit).vec = d.vec := by
  unfold Device.ceTest; simp only []; split <;> simp
@[simp] theorem Device.ceTest_ctl (cnt thr code unit : Nat) : (d.ceTest cnt thr code unit).ctl = d.ctl := by
  unfold Device.ceTest; simp only []; split <;> simp
@[simp] theorem Device.ceTest_dma (cnt thr code unit : Nat) : (d.ceTest cnt thr code unit).dma = d.dma := by
  unfold Device.ceTest; simp only []; split <;> simp
@[simp] theorem Device.ceTest_tier (cnt thr code unit : Nat) : (d.ceTest cnt thr code unit).tier = d.tier := by
  unfold Device.ceTest; simp only []; split <;> simp
@[simp] theorem Device.ceTest_slip (cnt thr code unit : Nat) : (d.ceTest cnt thr code unit).slip = d.slip := by
  unfold Device.ceTest; simp only []; split <;> simp
@[simp] theorem Device.ceTest_train (cnt thr code unit : Nat) : (d.ceTest cnt thr code unit).train = d.train := by
  unfold Device.ceTest; simp only []; split <;> simp
@[simp] theorem Device.ceTest_ing (cnt thr code unit : Nat) : (d.ceTest cnt thr code unit).ing = d.ing := by
  unfold Device.ceTest; simp only []; split <;> simp
@[simp] theorem Device.ceTest_fab (cnt thr code unit : Nat) : (d.ceTest cnt thr code unit).fab = d.fab := by
  unfold Device.ceTest; simp only []; split <;> simp
@[simp] theorem Device.ceTest_col (cnt thr code unit : Nat) : (d.ceTest cnt thr code unit).col = d.col := by
  unfold Device.ceTest; simp only []; split <;> simp
@[simp] theorem Device.ceTest_inj (cnt thr code unit : Nat) : (d.ceTest cnt thr code unit).inj = d.inj := by
  unfold Device.ceTest; simp only []; split <;> simp
@[simp] theorem Device.ceTest_injw (cnt thr code unit : Nat) : (d.ceTest cnt thr code unit).injw = d.injw := by
  unfold Device.ceTest; simp only []; split <;> simp
@[simp] theorem Device.ceTest_hif (cnt thr code unit : Nat) : (d.ceTest cnt thr code unit).hif = d.hif := by
  unfold Device.ceTest; simp only []; split <;> simp
@[simp] theorem Device.ceTest_boot (cnt thr code unit : Nat) : (d.ceTest cnt thr code unit).boot = d.boot := by
  unfold Device.ceTest; simp only []; split <;> simp
@[simp] theorem Device.ceTest_ras (cnt thr code unit : Nat) : (d.ceTest cnt thr code unit).ras = d.ras := by
  unfold Device.ceTest; simp only []; split <;> simp
@[simp] theorem Device.ceTest_pwr (cnt thr code unit : Nat) : (d.ceTest cnt thr code unit).pwr = d.pwr := by
  unfold Device.ceTest; simp only []; split <;> simp
@[simp] theorem Device.ceTest_out (cnt thr code unit : Nat) : (d.ceTest cnt thr code unit).out = d.out := by
  unfold Device.ceTest; simp only []; split <;> simp
@[simp] theorem Device.ceTest_core_mem (cnt thr code unit : Nat) : (d.ceTest cnt thr code unit).core.mem = d.core.mem := by
  unfold Device.ceTest; simp only []; split <;> simp
@[simp] theorem Device.ceTest_core_pois (cnt thr code unit : Nat) : (d.ceTest cnt thr code unit).core.pois = d.core.pois := by
  unfold Device.ceTest; simp only []; split <;> simp
@[simp] theorem Device.ceTest_core_flaws (cnt thr code unit : Nat) : (d.ceTest cnt thr code unit).core.flaws = d.core.flaws := by
  unfold Device.ceTest; simp only []; split <;> simp
@[simp] theorem Device.ceTest_core_cap (cnt thr code unit : Nat) : (d.ceTest cnt thr code unit).core.cap = d.core.cap := by
  unfold Device.ceTest; simp only []; split <;> simp
@[simp] theorem Device.ceTest_core_queues (cnt thr code unit : Nat) : (d.ceTest cnt thr code unit).core.queues = d.core.queues := by
  unfold Device.ceTest; simp only []; split <;> simp
@[simp] theorem Device.ceTest_core_opens (cnt thr code unit : Nat) : (d.ceTest cnt thr code unit).core.opens = d.core.opens := by
  unfold Device.ceTest; simp only []; split <;> simp
@[simp] theorem Device.ceTest_core_nextCid (cnt thr code unit : Nat) : (d.ceTest cnt thr code unit).core.nextCid = d.core.nextCid := by
  unfold Device.ceTest; simp only []; split <;> simp
@[simp] theorem Device.ceTest_core_nextOrd (cnt thr code unit : Nat) : (d.ceTest cnt thr code unit).core.nextOrd = d.core.nextOrd := by
  unfold Device.ceTest; simp only []; split <;> simp
@[simp] theorem Device.ceTest_core_done (cnt thr code unit : Nat) : (d.ceTest cnt thr code unit).core.done = d.core.done := by
  unfold Device.ceTest; simp only []; split <;> simp
@[simp] theorem Device.ceTest_core_sync (cnt thr code unit : Nat) : (d.ceTest cnt thr code unit).core.sync = d.core.sync := by
  unfold Device.ceTest; simp only []; split <;> simp
@[simp] theorem Device.ceTest_core_ltc (cnt thr code unit : Nat) : (d.ceTest cnt thr code unit).core.ltc = d.core.ltc := by
  unfold Device.ceTest; simp only []; split <;> simp
@[simp] theorem Device.ceTest_core_arb (cnt thr code unit : Nat) : (d.ceTest cnt thr code unit).core.arb = d.core.arb := by
  unfold Device.ceTest; simp only []; split <;> simp
@[simp] theorem Device.ceTest_core_grg (cnt thr code unit : Nat) : (d.ceTest cnt thr code unit).core.grg = d.core.grg := by
  unfold Device.ceTest; simp only []; split <;> simp
@[simp] theorem Device.ceTest_core_now (cnt thr code unit : Nat) : (d.ceTest cnt thr code unit).core.now = d.core.now := by
  unfold Device.ceTest; simp only []; split <;> simp
@[simp] theorem Device.ceTest_core_armed (cnt thr code unit : Nat) : (d.ceTest cnt thr code unit).core.armed = d.core.armed := by
  unfold Device.ceTest; simp only []; split <;> simp
@[simp] theorem Device.ceTest_core_freeN (cnt thr code unit : Nat) : (d.ceTest cnt thr code unit).core.freeN = d.core.freeN := by
  unfold Device.ceTest; simp only []; split <;> simp
@[simp] theorem Device.ceTest_core_watch (cnt thr code unit : Nat) : (d.ceTest cnt thr code unit).core.watch = d.core.watch := by
  unfold Device.ceTest; simp only []; split <;> simp

/-! `ceCount` -/
@[simp] theorem Device.ceCount_kiln (cnt thr code unit : Nat) : (d.ceCount cnt thr code unit).kiln = d.kiln := by
  simp [Device.ceCount]
@[simp] theorem Device.ceCount_mvp (cnt thr code unit : Nat) : (d.ceCount cnt thr code unit).mvp = d.mvp := by
  simp [Device.ceCount]
@[simp] theorem Device.ceCount_sts (cnt thr code unit : Nat) : (d.ceCount cnt thr code unit).sts = d.sts := by
  simp [Device.ceCount]
@[simp] theorem Device.ceCount_vec (cnt thr code unit : Nat) : (d.ceCount cnt thr code unit).vec = d.vec := by
  simp [Device.ceCount]
@[simp] theorem Device.ceCount_ctl (cnt thr code unit : Nat) : (d.ceCount cnt thr code unit).ctl = d.ctl := by
  simp [Device.ceCount]
@[simp] theorem Device.ceCount_dma (cnt thr code unit : Nat) : (d.ceCount cnt thr code unit).dma = d.dma := by
  simp [Device.ceCount]
@[simp] theorem Device.ceCount_tier (cnt thr code unit : Nat) : (d.ceCount cnt thr code unit).tier = d.tier := by
  simp [Device.ceCount]
@[simp] theorem Device.ceCount_slip (cnt thr code unit : Nat) : (d.ceCount cnt thr code unit).slip = d.slip := by
  simp [Device.ceCount]
@[simp] theorem Device.ceCount_train (cnt thr code unit : Nat) : (d.ceCount cnt thr code unit).train = d.train := by
  simp [Device.ceCount]
@[simp] theorem Device.ceCount_ing (cnt thr code unit : Nat) : (d.ceCount cnt thr code unit).ing = d.ing := by
  simp [Device.ceCount]
@[simp] theorem Device.ceCount_fab (cnt thr code unit : Nat) : (d.ceCount cnt thr code unit).fab = d.fab := by
  simp [Device.ceCount]
@[simp] theorem Device.ceCount_col (cnt thr code unit : Nat) : (d.ceCount cnt thr code unit).col = d.col := by
  simp [Device.ceCount]
@[simp] theorem Device.ceCount_inj (cnt thr code unit : Nat) : (d.ceCount cnt thr code unit).inj = d.inj := by
  simp [Device.ceCount]
@[simp] theorem Device.ceCount_injw (cnt thr code unit : Nat) : (d.ceCount cnt thr code unit).injw = d.injw := by
  simp [Device.ceCount]
@[simp] theorem Device.ceCount_hif (cnt thr code unit : Nat) : (d.ceCount cnt thr code unit).hif = d.hif := by
  simp [Device.ceCount]
@[simp] theorem Device.ceCount_boot (cnt thr code unit : Nat) : (d.ceCount cnt thr code unit).boot = d.boot := by
  simp [Device.ceCount]
@[simp] theorem Device.ceCount_ras (cnt thr code unit : Nat) : (d.ceCount cnt thr code unit).ras = d.ras := by
  simp [Device.ceCount]
@[simp] theorem Device.ceCount_pwr (cnt thr code unit : Nat) : (d.ceCount cnt thr code unit).pwr = d.pwr := by
  simp [Device.ceCount]
@[simp] theorem Device.ceCount_out (cnt thr code unit : Nat) : (d.ceCount cnt thr code unit).out = d.out := by
  simp [Device.ceCount]
@[simp] theorem Device.ceCount_core_mem (cnt thr code unit : Nat) : (d.ceCount cnt thr code unit).core.mem = d.core.mem := by
  simp [Device.ceCount]
@[simp] theorem Device.ceCount_core_pois (cnt thr code unit : Nat) : (d.ceCount cnt thr code unit).core.pois = d.core.pois := by
  simp [Device.ceCount]
@[simp] theorem Device.ceCount_core_flaws (cnt thr code unit : Nat) : (d.ceCount cnt thr code unit).core.flaws = d.core.flaws := by
  simp [Device.ceCount]
@[simp] theorem Device.ceCount_core_cap (cnt thr code unit : Nat) : (d.ceCount cnt thr code unit).core.cap = d.core.cap := by
  simp [Device.ceCount]
@[simp] theorem Device.ceCount_core_queues (cnt thr code unit : Nat) : (d.ceCount cnt thr code unit).core.queues = d.core.queues := by
  simp [Device.ceCount]
@[simp] theorem Device.ceCount_core_opens (cnt thr code unit : Nat) : (d.ceCount cnt thr code unit).core.opens = d.core.opens := by
  simp [Device.ceCount]
@[simp] theorem Device.ceCount_core_nextCid (cnt thr code unit : Nat) : (d.ceCount cnt thr code unit).core.nextCid = d.core.nextCid := by
  simp [Device.ceCount]
@[simp] theorem Device.ceCount_core_nextOrd (cnt thr code unit : Nat) : (d.ceCount cnt thr code unit).core.nextOrd = d.core.nextOrd := by
  simp [Device.ceCount]
@[simp] theorem Device.ceCount_core_done (cnt thr code unit : Nat) : (d.ceCount cnt thr code unit).core.done = d.core.done := by
  simp [Device.ceCount]
@[simp] theorem Device.ceCount_core_sync (cnt thr code unit : Nat) : (d.ceCount cnt thr code unit).core.sync = d.core.sync := by
  simp [Device.ceCount]
@[simp] theorem Device.ceCount_core_ltc (cnt thr code unit : Nat) : (d.ceCount cnt thr code unit).core.ltc = d.core.ltc := by
  simp [Device.ceCount]
@[simp] theorem Device.ceCount_core_arb (cnt thr code unit : Nat) : (d.ceCount cnt thr code unit).core.arb = d.core.arb := by
  simp [Device.ceCount]
@[simp] theorem Device.ceCount_core_grg (cnt thr code unit : Nat) : (d.ceCount cnt thr code unit).core.grg = d.core.grg := by
  simp [Device.ceCount]
@[simp] theorem Device.ceCount_core_now (cnt thr code unit : Nat) : (d.ceCount cnt thr code unit).core.now = d.core.now := by
  simp [Device.ceCount]
@[simp] theorem Device.ceCount_core_armed (cnt thr code unit : Nat) : (d.ceCount cnt thr code unit).core.armed = d.core.armed := by
  simp [Device.ceCount]
@[simp] theorem Device.ceCount_core_freeN (cnt thr code unit : Nat) : (d.ceCount cnt thr code unit).core.freeN = d.core.freeN := by
  simp [Device.ceCount]
@[simp] theorem Device.ceCount_core_watch (cnt thr code unit : Nat) : (d.ceCount cnt thr code unit).core.watch = d.core.watch := by
  simp [Device.ceCount]

/-! `spoil` -/
@[simp] theorem Device.spoil_kiln (key : Nat) (p : Bool) : (d.spoil key p).kiln = d.kiln := (MemFrame.spoil d _ _).kiln
@[simp] theorem Device.spoil_mvp (key : Nat) (p : Bool) : (d.spoil key p).mvp = d.mvp := (MemFrame.spoil d _ _).mvp
@[simp] theorem Device.spoil_sts (key : Nat) (p : Bool) : (d.spoil key p).sts = d.sts := (MemFrame.spoil d _ _).sts
@[simp] theorem Device.spoil_vec (key : Nat) (p : Bool) : (d.spoil key p).vec = d.vec := (MemFrame.spoil d _ _).vec
@[simp] theorem Device.spoil_ctl (key : Nat) (p : Bool) : (d.spoil key p).ctl = d.ctl := (MemFrame.spoil d _ _).ctl
@[simp] theorem Device.spoil_dma (key : Nat) (p : Bool) : (d.spoil key p).dma = d.dma := (MemFrame.spoil d _ _).dma
@[simp] theorem Device.spoil_tier (key : Nat) (p : Bool) : (d.spoil key p).tier = d.tier := (MemFrame.spoil d _ _).tier
@[simp] theorem Device.spoil_slip (key : Nat) (p : Bool) : (d.spoil key p).slip = d.slip := (MemFrame.spoil d _ _).slip
@[simp] theorem Device.spoil_train (key : Nat) (p : Bool) : (d.spoil key p).train = d.train := (MemFrame.spoil d _ _).train
@[simp] theorem Device.spoil_ing (key : Nat) (p : Bool) : (d.spoil key p).ing = d.ing := (MemFrame.spoil d _ _).ing
@[simp] theorem Device.spoil_fab (key : Nat) (p : Bool) : (d.spoil key p).fab = d.fab := (MemFrame.spoil d _ _).fab
@[simp] theorem Device.spoil_col (key : Nat) (p : Bool) : (d.spoil key p).col = d.col := (MemFrame.spoil d _ _).col
@[simp] theorem Device.spoil_inj (key : Nat) (p : Bool) : (d.spoil key p).inj = d.inj := (MemFrame.spoil d _ _).inj
@[simp] theorem Device.spoil_injw (key : Nat) (p : Bool) : (d.spoil key p).injw = d.injw := (MemFrame.spoil d _ _).injw
@[simp] theorem Device.spoil_hif (key : Nat) (p : Bool) : (d.spoil key p).hif = d.hif := (MemFrame.spoil d _ _).hif
@[simp] theorem Device.spoil_boot (key : Nat) (p : Bool) : (d.spoil key p).boot = d.boot := (MemFrame.spoil d _ _).boot
@[simp] theorem Device.spoil_ras (key : Nat) (p : Bool) : (d.spoil key p).ras = d.ras := (MemFrame.spoil d _ _).ras
@[simp] theorem Device.spoil_pwr (key : Nat) (p : Bool) : (d.spoil key p).pwr = d.pwr := (MemFrame.spoil d _ _).pwr
@[simp] theorem Device.spoil_out (key : Nat) (p : Bool) : (d.spoil key p).out = d.out := (MemFrame.spoil d _ _).out
@[simp] theorem Device.spoil_core_cap (key : Nat) (p : Bool) : (d.spoil key p).core.cap = d.core.cap := (MemFrame.spoil d _ _).core_cap
@[simp] theorem Device.spoil_core_queues (key : Nat) (p : Bool) : (d.spoil key p).core.queues = d.core.queues := (MemFrame.spoil d _ _).core_queues
@[simp] theorem Device.spoil_core_opens (key : Nat) (p : Bool) : (d.spoil key p).core.opens = d.core.opens := (MemFrame.spoil d _ _).core_opens
@[simp] theorem Device.spoil_core_nextCid (key : Nat) (p : Bool) : (d.spoil key p).core.nextCid = d.core.nextCid := (MemFrame.spoil d _ _).core_nextCid
@[simp] theorem Device.spoil_core_nextOrd (key : Nat) (p : Bool) : (d.spoil key p).core.nextOrd = d.core.nextOrd := (MemFrame.spoil d _ _).core_nextOrd
@[simp] theorem Device.spoil_core_done (key : Nat) (p : Bool) : (d.spoil key p).core.done = d.core.done := (MemFrame.spoil d _ _).core_done
@[simp] theorem Device.spoil_core_sync (key : Nat) (p : Bool) : (d.spoil key p).core.sync = d.core.sync := (MemFrame.spoil d _ _).core_sync
@[simp] theorem Device.spoil_core_ltc (key : Nat) (p : Bool) : (d.spoil key p).core.ltc = d.core.ltc := (MemFrame.spoil d _ _).core_ltc
@[simp] theorem Device.spoil_core_arb (key : Nat) (p : Bool) : (d.spoil key p).core.arb = d.core.arb := (MemFrame.spoil d _ _).core_arb
@[simp] theorem Device.spoil_core_grg (key : Nat) (p : Bool) : (d.spoil key p).core.grg = d.core.grg := (MemFrame.spoil d _ _).core_grg
@[simp] theorem Device.spoil_core_now (key : Nat) (p : Bool) : (d.spoil key p).core.now = d.core.now := (MemFrame.spoil d _ _).core_now
@[simp] theorem Device.spoil_core_armed (key : Nat) (p : Bool) : (d.spoil key p).core.armed = d.core.armed := (MemFrame.spoil d _ _).core_armed

/-! `coder` -/
@[simp] theorem Device.coder_kiln (step : Bool) (rs : List (Nat × Nat)) : (d.coder step rs).kiln = d.kiln := (MemFrame.coder d _ _).kiln
@[simp] theorem Device.coder_mvp (step : Bool) (rs : List (Nat × Nat)) : (d.coder step rs).mvp = d.mvp := (MemFrame.coder d _ _).mvp
@[simp] theorem Device.coder_sts (step : Bool) (rs : List (Nat × Nat)) : (d.coder step rs).sts = d.sts := (MemFrame.coder d _ _).sts
@[simp] theorem Device.coder_vec (step : Bool) (rs : List (Nat × Nat)) : (d.coder step rs).vec = d.vec := (MemFrame.coder d _ _).vec
@[simp] theorem Device.coder_ctl (step : Bool) (rs : List (Nat × Nat)) : (d.coder step rs).ctl = d.ctl := (MemFrame.coder d _ _).ctl
@[simp] theorem Device.coder_dma (step : Bool) (rs : List (Nat × Nat)) : (d.coder step rs).dma = d.dma := (MemFrame.coder d _ _).dma
@[simp] theorem Device.coder_tier (step : Bool) (rs : List (Nat × Nat)) : (d.coder step rs).tier = d.tier := (MemFrame.coder d _ _).tier
@[simp] theorem Device.coder_slip (step : Bool) (rs : List (Nat × Nat)) : (d.coder step rs).slip = d.slip := (MemFrame.coder d _ _).slip
@[simp] theorem Device.coder_train (step : Bool) (rs : List (Nat × Nat)) : (d.coder step rs).train = d.train := (MemFrame.coder d _ _).train
@[simp] theorem Device.coder_ing (step : Bool) (rs : List (Nat × Nat)) : (d.coder step rs).ing = d.ing := (MemFrame.coder d _ _).ing
@[simp] theorem Device.coder_fab (step : Bool) (rs : List (Nat × Nat)) : (d.coder step rs).fab = d.fab := (MemFrame.coder d _ _).fab
@[simp] theorem Device.coder_col (step : Bool) (rs : List (Nat × Nat)) : (d.coder step rs).col = d.col := (MemFrame.coder d _ _).col
@[simp] theorem Device.coder_inj (step : Bool) (rs : List (Nat × Nat)) : (d.coder step rs).inj = d.inj := (MemFrame.coder d _ _).inj
@[simp] theorem Device.coder_injw (step : Bool) (rs : List (Nat × Nat)) : (d.coder step rs).injw = d.injw := (MemFrame.coder d _ _).injw
@[simp] theorem Device.coder_hif (step : Bool) (rs : List (Nat × Nat)) : (d.coder step rs).hif = d.hif := (MemFrame.coder d _ _).hif
@[simp] theorem Device.coder_boot (step : Bool) (rs : List (Nat × Nat)) : (d.coder step rs).boot = d.boot := (MemFrame.coder d _ _).boot
@[simp] theorem Device.coder_ras (step : Bool) (rs : List (Nat × Nat)) : (d.coder step rs).ras = d.ras := (MemFrame.coder d _ _).ras
@[simp] theorem Device.coder_pwr (step : Bool) (rs : List (Nat × Nat)) : (d.coder step rs).pwr = d.pwr := (MemFrame.coder d _ _).pwr
@[simp] theorem Device.coder_out (step : Bool) (rs : List (Nat × Nat)) : (d.coder step rs).out = d.out := (MemFrame.coder d _ _).out
@[simp] theorem Device.coder_core_cap (step : Bool) (rs : List (Nat × Nat)) : (d.coder step rs).core.cap = d.core.cap := (MemFrame.coder d _ _).core_cap
@[simp] theorem Device.coder_core_queues (step : Bool) (rs : List (Nat × Nat)) : (d.coder step rs).core.queues = d.core.queues := (MemFrame.coder d _ _).core_queues
@[simp] theorem Device.coder_core_opens (step : Bool) (rs : List (Nat × Nat)) : (d.coder step rs).core.opens = d.core.opens := (MemFrame.coder d _ _).core_opens
@[simp] theorem Device.coder_core_nextCid (step : Bool) (rs : List (Nat × Nat)) : (d.coder step rs).core.nextCid = d.core.nextCid := (MemFrame.coder d _ _).core_nextCid
@[simp] theorem Device.coder_core_nextOrd (step : Bool) (rs : List (Nat × Nat)) : (d.coder step rs).core.nextOrd = d.core.nextOrd := (MemFrame.coder d _ _).core_nextOrd
@[simp] theorem Device.coder_core_done (step : Bool) (rs : List (Nat × Nat)) : (d.coder step rs).core.done = d.core.done := (MemFrame.coder d _ _).core_done
@[simp] theorem Device.coder_core_sync (step : Bool) (rs : List (Nat × Nat)) : (d.coder step rs).core.sync = d.core.sync := (MemFrame.coder d _ _).core_sync
@[simp] theorem Device.coder_core_ltc (step : Bool) (rs : List (Nat × Nat)) : (d.coder step rs).core.ltc = d.core.ltc := (MemFrame.coder d _ _).core_ltc
@[simp] theorem Device.coder_core_arb (step : Bool) (rs : List (Nat × Nat)) : (d.coder step rs).core.arb = d.core.arb := (MemFrame.coder d _ _).core_arb
@[simp] theorem Device.coder_core_grg (step : Bool) (rs : List (Nat × Nat)) : (d.coder step rs).core.grg = d.core.grg := (MemFrame.coder d _ _).core_grg
@[simp] theorem Device.coder_core_now (step : Bool) (rs : List (Nat × Nat)) : (d.coder step rs).core.now = d.core.now := (MemFrame.coder d _ _).core_now
@[simp] theorem Device.coder_core_armed (step : Bool) (rs : List (Nat × Nat)) : (d.coder step rs).core.armed = d.core.armed := (MemFrame.coder d _ _).core_armed

/-! `fetch` -/
@[simp] theorem Device.fetch_kiln (a n : Nat) : (d.fetch a n).kiln = d.kiln := (MemFrame.fetch d _ _).kiln
@[simp] theorem Device.fetch_mvp (a n : Nat) : (d.fetch a n).mvp = d.mvp := (MemFrame.fetch d _ _).mvp
@[simp] theorem Device.fetch_sts (a n : Nat) : (d.fetch a n).sts = d.sts := (MemFrame.fetch d _ _).sts
@[simp] theorem Device.fetch_vec (a n : Nat) : (d.fetch a n).vec = d.vec := (MemFrame.fetch d _ _).vec
@[simp] theorem Device.fetch_ctl (a n : Nat) : (d.fetch a n).ctl = d.ctl := (MemFrame.fetch d _ _).ctl
@[simp] theorem Device.fetch_dma (a n : Nat) : (d.fetch a n).dma = d.dma := (MemFrame.fetch d _ _).dma
@[simp] theorem Device.fetch_tier (a n : Nat) : (d.fetch a n).tier = d.tier := (MemFrame.fetch d _ _).tier
@[simp] theorem Device.fetch_slip (a n : Nat) : (d.fetch a n).slip = d.slip := (MemFrame.fetch d _ _).slip
@[simp] theorem Device.fetch_train (a n : Nat) : (d.fetch a n).train = d.train := (MemFrame.fetch d _ _).train
@[simp] theorem Device.fetch_ing (a n : Nat) : (d.fetch a n).ing = d.ing := (MemFrame.fetch d _ _).ing
@[simp] theorem Device.fetch_fab (a n : Nat) : (d.fetch a n).fab = d.fab := (MemFrame.fetch d _ _).fab
@[simp] theorem Device.fetch_col (a n : Nat) : (d.fetch a n).col = d.col := (MemFrame.fetch d _ _).col
@[simp] theorem Device.fetch_inj (a n : Nat) : (d.fetch a n).inj = d.inj := (MemFrame.fetch d _ _).inj
@[simp] theorem Device.fetch_injw (a n : Nat) : (d.fetch a n).injw = d.injw := (MemFrame.fetch d _ _).injw
@[simp] theorem Device.fetch_hif (a n : Nat) : (d.fetch a n).hif = d.hif := (MemFrame.fetch d _ _).hif
@[simp] theorem Device.fetch_boot (a n : Nat) : (d.fetch a n).boot = d.boot := (MemFrame.fetch d _ _).boot
@[simp] theorem Device.fetch_ras (a n : Nat) : (d.fetch a n).ras = d.ras := (MemFrame.fetch d _ _).ras
@[simp] theorem Device.fetch_pwr (a n : Nat) : (d.fetch a n).pwr = d.pwr := (MemFrame.fetch d _ _).pwr
@[simp] theorem Device.fetch_out (a n : Nat) : (d.fetch a n).out = d.out := (MemFrame.fetch d _ _).out
@[simp] theorem Device.fetch_core_cap (a n : Nat) : (d.fetch a n).core.cap = d.core.cap := (MemFrame.fetch d _ _).core_cap
@[simp] theorem Device.fetch_core_queues (a n : Nat) : (d.fetch a n).core.queues = d.core.queues := (MemFrame.fetch d _ _).core_queues
@[simp] theorem Device.fetch_core_opens (a n : Nat) : (d.fetch a n).core.opens = d.core.opens := (MemFrame.fetch d _ _).core_opens
@[simp] theorem Device.fetch_core_nextCid (a n : Nat) : (d.fetch a n).core.nextCid = d.core.nextCid := (MemFrame.fetch d _ _).core_nextCid
@[simp] theorem Device.fetch_core_nextOrd (a n : Nat) : (d.fetch a n).core.nextOrd = d.core.nextOrd := (MemFrame.fetch d _ _).core_nextOrd
@[simp] theorem Device.fetch_core_done (a n : Nat) : (d.fetch a n).core.done = d.core.done := (MemFrame.fetch d _ _).core_done
@[simp] theorem Device.fetch_core_sync (a n : Nat) : (d.fetch a n).core.sync = d.core.sync := (MemFrame.fetch d _ _).core_sync
@[simp] theorem Device.fetch_core_ltc (a n : Nat) : (d.fetch a n).core.ltc = d.core.ltc := (MemFrame.fetch d _ _).core_ltc
@[simp] theorem Device.fetch_core_arb (a n : Nat) : (d.fetch a n).core.arb = d.core.arb := (MemFrame.fetch d _ _).core_arb
@[simp] theorem Device.fetch_core_grg (a n : Nat) : (d.fetch a n).core.grg = d.core.grg := (MemFrame.fetch d _ _).core_grg
@[simp] theorem Device.fetch_core_now (a n : Nat) : (d.fetch a n).core.now = d.core.now := (MemFrame.fetch d _ _).core_now
@[simp] theorem Device.fetch_core_armed (a n : Nat) : (d.fetch a n).core.armed = d.core.armed := (MemFrame.fetch d _ _).core_armed

/-! `write` -/
@[simp] theorem Device.write_kiln (a : Nat) (l : List PByte) : (d.write a l).kiln = d.kiln := (MemFrame.write d _ _).kiln
@[simp] theorem Device.write_mvp (a : Nat) (l : List PByte) : (d.write a l).mvp = d.mvp := (MemFrame.write d _ _).mvp
@[simp] theorem Device.write_sts (a : Nat) (l : List PByte) : (d.write a l).sts = d.sts := (MemFrame.write d _ _).sts
@[simp] theorem Device.write_vec (a : Nat) (l : List PByte) : (d.write a l).vec = d.vec := (MemFrame.write d _ _).vec
@[simp] theorem Device.write_ctl (a : Nat) (l : List PByte) : (d.write a l).ctl = d.ctl := (MemFrame.write d _ _).ctl
@[simp] theorem Device.write_dma (a : Nat) (l : List PByte) : (d.write a l).dma = d.dma := (MemFrame.write d _ _).dma
@[simp] theorem Device.write_tier (a : Nat) (l : List PByte) : (d.write a l).tier = d.tier := (MemFrame.write d _ _).tier
@[simp] theorem Device.write_slip (a : Nat) (l : List PByte) : (d.write a l).slip = d.slip := (MemFrame.write d _ _).slip
@[simp] theorem Device.write_train (a : Nat) (l : List PByte) : (d.write a l).train = d.train := (MemFrame.write d _ _).train
@[simp] theorem Device.write_ing (a : Nat) (l : List PByte) : (d.write a l).ing = d.ing := (MemFrame.write d _ _).ing
@[simp] theorem Device.write_fab (a : Nat) (l : List PByte) : (d.write a l).fab = d.fab := (MemFrame.write d _ _).fab
@[simp] theorem Device.write_col (a : Nat) (l : List PByte) : (d.write a l).col = d.col := (MemFrame.write d _ _).col
@[simp] theorem Device.write_inj (a : Nat) (l : List PByte) : (d.write a l).inj = d.inj := (MemFrame.write d _ _).inj
@[simp] theorem Device.write_injw (a : Nat) (l : List PByte) : (d.write a l).injw = d.injw := (MemFrame.write d _ _).injw
@[simp] theorem Device.write_hif (a : Nat) (l : List PByte) : (d.write a l).hif = d.hif := (MemFrame.write d _ _).hif
@[simp] theorem Device.write_boot (a : Nat) (l : List PByte) : (d.write a l).boot = d.boot := (MemFrame.write d _ _).boot
@[simp] theorem Device.write_ras (a : Nat) (l : List PByte) : (d.write a l).ras = d.ras := (MemFrame.write d _ _).ras
@[simp] theorem Device.write_pwr (a : Nat) (l : List PByte) : (d.write a l).pwr = d.pwr := (MemFrame.write d _ _).pwr
@[simp] theorem Device.write_out (a : Nat) (l : List PByte) : (d.write a l).out = d.out := (MemFrame.write d _ _).out
@[simp] theorem Device.write_core_cap (a : Nat) (l : List PByte) : (d.write a l).core.cap = d.core.cap := (MemFrame.write d _ _).core_cap
@[simp] theorem Device.write_core_queues (a : Nat) (l : List PByte) : (d.write a l).core.queues = d.core.queues := (MemFrame.write d _ _).core_queues
@[simp] theorem Device.write_core_opens (a : Nat) (l : List PByte) : (d.write a l).core.opens = d.core.opens := (MemFrame.write d _ _).core_opens
@[simp] theorem Device.write_core_nextCid (a : Nat) (l : List PByte) : (d.write a l).core.nextCid = d.core.nextCid := (MemFrame.write d _ _).core_nextCid
@[simp] theorem Device.write_core_nextOrd (a : Nat) (l : List PByte) : (d.write a l).core.nextOrd = d.core.nextOrd := (MemFrame.write d _ _).core_nextOrd
@[simp] theorem Device.write_core_done (a : Nat) (l : List PByte) : (d.write a l).core.done = d.core.done := (MemFrame.write d _ _).core_done
@[simp] theorem Device.write_core_sync (a : Nat) (l : List PByte) : (d.write a l).core.sync = d.core.sync := (MemFrame.write d _ _).core_sync
@[simp] theorem Device.write_core_ltc (a : Nat) (l : List PByte) : (d.write a l).core.ltc = d.core.ltc := (MemFrame.write d _ _).core_ltc
@[simp] theorem Device.write_core_arb (a : Nat) (l : List PByte) : (d.write a l).core.arb = d.core.arb := (MemFrame.write d _ _).core_arb
@[simp] theorem Device.write_core_grg (a : Nat) (l : List PByte) : (d.write a l).core.grg = d.core.grg := (MemFrame.write d _ _).core_grg
@[simp] theorem Device.write_core_now (a : Nat) (l : List PByte) : (d.write a l).core.now = d.core.now := (MemFrame.write d _ _).core_now
@[simp] theorem Device.write_core_armed (a : Nat) (l : List PByte) : (d.write a l).core.armed = d.core.armed := (MemFrame.write d _ _).core_armed

/-! `writes` -/
@[simp] theorem Device.writes_kiln (l : List (Nat × List PByte)) : (d.writes l).kiln = d.kiln := (MemFrame.writes d _).kiln
@[simp] theorem Device.writes_mvp (l : List (Nat × List PByte)) : (d.writes l).mvp = d.mvp := (MemFrame.writes d _).mvp
@[simp] theorem Device.writes_sts (l : List (Nat × List PByte)) : (d.writes l).sts = d.sts := (MemFrame.writes d _).sts
@[simp] theorem Device.writes_vec (l : List (Nat × List PByte)) : (d.writes l).vec = d.vec := (MemFrame.writes d _).vec
@[simp] theorem Device.writes_ctl (l : List (Nat × List PByte)) : (d.writes l).ctl = d.ctl := (MemFrame.writes d _).ctl
@[simp] theorem Device.writes_dma (l : List (Nat × List PByte)) : (d.writes l).dma = d.dma := (MemFrame.writes d _).dma
@[simp] theorem Device.writes_tier (l : List (Nat × List PByte)) : (d.writes l).tier = d.tier := (MemFrame.writes d _).tier
@[simp] theorem Device.writes_slip (l : List (Nat × List PByte)) : (d.writes l).slip = d.slip := (MemFrame.writes d _).slip
@[simp] theorem Device.writes_train (l : List (Nat × List PByte)) : (d.writes l).train = d.train := (MemFrame.writes d _).train
@[simp] theorem Device.writes_ing (l : List (Nat × List PByte)) : (d.writes l).ing = d.ing := (MemFrame.writes d _).ing
@[simp] theorem Device.writes_fab (l : List (Nat × List PByte)) : (d.writes l).fab = d.fab := (MemFrame.writes d _).fab
@[simp] theorem Device.writes_col (l : List (Nat × List PByte)) : (d.writes l).col = d.col := (MemFrame.writes d _).col
@[simp] theorem Device.writes_inj (l : List (Nat × List PByte)) : (d.writes l).inj = d.inj := (MemFrame.writes d _).inj
@[simp] theorem Device.writes_injw (l : List (Nat × List PByte)) : (d.writes l).injw = d.injw := (MemFrame.writes d _).injw
@[simp] theorem Device.writes_hif (l : List (Nat × List PByte)) : (d.writes l).hif = d.hif := (MemFrame.writes d _).hif
@[simp] theorem Device.writes_boot (l : List (Nat × List PByte)) : (d.writes l).boot = d.boot := (MemFrame.writes d _).boot
@[simp] theorem Device.writes_ras (l : List (Nat × List PByte)) : (d.writes l).ras = d.ras := (MemFrame.writes d _).ras
@[simp] theorem Device.writes_pwr (l : List (Nat × List PByte)) : (d.writes l).pwr = d.pwr := (MemFrame.writes d _).pwr
@[simp] theorem Device.writes_out (l : List (Nat × List PByte)) : (d.writes l).out = d.out := (MemFrame.writes d _).out
@[simp] theorem Device.writes_core_cap (l : List (Nat × List PByte)) : (d.writes l).core.cap = d.core.cap := (MemFrame.writes d _).core_cap
@[simp] theorem Device.writes_core_queues (l : List (Nat × List PByte)) : (d.writes l).core.queues = d.core.queues := (MemFrame.writes d _).core_queues
@[simp] theorem Device.writes_core_opens (l : List (Nat × List PByte)) : (d.writes l).core.opens = d.core.opens := (MemFrame.writes d _).core_opens
@[simp] theorem Device.writes_core_nextCid (l : List (Nat × List PByte)) : (d.writes l).core.nextCid = d.core.nextCid := (MemFrame.writes d _).core_nextCid
@[simp] theorem Device.writes_core_nextOrd (l : List (Nat × List PByte)) : (d.writes l).core.nextOrd = d.core.nextOrd := (MemFrame.writes d _).core_nextOrd
@[simp] theorem Device.writes_core_done (l : List (Nat × List PByte)) : (d.writes l).core.done = d.core.done := (MemFrame.writes d _).core_done
@[simp] theorem Device.writes_core_sync (l : List (Nat × List PByte)) : (d.writes l).core.sync = d.core.sync := (MemFrame.writes d _).core_sync
@[simp] theorem Device.writes_core_ltc (l : List (Nat × List PByte)) : (d.writes l).core.ltc = d.core.ltc := (MemFrame.writes d _).core_ltc
@[simp] theorem Device.writes_core_arb (l : List (Nat × List PByte)) : (d.writes l).core.arb = d.core.arb := (MemFrame.writes d _).core_arb
@[simp] theorem Device.writes_core_grg (l : List (Nat × List PByte)) : (d.writes l).core.grg = d.core.grg := (MemFrame.writes d _).core_grg
@[simp] theorem Device.writes_core_now (l : List (Nat × List PByte)) : (d.writes l).core.now = d.core.now := (MemFrame.writes d _).core_now
@[simp] theorem Device.writes_core_armed (l : List (Nat × List PByte)) : (d.writes l).core.armed = d.core.armed := (MemFrame.writes d _).core_armed

/-! `slipStatus` -/
@[simp] theorem Device.slipStatus_kiln (c : Cmd) (rank : Nat) (m : SlipMem) (status cause : Nat) : (d.slipStatus c rank m status cause).kiln = d.kiln := (MemFrame.slipStatus d _ _ _ _ _).kiln
@[simp] theorem Device.slipStatus_mvp (c : Cmd) (rank : Nat) (m : SlipMem) (status cause : Nat) : (d.slipStatus c rank m status cause).mvp = d.mvp := (MemFrame.slipStatus d _ _ _ _ _).mvp
@[simp] theorem Device.slipStatus_sts (c : Cmd) (rank : Nat) (m : SlipMem) (status cause : Nat) : (d.slipStatus c rank m status cause).sts = d.sts := (MemFrame.slipStatus d _ _ _ _ _).sts
@[simp] theorem Device.slipStatus_vec (c : Cmd) (rank : Nat) (m : SlipMem) (status cause : Nat) : (d.slipStatus c rank m status cause).vec = d.vec := (MemFrame.slipStatus d _ _ _ _ _).vec
@[simp] theorem Device.slipStatus_ctl (c : Cmd) (rank : Nat) (m : SlipMem) (status cause : Nat) : (d.slipStatus c rank m status cause).ctl = d.ctl := (MemFrame.slipStatus d _ _ _ _ _).ctl
@[simp] theorem Device.slipStatus_dma (c : Cmd) (rank : Nat) (m : SlipMem) (status cause : Nat) : (d.slipStatus c rank m status cause).dma = d.dma := (MemFrame.slipStatus d _ _ _ _ _).dma
@[simp] theorem Device.slipStatus_tier (c : Cmd) (rank : Nat) (m : SlipMem) (status cause : Nat) : (d.slipStatus c rank m status cause).tier = d.tier := (MemFrame.slipStatus d _ _ _ _ _).tier
@[simp] theorem Device.slipStatus_slip (c : Cmd) (rank : Nat) (m : SlipMem) (status cause : Nat) : (d.slipStatus c rank m status cause).slip = d.slip := (MemFrame.slipStatus d _ _ _ _ _).slip
@[simp] theorem Device.slipStatus_train (c : Cmd) (rank : Nat) (m : SlipMem) (status cause : Nat) : (d.slipStatus c rank m status cause).train = d.train := (MemFrame.slipStatus d _ _ _ _ _).train
@[simp] theorem Device.slipStatus_ing (c : Cmd) (rank : Nat) (m : SlipMem) (status cause : Nat) : (d.slipStatus c rank m status cause).ing = d.ing := (MemFrame.slipStatus d _ _ _ _ _).ing
@[simp] theorem Device.slipStatus_fab (c : Cmd) (rank : Nat) (m : SlipMem) (status cause : Nat) : (d.slipStatus c rank m status cause).fab = d.fab := (MemFrame.slipStatus d _ _ _ _ _).fab
@[simp] theorem Device.slipStatus_col (c : Cmd) (rank : Nat) (m : SlipMem) (status cause : Nat) : (d.slipStatus c rank m status cause).col = d.col := (MemFrame.slipStatus d _ _ _ _ _).col
@[simp] theorem Device.slipStatus_inj (c : Cmd) (rank : Nat) (m : SlipMem) (status cause : Nat) : (d.slipStatus c rank m status cause).inj = d.inj := (MemFrame.slipStatus d _ _ _ _ _).inj
@[simp] theorem Device.slipStatus_injw (c : Cmd) (rank : Nat) (m : SlipMem) (status cause : Nat) : (d.slipStatus c rank m status cause).injw = d.injw := (MemFrame.slipStatus d _ _ _ _ _).injw
@[simp] theorem Device.slipStatus_hif (c : Cmd) (rank : Nat) (m : SlipMem) (status cause : Nat) : (d.slipStatus c rank m status cause).hif = d.hif := (MemFrame.slipStatus d _ _ _ _ _).hif
@[simp] theorem Device.slipStatus_boot (c : Cmd) (rank : Nat) (m : SlipMem) (status cause : Nat) : (d.slipStatus c rank m status cause).boot = d.boot := (MemFrame.slipStatus d _ _ _ _ _).boot
@[simp] theorem Device.slipStatus_ras (c : Cmd) (rank : Nat) (m : SlipMem) (status cause : Nat) : (d.slipStatus c rank m status cause).ras = d.ras := (MemFrame.slipStatus d _ _ _ _ _).ras
@[simp] theorem Device.slipStatus_pwr (c : Cmd) (rank : Nat) (m : SlipMem) (status cause : Nat) : (d.slipStatus c rank m status cause).pwr = d.pwr := (MemFrame.slipStatus d _ _ _ _ _).pwr
@[simp] theorem Device.slipStatus_out (c : Cmd) (rank : Nat) (m : SlipMem) (status cause : Nat) : (d.slipStatus c rank m status cause).out = d.out := (MemFrame.slipStatus d _ _ _ _ _).out
@[simp] theorem Device.slipStatus_core_cap (c : Cmd) (rank : Nat) (m : SlipMem) (status cause : Nat) : (d.slipStatus c rank m status cause).core.cap = d.core.cap := (MemFrame.slipStatus d _ _ _ _ _).core_cap
@[simp] theorem Device.slipStatus_core_queues (c : Cmd) (rank : Nat) (m : SlipMem) (status cause : Nat) : (d.slipStatus c rank m status cause).core.queues = d.core.queues := (MemFrame.slipStatus d _ _ _ _ _).core_queues
@[simp] theorem Device.slipStatus_core_opens (c : Cmd) (rank : Nat) (m : SlipMem) (status cause : Nat) : (d.slipStatus c rank m status cause).core.opens = d.core.opens := (MemFrame.slipStatus d _ _ _ _ _).core_opens
@[simp] theorem Device.slipStatus_core_nextCid (c : Cmd) (rank : Nat) (m : SlipMem) (status cause : Nat) : (d.slipStatus c rank m status cause).core.nextCid = d.core.nextCid := (MemFrame.slipStatus d _ _ _ _ _).core_nextCid
@[simp] theorem Device.slipStatus_core_nextOrd (c : Cmd) (rank : Nat) (m : SlipMem) (status cause : Nat) : (d.slipStatus c rank m status cause).core.nextOrd = d.core.nextOrd := (MemFrame.slipStatus d _ _ _ _ _).core_nextOrd
@[simp] theorem Device.slipStatus_core_done (c : Cmd) (rank : Nat) (m : SlipMem) (status cause : Nat) : (d.slipStatus c rank m status cause).core.done = d.core.done := (MemFrame.slipStatus d _ _ _ _ _).core_done
@[simp] theorem Device.slipStatus_core_sync (c : Cmd) (rank : Nat) (m : SlipMem) (status cause : Nat) : (d.slipStatus c rank m status cause).core.sync = d.core.sync := (MemFrame.slipStatus d _ _ _ _ _).core_sync
@[simp] theorem Device.slipStatus_core_ltc (c : Cmd) (rank : Nat) (m : SlipMem) (status cause : Nat) : (d.slipStatus c rank m status cause).core.ltc = d.core.ltc := (MemFrame.slipStatus d _ _ _ _ _).core_ltc
@[simp] theorem Device.slipStatus_core_arb (c : Cmd) (rank : Nat) (m : SlipMem) (status cause : Nat) : (d.slipStatus c rank m status cause).core.arb = d.core.arb := (MemFrame.slipStatus d _ _ _ _ _).core_arb
@[simp] theorem Device.slipStatus_core_grg (c : Cmd) (rank : Nat) (m : SlipMem) (status cause : Nat) : (d.slipStatus c rank m status cause).core.grg = d.core.grg := (MemFrame.slipStatus d _ _ _ _ _).core_grg
@[simp] theorem Device.slipStatus_core_now (c : Cmd) (rank : Nat) (m : SlipMem) (status cause : Nat) : (d.slipStatus c rank m status cause).core.now = d.core.now := (MemFrame.slipStatus d _ _ _ _ _).core_now
@[simp] theorem Device.slipStatus_core_armed (c : Cmd) (rank : Nat) (m : SlipMem) (status cause : Nat) : (d.slipStatus c rank m status cause).core.armed = d.core.armed := (MemFrame.slipStatus d _ _ _ _ _).core_armed

/-! `idleRecords` -/
@[simp] theorem Device.idleRecords_kiln (q : Nat) (c : Cmd) (status : Nat) : (d.idleRecords q c status).kiln = d.kiln := (MemFrame.idleRecords d _ _ _).kiln
@[simp] theorem Device.idleRecords_mvp (q : Nat) (c : Cmd) (status : Nat) : (d.idleRecords q c status).mvp = d.mvp := (MemFrame.idleRecords d _ _ _).mvp
@[simp] theorem Device.idleRecords_sts (q : Nat) (c : Cmd) (status : Nat) : (d.idleRecords q c status).sts = d.sts := (MemFrame.idleRecords d _ _ _).sts
@[simp] theorem Device.idleRecords_vec (q : Nat) (c : Cmd) (status : Nat) : (d.idleRecords q c status).vec = d.vec := (MemFrame.idleRecords d _ _ _).vec
@[simp] theorem Device.idleRecords_ctl (q : Nat) (c : Cmd) (status : Nat) : (d.idleRecords q c status).ctl = d.ctl := (MemFrame.idleRecords d _ _ _).ctl
@[simp] theorem Device.idleRecords_dma (q : Nat) (c : Cmd) (status : Nat) : (d.idleRecords q c status).dma = d.dma := (MemFrame.idleRecords d _ _ _).dma
@[simp] theorem Device.idleRecords_tier (q : Nat) (c : Cmd) (status : Nat) : (d.idleRecords q c status).tier = d.tier := (MemFrame.idleRecords d _ _ _).tier
@[simp] theorem Device.idleRecords_slip (q : Nat) (c : Cmd) (status : Nat) : (d.idleRecords q c status).slip = d.slip := (MemFrame.idleRecords d _ _ _).slip
@[simp] theorem Device.idleRecords_train (q : Nat) (c : Cmd) (status : Nat) : (d.idleRecords q c status).train = d.train := (MemFrame.idleRecords d _ _ _).train
@[simp] theorem Device.idleRecords_ing (q : Nat) (c : Cmd) (status : Nat) : (d.idleRecords q c status).ing = d.ing := (MemFrame.idleRecords d _ _ _).ing
@[simp] theorem Device.idleRecords_fab (q : Nat) (c : Cmd) (status : Nat) : (d.idleRecords q c status).fab = d.fab := (MemFrame.idleRecords d _ _ _).fab
@[simp] theorem Device.idleRecords_col (q : Nat) (c : Cmd) (status : Nat) : (d.idleRecords q c status).col = d.col := (MemFrame.idleRecords d _ _ _).col
@[simp] theorem Device.idleRecords_inj (q : Nat) (c : Cmd) (status : Nat) : (d.idleRecords q c status).inj = d.inj := (MemFrame.idleRecords d _ _ _).inj
@[simp] theorem Device.idleRecords_injw (q : Nat) (c : Cmd) (status : Nat) : (d.idleRecords q c status).injw = d.injw := (MemFrame.idleRecords d _ _ _).injw
@[simp] theorem Device.idleRecords_hif (q : Nat) (c : Cmd) (status : Nat) : (d.idleRecords q c status).hif = d.hif := (MemFrame.idleRecords d _ _ _).hif
@[simp] theorem Device.idleRecords_boot (q : Nat) (c : Cmd) (status : Nat) : (d.idleRecords q c status).boot = d.boot := (MemFrame.idleRecords d _ _ _).boot
@[simp] theorem Device.idleRecords_ras (q : Nat) (c : Cmd) (status : Nat) : (d.idleRecords q c status).ras = d.ras := (MemFrame.idleRecords d _ _ _).ras
@[simp] theorem Device.idleRecords_pwr (q : Nat) (c : Cmd) (status : Nat) : (d.idleRecords q c status).pwr = d.pwr := (MemFrame.idleRecords d _ _ _).pwr
@[simp] theorem Device.idleRecords_out (q : Nat) (c : Cmd) (status : Nat) : (d.idleRecords q c status).out = d.out := (MemFrame.idleRecords d _ _ _).out
@[simp] theorem Device.idleRecords_core_cap (q : Nat) (c : Cmd) (status : Nat) : (d.idleRecords q c status).core.cap = d.core.cap := (MemFrame.idleRecords d _ _ _).core_cap
@[simp] theorem Device.idleRecords_core_queues (q : Nat) (c : Cmd) (status : Nat) : (d.idleRecords q c status).core.queues = d.core.queues := (MemFrame.idleRecords d _ _ _).core_queues
@[simp] theorem Device.idleRecords_core_opens (q : Nat) (c : Cmd) (status : Nat) : (d.idleRecords q c status).core.opens = d.core.opens := (MemFrame.idleRecords d _ _ _).core_opens
@[simp] theorem Device.idleRecords_core_nextCid (q : Nat) (c : Cmd) (status : Nat) : (d.idleRecords q c status).core.nextCid = d.core.nextCid := (MemFrame.idleRecords d _ _ _).core_nextCid
@[simp] theorem Device.idleRecords_core_nextOrd (q : Nat) (c : Cmd) (status : Nat) : (d.idleRecords q c status).core.nextOrd = d.core.nextOrd := (MemFrame.idleRecords d _ _ _).core_nextOrd
@[simp] theorem Device.idleRecords_core_done (q : Nat) (c : Cmd) (status : Nat) : (d.idleRecords q c status).core.done = d.core.done := (MemFrame.idleRecords d _ _ _).core_done
@[simp] theorem Device.idleRecords_core_sync (q : Nat) (c : Cmd) (status : Nat) : (d.idleRecords q c status).core.sync = d.core.sync := (MemFrame.idleRecords d _ _ _).core_sync
@[simp] theorem Device.idleRecords_core_ltc (q : Nat) (c : Cmd) (status : Nat) : (d.idleRecords q c status).core.ltc = d.core.ltc := (MemFrame.idleRecords d _ _ _).core_ltc
@[simp] theorem Device.idleRecords_core_arb (q : Nat) (c : Cmd) (status : Nat) : (d.idleRecords q c status).core.arb = d.core.arb := (MemFrame.idleRecords d _ _ _).core_arb
@[simp] theorem Device.idleRecords_core_grg (q : Nat) (c : Cmd) (status : Nat) : (d.idleRecords q c status).core.grg = d.core.grg := (MemFrame.idleRecords d _ _ _).core_grg
@[simp] theorem Device.idleRecords_core_now (q : Nat) (c : Cmd) (status : Nat) : (d.idleRecords q c status).core.now = d.core.now := (MemFrame.idleRecords d _ _ _).core_now
@[simp] theorem Device.idleRecords_core_armed (q : Nat) (c : Cmd) (status : Nat) : (d.idleRecords q c status).core.armed = d.core.armed := (MemFrame.idleRecords d _ _ _).core_armed

@[simp] theorem Device.idleRecords_fault (q : Nat) (c : Cmd) : d.idleRecords q c stFault = d := by simp [Device.idleRecords]

theorem Device.watched_none (h : d.core.watch = none) (rs : List (Nat × Nat)) : d.watched rs = d := by
  unfold Device.watched; rw [h]

/-- With no symbol gone bad and no access tried in advance, a read through a coder changes nothing. -/
theorem Device.coder_clean (step : Bool) (rs : List (Nat × Nat)) (hf : d.core.flaws = []) (hw : d.core.watch = none) : d.coder step rs = d := by
  simp [Device.coder, Device.flawedIn, hf, d.watched_none hw]

theorem Device.fetch_clean (a n : Nat) (hf : d.core.flaws = []) (hw : d.core.watch = none) : d.fetch a n = d := d.coder_clean false _ hf hw

/-- And a write changes memory and poison marks, and nothing else. -/
theorem Device.write_clean (a : Nat) (l : List PByte) (hf : d.core.flaws = []) (hw : d.core.watch = none) :
    d.write a l = { d with core.mem := (d.write a l).core.mem, core.pois := (d.write a l).core.pois } := by
  unfold Device.write; split
  · rfl
  · simp only [Device.flawedIn, hf, d.watched_none hw, List.map_nil, List.filter_nil, List.foldl_nil]
    rw [Core.markUnits_only, Core.pokeBytes_regs]

/-- `e` is `d` with only LASTSEQ fields changed. -/
def LastFrame (d e : Device) : Prop :=
  e = { d with kiln.parts := e.kiln.parts, mvp := e.mvp, sts := e.sts, vec.last := e.vec.last, train := e.train, col := e.col
               slip.byStack := e.slip.byStack, tier.segs := e.tier.segs, ing.last := e.ing.last }

theorem LastFrame.noteLast (q seq : Nat) : LastFrame d (d.noteLast q seq) := by
  unfold Device.noteLast
  repeat (refine iteInd (LastFrame d) rfl ?_)
  rfl
theorem LastFrame.core {d e : Device} (h : LastFrame d e) : e.core = d.core := by rw [h]
theorem LastFrame.ctl {d e : Device} (h : LastFrame d e) : e.ctl = d.ctl := by rw [h]
theorem LastFrame.dma {d e : Device} (h : LastFrame d e) : e.dma = d.dma := by rw [h]
theorem LastFrame.fab {d e : Device} (h : LastFrame d e) : e.fab = d.fab := by rw [h]
theorem LastFrame.inj {d e : Device} (h : LastFrame d e) : e.inj = d.inj := by rw [h]
theorem LastFrame.injw {d e : Device} (h : LastFrame d e) : e.injw = d.injw := by rw [h]
theorem LastFrame.hif {d e : Device} (h : LastFrame d e) : e.hif = d.hif := by rw [h]
theorem LastFrame.boot {d e : Device} (h : LastFrame d e) : e.boot = d.boot := by rw [h]
theorem LastFrame.ras {d e : Device} (h : LastFrame d e) : e.ras = d.ras := by rw [h]
theorem LastFrame.pwr {d e : Device} (h : LastFrame d e) : e.pwr = d.pwr := by rw [h]
theorem LastFrame.out {d e : Device} (h : LastFrame d e) : e.out = d.out := by rw [h]

/-- `e` is `d` after parts of commands have ended: queues, commands that are open, completions, sync counters, events and what latches
or shows an end may differ; no register, no memory. -/
def EndFrame (d e : Device) : Prop :=
  e = { d with kiln.parts := e.kiln.parts, mvp := e.mvp, sts := e.sts, vec.last := e.vec.last, ctl := e.ctl, dma := e.dma, tier := e.tier
               slip := e.slip, train := e.train, ing := e.ing, col := e.col
               core := { d.core with queues := e.core.queues, opens := e.core.opens, done := e.core.done, sync := e.core.sync, evq := e.core.evq } }

/-- The same where a part that ends also writes a record in memory. -/
def UnrunFrame (d e : Device) : Prop :=
  e = { d with kiln.parts := e.kiln.parts, mvp := e.mvp, sts := e.sts, vec.last := e.vec.last, ctl := e.ctl, dma := e.dma, tier := e.tier
               slip := e.slip, train := e.train, ing := e.ing, col := e.col
               core := { d.core with
                 queues := e.core.queues, opens := e.core.opens, done := e.core.done, sync := e.core.sync, evq := e.core.evq
                 regs := e.core.regs, mem := e.core.mem, pois := e.core.pois, flaws := e.core.flaws, cePost := e.core.cePost
                 crossed := e.core.crossed, hourly := e.core.hourly, freeN := e.core.freeN, watch := e.core.watch } }

theorem EndFrame.refl : EndFrame d d := rfl
theorem UnrunFrame.refl : UnrunFrame d d := rfl
theorem EndFrame.trans {d e f : Device} (h : EndFrame d e) (g : EndFrame e f) : EndFrame d f := by
  unfold EndFrame at g ⊢; rw [h] at g; exact g
theorem UnrunFrame.trans {d e f : Device} (h : UnrunFrame d e) (g : UnrunFrame e f) : UnrunFrame d f := by
  unfold UnrunFrame at g ⊢; rw [h] at g; exact g
theorem EndFrame.unrun {d e : Device} (h : EndFrame d e) : UnrunFrame d e := by
  unfold UnrunFrame; rw [h]
theorem MemFrame.unrun {d e : Device} (h : MemFrame d e) : UnrunFrame d e := by
  unfold UnrunFrame; rw [h]
theorem LastFrame.ended {d e : Device} (h : LastFrame d e) : EndFrame d e := by
  unfold EndFrame; rw [h]
theorem EndFrame.fold {α : Type} (f : Device → α → Device) (h : ∀ d a, EndFrame d (f d a)) (l : List α) (d : Device) : EndFrame d (l.foldl f d) := by
  induction l generalizing d with
  | nil => exact .refl d
  | cons a l ih => exact (h d a).trans (ih _)
theorem UnrunFrame.fold {α : Type} (f : Device → α → Device) (h : ∀ d a, UnrunFrame d (f d a)) (l : List α) (d : Device) : UnrunFrame d (l.foldl f d) := by
  induction l generalizing d with
  | nil => exact .refl d
  | cons a l ih => exact (h d a).trans (ih _)

theorem EndFrame.post (c u : Nat) (w : Word) : EndFrame d (d.post c u w) := rfl
theorem EndFrame.setQueue (q : Nat) (l : List Cmd) : EndFrame d (d.setQueue q l) := rfl
theorem EndFrame.popCmd (q : Nat) : EndFrame d (d.popCmd q) := rfl
theorem EndFrame.putSync (die c v : Nat) : EndFrame d (d.putSync die c v) := rfl
theorem EndFrame.setSync (die c v : Nat) : EndFrame d (d.setSync die c v) := iteInd (EndFrame d) (.refl d) (.putSync d _ _ _)
theorem EndFrame.haltStream (die s cause index : Nat) : EndFrame d (d.haltStream die s cause index) := rfl
theorem EndFrame.signalled (o : Open) : EndFrame d (if o.sigen then d.signal o.sigDie o.ctr else d) :=
  iteInd (EndFrame d) (.putSync _ _ _ _) (.refl d)
theorem EndFrame.closeCmd (o : Open) : EndFrame d (d.closeCmd o) := by
  have h : EndFrame d { d with core.done := d.core.done ++ [{ die := o.die, stream := o.stream, index := o.index, word := o.completion }] } := rfl
  exact (h.trans (.signalled _ o)).trans (iteInd (EndFrame _) (.haltStream _ _ _ _ _) (.refl _))
theorem EndFrame.completePart (cid n status nfail first : Nat) : EndFrame d (d.completePart cid n status nfail first) := by
  unfold Device.completePart
  exact iteInd (EndFrame d) (.refl d) (iteInd (EndFrame d) (EndFrame.trans (e := { d with core.opens := _ }) rfl (.closeCmd _ _)) rfl)
theorem EndFrame.invalidSlots (c : Cmd) : EndFrame d (d.invalidSlots c) := rfl
theorem EndFrame.endUnrun (q : Nat) (c : Cmd) : EndFrame d (d.endUnrun q c stFault) := by
  simpa [Device.endUnrun] using EndFrame.completePart d _ _ _ _ _
theorem UnrunFrame.endUnrun (q : Nat) (c : Cmd) (status : Nat) : UnrunFrame d (d.endUnrun q c status) := by
  unfold Device.endUnrun
  have h : UnrunFrame d (if 520 ≤ q ∧ q < 584 ∧ status ≠ stFault then d.invalidSlots c else d) := iteInd (UnrunFrame d) rfl (.refl d)
  exact (h.trans (MemFrame.idleRecords _ _ _ _).unrun).trans (EndFrame.completePart _ _ _ _ _ _).unrun
theorem EndFrame.endQueued (q : Nat) (c : Cmd) : EndFrame d (d.endQueued q c stFault) := (LastFrame.noteLast d _ _).ended.trans (.endUnrun _ _ _)
theorem UnrunFrame.endQueued (q : Nat) (c : Cmd) (status : Nat) : UnrunFrame d (d.endQueued q c status) :=
  (LastFrame.noteLast d _ _).ended.unrun.trans (.endUnrun _ _ _ _)
theorem EndFrame.pullAll (c : Cmd) : EndFrame d (d.pullAll c stFault) :=
  .fold _ (fun d _ => (EndFrame.setQueue d _ _).trans (.fold _ (fun d _ => .endQueued d _ _) _ _)) _ _
theorem UnrunFrame.pullAll (c : Cmd) (status : Nat) : UnrunFrame d (d.pullAll c status) :=
  .fold _ (fun d _ => (EndFrame.setQueue d _ _).unrun.trans (.fold _ (fun d _ => .endQueued d _ _ _) _ _)) _ _
/-- A command refused changes no register and no memory (R514). -/
theorem EndFrame.refuse (q : Nat) (c : Cmd) (code unit : Nat) (data : Word) : EndFrame d (d.refuse q c code unit data) :=
  (EndFrame.post d code unit data).trans (iteInd (EndFrame _) (.pullAll _ _) ((EndFrame.popCmd _ q).trans (.endQueued _ _ _)))


/-! What `EndFrame` leaves alone, field by field. -/
theorem EndFrame.fab {d e : Device} (h : EndFrame d e) : e.fab = d.fab := by rw [h]
theorem EndFrame.inj {d e : Device} (h : EndFrame d e) : e.inj = d.inj := by rw [h]
theorem EndFrame.injw {d e : Device} (h : EndFrame d e) : e.injw = d.injw := by rw [h]
theorem EndFrame.hif {d e : Device} (h : EndFrame d e) : e.hif = d.hif := by rw [h]
theorem EndFrame.boot {d e : Device} (h : EndFrame d e) : e.boot = d.boot := by rw [h]
theorem EndFrame.ras {d e : Device} (h : EndFrame d e) : e.ras = d.ras := by rw [h]
theorem EndFrame.pwr {d e : Device} (h : EndFrame d e) : e.pwr = d.pwr := by rw [h]
theorem EndFrame.out {d e : Device} (h : EndFrame d e) : e.out = d.out := by rw [h]
theorem EndFrame.core_regs {d e : Device} (h : EndFrame d e) : e.core.regs = d.core.regs := by rw [h]
theorem EndFrame.core_mem {d e : Device} (h : EndFrame d e) : e.core.mem = d.core.mem := by rw [h]
theorem EndFrame.core_pois {d e : Device} (h : EndFrame d e) : e.core.pois = d.core.pois := by rw [h]
theorem EndFrame.core_flaws {d e : Device} (h : EndFrame d e) : e.core.flaws = d.core.flaws := by rw [h]
theorem EndFrame.core_cap {d e : Device} (h : EndFrame d e) : e.core.cap = d.core.cap := by rw [h]
theorem EndFrame.core_nextCid {d e : Device} (h : EndFrame d e) : e.core.nextCid = d.core.nextCid := by rw [h]
theorem EndFrame.core_nextOrd {d e : Device} (h : EndFrame d e) : e.core.nextOrd = d.core.nextOrd := by rw [h]
theorem EndFrame.core_ltc {d e : Device} (h : EndFrame d e) : e.core.ltc = d.core.ltc := by rw [h]
theorem EndFrame.core_arb {d e : Device} (h : EndFrame d e) : e.core.arb = d.core.arb := by rw [h]
theorem EndFrame.core_grg {d e : Device} (h : EndFrame d e) : e.core.grg = d.core.grg := by rw [h]
theorem EndFrame.core_cePost {d e : Device} (h : EndFrame d e) : e.core.cePost = d.core.cePost := by rw [h]
theorem EndFrame.core_crossed {d e : Device} (h : EndFrame d e) : e.core.crossed = d.core.crossed := by rw [h]
theorem EndFrame.core_hourly {d e : Device} (h : EndFrame d e) : e.core.hourly = d.core.hourly := by rw [h]
theorem EndFrame.core_now {d e : Device} (h : EndFrame d e) : e.core.now = d.core.now := by rw [h]
theorem EndFrame.core_armed {d e : Device} (h : EndFrame d e) : e.core.armed = d.core.armed := by rw [h]
theorem EndFrame.core_freeN {d e : Device} (h : EndFrame d e) : e.core.freeN = d.core.freeN := by rw [h]
theorem EndFrame.core_watch {d e : Device} (h : EndFrame d e) : e.core.watch = d.core.watch := by rw [h]

/-! What `UnrunFrame` leaves alone, field by field. -/
theorem UnrunFrame.fab {d e : Device} (h : UnrunFrame d e) : e.fab = d.fab := by rw [h]
theorem UnrunFrame.inj {d e : Device} (h : UnrunFrame d e) : e.inj = d.inj := by rw [h]
theorem UnrunFrame.injw {d e : Device} (h : UnrunFrame d e) : e.injw = d.injw := by rw [h]
theorem UnrunFrame.hif {d e : Device} (h : UnrunFrame d e) : e.hif = d.hif := by rw [h]
theorem UnrunFrame.boot {d e : Device} (h : UnrunFrame d e) : e.boot = d.boot := by rw [h]
theorem UnrunFrame.ras {d e : Device} (h : UnrunFrame d e) : e.ras = d.ras := by rw [h]
theorem UnrunFrame.pwr {d e : Device} (h : UnrunFrame d e) : e.pwr = d.pwr := by rw [h]
theorem UnrunFrame.out {d e : Device} (h : UnrunFrame d e) : e.out = d.out := by rw [h]
theorem UnrunFrame.core_cap {d e : Device} (h : UnrunFrame d e) : e.core.cap = d.core.cap := by rw [h]
theorem UnrunFrame.core_nextCid {d e : Device} (h : UnrunFrame d e) : e.core.nextCid = d.core.nextCid := by rw [h]
theorem UnrunFrame.core_nextOrd {d e : Device} (h : UnrunFrame d e) : e.core.nextOrd = d.core.nextOrd := by rw [h]
theorem UnrunFrame.core_ltc {d e : Device} (h : UnrunFrame d e) : e.core.ltc = d.core.ltc := by rw [h]
theorem UnrunFrame.core_arb {d e : Device} (h : UnrunFrame d e) : e.core.arb = d.core.arb := by rw [h]
theorem UnrunFrame.core_grg {d e : Device} (h : UnrunFrame d e) : e.core.grg = d.core.grg := by rw [h]
theorem UnrunFrame.core_now {d e : Device} (h : UnrunFrame d e) : e.core.now = d.core.now := by rw [h]
theorem UnrunFrame.core_armed {d e : Device} (h : UnrunFrame d e) : e.core.armed = d.core.armed := by rw [h]

/-! `noteLast` -/
@[simp] theorem Device.noteLast_ctl (q seq : Nat) : (d.noteLast q seq).ctl = d.ctl := (LastFrame.noteLast d q seq).ctl
@[simp] theorem Device.noteLast_dma (q seq : Nat) : (d.noteLast q seq).dma = d.dma := (LastFrame.noteLast d q seq).dma
@[simp] theorem Device.noteLast_fab (q seq : Nat) : (d.noteLast q seq).fab = d.fab := (LastFrame.noteLast d q seq).fab
@[simp] theorem Device.noteLast_inj (q seq : Nat) : (d.noteLast q seq).inj = d.inj := (LastFrame.noteLast d q seq).inj
@[simp] theorem Device.noteLast_injw (q seq : Nat) : (d.noteLast q seq).injw = d.injw := (LastFrame.noteLast d q seq).injw
@[simp] theorem Device.noteLast_hif (q seq : Nat) : (d.noteLast q seq).hif = d.hif := (LastFrame.noteLast d q seq).hif
@[simp] theorem Device.noteLast_boot (q seq : Nat) : (d.noteLast q seq).boot = d.boot := (LastFrame.noteLast d q seq).boot
@[simp] theorem Device.noteLast_ras (q seq : Nat) : (d.noteLast q seq).ras = d.ras := (LastFrame.noteLast d q seq).ras
@[simp] theorem Device.noteLast_pwr (q seq : Nat) : (d.noteLast q seq).pwr = d.pwr := (LastFrame.noteLast d q seq).pwr
@[simp] theorem Device.noteLast_out (q seq : Nat) : (d.noteLast q seq).out = d.out := (LastFrame.noteLast d q seq).out
@[simp] theorem Device.noteLast_core (q seq : Nat) : (d.noteLast q seq).core = d.core := (LastFrame.noteLast d q seq).core

/-! `invalidSlots` -/
@[simp] theorem Device.invalidSlots_kiln (c : Cmd) : (d.invalidSlots c).kiln = d.kiln := by
  rfl
@[simp] theorem Device.invalidSlots_mvp (c : Cmd) : (d.invalidSlots c).mvp = d.mvp := by
  rfl
@[simp] theorem Device.invalidSlots_sts (c : Cmd) : (d.invalidSlots c).sts = d.sts := by
  rfl
@[simp] theorem Device.invalidSlots_vec (c : Cmd) : (d.invalidSlots c).vec = d.vec := by
  rfl
@[simp] theorem Device.invalidSlots_dma (c : Cmd) : (d.invalidSlots c).dma = d.dma := by
  rfl
@[simp] theorem Device.invalidSlots_tier (c : Cmd) : (d.invalidSlots c).tier = d.tier := by
  rfl
@[simp] theorem Device.invalidSlots_slip (c : Cmd) : (d.invalidSlots c).slip = d.slip := by
  rfl
@[simp] theorem Device.invalidSlots_train (c : Cmd) : (d.invalidSlots c).train = d.train := by
  rfl
@[simp] theorem Device.invalidSlots_ing (c : Cmd) : (d.invalidSlots c).ing = d.ing := by
  rfl
@[simp] theorem Device.invalidSlots_fab (c : Cmd) : (d.invalidSlots c).fab = d.fab := by
  rfl
@[simp] theorem Device.invalidSlots_col (c : Cmd) : (d.invalidSlots c).col = d.col := by
  rfl
@[simp] theorem Device.invalidSlots_inj (c : Cmd) : (d.invalidSlots c).inj = d.inj := by
  rfl
@[simp] theorem Device.invalidSlots_injw (c : Cmd) : (d.invalidSlots c).injw = d.injw := by
  rfl
@[simp] theorem Device.invalidSlots_hif (c : Cmd) : (d.invalidSlots c).hif = d.hif := by
  rfl
@[simp] theorem Device.invalidSlots_boot (c : Cmd) : (d.invalidSlots c).boot = d.boot := by
  rfl
@[simp] theorem Device.invalidSlots_ras (c : Cmd) : (d.invalidSlots c).ras = d.ras := by
  rfl
@[simp] theorem Device.invalidSlots_pwr (c : Cmd) : (d.invalidSlots c).pwr = d.pwr := by
  rfl
@[simp] theorem Device.invalidSlots_out (c : Cmd) : (d.invalidSlots c).out = d.out := by
  rfl
@[simp] theorem Device.invalidSlots_core_regs (c : Cmd) : (d.invalidSlots c).core.regs = d.core.regs := by
  rfl
@[simp] theorem Device.invalidSlots_core_mem (c : Cmd) : (d.invalidSlots c).core.mem = d.core.mem := by
  rfl
@[simp] theorem Device.invalidSlots_core_pois (c : Cmd) : (d.invalidSlots c).core.pois = d.core.pois := by
  rfl
@[simp] theorem Device.invalidSlots_core_flaws (c : Cmd) : (d.invalidSlots c).core.flaws = d.core.flaws := by
  rfl
@[simp] theorem Device.invalidSlots_core_cap (c : Cmd) : (d.invalidSlots c).core.cap = d.core.cap := by
  rfl
@[simp] theorem Device.invalidSlots_core_queues (c : Cmd) : (d.invalidSlots c).core.queues = d.core.queues := by
  rfl
@[simp] theorem Device.invalidSlots_core_opens (c : Cmd) : (d.invalidSlots c).core.opens = d.core.opens := by
  rfl
@[simp] theorem Device.invalidSlots_core_nextCid (c : Cmd) : (d.invalidSlots c).core.nextCid = d.core.nextCid := by
  rfl
@[simp] theorem Device.invalidSlots_core_nextOrd (c : Cmd) : (d.invalidSlots c).core.nextOrd = d.core.nextOrd := by
  rfl
@[simp] theorem Device.invalidSlots_core_done (c : Cmd) : (d.invalidSlots c).core.done = d.core.done := by
  rfl
@[simp] theorem Device.invalidSlots_core_sync (c : Cmd) : (d.invalidSlots c).core.sync = d.core.sync := by
  rfl
@[simp] theorem Device.invalidSlots_core_ltc (c : Cmd) : (d.invalidSlots c).core.ltc = d.core.ltc := by
  rfl
@[simp] theorem Device.invalidSlots_core_evq (c : Cmd) : (d.invalidSlots c).core.evq = d.core.evq := by
  rfl
@[simp] theorem Device.invalidSlots_core_arb (c : Cmd) : (d.invalidSlots c).core.arb = d.core.arb := by
  rfl
@[simp] theorem Device.invalidSlots_core_grg (c : Cmd) : (d.invalidSlots c).core.grg = d.core.grg := by
  rfl
@[simp] theorem Device.invalidSlots_core_cePost (c : Cmd) : (d.invalidSlots c).core.cePost = d.core.cePost := by
  rfl
@[simp] theorem Device.invalidSlots_core_crossed (c : Cmd) : (d.invalidSlots c).core.crossed = d.core.crossed := by
  rfl
@[simp] theorem Device.invalidSlots_core_hourly (c : Cmd) : (d.invalidSlots c).core.hourly = d.core.hourly := by
  rfl
@[simp] theorem Device.invalidSlots_core_now (c : Cmd) : (d.invalidSlots c).core.now = d.core.now := by
  rfl
@[simp] theorem Device.invalidSlots_core_armed (c : Cmd) : (d.invalidSlots c).core.armed = d.core.armed := by
  rfl
@[simp] theorem Device.invalidSlots_core_freeN (c : Cmd) : (d.invalidSlots c).core.freeN = d.core.freeN := by
  rfl
@[simp] theorem Device.invalidSlots_core_watch (c : Cmd) : (d.invalidSlots c).core.watch = d.core.watch := by
  rfl

/-! `endUnrun` -/
@[simp] theorem Device.endUnrun_fab (q : Nat) (c : Cmd) (status : Nat) : (d.endUnrun q c status).fab = d.fab := (UnrunFrame.endUnrun d _ _ _).fab
@[simp] theorem Device.endUnrun_inj (q : Nat) (c : Cmd) (status : Nat) : (d.endUnrun q c status).inj = d.inj := (UnrunFrame.endUnrun d _ _ _).inj
@[simp] theorem Device.endUnrun_injw (q : Nat) (c : Cmd) (status : Nat) : (d.endUnrun q c status).injw = d.injw := (UnrunFrame.endUnrun d _ _ _).injw
@[simp] theorem Device.endUnrun_hif (q : Nat) (c : Cmd) (status : Nat) : (d.endUnrun q c status).hif = d.hif := (UnrunFrame.endUnrun d _ _ _).hif
@[simp] theorem Device.endUnrun_boot (q : Nat) (c : Cmd) (status : Nat) : (d.endUnrun q c status).boot = d.boot := (UnrunFrame.endUnrun d _ _ _).boot
@[simp] theorem Device.endUnrun_ras (q : Nat) (c : Cmd) (status : Nat) : (d.endUnrun q c status).ras = d.ras := (UnrunFrame.endUnrun d _ _ _).ras
@[simp] theorem Device.endUnrun_pwr (q : Nat) (c : Cmd) (status : Nat) : (d.endUnrun q c status).pwr = d.pwr := (UnrunFrame.endUnrun d _ _ _).pwr
@[simp] theorem Device.endUnrun_out (q : Nat) (c : Cmd) (status : Nat) : (d.endUnrun q c status).out = d.out := (UnrunFrame.endUnrun d _ _ _).out
@[simp] theorem Device.endUnrun_core_cap (q : Nat) (c : Cmd) (status : Nat) : (d.endUnrun q c status).core.cap = d.core.cap := (UnrunFrame.endUnrun d _ _ _).core_cap
@[simp] theorem Device.endUnrun_core_nextCid (q : Nat) (c : Cmd) (status : Nat) : (d.endUnrun q c status).core.nextCid = d.core.nextCid := (UnrunFrame.endUnrun d _ _ _).core_nextCid
@[simp] theorem Device.endUnrun_core_nextOrd (q : Nat) (c : Cmd) (status : Nat) : (d.endUnrun q c status).core.nextOrd = d.core.nextOrd := (UnrunFrame.endUnrun d _ _ _).core_nextOrd
@[simp] theorem Device.endUnrun_core_ltc (q : Nat) (c : Cmd) (status : Nat) : (d.endUnrun q c status).core.ltc = d.core.ltc := (UnrunFrame.endUnrun d _ _ _).core_ltc
@[simp] theorem Device.endUnrun_core_arb (q : Nat) (c : Cmd) (status : Nat) : (d.endUnrun q c status).core.arb = d.core.arb := (UnrunFrame.endUnrun d _ _ _).core_arb
@[simp] theorem Device.endUnrun_core_grg (q : Nat) (c : Cmd) (status : Nat) : (d.endUnrun q c status).core.grg = d.core.grg := (UnrunFrame.endUnrun d _ _ _).core_grg
@[simp] theorem Device.endUnrun_core_now (q : Nat) (c : Cmd) (status : Nat) : (d.endUnrun q c status).core.now = d.core.now := (UnrunFrame.endUnrun d _ _ _).core_now
@[simp] theorem Device.endUnrun_core_armed (q : Nat) (c : Cmd) (status : Nat) : (d.endUnrun q c status).core.armed = d.core.armed := (UnrunFrame.endUnrun d _ _ _).core_armed

/-! A part that is refused writes nothing: `endUnrun` with FAULT. -/
@[simp] theorem Device.endUnrun_fault_core_regs (q : Nat) (c : Cmd) : (d.endUnrun q c stFault).core.regs = d.core.regs := (EndFrame.endUnrun d _ _).core_regs
@[simp] theorem Device.endUnrun_fault_core_mem (q : Nat) (c : Cmd) : (d.endUnrun q c stFault).core.mem = d.core.mem := (EndFrame.endUnrun d _ _).core_mem
@[simp] theorem Device.endUnrun_fault_core_pois (q : Nat) (c : Cmd) : (d.endUnrun q c stFault).core.pois = d.core.pois := (EndFrame.endUnrun d _ _).core_pois
@[simp] theorem Device.endUnrun_fault_core_flaws (q : Nat) (c : Cmd) : (d.endUnrun q c stFault).core.flaws = d.core.flaws := (EndFrame.endUnrun d _ _).core_flaws
@[simp] theorem Device.endUnrun_fault_core_cePost (q : Nat) (c : Cmd) : (d.endUnrun q c stFault).core.cePost = d.core.cePost := (EndFrame.endUnrun d _ _).core_cePost
@[simp] theorem Device.endUnrun_fault_core_crossed (q : Nat) (c : Cmd) : (d.endUnrun q c stFault).core.crossed = d.core.crossed := (EndFrame.endUnrun d _ _).core_crossed
@[simp] theorem Device.endUnrun_fault_core_hourly (q : Nat) (c : Cmd) : (d.endUnrun q c stFault).core.hourly = d.core.hourly := (EndFrame.endUnrun d _ _).core_hourly
@[simp] theorem Device.endUnrun_fault_core_freeN (q : Nat) (c : Cmd) : (d.endUnrun q c stFault).core.freeN = d.core.freeN := (EndFrame.endUnrun d _ _).core_freeN
@[simp] theorem Device.endUnrun_fault_core_watch (q : Nat) (c : Cmd) : (d.endUnrun q c stFault).core.watch = d.core.watch := (EndFrame.endUnrun d _ _).core_watch

/-! `endQueued` -/
@[simp] theorem Device.endQueued_fab (q : Nat) (c : Cmd) (status : Nat) : (d.endQueued q c status).fab = d.fab := (UnrunFrame.endQueued d _ _ _).fab
@[simp] theorem Device.endQueued_inj (q : Nat) (c : Cmd) (status : Nat) : (d.endQueued q c status).inj = d.inj := (UnrunFrame.endQueued d _ _ _).inj
@[simp] theorem Device.endQueued_injw (q : Nat) (c : Cmd) (status : Nat) : (d.endQueued q c status).injw = d.injw := (UnrunFrame.endQueued d _ _ _).injw
@[simp] theorem Device.endQueued_hif (q : Nat) (c : Cmd) (status : Nat) : (d.endQueued q c status).hif = d.hif := (UnrunFrame.endQueued d _ _ _).hif
@[simp] theorem Device.endQueued_boot (q : Nat) (c : Cmd) (status : Nat) : (d.endQueued q c status).boot = d.boot := (UnrunFrame.endQueued d _ _ _).boot
@[simp] theorem Device.endQueued_ras (q : Nat) (c : Cmd) (status : Nat) : (d.endQueued q c status).ras = d.ras := (UnrunFrame.endQueued d _ _ _).ras
@[simp] theorem Device.endQueued_pwr (q : Nat) (c : Cmd) (status : Nat) : (d.endQueued q c status).pwr = d.pwr := (UnrunFrame.endQueued d _ _ _).pwr
@[simp] theorem Device.endQueued_out (q : Nat) (c : Cmd) (status : Nat) : (d.endQueued q c status).out = d.out := (UnrunFrame.endQueued d _ _ _).out
@[simp] theorem Device.endQueued_core_cap (q : Nat) (c : Cmd) (status : Nat) : (d.endQueued q c status).core.cap = d.core.cap := (UnrunFrame.endQueued d _ _ _).core_cap
@[simp] theorem Device.endQueued_core_nextCid (q : Nat) (c : Cmd) (status : Nat) : (d.endQueued q c status).core.nextCid = d.core.nextCid := (UnrunFrame.endQueued d _ _ _).core_nextCid
@[simp] theorem Device.endQueued_core_nextOrd (q : Nat) (c : Cmd) (status : Nat) : (d.endQueued q c status).core.nextOrd = d.core.nextOrd := (UnrunFrame.endQueued d _ _ _).core_nextOrd
@[simp] theorem Device.endQueued_core_ltc (q : Nat) (c : Cmd) (status : Nat) : (d.endQueued q c status).core.ltc = d.core.ltc := (UnrunFrame.endQueued d _ _ _).core_ltc
@[simp] theorem Device.endQueued_core_arb (q : Nat) (c : Cmd) (status : Nat) : (d.endQueued q c status).core.arb = d.core.arb := (UnrunFrame.endQueued d _ _ _).core_arb
@[simp] theorem Device.endQueued_core_grg (q : Nat) (c : Cmd) (status : Nat) : (d.endQueued q c status).core.grg = d.core.grg := (UnrunFrame.endQueued d _ _ _).core_grg
@[simp] theorem Device.endQueued_core_now (q : Nat) (c : Cmd) (status : Nat) : (d.endQueued q c status).core.now = d.core.now := (UnrunFrame.endQueued d _ _ _).core_now
@[simp] theorem Device.endQueued_core_armed (q : Nat) (c : Cmd) (status : Nat) : (d.endQueued q c status).core.armed = d.core.armed := (UnrunFrame.endQueued d _ _ _).core_armed

/-! A part that is refused writes nothing: `endQueued` with FAULT. -/
@[simp] theorem Device.endQueued_fault_core_regs (q : Nat) (c : Cmd) : (d.endQueued q c stFault).core.regs = d.core.regs := (EndFrame.endQueued d _ _).core_regs
@[simp] theorem Device.endQueued_fault_core_mem (q : Nat) (c : Cmd) : (d.endQueued q c stFault).core.mem = d.core.mem := (EndFrame.endQueued d _ _).core_mem
@[simp] theorem Device.endQueued_fault_core_pois (q : Nat) (c : Cmd) : (d.endQueued q c stFault).core.pois = d.core.pois := (EndFrame.endQueued d _ _).core_pois
@[simp] theorem Device.endQueued_fault_core_flaws (q : Nat) (c : Cmd) : (d.endQueued q c stFault).core.flaws = d.core.flaws := (EndFrame.endQueued d _ _).core_flaws
@[simp] theorem Device.endQueued_fault_core_cePost (q : Nat) (c : Cmd) : (d.endQueued q c stFault).core.cePost = d.core.cePost := (EndFrame.endQueued d _ _).core_cePost
@[simp] theorem Device.endQueued_fault_core_crossed (q : Nat) (c : Cmd) : (d.endQueued q c stFault).core.crossed = d.core.crossed := (EndFrame.endQueued d _ _).core_crossed
@[simp] theorem Device.endQueued_fault_core_hourly (q : Nat) (c : Cmd) : (d.endQueued q c stFault).core.hourly = d.core.hourly := (EndFrame.endQueued d _ _).core_hourly
@[simp] theorem Device.endQueued_fault_core_freeN (q : Nat) (c : Cmd) : (d.endQueued q c stFault).core.freeN = d.core.freeN := (EndFrame.endQueued d _ _).core_freeN
@[simp] theorem Device.endQueued_fault_core_watch (q : Nat) (c : Cmd) : (d.endQueued q c stFault).core.watch = d.core.watch := (EndFrame.endQueued d _ _).core_watch

/-! `pullAll` -/
@[simp] theorem Device.pullAll_fab (c : Cmd) (status : Nat) : (d.pullAll c status).fab = d.fab := (UnrunFrame.pullAll d _ _).fab
@[simp] theorem Device.pullAll_inj (c : Cmd) (status : Nat) : (d.pullAll c status).inj = d.inj := (UnrunFrame.pullAll d _ _).inj
@[simp] theorem Device.pullAll_injw (c : Cmd) (status : Nat) : (d.pullAll c status).injw = d.injw := (UnrunFrame.pullAll d _ _).injw
@[simp] theorem Device.pullAll_hif (c : Cmd) (status : Nat) : (d.pullAll c status).hif = d.hif := (UnrunFrame.pullAll d _ _).hif
@[simp] theorem Device.pullAll_boot (c : Cmd) (status : Nat) : (d.pullAll c status).boot = d.boot := (UnrunFrame.pullAll d _ _).boot
@[simp] theorem Device.pullAll_ras (c : Cmd) (status : Nat) : (d.pullAll c status).ras = d.ras := (UnrunFrame.pullAll d _ _).ras
@[simp] theorem Device.pullAll_pwr (c : Cmd) (status : Nat) : (d.pullAll c status).pwr = d.pwr := (UnrunFrame.pullAll d _ _).pwr
@[simp] theorem Device.pullAll_out (c : Cmd) (status : Nat) : (d.pullAll c status).out = d.out := (UnrunFrame.pullAll d _ _).out
@[simp] theorem Device.pullAll_core_cap (c : Cmd) (status : Nat) : (d.pullAll c status).core.cap = d.core.cap := (UnrunFrame.pullAll d _ _).core_cap
@[simp] theorem Device.pullAll_core_nextCid (c : Cmd) (status : Nat) : (d.pullAll c status).core.nextCid = d.core.nextCid := (UnrunFrame.pullAll d _ _).core_nextCid
@[simp] theorem Device.pullAll_core_nextOrd (c : Cmd) (status : Nat) : (d.pullAll c status).core.nextOrd = d.core.nextOrd := (UnrunFrame.pullAll d _ _).core_nextOrd
@[simp] theorem Device.pullAll_core_ltc (c : Cmd) (status : Nat) : (d.pullAll c status).core.ltc = d.core.ltc := (UnrunFrame.pullAll d _ _).core_ltc
@[simp] theorem Device.pullAll_core_arb (c : Cmd) (status : Nat) : (d.pullAll c status).core.arb = d.core.arb := (UnrunFrame.pullAll d _ _).core_arb
@[simp] theorem Device.pullAll_core_grg (c : Cmd) (status : Nat) : (d.pullAll c status).core.grg = d.core.grg := (UnrunFrame.pullAll d _ _).core_grg
@[simp] theorem Device.pullAll_core_now (c : Cmd) (status : Nat) : (d.pullAll c status).core.now = d.core.now := (UnrunFrame.pullAll d _ _).core_now
@[simp] theorem Device.pullAll_core_armed (c : Cmd) (status : Nat) : (d.pullAll c status).core.armed = d.core.armed := (UnrunFrame.pullAll d _ _).core_armed

/-! A part that is refused writes nothing: `pullAll` with FAULT. -/
@[simp] theorem Device.pullAll_fault_core_regs (c : Cmd) : (d.pullAll c stFault).core.regs = d.core.regs := (EndFrame.pullAll d _).core_regs
@[simp] theorem Device.pullAll_fault_core_mem (c : Cmd) : (d.pullAll c stFault).core.mem = d.core.mem := (EndFrame.pullAll d _).core_mem
@[simp] theorem Device.pullAll_fault_core_pois (c : Cmd) : (d.pullAll c stFault).core.pois = d.core.pois := (EndFrame.pullAll d _).core_pois
@[simp] theorem Device.pullAll_fault_core_flaws (c : Cmd) : (d.pullAll c stFault).core.flaws = d.core.flaws := (EndFrame.pullAll d _).core_flaws
@[simp] theorem Device.pullAll_fault_core_cePost (c : Cmd) : (d.pullAll c stFault).core.cePost = d.core.cePost := (EndFrame.pullAll d _).core_cePost
@[simp] theorem Device.pullAll_fault_core_crossed (c : Cmd) : (d.pullAll c stFault).core.crossed = d.core.crossed := (EndFrame.pullAll d _).core_crossed
@[simp] theorem Device.pullAll_fault_core_hourly (c : Cmd) : (d.pullAll c stFault).core.hourly = d.core.hourly := (EndFrame.pullAll d _).core_hourly
@[simp] theorem Device.pullAll_fault_core_freeN (c : Cmd) : (d.pullAll c stFault).core.freeN = d.core.freeN := (EndFrame.pullAll d _).core_freeN
@[simp] theorem Device.pullAll_fault_core_watch (c : Cmd) : (d.pullAll c stFault).core.watch = d.core.watch := (EndFrame.pullAll d _).core_watch

/-! `refuse` -/
@[simp] theorem Device.refuse_fab (q : Nat) (c : Cmd) (code unit : Nat) (data : Word) : (d.refuse q c code unit data).fab = d.fab := (EndFrame.refuse d _ _ _ _ _).fab
@[simp] theorem Device.refuse_inj (q : Nat) (c : Cmd) (code unit : Nat) (data : Word) : (d.refuse q c code unit data).inj = d.inj := (EndFrame.refuse d _ _ _ _ _).inj
@[simp] theorem Device.refuse_injw (q : Nat) (c : Cmd) (code unit : Nat) (data : Word) : (d.refuse q c code unit data).injw = d.injw := (EndFrame.refuse d _ _ _ _ _).injw
@[simp] theorem Device.refuse_hif (q : Nat) (c : Cmd) (code unit : Nat) (data : Word) : (d.refuse q c code unit data).hif = d.hif := (EndFrame.refuse d _ _ _ _ _).hif
@[simp] theorem Device.refuse_boot (q : Nat) (c : Cmd) (code unit : Nat) (data : Word) : (d.refuse q c code unit data).boot = d.boot := (EndFrame.refuse d _ _ _ _ _).boot
@[simp] theorem Device.refuse_ras (q : Nat) (c : Cmd) (code unit : Nat) (data : Word) : (d.refuse q c code unit data).ras = d.ras := (EndFrame.refuse d _ _ _ _ _).ras
@[simp] theorem Device.refuse_pwr (q : Nat) (c : Cmd) (code unit : Nat) (data : Word) : (d.refuse q c code unit data).pwr = d.pwr := (EndFrame.refuse d _ _ _ _ _).pwr
@[simp] theorem Device.refuse_out (q : Nat) (c : Cmd) (code unit : Nat) (data : Word) : (d.refuse q c code unit data).out = d.out := (EndFrame.refuse d _ _ _ _ _).out
@[simp] theorem Device.refuse_core_regs (q : Nat) (c : Cmd) (code unit : Nat) (data : Word) : (d.refuse q c code unit data).core.regs = d.core.regs := (EndFrame.refuse d _ _ _ _ _).core_regs
@[simp] theorem Device.refuse_core_mem (q : Nat) (c : Cmd) (code unit : Nat) (data : Word) : (d.refuse q c code unit data).core.mem = d.core.mem := (EndFrame.refuse d _ _ _ _ _).core_mem
@[simp] theorem Device.refuse_core_pois (q : Nat) (c : Cmd) (code unit : Nat) (data : Word) : (d.refuse q c code unit data).core.pois = d.core.pois := (EndFrame.refuse d _ _ _ _ _).core_pois
@[simp] theorem Device.refuse_core_flaws (q : Nat) (c : Cmd) (code unit : Nat) (data : Word) : (d.refuse q c code unit data).core.flaws = d.core.flaws := (EndFrame.refuse d _ _ _ _ _).core_flaws
@[simp] theorem Device.refuse_core_cap (q : Nat) (c : Cmd) (code unit : Nat) (data : Word) : (d.refuse q c code unit data).core.cap = d.core.cap := (EndFrame.refuse d _ _ _ _ _).core_cap
@[simp] theorem Device.refuse_core_nextCid (q : Nat) (c : Cmd) (code unit : Nat) (data : Word) : (d.refuse q c code unit data).core.nextCid = d.core.nextCid := (EndFrame.refuse d _ _ _ _ _).core_nextCid
@[simp] theorem Device.refuse_core_nextOrd (q : Nat) (c : Cmd) (code unit : Nat) (data : Word) : (d.refuse q c code unit data).core.nextOrd = d.core.nextOrd := (EndFrame.refuse d _ _ _ _ _).core_nextOrd
@[simp] theorem Device.refuse_core_ltc (q : Nat) (c : Cmd) (code unit : Nat) (data : Word) : (d.refuse q c code unit data).core.ltc = d.core.ltc := (EndFrame.refuse d _ _ _ _ _).core_ltc
@[simp] theorem Device.refuse_core_arb (q : Nat) (c : Cmd) (code unit : Nat) (data : Word) : (d.refuse q c code unit data).core.arb = d.core.arb := (EndFrame.refuse d _ _ _ _ _).core_arb
@[simp] theorem Device.refuse_core_grg (q : Nat) (c : Cmd) (code unit : Nat) (data : Word) : (d.refuse q c code unit data).core.grg = d.core.grg := (EndFrame.refuse d _ _ _ _ _).core_grg
@[simp] theorem Device.refuse_core_cePost (q : Nat) (c : Cmd) (code unit : Nat) (data : Word) : (d.refuse q c code unit data).core.cePost = d.core.cePost := (EndFrame.refuse d _ _ _ _ _).core_cePost
@[simp] theorem Device.refuse_core_crossed (q : Nat) (c : Cmd) (code unit : Nat) (data : Word) : (d.refuse q c code unit data).core.crossed = d.core.crossed := (EndFrame.refuse d _ _ _ _ _).core_crossed
@[simp] theorem Device.refuse_core_hourly (q : Nat) (c : Cmd) (code unit : Nat) (data : Word) : (d.refuse q c code unit data).core.hourly = d.core.hourly := (EndFrame.refuse d _ _ _ _ _).core_hourly
@[simp] theorem Device.refuse_core_now (q : Nat) (c : Cmd) (code unit : Nat) (data : Word) : (d.refuse q c code unit data).core.now = d.core.now := (EndFrame.refuse d _ _ _ _ _).core_now
@[simp] theorem Device.refuse_core_armed (q : Nat) (c : Cmd) (code unit : Nat) (data : Word) : (d.refuse q c code unit data).core.armed = d.core.armed := (EndFrame.refuse d _ _ _ _ _).core_armed
@[simp] theorem Device.refuse_core_freeN (q : Nat) (c : Cmd) (code unit : Nat) (data : Word) : (d.refuse q c code unit data).core.freeN = d.core.freeN := (EndFrame.refuse d _ _ _ _ _).core_freeN
@[simp] theorem Device.refuse_core_watch (q : Nat) (c : Cmd) (code unit : Nat) (data : Word) : (d.refuse q c code unit data).core.watch = d.core.watch := (EndFrame.refuse d _ _ _ _ _).core_watch

end Sys2Proof.Machine
end

