-- ==== Sys2Proof/Laws/Memory.lean ====
section
/-! SUPPORT. Sparse maps and memory: a read after a write, and the canonical form every operation keeps. -/

namespace Sys2Proof.Machine

section Maps

variable {α : Type} [DecidableEq α] (dflt : α)

/-- The canonical form, said of the whole list. -/
theorem mwf_iff (m : List (Nat × α)) :
    mwf dflt m = true ↔ m.Pairwise (fun p q => p.1 < q.1) ∧ ∀ p ∈ m, p.2 ≠ dflt := by
  induction m with
  | nil => simp [mwf]
  | cons p m ih =>
    obtain ⟨j, u⟩ := p
    cases m with
    | nil => simp [mwf]
    | cons q m =>
      obtain ⟨k, w⟩ := q
      simp only [mwf, Bool.and_eq_true, decide_eq_true_eq, bne_iff_ne, ih, List.pairwise_cons, List.mem_cons, forall_eq_or_imp]
      constructor
      · rintro ⟨⟨h1, h2⟩, ⟨h3, h4⟩, h5, h6⟩
        exact ⟨⟨⟨h1, fun a ha => Nat.lt_trans h1 (h3 a ha)⟩, h3, h4⟩, h2, h5, h6⟩
      · rintro ⟨⟨⟨h1, _⟩, h3, h4⟩, h2, h5, h6⟩
        exact ⟨⟨h1, h2⟩, ⟨h3, h4⟩, h5, h6⟩

omit [DecidableEq α] in
/-- A map without key k reads there as the default. -/
theorem mget_filter_self (m : List (Nat × α)) (k : Nat) : mget dflt (m.filter (fun p => p.1 != k)) k = dflt := by
  induction m with
  | nil => rfl
  | cons p m ih => by_cases h : p.1 = k <;> simp [h, mget, ih]

/-- The key that was set reads as the value. -/
@[simp] theorem mget_mset_self (m : List (Nat × α)) (k : Nat) (v : α) : mget dflt (mset dflt m k v) k = v := by
  unfold mset
  split
  · next h => rw [mget_filter_self, h]
  · induction m with
    | nil => simp [minsert, mget]
    | cons p m ih =>
      simp only [minsert]
      split
      · simp [mget]
      · split
        · simp [mget]
        · next h _ => simp [mget, h, ih]

/-- Every other key reads as before, whatever an unlisted key reads as there. -/
theorem mget_mset_dflt (b : α) (m : List (Nat × α)) (k j : Nat) (v : α) (hne : j ≠ k) : mget b (mset dflt m k v) j = mget b m j := by
  unfold mset
  split
  · induction m with
    | nil => rfl
    | cons p m ih =>
      by_cases h : p.1 = k
      · simp [h, mget, Ne.symm hne, ih]
      · simp [h, mget, ih]
  · induction m with
    | nil => simp [minsert, mget, Ne.symm hne]
    | cons p m ih =>
      simp only [minsert]
      split
      · next h => simp [mget, h, Ne.symm hne]
      · split
        · simp [mget, Ne.symm hne]
        · simp [mget, ih]

/-- Every other key reads as before. -/
@[simp] theorem mget_mset_ne (m : List (Nat × α)) (k j : Nat) (v : α) (hne : j ≠ k) : mget dflt (mset dflt m k v) j = mget dflt m j :=
  mget_mset_dflt dflt dflt m k j v hne

/-- Either case at once. -/
theorem mget_mset (m : List (Nat × α)) (k j : Nat) (v : α) : mget dflt (mset dflt m k v) j = if j = k then v else mget dflt m j := by
  split
  · next h => rw [h, mget_mset_self]
  · next h => exact mget_mset_ne dflt m k j v h

omit [DecidableEq α] in
/-- An inserted map's entries are the new one and old ones. -/
theorem mem_minsert (m : List (Nat × α)) (k : Nat) (v : α) (p : Nat × α) (h : p ∈ minsert k v m) : p = (k, v) ∨ p ∈ m := by
  induction m with
  | nil => simpa [minsert] using h
  | cons q m ih =>
    simp only [minsert] at h
    split at h
    · rcases List.mem_cons.mp h with h | h
      · exact .inl h
      · exact .inr (List.mem_cons_of_mem _ h)
    · split at h
      · rcases List.mem_cons.mp h with h | h
        · exact .inl h
        · exact .inr h
      · rcases List.mem_cons.mp h with h | h
        · exact .inr (h ▸ List.mem_cons_self)
        · rcases ih h with h | h
          · exact .inl h
          · exact .inr (List.mem_cons_of_mem _ h)

omit [DecidableEq α] in
theorem minsert_sorted (m : List (Nat × α)) (k : Nat) (v : α) (h : m.Pairwise (fun p q => p.1 < q.1)) :
    (minsert k v m).Pairwise (fun p q => p.1 < q.1) := by
  induction m with
  | nil => simp [minsert]
  | cons q m ih =>
    obtain ⟨h1, h2⟩ := List.pairwise_cons.mp h
    simp only [minsert]
    split
    · next hk => exact List.pairwise_cons.mpr ⟨fun a ha => hk ▸ h1 a ha, h2⟩
    · split
      · next hk => exact List.pairwise_cons.mpr ⟨fun a ha => by
          rcases List.mem_cons.mp ha with rfl | ha
          · exact hk
          · exact Nat.lt_trans hk (h1 a ha), h⟩
      · next hne hk => exact List.pairwise_cons.mpr ⟨fun a ha => by
          rcases mem_minsert m k v a ha with rfl | ha
          · exact show q.1 < k by omega
          · exact h1 a ha, ih h2⟩

/-- Setting a key keeps the canonical form. -/
theorem mset_wf (m : List (Nat × α)) (k : Nat) (v : α) (h : mwf dflt m = true) : mwf dflt (mset dflt m k v) = true := by
  rw [mwf_iff] at h ⊢
  unfold mset
  split
  · exact ⟨h.1.filter _, fun p hp => h.2 p (List.mem_of_mem_filter hp)⟩
  · next hv =>
    refine ⟨minsert_sorted m k v h.1, fun p hp => ?_⟩
    rcases mem_minsert m k v p hp with rfl | hp
    · exact hv
    · exact h.2 p hp

end Maps

/-! Memory. -/

@[simp] theorem Core.markUnit_mem (c : Core) (u a : Nat) (l : List PByte) : (c.markUnit u a l).mem = c.mem := by
  unfold Core.markUnit
  simp only
  split
  · rfl
  · split <;> rfl

@[simp] theorem Core.markUnits_mem (c : Core) (a : Nat) (l : List PByte) (u n : Nat) : (c.markUnits a l u n).mem = c.mem := by
  induction n generalizing c u with
  | zero => rfl
  | succ n ih => simp [Core.markUnits, ih]

theorem Core.pokeBytes_wf (c : Core) (a : Nat) (l : List PByte) (h : Memory.wf c.mem) : Memory.wf (c.pokeBytes a l).mem := by
  induction l generalizing c a with
  | nil => exact h
  | cons b l ih => exact ih _ _ (mset_wf _ _ _ _ h)

/-- What a coder leaves open keeps the canonical form. -/
theorem Device.spoil_wf (d : Device) (key : Nat) (p : Bool) (h : d.memWf) : (d.spoil key p).memWf := by
  simpa [Device.memWf, Device.spoil] using Core.pokeBytes_wf d.core _ _ h

/-- Memory that is left alone stays in canonical form. -/
theorem Device.memWf_of_mem {d e : Device} (he : e.core.mem = d.core.mem) (h : d.memWf) : e.memWf := by
  unfold Device.memWf; rw [he]; exact h

theorem Device.setReg_wf (d : Device) (k : Nat) (v : Word) (h : d.memWf) : (d.setReg k v).memWf := h
theorem Device.post_wf (d : Device) (c u : Nat) (w : Word) (h : d.memWf) : (d.post c u w).memWf := h
theorem Device.count1_wf (d : Device) (k : Nat) (h : d.memWf) : (d.count1 k).memWf := h
theorem Device.setReg64_wf (d : Device) (k n : Nat) (h : d.memWf) : (d.setReg64 k n).memWf := h
theorem Device.ceCount_wf (d : Device) (cnt thr code unit : Nat) (h : d.memWf) : (d.ceCount cnt thr code unit).memWf :=
  d.memWf_of_mem (Device.ceCount_core_mem d _ _ _ _) h

theorem Device.meetCoder_wf (step : Bool) (d : Device) (key : Nat) (h : d.memWf) : (Device.meetCoder step d key).memWf := by
  have h0 : Device.memWf { d with core.flaws := mset [] d.core.flaws key [] } := h
  unfold Device.meetCoder
  simp only []
  generalize Device.mk _ _ _ _ _ _ _ _ _ _ _ _ _ _ _ _ _ _ _ _ = e at h0 ⊢
  have hs (p : Bool) := e.spoil_wf key p h0
  split
  · exact h0
  · split
    · exact Device.ceCount_wf _ _ _ _ _ (Device.setReg_wf _ _ _ h0)
    · exact Device.ceCount_wf _ _ _ _ _ h0
  · split
    · exact Device.ceCount_wf _ _ _ _ _ (Device.setReg_wf _ _ _ (hs false))
    · exact Device.ceCount_wf _ _ _ _ _ (hs false)
  · split
    · exact Device.post_wf _ _ _ _ (Device.setReg64_wf _ _ _ (Device.count1_wf _ _ (hs true)))
    · exact Device.post_wf _ _ _ _ (Device.setReg_wf _ _ _ (Device.count1_wf _ _ (hs true)))

theorem Device.meetAll_wf (step : Bool) (l : List Nat) (d : Device) (h : d.memWf) : (l.foldl (Device.meetCoder step) d).memWf := by
  induction l generalizing d with
  | nil => exact h
  | cons k l ih => exact ih _ (Device.meetCoder_wf step d k h)

theorem Device.watched_wf (d : Device) (rs : List (Nat × Nat)) (h : d.memWf) : (d.watched rs).memWf := by
  simpa [Device.memWf] using h

/-- A read through a coder keeps the canonical form of memory. -/
theorem Device.coder_wf (d : Device) (step : Bool) (rs : List (Nat × Nat)) (h : d.memWf) : (d.coder step rs).memWf :=
  Device.meetAll_wf step _ _ (d.watched_wf rs h)

/-- A write keeps the canonical form of memory. -/
theorem Device.write_wf (d : Device) (a : Nat) (l : List PByte) (h : d.memWf) : (d.write a l).memWf := by
  unfold Device.write
  split
  · exact h
  · simp only [Device.memWf, Core.markUnits_mem]
    exact Core.pokeBytes_wf _ a l (Device.meetAll_wf false _ _ (d.watched_wf _ h))

/-- So does a list of writes. -/
theorem Device.writes_wf (l : List (Nat × List PByte)) (d : Device) (h : d.memWf) : (d.writes l).memWf := by
  induction l generalizing d with
  | nil => exact h
  | cons p l ih => exact ih _ (d.write_wf _ _ h)

/-- Bytes left open keep the canonical form too. -/
theorem Device.leaveOpen_wf (d : Device) (a n : Nat) (h : d.memWf) : (d.leaveOpen a n).memWf := by
  have w := d.watched_wf [(a, n)] h
  simp only [Device.memWf, Device.leaveOpen, Core.markUnits_mem]
  exact Core.pokeBytes_wf _ a _ w

theorem Device.leaveAllOpen_wf (l : List (Nat × Nat)) (d : Device) (h : d.memWf) : (d.leaveAllOpen l).memWf := by
  unfold Device.leaveAllOpen
  induction l generalizing d with
  | nil => exact h
  | cons p l ih => exact ih _ (d.leaveOpen_wf _ _ h)

end Sys2Proof.Machine
end

