-- ==== Sys2Proof/Laws/Access.lean ====
section
/-! SUPPORT. A read after a write of each accessor: the key written reads as the value, every other key as before. -/

namespace Sys2Proof.Machine

variable (d : Device)

theorem Device.reg_setReg (k j : Nat) (v : Word) : (d.setReg k v).reg j = if j = k then v else d.reg j := by
  unfold Device.reg Device.setReg; by_cases h : j = k
  · subst h; simp
  · simp [h, mget_mset_dflt]
theorem Device.queue_setQueue (q r : Nat) (v : List Cmd) : (d.setQueue q v).queue r = if r = q then v else d.queue r := by
  simp [Device.queue, Device.setQueue, mget_mset]
theorem Device.seg_setSeg (g h : Nat) (v : Seg) : (d.setSeg g v).seg h = if h = g then v else d.seg h := by
  simp [Device.seg, Device.setSeg, mget_mset]
theorem Device.port_setPort (p q : Nat) (v : Port) : (d.setPort p v).port q = if q = p then v else d.port q := by
  simp [Device.port, Device.setPort, mget_mset]
theorem Device.route_setRoute (p q : Nat) (v : RouteEnt) : (d.setRoute p v).route q = if q = p then v else d.route q := by
  simp [Device.route, Device.setRoute, mget_mset]
theorem Device.stash_setStash (p q : Nat) (v : Stash) : (d.setStash p v).stash q = if q = p then v else d.stash q := by
  simp [Device.stash, Device.setStash, mget_mset]
theorem Device.mvpOf_setMvp (p q : Nat) (v : Mvp) : (d.setMvp p v).mvpOf q = if q = p then v else d.mvpOf q := by
  simp [Device.mvpOf, Device.setMvp, mget_mset]
theorem Device.slipStack_setSlipStack (p q : Nat) (v : SlipStack) : (d.setSlipStack p v).slipStack q = if q = p then v else d.slipStack q := by
  simp [Device.slipStack, Device.setSlipStack, mget_mset]
theorem Device.colOf_setCol (p q : Nat) (v : Col) : (d.setCol p v).colOf q = if q = p then v else d.colOf q := by
  simp [Device.colOf, Device.setCol, mget_mset]
theorem Device.tierObj_setTierObj (p q : Nat) (v : Option TierObj) : (d.setTierObj p v).tierObj q = if q = p then v else d.tierObj q := by
  simp [Device.tierObj, Device.setTierObj, mget_mset]

@[simp] theorem Device.arr_setArr_self (die a : Nat) (v : Arr) : (d.setArr die a v).arr die a = v := by
  simp [Device.arr, Device.setArr]
@[simp] theorem Device.part_setPart_self (die a p : Nat) (v : Part) : (d.setPart die a p v).part die a p = v := by
  simp [Device.part, Device.setPart]
@[simp] theorem Device.turn_setTurn_self (die a : Nat) (v : Turn) : (d.setTurn die a v).turn die a = v := by
  simp [Device.turn, Device.setTurn]
@[simp] theorem Device.tile_setTile_self (die a t : Nat) (v : Tile) : (d.setTile die a t v).tile die a t = v := by
  simp [Device.tile, Device.setTile]
@[simp] theorem Device.tilePend_setTilePend_self (die a t : Nat) (v : Option Tile) : (d.setTilePend die a t v).tilePend die a t = v := by
  simp [Device.tilePend, Device.setTilePend]
@[simp] theorem Device.drains_setDrains_self (die a p : Nat) (v : List DRun) : (d.setDrains die a p v).drains die a p = v := by
  simp [Device.drains, Device.setDrains]
@[simp] theorem Device.accCnt_setAccCnt_self (die a : Nat) (v : AccCnt) : (d.setAccCnt die a v).accCnt die a = v := by
  simp [Device.accCnt, Device.setAccCnt]
@[simp] theorem Device.quart_setQuart_self (die a slot q : Nat) (v : Quarter) : (d.setQuart die a slot q v).quart die a slot q = v := by
  simp [Device.quart, Device.setQuart]
@[simp] theorem Device.stream_setStream_self (die s : Nat) (v : Stream) : (d.setStream die s v).stream die s = v := by
  simp [Device.stream, Device.setStream]
@[simp] theorem Device.chan_setChan_self (die n : Nat) (v : DmaCh) : (d.setChan die n v).chan die n = v := by
  simp [Device.chan, Device.setChan]
@[simp] theorem Device.ent_setEnt_self (g f : Nat) (v : Option TierEnt) : (d.setEnt g f v).ent g f = v := by
  simp [Device.ent, Device.setEnt]
@[simp] theorem Device.reg_setReg_self (k : Nat) (v : Word) : (d.setReg k v).reg k = v := by
  simp [Device.reg, Device.setReg]
@[simp] theorem Device.queue_setQueue_self (q : Nat) (v : List Cmd) : (d.setQueue q v).queue q = v := by
  simp [Device.queue, Device.setQueue]
@[simp] theorem Device.seg_setSeg_self (g : Nat) (v : Seg) : (d.setSeg g v).seg g = v := by
  simp [Device.seg, Device.setSeg]
@[simp] theorem Device.port_setPort_self (p : Nat) (v : Port) : (d.setPort p v).port p = v := by
  simp [Device.port, Device.setPort]
@[simp] theorem Device.route_setRoute_self (p : Nat) (v : RouteEnt) : (d.setRoute p v).route p = v := by
  simp [Device.route, Device.setRoute]
@[simp] theorem Device.stash_setStash_self (p : Nat) (v : Stash) : (d.setStash p v).stash p = v := by
  simp [Device.stash, Device.setStash]
@[simp] theorem Device.mvpOf_setMvp_self (p : Nat) (v : Mvp) : (d.setMvp p v).mvpOf p = v := by
  simp [Device.mvpOf, Device.setMvp]
@[simp] theorem Device.slipStack_setSlipStack_self (p : Nat) (v : SlipStack) : (d.setSlipStack p v).slipStack p = v := by
  simp [Device.slipStack, Device.setSlipStack]
@[simp] theorem Device.colOf_setCol_self (p : Nat) (v : Col) : (d.setCol p v).colOf p = v := by
  simp [Device.colOf, Device.setCol]
@[simp] theorem Device.tierObj_setTierObj_self (p : Nat) (v : Option TierObj) : (d.setTierObj p v).tierObj p = v := by
  simp [Device.tierObj, Device.setTierObj]

@[simp] theorem Device.reg_post (c u : Nat) (w : Word) (j : Nat) : (d.post c u w).reg j = d.reg j := by
  simp [Device.reg]
@[simp] theorem Device.reg_setQueue (q : Nat) (l : List Cmd) (j : Nat) : (d.setQueue q l).reg j = d.reg j := by
  simp [Device.reg]
@[simp] theorem Device.reg_emit (o : Out) (j : Nat) : (d.emit o).reg j = d.reg j := by
  simp [Device.reg]
@[simp] theorem Device.reg_progress (w : Nat) (j : Nat) : (d.progress w).reg j = d.reg j := by
  simp [Device.reg]
@[simp] theorem Device.reg_progressN (w n : Nat) (j : Nat) : (d.progressN w n).reg j = d.reg j := by
  simp [Device.reg]
@[simp] theorem Device.reg_popCmd (q : Nat) (j : Nat) : (d.popCmd q).reg j = d.reg j := by
  simp [Device.reg]
@[simp] theorem Device.reg_setStream (die s : Nat) (v : Stream) (j : Nat) : (d.setStream die s v).reg j = d.reg j := by
  simp [Device.reg]
@[simp] theorem Device.reg_setSync (die c v : Nat) (j : Nat) : (d.setSync die c v).reg j = d.reg j := by
  simp [Device.reg]
@[simp] theorem Device.reg_addSync (die c v : Nat) (j : Nat) : (d.addSync die c v).reg j = d.reg j := by
  simp [Device.reg]
@[simp] theorem Device.reg_haltStream (die s cause index : Nat) (j : Nat) : (d.haltStream die s cause index).reg j = d.reg j := by
  simp [Device.reg]
@[simp] theorem Device.reg_completePart (cid n status nfail first : Nat) (j : Nat) : (d.completePart cid n status nfail first).reg j = d.reg j := by
  simp [Device.reg]
@[simp] theorem Device.reg_finish (c : Cmd) (status : Nat) (j : Nat) : (d.finish c status).reg j = d.reg j := by
  simp [Device.reg]
@[simp] theorem Device.reg_refuse (q : Nat) (c : Cmd) (code unit : Nat) (data : Word) (j : Nat) : (d.refuse q c code unit data).reg j = d.reg j := by
  simp [Device.reg]
@[simp] theorem Device.reg_setPart (die a p : Nat) (v : Part) (j : Nat) : (d.setPart die a p v).reg j = d.reg j := by
  simp [Device.reg]
@[simp] theorem Device.reg_setArr (die a : Nat) (v : Arr) (j : Nat) : (d.setArr die a v).reg j = d.reg j := by
  simp [Device.reg]
@[simp] theorem Device.reg_setChan (die n : Nat) (v : DmaCh) (j : Nat) : (d.setChan die n v).reg j = d.reg j := by
  simp [Device.reg]
@[simp] theorem Device.reg_setSeg (g : Nat) (v : Seg) (j : Nat) : (d.setSeg g v).reg j = d.reg j := by
  simp [Device.reg]
@[simp] theorem Device.reg_setPort (p : Nat) (v : Port) (j : Nat) : (d.setPort p v).reg j = d.reg j := by
  simp [Device.reg]
@[simp] theorem Device.reg_setCol (die : Nat) (v : Col) (j : Nat) : (d.setCol die v).reg j = d.reg j := by
  simp [Device.reg]
@[simp] theorem Device.reg_setStash (die : Nat) (v : Stash) (j : Nat) : (d.setStash die v).reg j = d.reg j := by
  simp [Device.reg]
@[simp] theorem Device.reg_setMvp (die : Nat) (v : Mvp) (j : Nat) : (d.setMvp die v).reg j = d.reg j := by
  simp [Device.reg]
@[simp] theorem Device.reg_setSlipStack (s : Nat) (v : SlipStack) (j : Nat) : (d.setSlipStack s v).reg j = d.reg j := by
  simp [Device.reg]
@[simp] theorem Device.reg_setLoop (key : Nat) (l : Option VLoop) (j : Nat) : (d.setLoop key l).reg j = d.reg j := by
  simp [Device.reg]
@[simp] theorem Device.queue_post (c u : Nat) (w : Word) (r : Nat) : (d.post c u w).queue r = d.queue r := by
  simp [Device.queue]
@[simp] theorem Device.queue_emit (o : Out) (r : Nat) : (d.emit o).queue r = d.queue r := by
  simp [Device.queue]
@[simp] theorem Device.queue_progress (w : Nat) (r : Nat) : (d.progress w).queue r = d.queue r := by
  simp [Device.queue]
@[simp] theorem Device.queue_progressN (w n : Nat) (r : Nat) : (d.progressN w n).queue r = d.queue r := by
  simp [Device.queue]
@[simp] theorem Device.queue_setStream (die s : Nat) (v : Stream) (r : Nat) : (d.setStream die s v).queue r = d.queue r := by
  simp [Device.queue]
@[simp] theorem Device.queue_haltStream (die s cause index : Nat) (r : Nat) : (d.haltStream die s cause index).queue r = d.queue r := by
  simp [Device.queue]
@[simp] theorem Device.queue_write (a : Nat) (l : List PByte) (r : Nat) : (d.write a l).queue r = d.queue r := by
  simp [Device.queue]
@[simp] theorem Device.queue_writes (l : List (Nat × List PByte)) (r : Nat) : (d.writes l).queue r = d.queue r := by
  simp [Device.queue]
@[simp] theorem Device.queue_setPart (die a p : Nat) (v : Part) (r : Nat) : (d.setPart die a p v).queue r = d.queue r := by
  simp [Device.queue]
@[simp] theorem Device.queue_setArr (die a : Nat) (v : Arr) (r : Nat) : (d.setArr die a v).queue r = d.queue r := by
  simp [Device.queue]
@[simp] theorem Device.queue_setChan (die n : Nat) (v : DmaCh) (r : Nat) : (d.setChan die n v).queue r = d.queue r := by
  simp [Device.queue]
@[simp] theorem Device.queue_setSeg (g : Nat) (v : Seg) (r : Nat) : (d.setSeg g v).queue r = d.queue r := by
  simp [Device.queue]
@[simp] theorem Device.queue_setPort (p : Nat) (v : Port) (r : Nat) : (d.setPort p v).queue r = d.queue r := by
  simp [Device.queue]
@[simp] theorem Device.queue_setCol (die : Nat) (v : Col) (r : Nat) : (d.setCol die v).queue r = d.queue r := by
  simp [Device.queue]
@[simp] theorem Device.queue_setStash (die : Nat) (v : Stash) (r : Nat) : (d.setStash die v).queue r = d.queue r := by
  simp [Device.queue]
@[simp] theorem Device.queue_setMvp (die : Nat) (v : Mvp) (r : Nat) : (d.setMvp die v).queue r = d.queue r := by
  simp [Device.queue]
@[simp] theorem Device.queue_setSlipStack (s : Nat) (v : SlipStack) (r : Nat) : (d.setSlipStack s v).queue r = d.queue r := by
  simp [Device.queue]
@[simp] theorem Device.queue_setLoop (key : Nat) (l : Option VLoop) (r : Nat) : (d.setLoop key l).queue r = d.queue r := by
  simp [Device.queue]
@[simp] theorem Device.queue_setReg (k : Nat) (v : Word) (r : Nat) : (d.setReg k v).queue r = d.queue r := by
  simp [Device.queue]
@[simp] theorem Device.queue_note (k unit : Nat) (n : NumNote) (r : Nat) : (d.note k unit n).queue r = d.queue r := by
  simp [Device.queue]
@[simp] theorem Device.stream_post (c u : Nat) (w : Word) (e r : Nat) : (d.post c u w).stream e r = d.stream e r := by
  simp [Device.stream]
@[simp] theorem Device.stream_emit (o : Out) (e r : Nat) : (d.emit o).stream e r = d.stream e r := by
  simp [Device.stream]
@[simp] theorem Device.stream_progress (w : Nat) (e r : Nat) : (d.progress w).stream e r = d.stream e r := by
  simp [Device.stream]
@[simp] theorem Device.stream_progressN (w n : Nat) (e r : Nat) : (d.progressN w n).stream e r = d.stream e r := by
  simp [Device.stream]
@[simp] theorem Device.stream_write (a : Nat) (l : List PByte) (e r : Nat) : (d.write a l).stream e r = d.stream e r := by
  simp [Device.stream]
@[simp] theorem Device.stream_writes (l : List (Nat × List PByte)) (e r : Nat) : (d.writes l).stream e r = d.stream e r := by
  simp [Device.stream]
@[simp] theorem Device.stream_setPart (die a p : Nat) (v : Part) (e r : Nat) : (d.setPart die a p v).stream e r = d.stream e r := by
  simp [Device.stream]
@[simp] theorem Device.stream_setArr (die a : Nat) (v : Arr) (e r : Nat) : (d.setArr die a v).stream e r = d.stream e r := by
  simp [Device.stream]
@[simp] theorem Device.stream_setChan (die n : Nat) (v : DmaCh) (e r : Nat) : (d.setChan die n v).stream e r = d.stream e r := by
  simp [Device.stream]
@[simp] theorem Device.stream_setSeg (g : Nat) (v : Seg) (e r : Nat) : (d.setSeg g v).stream e r = d.stream e r := by
  simp [Device.stream]
@[simp] theorem Device.stream_setPort (p : Nat) (v : Port) (e r : Nat) : (d.setPort p v).stream e r = d.stream e r := by
  simp [Device.stream]
@[simp] theorem Device.stream_setCol (die : Nat) (v : Col) (e r : Nat) : (d.setCol die v).stream e r = d.stream e r := by
  simp [Device.stream]
@[simp] theorem Device.stream_setStash (die : Nat) (v : Stash) (e r : Nat) : (d.setStash die v).stream e r = d.stream e r := by
  simp [Device.stream]
@[simp] theorem Device.stream_setMvp (die : Nat) (v : Mvp) (e r : Nat) : (d.setMvp die v).stream e r = d.stream e r := by
  simp [Device.stream]
@[simp] theorem Device.stream_setSlipStack (s : Nat) (v : SlipStack) (e r : Nat) : (d.setSlipStack s v).stream e r = d.stream e r := by
  simp [Device.stream]
@[simp] theorem Device.stream_setLoop (key : Nat) (l : Option VLoop) (e r : Nat) : (d.setLoop key l).stream e r = d.stream e r := by
  simp [Device.stream]
@[simp] theorem Device.stream_setReg (k : Nat) (v : Word) (e r : Nat) : (d.setReg k v).stream e r = d.stream e r := by
  simp [Device.stream]
@[simp] theorem Device.stream_note (k unit : Nat) (n : NumNote) (e r : Nat) : (d.note k unit n).stream e r = d.stream e r := by
  simp [Device.stream]
@[simp] theorem Device.stream_setQueue (q : Nat) (l : List Cmd) (e r : Nat) : (d.setQueue q l).stream e r = d.stream e r := by
  simp [Device.stream]
@[simp] theorem Device.stream_popCmd (q : Nat) (e r : Nat) : (d.popCmd q).stream e r = d.stream e r := by
  simp [Device.stream]
@[simp] theorem Device.sync_post (c u : Nat) (w : Word) (e r : Nat) : (d.post c u w).sync e r = d.sync e r := by
  simp [Device.sync]
@[simp] theorem Device.sync_emit (o : Out) (e r : Nat) : (d.emit o).sync e r = d.sync e r := by
  simp [Device.sync]
@[simp] theorem Device.sync_progress (w : Nat) (e r : Nat) : (d.progress w).sync e r = d.sync e r := by
  simp [Device.sync]
@[simp] theorem Device.sync_progressN (w n : Nat) (e r : Nat) : (d.progressN w n).sync e r = d.sync e r := by
  simp [Device.sync]
@[simp] theorem Device.sync_setStream (die s : Nat) (v : Stream) (e r : Nat) : (d.setStream die s v).sync e r = d.sync e r := by
  simp [Device.sync]
@[simp] theorem Device.sync_haltStream (die s cause index : Nat) (e r : Nat) : (d.haltStream die s cause index).sync e r = d.sync e r := by
  simp [Device.sync]
@[simp] theorem Device.sync_write (a : Nat) (l : List PByte) (e r : Nat) : (d.write a l).sync e r = d.sync e r := by
  simp [Device.sync]
@[simp] theorem Device.sync_writes (l : List (Nat × List PByte)) (e r : Nat) : (d.writes l).sync e r = d.sync e r := by
  simp [Device.sync]
@[simp] theorem Device.sync_setPart (die a p : Nat) (v : Part) (e r : Nat) : (d.setPart die a p v).sync e r = d.sync e r := by
  simp [Device.sync]
@[simp] theorem Device.sync_setArr (die a : Nat) (v : Arr) (e r : Nat) : (d.setArr die a v).sync e r = d.sync e r := by
  simp [Device.sync]
@[simp] theorem Device.sync_setChan (die n : Nat) (v : DmaCh) (e r : Nat) : (d.setChan die n v).sync e r = d.sync e r := by
  simp [Device.sync]
@[simp] theorem Device.sync_setSeg (g : Nat) (v : Seg) (e r : Nat) : (d.setSeg g v).sync e r = d.sync e r := by
  simp [Device.sync]
@[simp] theorem Device.sync_setPort (p : Nat) (v : Port) (e r : Nat) : (d.setPort p v).sync e r = d.sync e r := by
  simp [Device.sync]
@[simp] theorem Device.sync_setCol (die : Nat) (v : Col) (e r : Nat) : (d.setCol die v).sync e r = d.sync e r := by
  simp [Device.sync]
@[simp] theorem Device.sync_setStash (die : Nat) (v : Stash) (e r : Nat) : (d.setStash die v).sync e r = d.sync e r := by
  simp [Device.sync]
@[simp] theorem Device.sync_setMvp (die : Nat) (v : Mvp) (e r : Nat) : (d.setMvp die v).sync e r = d.sync e r := by
  simp [Device.sync]
@[simp] theorem Device.sync_setSlipStack (s : Nat) (v : SlipStack) (e r : Nat) : (d.setSlipStack s v).sync e r = d.sync e r := by
  simp [Device.sync]
@[simp] theorem Device.sync_setLoop (key : Nat) (l : Option VLoop) (e r : Nat) : (d.setLoop key l).sync e r = d.sync e r := by
  simp [Device.sync]
@[simp] theorem Device.sync_setReg (k : Nat) (v : Word) (e r : Nat) : (d.setReg k v).sync e r = d.sync e r := by
  simp [Device.sync]
@[simp] theorem Device.sync_note (k unit : Nat) (n : NumNote) (e r : Nat) : (d.note k unit n).sync e r = d.sync e r := by
  simp [Device.sync]
@[simp] theorem Device.sync_setQueue (q : Nat) (l : List Cmd) (e r : Nat) : (d.setQueue q l).sync e r = d.sync e r := by
  simp [Device.sync]
@[simp] theorem Device.sync_popCmd (q : Nat) (e r : Nat) : (d.popCmd q).sync e r = d.sync e r := by
  simp [Device.sync]
@[simp] theorem Device.arr_post (c u : Nat) (w : Word) (e f : Nat) : (d.post c u w).arr e f = d.arr e f := by
  simp [Device.arr]
@[simp] theorem Device.arr_emit (o : Out) (e f : Nat) : (d.emit o).arr e f = d.arr e f := by
  simp [Device.arr]
@[simp] theorem Device.arr_progress (w : Nat) (e f : Nat) : (d.progress w).arr e f = d.arr e f := by
  simp [Device.arr]
@[simp] theorem Device.arr_progressN (w n : Nat) (e f : Nat) : (d.progressN w n).arr e f = d.arr e f := by
  simp [Device.arr]
@[simp] theorem Device.arr_setStream (die s : Nat) (v : Stream) (e f : Nat) : (d.setStream die s v).arr e f = d.arr e f := by
  simp [Device.arr]
@[simp] theorem Device.arr_haltStream (die s cause index : Nat) (e f : Nat) : (d.haltStream die s cause index).arr e f = d.arr e f := by
  simp [Device.arr]
@[simp] theorem Device.arr_write (a : Nat) (l : List PByte) (e f : Nat) : (d.write a l).arr e f = d.arr e f := by
  simp [Device.arr]
@[simp] theorem Device.arr_writes (l : List (Nat × List PByte)) (e f : Nat) : (d.writes l).arr e f = d.arr e f := by
  simp [Device.arr]
@[simp] theorem Device.arr_setChan (die n : Nat) (v : DmaCh) (e f : Nat) : (d.setChan die n v).arr e f = d.arr e f := by
  simp [Device.arr]
@[simp] theorem Device.arr_setSeg (g : Nat) (v : Seg) (e f : Nat) : (d.setSeg g v).arr e f = d.arr e f := by
  simp [Device.arr]
@[simp] theorem Device.arr_setPort (p : Nat) (v : Port) (e f : Nat) : (d.setPort p v).arr e f = d.arr e f := by
  simp [Device.arr]
@[simp] theorem Device.arr_setCol (die : Nat) (v : Col) (e f : Nat) : (d.setCol die v).arr e f = d.arr e f := by
  simp [Device.arr]
@[simp] theorem Device.arr_setStash (die : Nat) (v : Stash) (e f : Nat) : (d.setStash die v).arr e f = d.arr e f := by
  simp [Device.arr]
@[simp] theorem Device.arr_setMvp (die : Nat) (v : Mvp) (e f : Nat) : (d.setMvp die v).arr e f = d.arr e f := by
  simp [Device.arr]
@[simp] theorem Device.arr_setSlipStack (s : Nat) (v : SlipStack) (e f : Nat) : (d.setSlipStack s v).arr e f = d.arr e f := by
  simp [Device.arr]
@[simp] theorem Device.arr_setLoop (key : Nat) (l : Option VLoop) (e f : Nat) : (d.setLoop key l).arr e f = d.arr e f := by
  simp [Device.arr]
@[simp] theorem Device.arr_setReg (k : Nat) (v : Word) (e f : Nat) : (d.setReg k v).arr e f = d.arr e f := by
  simp [Device.arr]
@[simp] theorem Device.arr_note (k unit : Nat) (n : NumNote) (e f : Nat) : (d.note k unit n).arr e f = d.arr e f := by
  simp [Device.arr]
@[simp] theorem Device.arr_setQueue (q : Nat) (l : List Cmd) (e f : Nat) : (d.setQueue q l).arr e f = d.arr e f := by
  simp [Device.arr]
@[simp] theorem Device.arr_popCmd (q : Nat) (e f : Nat) : (d.popCmd q).arr e f = d.arr e f := by
  simp [Device.arr]
@[simp] theorem Device.part_post (c u : Nat) (w : Word) (e f i : Nat) : (d.post c u w).part e f i = d.part e f i := by
  simp [Device.part]
@[simp] theorem Device.part_emit (o : Out) (e f i : Nat) : (d.emit o).part e f i = d.part e f i := by
  simp [Device.part]
@[simp] theorem Device.part_progress (w : Nat) (e f i : Nat) : (d.progress w).part e f i = d.part e f i := by
  simp [Device.part]
@[simp] theorem Device.part_progressN (w n : Nat) (e f i : Nat) : (d.progressN w n).part e f i = d.part e f i := by
  simp [Device.part]
@[simp] theorem Device.part_setStream (die s : Nat) (v : Stream) (e f i : Nat) : (d.setStream die s v).part e f i = d.part e f i := by
  simp [Device.part]
@[simp] theorem Device.part_haltStream (die s cause index : Nat) (e f i : Nat) : (d.haltStream die s cause index).part e f i = d.part e f i := by
  simp [Device.part]
@[simp] theorem Device.part_write (a : Nat) (l : List PByte) (e f i : Nat) : (d.write a l).part e f i = d.part e f i := by
  simp [Device.part]
@[simp] theorem Device.part_writes (l : List (Nat × List PByte)) (e f i : Nat) : (d.writes l).part e f i = d.part e f i := by
  simp [Device.part]
@[simp] theorem Device.part_setChan (die n : Nat) (v : DmaCh) (e f i : Nat) : (d.setChan die n v).part e f i = d.part e f i := by
  simp [Device.part]
@[simp] theorem Device.part_setSeg (g : Nat) (v : Seg) (e f i : Nat) : (d.setSeg g v).part e f i = d.part e f i := by
  simp [Device.part]
@[simp] theorem Device.part_setPort (p : Nat) (v : Port) (e f i : Nat) : (d.setPort p v).part e f i = d.part e f i := by
  simp [Device.part]
@[simp] theorem Device.part_setCol (die : Nat) (v : Col) (e f i : Nat) : (d.setCol die v).part e f i = d.part e f i := by
  simp [Device.part]
@[simp] theorem Device.part_setStash (die : Nat) (v : Stash) (e f i : Nat) : (d.setStash die v).part e f i = d.part e f i := by
  simp [Device.part]
@[simp] theorem Device.part_setMvp (die : Nat) (v : Mvp) (e f i : Nat) : (d.setMvp die v).part e f i = d.part e f i := by
  simp [Device.part]
@[simp] theorem Device.part_setSlipStack (s : Nat) (v : SlipStack) (e f i : Nat) : (d.setSlipStack s v).part e f i = d.part e f i := by
  simp [Device.part]
@[simp] theorem Device.part_setLoop (key : Nat) (l : Option VLoop) (e f i : Nat) : (d.setLoop key l).part e f i = d.part e f i := by
  simp [Device.part]
@[simp] theorem Device.part_setReg (k : Nat) (v : Word) (e f i : Nat) : (d.setReg k v).part e f i = d.part e f i := by
  simp [Device.part]
@[simp] theorem Device.part_note (k unit : Nat) (n : NumNote) (e f i : Nat) : (d.note k unit n).part e f i = d.part e f i := by
  simp [Device.part]
@[simp] theorem Device.part_setQueue (q : Nat) (l : List Cmd) (e f i : Nat) : (d.setQueue q l).part e f i = d.part e f i := by
  simp [Device.part]
@[simp] theorem Device.part_popCmd (q : Nat) (e f i : Nat) : (d.popCmd q).part e f i = d.part e f i := by
  simp [Device.part]
@[simp] theorem Device.turn_post (c u : Nat) (w : Word) (e f : Nat) : (d.post c u w).turn e f = d.turn e f := by
  simp [Device.turn]
@[simp] theorem Device.turn_emit (o : Out) (e f : Nat) : (d.emit o).turn e f = d.turn e f := by
  simp [Device.turn]
@[simp] theorem Device.turn_progress (w : Nat) (e f : Nat) : (d.progress w).turn e f = d.turn e f := by
  simp [Device.turn]
@[simp] theorem Device.turn_progressN (w n : Nat) (e f : Nat) : (d.progressN w n).turn e f = d.turn e f := by
  simp [Device.turn]
@[simp] theorem Device.turn_setStream (die s : Nat) (v : Stream) (e f : Nat) : (d.setStream die s v).turn e f = d.turn e f := by
  simp [Device.turn]
@[simp] theorem Device.turn_haltStream (die s cause index : Nat) (e f : Nat) : (d.haltStream die s cause index).turn e f = d.turn e f := by
  simp [Device.turn]
@[simp] theorem Device.turn_write (a : Nat) (l : List PByte) (e f : Nat) : (d.write a l).turn e f = d.turn e f := by
  simp [Device.turn]
@[simp] theorem Device.turn_writes (l : List (Nat × List PByte)) (e f : Nat) : (d.writes l).turn e f = d.turn e f := by
  simp [Device.turn]
@[simp] theorem Device.turn_setChan (die n : Nat) (v : DmaCh) (e f : Nat) : (d.setChan die n v).turn e f = d.turn e f := by
  simp [Device.turn]
@[simp] theorem Device.turn_setSeg (g : Nat) (v : Seg) (e f : Nat) : (d.setSeg g v).turn e f = d.turn e f := by
  simp [Device.turn]
@[simp] theorem Device.turn_setPort (p : Nat) (v : Port) (e f : Nat) : (d.setPort p v).turn e f = d.turn e f := by
  simp [Device.turn]
@[simp] theorem Device.turn_setCol (die : Nat) (v : Col) (e f : Nat) : (d.setCol die v).turn e f = d.turn e f := by
  simp [Device.turn]
@[simp] theorem Device.turn_setStash (die : Nat) (v : Stash) (e f : Nat) : (d.setStash die v).turn e f = d.turn e f := by
  simp [Device.turn]
@[simp] theorem Device.turn_setMvp (die : Nat) (v : Mvp) (e f : Nat) : (d.setMvp die v).turn e f = d.turn e f := by
  simp [Device.turn]
@[simp] theorem Device.turn_setSlipStack (s : Nat) (v : SlipStack) (e f : Nat) : (d.setSlipStack s v).turn e f = d.turn e f := by
  simp [Device.turn]
@[simp] theorem Device.turn_setLoop (key : Nat) (l : Option VLoop) (e f : Nat) : (d.setLoop key l).turn e f = d.turn e f := by
  simp [Device.turn]
@[simp] theorem Device.turn_setReg (k : Nat) (v : Word) (e f : Nat) : (d.setReg k v).turn e f = d.turn e f := by
  simp [Device.turn]
@[simp] theorem Device.turn_note (k unit : Nat) (n : NumNote) (e f : Nat) : (d.note k unit n).turn e f = d.turn e f := by
  simp [Device.turn]
@[simp] theorem Device.turn_setQueue (q : Nat) (l : List Cmd) (e f : Nat) : (d.setQueue q l).turn e f = d.turn e f := by
  simp [Device.turn]
@[simp] theorem Device.turn_popCmd (q : Nat) (e f : Nat) : (d.popCmd q).turn e f = d.turn e f := by
  simp [Device.turn]
@[simp] theorem Device.tile_post (c u : Nat) (w : Word) (e f i : Nat) : (d.post c u w).tile e f i = d.tile e f i := by
  simp [Device.tile]
@[simp] theorem Device.tile_emit (o : Out) (e f i : Nat) : (d.emit o).tile e f i = d.tile e f i := by
  simp [Device.tile]
@[simp] theorem Device.tile_progress (w : Nat) (e f i : Nat) : (d.progress w).tile e f i = d.tile e f i := by
  simp [Device.tile]
@[simp] theorem Device.tile_progressN (w n : Nat) (e f i : Nat) : (d.progressN w n).tile e f i = d.tile e f i := by
  simp [Device.tile]
@[simp] theorem Device.tile_setStream (die s : Nat) (v : Stream) (e f i : Nat) : (d.setStream die s v).tile e f i = d.tile e f i := by
  simp [Device.tile]
@[simp] theorem Device.tile_haltStream (die s cause index : Nat) (e f i : Nat) : (d.haltStream die s cause index).tile e f i = d.tile e f i := by
  simp [Device.tile]
@[simp] theorem Device.tile_write (a : Nat) (l : List PByte) (e f i : Nat) : (d.write a l).tile e f i = d.tile e f i := by
  simp [Device.tile]
@[simp] theorem Device.tile_writes (l : List (Nat × List PByte)) (e f i : Nat) : (d.writes l).tile e f i = d.tile e f i := by
  simp [Device.tile]
@[simp] theorem Device.tile_setChan (die n : Nat) (v : DmaCh) (e f i : Nat) : (d.setChan die n v).tile e f i = d.tile e f i := by
  simp [Device.tile]
@[simp] theorem Device.tile_setSeg (g : Nat) (v : Seg) (e f i : Nat) : (d.setSeg g v).tile e f i = d.tile e f i := by
  simp [Device.tile]
@[simp] theorem Device.tile_setPort (p : Nat) (v : Port) (e f i : Nat) : (d.setPort p v).tile e f i = d.tile e f i := by
  simp [Device.tile]
@[simp] theorem Device.tile_setCol (die : Nat) (v : Col) (e f i : Nat) : (d.setCol die v).tile e f i = d.tile e f i := by
  simp [Device.tile]
@[simp] theorem Device.tile_setStash (die : Nat) (v : Stash) (e f i : Nat) : (d.setStash die v).tile e f i = d.tile e f i := by
  simp [Device.tile]
@[simp] theorem Device.tile_setMvp (die : Nat) (v : Mvp) (e f i : Nat) : (d.setMvp die v).tile e f i = d.tile e f i := by
  simp [Device.tile]
@[simp] theorem Device.tile_setSlipStack (s : Nat) (v : SlipStack) (e f i : Nat) : (d.setSlipStack s v).tile e f i = d.tile e f i := by
  simp [Device.tile]
@[simp] theorem Device.tile_setLoop (key : Nat) (l : Option VLoop) (e f i : Nat) : (d.setLoop key l).tile e f i = d.tile e f i := by
  simp [Device.tile]
@[simp] theorem Device.tile_setReg (k : Nat) (v : Word) (e f i : Nat) : (d.setReg k v).tile e f i = d.tile e f i := by
  simp [Device.tile]
@[simp] theorem Device.tile_note (k unit : Nat) (n : NumNote) (e f i : Nat) : (d.note k unit n).tile e f i = d.tile e f i := by
  simp [Device.tile]
@[simp] theorem Device.tile_setQueue (q : Nat) (l : List Cmd) (e f i : Nat) : (d.setQueue q l).tile e f i = d.tile e f i := by
  simp [Device.tile]
@[simp] theorem Device.tile_popCmd (q : Nat) (e f i : Nat) : (d.popCmd q).tile e f i = d.tile e f i := by
  simp [Device.tile]
@[simp] theorem Device.drains_post (c u : Nat) (w : Word) (e f i : Nat) : (d.post c u w).drains e f i = d.drains e f i := by
  simp [Device.drains]
@[simp] theorem Device.drains_emit (o : Out) (e f i : Nat) : (d.emit o).drains e f i = d.drains e f i := by
  simp [Device.drains]
@[simp] theorem Device.drains_progress (w : Nat) (e f i : Nat) : (d.progress w).drains e f i = d.drains e f i := by
  simp [Device.drains]
@[simp] theorem Device.drains_progressN (w n : Nat) (e f i : Nat) : (d.progressN w n).drains e f i = d.drains e f i := by
  simp [Device.drains]
@[simp] theorem Device.drains_setStream (die s : Nat) (v : Stream) (e f i : Nat) : (d.setStream die s v).drains e f i = d.drains e f i := by
  simp [Device.drains]
@[simp] theorem Device.drains_haltStream (die s cause index : Nat) (e f i : Nat) : (d.haltStream die s cause index).drains e f i = d.drains e f i := by
  simp [Device.drains]
@[simp] theorem Device.drains_write (a : Nat) (l : List PByte) (e f i : Nat) : (d.write a l).drains e f i = d.drains e f i := by
  simp [Device.drains]
@[simp] theorem Device.drains_writes (l : List (Nat × List PByte)) (e f i : Nat) : (d.writes l).drains e f i = d.drains e f i := by
  simp [Device.drains]
@[simp] theorem Device.drains_setChan (die n : Nat) (v : DmaCh) (e f i : Nat) : (d.setChan die n v).drains e f i = d.drains e f i := by
  simp [Device.drains]
@[simp] theorem Device.drains_setSeg (g : Nat) (v : Seg) (e f i : Nat) : (d.setSeg g v).drains e f i = d.drains e f i := by
  simp [Device.drains]
@[simp] theorem Device.drains_setPort (p : Nat) (v : Port) (e f i : Nat) : (d.setPort p v).drains e f i = d.drains e f i := by
  simp [Device.drains]
@[simp] theorem Device.drains_setCol (die : Nat) (v : Col) (e f i : Nat) : (d.setCol die v).drains e f i = d.drains e f i := by
  simp [Device.drains]
@[simp] theorem Device.drains_setStash (die : Nat) (v : Stash) (e f i : Nat) : (d.setStash die v).drains e f i = d.drains e f i := by
  simp [Device.drains]
@[simp] theorem Device.drains_setMvp (die : Nat) (v : Mvp) (e f i : Nat) : (d.setMvp die v).drains e f i = d.drains e f i := by
  simp [Device.drains]
@[simp] theorem Device.drains_setSlipStack (s : Nat) (v : SlipStack) (e f i : Nat) : (d.setSlipStack s v).drains e f i = d.drains e f i := by
  simp [Device.drains]
@[simp] theorem Device.drains_setLoop (key : Nat) (l : Option VLoop) (e f i : Nat) : (d.setLoop key l).drains e f i = d.drains e f i := by
  simp [Device.drains]
@[simp] theorem Device.drains_setReg (k : Nat) (v : Word) (e f i : Nat) : (d.setReg k v).drains e f i = d.drains e f i := by
  simp [Device.drains]
@[simp] theorem Device.drains_note (k unit : Nat) (n : NumNote) (e f i : Nat) : (d.note k unit n).drains e f i = d.drains e f i := by
  simp [Device.drains]
@[simp] theorem Device.drains_setQueue (q : Nat) (l : List Cmd) (e f i : Nat) : (d.setQueue q l).drains e f i = d.drains e f i := by
  simp [Device.drains]
@[simp] theorem Device.drains_popCmd (q : Nat) (e f i : Nat) : (d.popCmd q).drains e f i = d.drains e f i := by
  simp [Device.drains]
@[simp] theorem Device.part_setArr (die a : Nat) (v : Arr) (e f i : Nat) : (d.setArr die a v).part e f i = d.part e f i := rfl
@[simp] theorem Device.arr_setPart (die a p : Nat) (v : Part) (e f : Nat) : (d.setPart die a p v).arr e f = d.arr e f := rfl
@[simp] theorem Device.turn_setPart (die a p : Nat) (v : Part) (e f : Nat) : (d.setPart die a p v).turn e f = d.turn e f := rfl
@[simp] theorem Device.part_setTurn (die a : Nat) (v : Turn) (e f i : Nat) : (d.setTurn die a v).part e f i = d.part e f i := rfl
@[simp] theorem Device.queue_popCmd_self (q : Nat) : (d.popCmd q).queue q = (d.queue q).tail := by
  simp [Device.popCmd]

end Sys2Proof.Machine
end

