-- ==== Sys2Proof/Laws/Interlock.lean ====
section
/-! SUPPORT. What an ordinary access does: it takes effect, or a busy bank holds it. -/

namespace Sys2Proof.Machine

theorem State.waitsAt_idle (s : State) (f : State → State) (passed : List Nat) (h : s.dev.busyUnits = []) : s.waitsAt f passed = none := by
  simp [State.waitsAt, h]

/-- With no unit busy nothing is held, so no access is. -/
theorem State.heldBy_idle (s : State) (o : Ordinary) (f : State → State) (passed : List Nat) (h : s.dev.busyUnits = []) :
    s.heldBy o f passed = none := by
  have held : s.dev.slip.held = [] := List.map_eq_nil_iff.mp (List.append_eq_nil_iff.mp h).2
  cases o.isHost <;> simp [State.heldBy, held, s.waitsAt_idle f passed h]

/-- With no unit busy an ordinary access takes effect at once. -/
theorem ordinary_idle (i : Instr) (s : State) (h : s.dev.busyUnits = []) : ordinary i s = .next (ordinaryEffect i s) := by
  unfold ordinary
  rw [s.heldBy_idle _ _ _ h]

/-- Everything that an ordinary access can do: it takes effect, or it is held at a bank and nothing else changes. -/
theorem ordinary_cases (i : Instr) (s : State) :
    (s.heldBy (s.dev.accessOf i) (ordinaryEffect i) [] = none ∧ ordinary i s = .next (ordinaryEffect i s)) ∨
    ∃ u, s.heldBy (s.dev.accessOf i) (ordinaryEffect i) [] = some u ∧
      ordinary i s = .next { s with dev := s.dev.hold { unit := u, what := s.dev.accessOf i } } := by
  unfold ordinary
  cases s.heldBy (s.dev.accessOf i) (ordinaryEffect i) [] with
  | none => exact .inl ⟨rfl, rfl⟩
  | some u => exact .inr ⟨u, rfl, rfl⟩

/-- A held access changes the list of held accesses alone. -/
theorem Device.hold_only (d : Device) (h : Held) : d.hold h = { d with slip.held := (d.hold h).slip.held } := by
  unfold Device.hold
  split <;> rfl

end Sys2Proof.Machine
end

