-- ==== Sys2Proof/WellFormed.lean ====
section
/-! DEFINITION. Which commands are well-formed: operands whose types are wider than what the spec lets them name. -/

namespace Sys2Proof

open Sys2Proof.Machine

/-- A flit has 20 slots of 32 bytes (R355). -/
def flitWf (f : Flit) : Bool := f.slots.length == 20 && f.slots.all (fun s => s.length == 8)

/-- Two firmware slots and eight sockets (R261, R447). -/
def probeWf (b : BootProbe) : Bool := b.slotErr.length == 2 && b.dimmCap.length == 8 && b.dimmKind.length == 8

/-- A management message has up to 4 KiB (R428); a Daxelm one has 8 bytes before its payload (R429). -/
def mctpWf (n : Nat) : Bool := decide (n ≤ 4096)

/-- Whether a command names things that exist. -/
def Instr.wf : Instr → Bool
  | .columnSwap _ _ _ col => decide (col < 256)
  | .latePrefetch (.queue q) => decide (256 ≤ q ∧ q < 735)
  | .dataFlit _ f => flitWf f
  | .controlFlit _ f => flitWf f
  | .apertureAccess _ off _ _ _ => decide (off < 2 ^ 36)
  | .powerGood _ b => probeWf b
  | .hang w => slotOk w
  | .groupReset w => slotOk w && decide (w < 256)
  | .release units first words => first.length == units.length && words.length == units.length
  | .setEndpointId req => mctpWf req.length
  | .getEndpointId req => mctpWf req.length
  | .getEndpointUuid req => mctpWf req.length
  | .getMctpVersionSupport req => mctpWf req.length
  | .getMessageTypeSupport req => mctpWf req.length
  | .getVendorDefinedMessageSupport req => mctpWf req.length
  | .getStatus _ payload => mctpWf (8 + payload.length)
  | .getHealth _ payload => mctpWf (8 + payload.length)
  | .getEvents _ payload => mctpWf (8 + payload.length)
  | .getQuote _ payload => mctpWf (8 + payload.length)
  | .repairDone ls _ => ls.length == 4
  | .thermWarn k i _ => decide (i.val < sensorCount k.val)
  | .thermalShutdown k i _ => decide (i.val < sensorCount k.val)
  | .thermWarnRearm k i _ => decide (i.val < sensorCount k.val)
  | _ => true

end Sys2Proof
end

