-- ==== Sys2Proof/Tests/Slice0.lean ====
section
/-! SUPPORT. Tests: one ill-formed command for each check, the spec's worked examples, and for every clause with hypotheses of the
statements a concrete state and operands that meet them all. -/

namespace Sys2Proof.Tests

set_option linter.all false
set_option Elab.async false

open Sys2Proof Sys2Proof.Machine

/-! One ill-formed command for each check of `Instr.wf`. -/

theorem test_wf_column : Instr.wf (.columnSwap 0 0 0 256) = false := by decide
theorem test_wf_late_queue_low : Instr.wf (.latePrefetch (.queue 255)) = false := by decide
theorem test_wf_late_queue_high : Instr.wf (.latePrefetch (.queue 735)) = false := by decide
theorem test_wf_data_flit : Instr.wf (.dataFlit 0 { wrong := 0, p := 0, slots := [] }) = false := by decide
theorem test_wf_control_flit : Instr.wf (.controlFlit 0 { wrong := 0, p := 0, slots := List.replicate 20 [0] }) = false := by decide
theorem test_wf_aperture : Instr.wf (.apertureAccess false (2 ^ 36) [] 4 false) = false := by decide
theorem test_wf_power_good : Instr.wf (.powerGood 0 ⟨true, true, true, [.none], [], []⟩) = false := by decide
theorem test_wf_hang : Instr.wf (.hang 36) = false := by decide
theorem test_wf_group_reset : Instr.wf (.groupReset 256) = false := by decide
theorem test_wf_repair_done : Instr.wf (.repairDone [0, 0, 0] 0) = false := by decide
theorem test_wf_therm_warn : Instr.wf (.thermWarn 1 8 0) = false := by decide
theorem test_wf_thermal_shutdown : Instr.wf (.thermalShutdown 1 8 0) = false := by decide
theorem test_wf_therm_rearm : Instr.wf (.thermWarnRearm 1 8 0) = false := by decide

/-! The spec's worked examples and test vectors. -/

/-- Unit identifiers of chapter 1: `d2.p*`, `s*.c*.b*`, and of chapters 14 and 16: `d1`, `d2.p5.B`. -/
theorem test_unit_identifiers :
    uPair 2 0xFF = 0x111FFFFE ∧ uidOf 2 0x1F 1 0xFF 0xFFF = 0x2F9FFFFF ∧ uDie 1 = 0x108FEFFE ∧ uArray 2 11 = 0x11105001 := by
  decide

/-- R67's test vector: key 0 and counter 0. -/
theorem test_grog_vector : grog 0 0 (0, 0, 0, 0) = (0xB763A730, 0x41EF57A8, 0x4B3EDCF6, 0x049427C9) := by decide +kernel

/-- Chapter 2: a block whose largest magnitude is 1.0625 takes scale code 0x77 in E4M3, and its element, kept down by the
word of counter 0, code 0x78. -/
theorem test_sr_block :
    convBlock .e4m3 [Draw.rnd ⟨0, 0, 0, 0, 0⟩ 2 0] false [.fin false 17 (-4)] = { scale := 0x77, codes := [0x78], counted := 0, blkNan := false } := by
  decide +kernel

/-- The same element rounds up, to 0x79, when its word gives u below 0x800000. -/
theorem test_sr_rounds_up : (convBlock .e4m3 [.sr 0x7FFFFF] false [.fin false 17 (-4)]).codes = [0x79] := by decide +kernel

/-- Chapter 2: 500 under scale 1 saturates in E4M3 and is counted. -/
theorem test_saturation : Fmt.e4m3.convert .rne false (.fin false 500 0) = { code := 0x7E, counted := true, blkNan := false } := by
  decide +kernel

/-- R33's example: twelve leaves behind input 0 and one at input 1, which all ask all the time; of 13 grants, after the one in which
the counts reach the root, input 0 takes twelve and input 1 one. -/
theorem test_arbiter_shares :
    let asks : List LeafAsk := ⟨[1], none⟩ :: (List.range 12).map (fun k => ⟨[0, k], none⟩)
    let g := (List.range 14).foldl (fun (p : Device × List (Option (List Nat))) _ =>
      let d := devArbiterGrant 0 asks [] false p.1
      (d, (mget {} d.core.arb 0).granted :: p.2)) ({}, [])
    (g.2.take 13).count (some [1]) = 1 ∧ (List.range 12).all (fun k => (g.2.take 13).count (some [0, k]) == 1) = true := by
  decide +kernel

/-- Chapter 3: the opening convolution has 16, 36 and 64 output positions along its three axes. -/
theorem test_conv_extents :
    let g : ConvGeo := { it := 16, ih := 72, iw := 128, s := (1, 2, 2), k := (3, 3, 3), p0 := (1, 1, 1), p1 := (1, 1, 1) }
    (g.ot, g.oh, g.ow) = (16, 36, 64) := by decide +kernel

/-- The values of chapter 10's TOPK example. -/
def topkT : List Val :=
  (List.range 256).map (fun i => match i with
    | 3 => .fin false 3 (-2) | 10 => .fin true 1 (-1) | 17 => .fin false 1 (-2) | 40 => .fin false 3 (-1)
    | 41 => .fin true 1 (-4) | 200 => .fin false 1 (-3) | _ => .zero)

/-- Chapter 10: in that example the four largest magnitudes are at indices 40, 3, 10 and 17. -/
theorem test_topk_ranks : [40, 3, 10, 17, 200, 41].map (topkRank topkT) = [0, 1, 2, 3, 4, 5] := by decide +kernel

/-- Chapter 10: its scale codes, and its element codes at indices 3, 10, 17, 40, 41 and 200. -/
theorem test_topk_codes :
    let r := conv256 .e5m2 (fun _ => .rne) false topkT
    (r.1, [3, 10, 17, 40, 41, 200].map (fun i => r.2.1.getD i 0)) =
      ([0x6F, 0x70, 0x7F, 0x7F, 0x7F, 0x7F, 0x6D, 0x7F], [0x7A, 0xF8, 0x74, 0x7A, 0xE8, 0x78]) := by decide +kernel

/-- Chapter 11: 1,024 by 1,024 pixels, downscaled by 4, 24 frames, patches of 16 in RGB as E4M3: K 768, 6,144 rows, the scales
from 0x481000, and the slot's end at 0x4A5000. -/
theorem test_ingest_geometry :
    let g := ingGeo (wordAt (List.replicate 16 0 ++ [0x04000400, 0, 0x31300000, 0x00020018]))
    (g.k, g.rows, g.sOff, g.size) = (768, 6144, 0x481000, 0x4A5000) := by decide +kernel

/-- Chapter 12: the WR that channel `d1.dma.k9` of module 0x0412 sends to module 0x0A07. -/
theorem test_wr_header :
    let d := (({} : Device).setReg (mreg 4 0) 0x03000412).setReg (mreg 4 0xC) 32
    let k := d.requestPacket { kind := 0, dst := 0xA07, off := 0x123456000, len := 512 } 0x1A2B
    (k.h.take 5, hdrSlots k.h + 1) = ([0x11000A07, 0x03000412, 0x1A2B0200, 0x23456000, 1], 17) := by decide +kernel

/-- Chapter 13: with EMAX 16 the value 2^14 enters as 2^108. -/
theorem test_collective_entry : entryOf 16 (.fin false 1 14) false = { a := 2 ^ 108 } := by decide +kernel

/-- Chapter 13: a block whose one element is 2^108 + 3 * 2^84 goes out with WB 4 and SHIFT 84. -/
theorem test_partial_block_head :
    ((encodeBlock ((2 ^ 108 + 3 * 2 ^ 84) :: List.replicate 31 0, false)).take 4).map (fun b => b.1.toNat) = [4, 84, 0, 0] := by
  decide +kernel

/-- Chapter 16: HANG of slot 133, whose pair `d2.p5` has made 11,328 events of progress modulo 2^16, carries 0x42802C40. -/
theorem test_hang_data :
    ((({} : Device).progressN 133 11328).fire 133).core.evq.map (fun e => (e.code, e.unit, e.data)) = [(0x0A01, 0x11105FFE, 0x42802C40)] := by
  decide +kernel

/-- Chapter 16: RESET_DONE of engine group 133, asked for by Synian, with its tag now 7, carries 0x00070085. -/
theorem test_reset_done_data :
    (({} : Device).releaseReset { level := 0, target := 133, src := .synian } 7).core.evq.map (fun e => (e.code, e.data)) =
      [(0x0A09, 0x00070085)] := by decide +kernel

/-- Chapter 14: the second pass round a ring of 1,024 writes GEN 2 and PHASE 0 in V0. -/
theorem test_event_record :
    ((({} : Device).setReg (mreg 4 0) 0x02000001).record { code := 0x0403, unit := uDie 1, data := 0x01100028, die := 1 } 1029 0).take 4 =
      [0x04030200, 0x108FEFFE, 0x01100028, 1029] := by decide +kernel

/-- Chapter 7: the words of WAIT and LOOP as the example prints them. -/
theorem test_dma_words :
    (fld 0x44280000 31 28, fld 0x44280000 27 26, fld 0x44280000 23 16) = (4, 1, 40) ∧ fld 0x30000006 31 28 = 3 := by decide

/-- R418 and R401: the SRAM of die 2 at 4 MiB, and the registers of die 3's DMA block. -/
theorem test_addresses : sramDA 0x80400000 = 0x2000000400000 ∧ regionOf 0xC000000380000 = 12 := by decide

/-! Witnesses. A witness named after a statement shows values that meet the hypotheses of one of its clauses, numbered as the
clauses stand. -/

/-- A state with this device, no snapshot and nothing waiting. -/
def mk (d : Device) : State := { dev := d }

/-- A command record of words, with no wait condition met yet. -/
def cm (w : List Word) : Cmd := { w := w }

/-- A device whose queue k holds one command. -/
def qd (k : Nat) (w : List Word) : Device := ({} : Device).setQueue k [cm w]

/-- A device whose first die's stash is `s`. -/
def sd (s : Stash) : Device := ({} : Device).setStash 0 s

/-- The PUT of 16 bytes as handle 1, and another stash command for that handle. -/
def putW : List Word := [0xA0000000, 0, 0, 0x00100000, 16]

/-- A device whose first stream holds a record, ready to run. -/
def rd (r : List Word) : Device := ({} : Device).setStream 0 0 { state := .run, tail := 1, rcd := some r }

/-- A control operation's record: W0 with its COP, and the words W1 to W5. -/
def cop (k : Nat) (l : List Word) : List Word := List.replicate 8 0 ++ [wd (0xF0000000 + k * 2 ^ 24)] ++ l

/-- A loop of one element on cluster 0 whose program is the one instruction `ins`. -/
def lp (ins : Word) (vl : Nat := 1) : VLoop :=
  { cmd := cm [0x70000000, 0, 0, 0, 1, wd ((vl - 1) * 2 ^ 21)], group := [0], open_ := true, slots := List.replicate 8 (slotInit 1),
    prog := (List.range 4).map (fun k => (k, (toBytes 4 ins.toNat).getD k 0)) }

/-- The device that runs it. -/
def lpD (ins : Word) (vl : Nat := 1) : Device := ({} : Device).setLoop 0 (some (lp ins vl))

/-- A device whose first channel runs a program of the one instruction `w`. -/
def dm (w : List Word) (p : DmaProg := {}) : Device := (({} : Device).setProg 0 0 p).write 0 (clean (wordsToBytes w))

/-- A GATHER of one unit under way on a stack: rows of 32 bytes, none of them valid. -/
def slipR : SlipRun := { cmd := cm [0x50000000, 0, 0, 0x10000000], D := [0, 0, 0, 0, 0, 32], mems := [(0, {})] }

/-- The device with these words in SRAM from address 0 on. -/
def at0 (d : Device) (w : List Word) : Device := d.write 0 (clean (wordsToBytes w))

/-- An ingest descriptor of one sample of 8 by 8 pixels and one slot. -/
def ingD : List Word := [0, 0, 0, 0, 0, 0, 0, 0, 0, 1, 1, 0, 0, 65536, 0x10000, 0, 0x80008, 0, 0, 0x10001]

/-- A master update of two lines on channel 0, under way. -/
def mupdR : MupdRun := { D := [0, 0x80000, 0, 0, 0, 16, 2], mems := [(0, { left := 2 })] }

/-- A device whose port 0 is `x`. -/
def pd (x : Port) : Device := ({} : Device).setPort 0 x

/-- A device whose port 0, linked, has received one packet with these header words and data. -/
def rxD (h : List Word) (body : List Byte := []) : Device := pd { state := 2, rx := [({ h := h, body := body }, false)] }

/-- A flit whose slots hold nothing but `w` in the first word of the first. -/
def flitOf (p : Nat) (w : Word := 0) : Flit :=
  mkFlit p ((w :: List.replicate 7 0) :: List.replicate 18 (List.replicate 8 0)) [0, 0, 0, 0, 0, 0, 0]

/-- Member c of an ALL_REDUCE of two over 17 units, its output E5M2. -/
def colR (c : Nat) : ColRun := { D := [0, 0, 0, 0, 0, 0, 0x32940000, 16], n := 2, c := c, gens := [(0, 0)] }

/-- The trailer's CRC of a flit built by `mkFlit` is that of its own words. -/
theorem flit_of_good (p : Nat) (w : Word) (h : (BitVec.ofNat 20 p).toNat = p) : flitGood (flitOf p w) = true := by
  have hs : (flitOf p w).slots.take 19 = (w :: List.replicate 7 0) :: List.replicate 18 (List.replicate 8 0) := rfl
  have ht : ((flitOf p w).slots.getD 19 []).take 7 = [0, 0, 0, 0, 0, 0, 0] := rfl
  have hp : (flitOf p w).p.toNat = p := h
  have hc : trailerWord (flitOf p w) 7 =
      flitCrc p ((w :: List.replicate 7 0) :: List.replicate 18 (List.replicate 8 0)) [0, 0, 0, 0, 0, 0, 0] := by
    simp [trailerWord, flitOf, mkFlit, wordAt]
  have he : flitCrc (flitOf p w).p.toNat (flitOf p w).slots ((flitOf p w).slots.getD 19 []) =
      flitCrc p ((w :: List.replicate 7 0) :: List.replicate 18 (List.replicate 8 0)) [0, 0, 0, 0, 0, 0, 0] := by
    unfold flitCrc
    rw [hs, ht, hp]
    rfl
  have hl : flitDecodes (flitOf p w) = true ∧ (flitOf p w).slots.length = 20 ∧
      (flitOf p w).slots.all (fun s => s.length == 8) = true := ⟨rfl, rfl, rfl⟩
  simp only [flitGood, hl.1, hl.2.1, hl.2.2, he, hc]
  simp


theorem witness_idle_step_counts_one_nanosecond_0 :
    ∃ (s : State), s.pending = [] :=
  ⟨mk {}, by decide +kernel⟩

theorem witness_idle_step_counts_one_nanosecond_0_0 :
    ∃ (s : State), s.pending = [] ∧ s.dev.powered = false :=
  ⟨mk {}, by decide +kernel⟩

theorem witness_idle_step_counts_one_nanosecond_0_1 :
    ∃ (s : State), s.pending = [] ∧ s.dev.powered = true :=
  ⟨mk { pwr.state := .ready }, by decide +kernel⟩

theorem witness_memory_stays_canonical_0 :
    ∃ (s t : State), s.memWf ∧ step s = .next t :=
  by
  exact ⟨mk {}, _, ⟨rfl, fun _ h => nomatch h⟩, rfl⟩

theorem witness_memory_stays_canonical_1 :
    ∃ (s t : State), s.dev.core.watch = none ∧ step s = .next t :=
  by
  exact ⟨mk {}, _, rfl, rfl⟩

theorem witness_other_commands_leave_memory_0 :
    ∃ (c : Instr) (s t : State), mayStore c = false ∧ exec c s = .next t :=
  by
  exact ⟨.kick, mk {}, _, rfl, rfl⟩

theorem witness_local_time_is_touched_by_power_only_0 :
    ∃ (c : Instr) (s t : State), powerCommand c = false ∧ exec c s = .next t :=
  by
  exact ⟨.kick, mk {}, _, rfl, rfl⟩

theorem witness_fuses_are_never_undone_1 :
    ∃ (s : State) (m : BitVec 4), s.dev.boot.hdr ≠ [] :=
  ⟨mk { boot.hdr := [1] }, 3, by decide +kernel⟩

theorem witness_fuses_are_never_undone_3 :
    ∃ (d : Device) (get : Nat → Nat → List Byte) (err : ReadError), imgSvn (bytesToWords 64 (get 0 256)) < d.floor :=
  by
  refine ⟨{ boot.floor := 1 }, fun _ _ => [], .none, ?_⟩
  have h : imgSvn (bytesToWords 64 ((fun _ _ => []) 0 256 : List Byte)) = 0 := by decide +kernel
  rw [h]; simp only [Device.floor]; omega

theorem witness_writes_are_read_back_0 :
    ∃ (d : Device) (a : Nat) (l : List PByte), d.core.cap ≤ 2 ^ 48 ∧ d.rangeOk a l.length = true ∧ d.memHeld a =
      false ∧ d.flawedIn [(a, l.length)] = [] :=
  ⟨{}, 0, [(0x5A, false)], by decide +kernel⟩

theorem witness_writes_are_read_back_1 :
    ∃ (d : Device) (a : Nat) (l : List PByte), d.memHeld a = true :=
  ⟨{ ras.fence := [1000] }, 0, [(0x5A, false)], by decide +kernel⟩

theorem witness_writes_are_read_back_2 :
    ∃ (d : Device) (a : Nat) (l : List PByte), d.core.cap ≤ 2 ^ 48 ∧ d.rangeOk a l.length = true ∧ d.memHeld a =
      false ∧ d.flawedIn [(a, l.length)] = [] :=
  ⟨{}, 0, [(0x5A, true)], by decide +kernel⟩

theorem witness_conversion_keeps_codes_0 :
    ∃ (f : Fmt) (r : Rnd) (nosat : Bool) (code : Nat), f ≠ .e8m0 ∧ code < 2 ^ f.width ∧ (f.decode code).isFinite =
      true ∧ (¬(f = .int8 ∧ code = 128)) ∧ (¬(f = .int4 ∧ code = 8)) :=
  ⟨.bf16, .rne, false, 0x3F80, by decide +kernel⟩

theorem witness_arbiter_grants_by_credit_2 :
    ∃ (cr : List Int) (ins : List ArbIn), ins ≠ [] ∧ (∀ r ∈ ins, r.urgent = none) :=
  ⟨[5, 0], [⟨1, none⟩, ⟨0, none⟩], by decide +kernel⟩

theorem witness_arbiter_grants_by_credit_3 :
    ∃ (cr : List Int) (ins : List ArbIn) (i age : Nat) (r : ArbIn), ins[i]? = some r ∧ r.urgent = some age :=
  ⟨[0, 0], [⟨1, some 64⟩, ⟨2, some 63⟩], 1, 63, ⟨2, some 63⟩, by decide +kernel⟩

theorem witness_arbiter_grants_by_credit_4 :
    ∃ (cr : List Int) (ins : List ArbIn) (i : Nat) (r : ArbIn), ins[i]? = some r :=
  ⟨[5], [⟨0, none⟩], 0, ⟨0, none⟩, by decide +kernel⟩

theorem witness_supply_time_and_test_commands_0 :
    ∃ (s : State) (mv ma : Nat), overCurrent mv ma = true :=
  ⟨mk {}, 50000, 64001, by decide +kernel⟩

theorem witness_supply_time_and_test_commands_1 :
    ∃ (s : State) (mv ma : Nat), overCurrent mv ma = false :=
  ⟨mk {}, 50000, 64000, by decide +kernel⟩

theorem witness_supply_time_and_test_commands_2 :
    ∃ (s : State) (d : Fin 4), (∃ x ∈ s.dev.coneTemps d.val, 1050 ≤ x) ∧ mget false s.dev.pwr.held d.val = false :=
  ⟨mk (({} : Device).setReg (coneReg 0 0x100) 1050), 0, by decide +kernel⟩

theorem witness_supply_time_and_test_commands_3 :
    ∃ (s : State) (d : Fin 4), (∀ x ∈ s.dev.coneTemps d.val, x < 1000) :=
  ⟨mk (({} : Device).setReg (coneReg 0 0x100) 999), 0, by decide +kernel⟩

theorem witness_supply_time_and_test_commands_8 :
    ∃ (s : State) (d : Fin 4) (wide : Bool), (∀ h ∈ s.dev.slip.held, h.what.isHost = false) :=
  ⟨mk {}, 0, true, by decide +kernel⟩

theorem witness_fuses_are_never_undone_2 :
    ∃ (s t : State), step s = .next t :=
  by
  exact ⟨mk {}, _, rfl⟩

theorem witness_array_instructions_issue_or_warn_0 :
    ∃ (s : State) (d : Fin 4) (a : Fin 16) (p : Fin 4) (c : Cmd), s.dev.ready (qArr d.val a.val p.val) = some c ∧
      c.op = 1 ∧ s.dev.runs (wPair d.val a.val) = true ∧ (s.dev.part d.val a.val p.val).pend = false ∧ (s.dev.arr
      d.val a.val).load = none ∧ s.dev.cmdHeld d.val a.val c = false ∧ s.dev.groupBad (qArr d.val a.val p.val) c
      s.dev.partKloadBad = none :=
  ⟨mk (qd 0 [0x10000000, 0, 0, 0x11000000]), 0, 0, 0, cm [0x10000000, 0, 0, 0x11000000], by decide +kernel⟩

theorem witness_array_instructions_issue_or_warn_1 :
    ∃ (op : Nat) (i : Fin 4 → Fin 16 → Fin 4 → Instr) (s : State) (d : Fin 4) (a : Fin 16) (p : Fin 4) (c : Cmd)
      (tag : Bool), (op = 2 ∧ i = .kstream ∨ op = 3 ∧ i = .kconv) ∧ s.dev.ready (qArr d.val a.val p.val) = some c ∧
      c.op = op ∧ s.dev.runs (wPair d.val a.val) = true ∧ s.dev.cmdHeld d.val a.val c = false ∧ (s.dev.part d.val
      a.val p.val).bound = some tag ∧ (s.dev.part d.val a.val p.val).loaded tag = true ∧ (s.dev.part d.val a.val
      p.val).faulted ≠ some tag ∧ (∀ r ∈ (s.dev.part d.val a.val p.val).runs, r.ent ≥ mrows r.cmd) ∧ s.dev.tilePend
      d.val a.val (tileOf c) = none ∧ s.dev.groupBad (qArr d.val a.val p.val) c s.dev.partStreamBad = none ∧
      ((s.dev.turn d.val a.val).isSource a.val = true → (s.dev.turn d.val a.val).canAccept = true) ∧ ((s.dev.turn
      d.val a.val).isReceiver a.val = true → (s.dev.turn d.val a.val).canTake = true) :=
  by
  refine ⟨2, .kstream, mk ((qd 0 [0x20000000, 0, 0, 0x10000000]).setPart 0 0 0 { bound := some false, active := { fmt := 1, pfmt := 1, klen := 8, nlen := 1 } }),
    0, 0, 0, cm [0x20000000, 0, 0, 0x10000000], false, Or.inl ⟨rfl, rfl⟩, ?_⟩
  decide +kernel

theorem witness_array_instructions_issue_or_warn_2 :
    ∃ (s : State) (d : Fin 4) (a : Fin 16) (c : Cmd), s.dev.ready (qArr d.val a.val 0) = some c ∧ c.op = 4 ∧
      s.dev.runs (wPair d.val a.val) = true ∧ s.dev.cmdHeld d.val a.val c = false ∧ (s.dev.arr d.val a.val).load =
      none ∧ (∀ p, p < 4 → (s.dev.part d.val a.val p).pend = false ∧ (s.dev.part d.val a.val p).runs = [] ∧ ∀ x ∈
      s.dev.queue (qArr d.val a.val p), c.ord ≤ x.ord) ∧ s.dev.groupBad (qArr d.val a.val 0) c (kcfgBad s.dev) = none :=
  ⟨mk (qd 0 [0x40000000, 0, 0, 2]), 0, 0, cm [0x40000000, 0, 0, 2], by decide +kernel⟩

theorem witness_array_instructions_issue_or_warn_4 :
    ∃ (s : State) (die : Fin 4) (a : Fin 16) (p : Fin 4) (c : Cmd) (q : List Cmd), s.dev.queue (qArr die.val a.val
      p.val) = c :: q ∧ s.dev.overdue die.val c = true ∧ bit (s.dev.reg (dreg die.val 1 0)) a.val = false :=
  ⟨mk { core.queues := [(0, [cm [0x40000000, 0, 0x10000]])], core.armed := [(.late 0 0, 0)], core.ltc := [(0, 64000000)] }, 0, 0, 0, cm [0x40000000, 0, 0x10000], [], by decide +kernel⟩

theorem witness_array_instructions_issue_or_warn_5 :
    ∃ (s : State) (die : Fin 4) (a : Fin 16) (p : Fin 4) (c : Cmd) (q : List Cmd), s.dev.queue (qArr die.val a.val
      p.val) = c :: q ∧ (s.dev.overdue die.val c = false ∨ bit (s.dev.reg (dreg die.val 1 0)) a.val = true) :=
  ⟨mk { core.queues := [(0, [cm [0x40000000, 0, 0x10000]])], core.armed := [(.late 0 0, 0)], core.ltc := [(0, 63999999)] }, 0, 0, 0, cm [0x40000000, 0, 0x10000], [], by decide +kernel⟩

theorem witness_array_instructions_issue_or_warn_6 :
    ∃ (s : State) (g : Fin 5) (r : TierRun), (lateRaises (s.dev.seg g.val)).find? (fun r => tTop r.cmd == 2 &&
      s.dev.overdue 0 r.cmd) = some r :=
  ⟨mk { core.armed := [(.late 0 0, 0)], core.ltc := [(0, 64000000)], tier.segs := [(0, { n := 1, cur := some { cmd := cm [0, 0, 0x10000, 0x20000000] } })] }, 0, { cmd := cm [0, 0, 0x10000, 0x20000000] }, by decide +kernel⟩

theorem witness_array_instructions_issue_or_warn_7 :
    ∃ (s : State) (n : Nat) (c : Cmd) (q : List Cmd), s.dev.queue n = c :: q ∧ s.dev.overdue (queueDie n) c = true ∧
      256 ≤ n ∧ (n < 728 ∨ 733 ≤ n) :=
  ⟨mk { core.queues := [(733, [cm [0, 0, 0x10000]])], core.armed := [(.late 0 0, 0)], core.ltc := [(0, 64000000)] }, 733, cm [0, 0, 0x10000], [], by decide +kernel⟩

theorem witness_arrays_load_run_and_fault_0 :
    ∃ (e : Device) (die a n : Nat) (l : Load), (e.arr die a).load = some l ∧ e.runs (wPair die a) = true ∧ 0 < n :=
  ⟨({} : Device).setArr 0 0 { load := some {} }, 0, 0, 2, {}, by decide +kernel⟩

theorem witness_arrays_load_run_and_fault_1 :
    ∃ (s : State) (d : Fin 4) (a : Fin 16) (l : Load), (s.dev.arr d.val a.val).load = some l ∧ l.got.length <
      (loadAddrs l.cmd).length :=
  ⟨mk (({} : Device).setArr 0 0 { load := some {} }), 0, 0, {}, by decide +kernel⟩

theorem witness_arrays_load_run_and_fault_2 :
    ∃ (s : State) (d : Fin 4) (a : Fin 16) (l : Load), (s.dev.arr d.val a.val).load = some l ∧ s.dev.runs (wPair
      d.val a.val) = true ∧ (loadAddrs l.cmd).length ≤ l.got.length :=
  ⟨mk (({} : Device).setArr 0 0 { load := some { got := mark false (List.replicate 2048 0) } }), 0, 0, { got := mark false (List.replicate 2048 0) }, by decide +kernel⟩

theorem witness_arrays_load_run_and_fault_3 :
    ∃ (s : State) (d : Fin 4) (a : Fin 16) (p : Fin 4), s.dev.runs (wPair d.val a.val) = true ∧ (s.dev.part d.val
      a.val p.val).pend = true ∧ (s.dev.part d.val a.val p.val).svalid = true ∧ (s.dev.part d.val a.val p.val).swapped
      < (s.dev.part d.val a.val p.val).freeCols (widthOf (s.dev.arr d.val a.val).pmode) :=
  ⟨mk (({} : Device).setPart 3 15 0 { pend := true, svalid := true, swapped := 255 }), 3, 15, 0, by decide +kernel⟩

theorem witness_arrays_load_run_and_fault_6 :
    ∃ (s : State) (d : Fin 4) (a : Fin 16) (p : Fin 4) (hit : List (Fin 256)) (run : Run), s.dev.runs (wPair d.val
      a.val) = true ∧ (s.dev.part d.val a.val p.val).entering = some run ∧ s.dev.holdsRow d.val a.val p.val = false :=
  ⟨mk (({} : Device).setPart 0 0 0 { runs := [{}] }), 0, 0, 0, [], {}, by decide +kernel⟩

theorem witness_arrays_load_run_and_fault_7 :
    ∃ (s : State) (d : Fin 4) (a : Fin 16) (p : Fin 4) (hit : List (Fin 256)), s.dev.holdsRow d.val a.val p.val =
      true :=
  ⟨mk (((({} : Device).setPart 0 0 0 { runs := [{ ent := 1, cmd := cm [0, 0, 0, 1] }], rows := [{}] }).setQuart 0 0 0 0 { seq := some 0 }).setDrains 0 0 0 [{ cmd := { w := [0, 0, 0, 0x100000], desc := mark false (List.replicate 128 0) } }]), 0, 0, 0, [], by decide +kernel⟩

theorem witness_arrays_load_run_and_fault_8 :
    ∃ (t : Turn) (run : Run) (w q i r : Nat), run.take = some (w, q) ∧ r = 768 * (run.ent / 256) + 256 * q + i ∧
      run.ent % 256 < (mget [] (t.win w).rows r).length :=
  ⟨{ w0 := { rows := [(256, [(7, false)])] } }, { take := some (0, 1) }, 0, 1, 0, 256, by decide +kernel⟩

theorem witness_arrays_load_run_and_fault_9 :
    ∃ (s : State) (d : Fin 4) (a : Fin 16) (p : Fin 4) (r : InRow) (rest : List InRow) (run : Run) (fixed ce : Nat)
      (x : Device × Bool), s.dev.runs (wPair d.val a.val) = true ∧ (s.dev.part d.val a.val p.val).rows = r :: rest ∧
      (s.dev.part d.val a.val p.val).runOf r.ord = some run ∧ (∀ q ∈ rowQuarters (s.dev.arr d.val a.val).pmode p.val
      (fmtOf run.pfmt), s.dev.held d.val a.val p.val (tileOf run.cmd) (arow0 run.cmd + r.row) q = false) ∧
      r.sums.length ≤ r.left + 1 ∧ ce = dreg d.val 2 (0x1008 + 0x200 * a.val) ∧ x = (s.dev.setReg ce (wd (satAdd32
      (s.dev.reg ce).toNat fixed))).addRow d.val a.val p.val (tileOf run.cmd) (arow0 run.cmd + r.row) run.cmd r
      (rowQuarters (s.dev.arr d.val a.val).pmode p.val (fmtOf run.pfmt)) :=
  by
  exact ⟨mk (({} : Device).setPart 0 0 0 { runs := [{ ent := 1 }], rows := [{}] }), 0, 0, 0, {}, [], { ent := 1 }, 0, _, _,
    by decide +kernel, by decide +kernel, by decide +kernel, by decide +kernel, by decide +kernel, rfl, rfl⟩

theorem witness_arrays_load_run_and_fault_2_0 :
    ∃ (s : State) (d : Fin 4) (a : Fin 16) (l : Load), (s.dev.arr d.val a.val).load = some l ∧ s.dev.runs (wPair
      d.val a.val) = true ∧ (loadAddrs l.cmd).length ≤ l.got.length ∧ (s.dev.part d.val a.val l.part).freeCols
      (widthOf (s.dev.arr d.val a.val).pmode) < widthOf (s.dev.arr d.val a.val).pmode :=
  ⟨mk ((({} : Device).setArr 0 0 { load := some { got := mark false (List.replicate 2048 0) } }).setPart 0 0 0 { runs := [{}] }), 0, 0, { got := mark false (List.replicate 2048 0) }, by decide +kernel⟩

theorem witness_arrays_load_run_and_fault_2_1 :
    ∃ (s : State) (d : Fin 4) (a : Fin 16) (l : Load), (s.dev.arr d.val a.val).load = some l ∧ s.dev.runs (wPair
      d.val a.val) = true ∧ (loadAddrs l.cmd).length ≤ l.got.length ∧ widthOf (s.dev.arr d.val a.val).pmode ≤
      (s.dev.part d.val a.val l.part).freeCols (widthOf (s.dev.arr d.val a.val).pmode) :=
  ⟨mk (({} : Device).setArr 0 0 { load := some { got := mark false (List.replicate 2048 0) } }), 0, 0, { got := mark false (List.replicate 2048 0) }, by decide +kernel⟩

theorem witness_arrays_load_run_and_fault_4 :
    ∃ (s : State) (d : Fin 4) (a : Fin 16) (p : Fin 4) (col : Nat), (col ≠ (s.dev.part d.val a.val p.val).swapped ∨
      (s.dev.part d.val a.val p.val).freeCols (widthOf (s.dev.arr d.val a.val).pmode) ≤ col) :=
  ⟨mk {}, 0, 0, 0, 1, by decide +kernel⟩

theorem witness_arrays_load_run_and_fault_6_0 :
    ∃ (s : State) (d : Fin 4) (a : Fin 16) (p : Fin 4) (hit : List (Fin 256)) (run : Run), s.dev.runs (wPair d.val
      a.val) = true ∧ (s.dev.part d.val a.val p.val).entering = some run ∧ s.dev.holdsRow d.val a.val p.val = false ∧
      run.perToken = 1 :=
  ⟨mk (({} : Device).setPart 0 0 0 { runs := [{}] }), 0, 0, 0, [], {}, by decide +kernel⟩

theorem witness_arrays_load_run_and_fault_6_1 :
    ∃ (s : State) (d : Fin 4) (a : Fin 16) (p : Fin 4) (hit : List (Fin 256)) (run : Run), s.dev.runs (wPair d.val
      a.val) = true ∧ (s.dev.part d.val a.val p.val).entering = some run ∧ s.dev.holdsRow d.val a.val p.val = false ∧
      run.perToken = 2 :=
  ⟨mk (({} : Device).setPart 0 0 0 { runs := [{ cmd := cm [0, 0, 0, 0x04000001] }] }), 0, 0, 0, [], { cmd := cm [0, 0, 0, 0x04000001] }, by decide +kernel⟩

theorem witness_arrays_load_run_and_fault_9_0 :
    ∃ (s : State) (d : Fin 4) (a : Fin 16) (p : Fin 4) (r : InRow) (rest : List InRow) (run : Run) (fixed ce : Nat)
      (x : Device × Bool), s.dev.runs (wPair d.val a.val) = true ∧ (s.dev.part d.val a.val p.val).rows = r :: rest ∧
      (s.dev.part d.val a.val p.val).runOf r.ord = some run ∧ (∀ q ∈ rowQuarters (s.dev.arr d.val a.val).pmode p.val
      (fmtOf run.pfmt), s.dev.held d.val a.val p.val (tileOf run.cmd) (arow0 run.cmd + r.row) q = false) ∧
      r.sums.length ≤ r.left + 1 ∧ ce = dreg d.val 2 (0x1008 + 0x200 * a.val) ∧ x = (s.dev.setReg ce (wd (satAdd32
      (s.dev.reg ce).toNat fixed))).addRow d.val a.val p.val (tileOf run.cmd) (arow0 run.cmd + r.row) run.cmd r
      (rowQuarters (s.dev.arr d.val a.val).pmode p.val (fmtOf run.pfmt)) ∧ run.added + 1 ≠ mrows run.cmd :=
  by
  exact ⟨mk (({} : Device).setPart 0 0 0 { runs := [{ ent := 1, cmd := cm [0, 0, 0, 1] }], rows := [{}] }), 0, 0, 0, {}, [],
    { ent := 1, cmd := cm [0, 0, 0, 1] }, 0, _, _,
    by decide +kernel, by decide +kernel, by decide +kernel, by decide +kernel, by decide +kernel, rfl, rfl, by decide +kernel⟩

theorem witness_arrays_load_run_and_fault_9_1 :
    ∃ (s : State) (d : Fin 4) (a : Fin 16) (p : Fin 4) (r : InRow) (rest : List InRow) (run : Run) (fixed ce : Nat)
      (x : Device × Bool), s.dev.runs (wPair d.val a.val) = true ∧ (s.dev.part d.val a.val p.val).rows = r :: rest ∧
      (s.dev.part d.val a.val p.val).runOf r.ord = some run ∧ (∀ q ∈ rowQuarters (s.dev.arr d.val a.val).pmode p.val
      (fmtOf run.pfmt), s.dev.held d.val a.val p.val (tileOf run.cmd) (arow0 run.cmd + r.row) q = false) ∧
      r.sums.length ≤ r.left + 1 ∧ ce = dreg d.val 2 (0x1008 + 0x200 * a.val) ∧ x = (s.dev.setReg ce (wd (satAdd32
      (s.dev.reg ce).toNat fixed))).addRow d.val a.val p.val (tileOf run.cmd) (arow0 run.cmd + r.row) run.cmd r
      (rowQuarters (s.dev.arr d.val a.val).pmode p.val (fmtOf run.pfmt)) ∧ run.added + 1 = mrows run.cmd :=
  by
  exact ⟨mk (({} : Device).setPart 0 0 0 { runs := [{ ent := 1 }], rows := [{}] }), 0, 0, 0, {}, [], { ent := 1 }, 0, _, _,
    by decide +kernel, by decide +kernel, by decide +kernel, by decide +kernel, by decide +kernel, rfl, rfl, by decide +kernel⟩

theorem witness_arrays_load_run_and_fault_10 :
    ∃ (s : State) (d : Fin 4) (a : Fin 16) (p : Fin 4) (fixed : Nat) (r : InRow) (rest : List InRow), (s.dev.part
      d.val a.val p.val).rows = r :: rest ∧ (s.dev.rowWaits d.val a.val p.val = true ∨ r.left + 1 < r.sums.length) :=
  ⟨mk (({} : Device).setPart 0 0 0 { rows := [{ sums := [[], []] }] }), 0, 0, 0, 0, { sums := [[], []] }, [], by decide +kernel⟩

theorem witness_arrays_load_run_and_fault_11 :
    ∃ (s : State) (d : Fin 4) (a : Fin 16) (p : Fin 4) (cause : Fin 8) (run : Run) (rest : List Run) (rec ue : Nat)
      (tl : Tile), s.dev.core.flaws = [] ∧ (s.dev.part d.val a.val p.val).runs = run :: rest ∧ s.dev.runs (wPair d.val
      a.val) = true ∧ 1 ≤ cause.val ∧ cause.val ≤ 4 ∧ rec = dreg d.val 1 (0x1020 + 0x100 * a.val + 8 * p.val) ∧ ue =
      dreg d.val 2 (0x100C + 0x200 * a.val) ∧ tl = s.dev.tile d.val a.val (tileOf run.cmd) :=
  ⟨mk (({} : Device).setPart 0 0 0 { runs := [{}] }), 0, 0, 0, 4, {}, [], dreg 0 1 0x1020, dreg 0 2 0x100C, (({} : Device).setPart 0 0 0 { runs := [{}] }).tile 0 0 0, by decide +kernel⟩

theorem witness_arrays_load_run_and_fault_11_1 :
    ∃ (s : State) (d : Fin 4) (a : Fin 16) (p : Fin 4) (cause : Fin 8) (run : Run) (rest : List Run) (rec ue : Nat)
      (tl : Tile), s.dev.core.flaws = [] ∧ (s.dev.part d.val a.val p.val).runs = run :: rest ∧ s.dev.runs (wPair d.val
      a.val) = true ∧ 1 ≤ cause.val ∧ cause.val ≤ 4 ∧ rec = dreg d.val 1 (0x1020 + 0x100 * a.val + 8 * p.val) ∧ ue =
      dreg d.val 2 (0x100C + 0x200 * a.val) ∧ tl = s.dev.tile d.val a.val (tileOf run.cmd) ∧ bit (s.dev.reg rec) 31 =
      false :=
  ⟨mk (({} : Device).setPart 0 0 0 { runs := [{}] }), 0, 0, 0, 4, {}, [], dreg 0 1 0x1020, dreg 0 2 0x100C, (({} : Device).setPart 0 0 0 { runs := [{}] }).tile 0 0 0, by decide +kernel⟩

theorem witness_arrays_load_run_and_fault_11_2 :
    ∃ (s : State) (d : Fin 4) (a : Fin 16) (p : Fin 4) (cause : Fin 8) (run : Run) (rest : List Run) (rec ue : Nat)
      (tl : Tile), s.dev.core.flaws = [] ∧ (s.dev.part d.val a.val p.val).runs = run :: rest ∧ s.dev.runs (wPair d.val
      a.val) = true ∧ 1 ≤ cause.val ∧ cause.val ≤ 4 ∧ rec = dreg d.val 1 (0x1020 + 0x100 * a.val + 8 * p.val) ∧ ue =
      dreg d.val 2 (0x100C + 0x200 * a.val) ∧ tl = s.dev.tile d.val a.val (tileOf run.cmd) ∧ bit (s.dev.reg rec) 31 =
      true :=
  ⟨mk (({} : Device).setPart 0 0 0 { runs := [{}] } |>.setReg (dreg 0 1 0x1020) 0x80000000), 0, 0, 0, 4, {}, [], dreg 0 1 0x1020, dreg 0 2 0x100C, (({} : Device).setPart 0 0 0 { runs := [{}] } |>.setReg (dreg 0 1 0x1020) 0x80000000).tile 0 0 0, by decide +kernel⟩

theorem witness_tile_and_turn_configuration_0 :
    ∃ (s : State) (d : Fin 4) (a t : Fin 16) (lo : Word), s.dev.tileIdle d.val a.val t.val = true :=
  ⟨mk {}, 0, 0, 15, 0, by decide +kernel⟩

theorem witness_tile_and_turn_configuration_1 :
    ∃ (s : State) (d : Fin 4) (a t : Fin 16) (lo : Word), s.dev.tileIdle d.val a.val t.val = false :=
  ⟨mk (({} : Device).setPart 0 0 0 { runs := [{}] }), 0, 0, 0, 0, by decide +kernel⟩

theorem witness_tile_and_turn_configuration_2 :
    ∃ (s : State) (d : Fin 4) (a t : Fin 16) (v : Tile), s.dev.tilePend d.val a.val t.val = some v ∧ s.dev.tileIdle
      d.val a.val t.val = true :=
  ⟨mk (({} : Device).setTilePend 0 0 0 (some {})), 0, 0, 0, {}, by decide +kernel⟩

theorem witness_tile_and_turn_configuration_3 :
    ∃ (e : Device) (die a t : Nat) (v : Tile), e.tileBad die a t v = 0 :=
  ⟨{}, 0, 0, 15, { tbase := 3840 }, by decide +kernel⟩

theorem witness_tile_and_turn_configuration_4 :
    ∃ (e : Device) (die a t : Nat) (v : Tile), e.tileBad die a t v ≠ 0 :=
  ⟨{}, 0, 0, 15, { tbase := 3841 }, by decide +kernel⟩

theorem witness_tile_and_turn_configuration_6 :
    ∃ (s : State) (d : Fin 4) (pr : Fin 8) (v : Word) (o : Nat), (s.dev.turn d.val (2 * pr.val)).pend = some (v, o)
      ∧ s.dev.runs (wPair d.val (2 * pr.val)) = true ∧ s.dev.pairIdle d.val pr.val o = true :=
  ⟨mk (({} : Device).setTurn 0 0 { pend := some (0x80000000, 0) }), 0, 0, 0x80000000, 0, by decide +kernel⟩

theorem witness_drains_issue_and_run_0 :
    ∃ (d : Device) (c : Cmd) (x : Dest), c.op = 6 ∧ x.q < 512 ∧ d.fenced x.slot = false :=
  ⟨{}, cm [0x60000000], { q := 256, slot := wPair 0 0, parts := 1, first := 0 }, by decide +kernel⟩

theorem witness_drains_issue_and_run_1 :
    ∃ (s : State) (d : Fin 4) (a : Fin 16) (p : Fin 4) (c : Cmd), s.dev.ready (qDrn d.val a.val p.val) = some c ∧
      c.op = 6 ∧ s.dev.runs (wPair d.val a.val) = true ∧ s.dev.tilePend d.val a.val (tileOf c) = none ∧ s.dev.groupBad
      (qDrn d.val a.val p.val) c s.dev.partDrainBad = none :=
  ⟨mk (({} : Device).setQueue 256 [{ w := [0x60000000], desc := mark false (List.replicate 128 0) }]), 0, 0, 0, { w := [0x60000000], desc := mark false (List.replicate 128 0) }, by decide +kernel⟩

theorem witness_drains_issue_and_run_2 :
    ∃ (s : State) (d : Fin 4) (a : Fin 16) (p : Fin 4) (k : Nat) (run : DRun) (f : DrainF) (l t : Nat) (es : List
      DElem), (s.dev.drains d.val a.val p.val)[k]? = some run ∧ s.dev.runs (wPair d.val a.val) = true ∧
      s.dev.drainTurn d.val a.val run = true ∧ f = drainF run.desc ∧ l = drow0 run.cmd + run.row ∧ t = tileOf run.cmd
      ∧ es = (List.range f.ncol).map (fun j => drainElem s.dev run.desc f run.row j (quarterVal (s.dev.tile d.val
      a.val t).fmt ((rangeFrom (f.col0 / 64) ((f.col0 + f.ncol - 1) / 64 - f.col0 / 64 + 1)).map (fun q =>
      (s.dev.drainQuarter d.val a.val t l q).1)) (f.col0 / 64) (f.col0 + j))) :=
  by
  refine ⟨mk (({} : Device).setDrains 0 0 0 [{ cmd := { w := [0x60000000], desc := mark false (List.replicate 128 0) } }]), 0, 0, 0, 0,
    { cmd := { w := [0x60000000], desc := mark false (List.replicate 128 0) } }, _, _, _, _, ?_, ?_, ?_, rfl, rfl, rfl, rfl⟩ <;> decide +kernel

theorem witness_drains_issue_and_run_3 :
    ∃ (s : State) (d : Fin 4) (a : Fin 16) (p : Fin 4) (k : Nat) (run : DRun) (f : DrainF) (l t q : Nat),
      (s.dev.drains d.val a.val p.val)[k]? = some run ∧ s.dev.runs (wPair d.val a.val) = true ∧ s.dev.drainTurn d.val
      a.val run = true ∧ f = drainF run.desc ∧ l = drow0 run.cmd + run.row ∧ t = tileOf run.cmd ∧ f.col0 / 64 ≤ q ∧ q
      ≤ (f.col0 + f.ncol - 1) / 64 ∧ (s.dev.quart d.val a.val ((s.dev.tile d.val a.val t).slot l) q).holds (s.dev.tile
      d.val a.val t) l = some l :=
  by
  refine ⟨mk (({} : Device).setDrains 0 0 0 [{ cmd := { w := [0x60000000], desc := mark false (List.replicate 128 0) } }]), 0, 0, 0, 0,
    { cmd := { w := [0x60000000], desc := mark false (List.replicate 128 0) } }, _, _, _, 0, ?_, ?_, ?_, rfl, rfl, rfl, ?_, ?_, ?_⟩ <;> decide +kernel

theorem witness_drains_issue_and_run_4 :
    ∃ (s : State) (d : Fin 4) (a : Fin 16) (p : Fin 4) (k : Nat) (ecc : EccOutcome) (run : DRun), (s.dev.drains
      d.val a.val p.val)[k]? = some run ∧ s.dev.drainTurn d.val a.val run = false :=
  ⟨mk (({} : Device).setDrains 0 0 0 [{ row := 1 }]), 0, 0, 0, 0, .clean, { row := 1 }, by decide +kernel⟩

theorem witness_drains_issue_and_run_5 :
    ∃ (s : State) (d : Fin 4) (a : Fin 16) (p : Fin 4) (k : Nat) (run : DRun), (s.dev.drains d.val a.val p.val)[k]?
      = some run ∧ s.dev.runs (wPair d.val a.val) = true ∧ drowsOf run.cmd ≤ run.row :=
  ⟨mk (({} : Device).setDrains 0 0 0 [{ row := 1 }]), 0, 0, 0, 0, { row := 1 }, by decide +kernel⟩

theorem witness_drains_issue_and_run_6 :
    ∃ (s : State) (d : Fin 4) (a : Fin 16) (p : Fin 4) (k : Nat) (cause : Fin 8) (run : DRun) (rec : _),
      (s.dev.drains d.val a.val p.val)[k]? = some run ∧ s.dev.runs (wPair d.val a.val) = true ∧ (cause.val = 2 ∨
      cause.val = 3) ∧ rec = dreg d.val 3 (0x1010 + 0x100 * a.val + 8 * p.val) :=
  ⟨mk (({} : Device).setDrains 0 0 0 [{}]), 0, 0, 0, 0, 2, {}, dreg 0 3 0x1010, by decide +kernel⟩

theorem witness_drains_issue_and_run_6_0 :
    ∃ (s : State) (d : Fin 4) (a : Fin 16) (p : Fin 4) (k : Nat) (cause : Fin 8) (run : DRun) (rec : _),
      (s.dev.drains d.val a.val p.val)[k]? = some run ∧ s.dev.runs (wPair d.val a.val) = true ∧ (cause.val = 2 ∨
      cause.val = 3) ∧ rec = dreg d.val 3 (0x1010 + 0x100 * a.val + 8 * p.val) ∧ bit (s.dev.reg rec) 31 = false :=
  ⟨mk (({} : Device).setDrains 0 0 0 [{}]), 0, 0, 0, 0, 2, {}, dreg 0 3 0x1010, by decide +kernel⟩

theorem witness_drains_issue_and_run_6_1 :
    ∃ (s : State) (d : Fin 4) (a : Fin 16) (p : Fin 4) (k : Nat) (cause : Fin 8) (run : DRun) (rec : _),
      (s.dev.drains d.val a.val p.val)[k]? = some run ∧ s.dev.runs (wPair d.val a.val) = true ∧ (cause.val = 2 ∨
      cause.val = 3) ∧ rec = dreg d.val 3 (0x1010 + 0x100 * a.val + 8 * p.val) ∧ bit (s.dev.reg rec) 31 = true :=
  ⟨mk (({} : Device).setDrains 0 0 0 [{}] |>.setReg (dreg 0 3 0x1010) 0x80000000), 0, 0, 0, 0, 2, {}, dreg 0 3 0x1010, by decide +kernel⟩

theorem witness_mvmul_issues_and_completes_0 :
    ∃ (s : State) (d : Fin 4) (c : Cmd), s.dev.ready (qMvp d.val) = some c ∧ c.op = 8 ∧ s.dev.runs (wMvp d.val) =
      true ∧ (s.dev.mvpOf d.val).run = none ∧ mvmulBad s.dev c = none :=
  ⟨mk (qd 512 [0x80000000, 0, 0, 0x11100000]), 0, cm [0x80000000, 0, 0, 0x11100000], by decide +kernel⟩

theorem witness_mvmul_issues_and_completes_1 :
    ∃ (s : State) (d : Fin 4) (c : Cmd), (s.dev.mvpOf d.val).run = some c ∧ s.dev.runs (wMvp d.val) = true :=
  ⟨mk (({} : Device).setMvp 0 { run := some {} }), 0, {}, by decide +kernel⟩

theorem witness_mvmul_issues_and_completes_2 :
    ∃ (s : State) (d : Fin 4) (cause : Fin 8) (nidx : Nat) (c : Cmd), (s.dev.mvpOf d.val).run = some c ∧ s.dev.runs
      (wMvp d.val) = true ∧ 2 ≤ cause.val ∧ cause.val ≤ 4 ∧ nidx < mvN c :=
  ⟨mk (({} : Device).setMvp 0 { run := some {} }), 0, 4, 0, {}, by decide +kernel⟩

theorem witness_mvmul_issues_and_completes_2_0 :
    ∃ (s : State) (d : Fin 4) (cause : Fin 8) (nidx : Nat) (c : Cmd), (s.dev.mvpOf d.val).run = some c ∧ s.dev.runs
      (wMvp d.val) = true ∧ 2 ≤ cause.val ∧ cause.val ≤ 4 ∧ nidx < mvN c ∧ bit (s.dev.reg (dreg d.val 4 8)) 31 = false :=
  ⟨mk (({} : Device).setMvp 0 { run := some {} }), 0, 4, 0, {}, by decide +kernel⟩

theorem witness_stash_commands_run_and_complete_0 :
    ∃ (s : State) (d : Fin 4) (c : Cmd), s.dev.stashHead d.val 0xA = some c ∧ (s.dev.stash d.val).stopped = false ∧
      s.dev.stashHeadBad d.val c = none ∧ tilesOf (c.word 4).toNat ≤ (s.dev.stash d.val).resv + s.dev.stashAvail d.val :=
  ⟨mk ((qd 516 putW).setStash 0 { resv := 1 }), 0, cm putW, by decide +kernel⟩

theorem witness_stash_commands_run_and_complete_1 :
    ∃ (s : State) (d : Fin 4) (c : Cmd), s.dev.stashHead d.val 0xB = some c ∧ s.dev.stashHeadBad d.val c = none :=
  ⟨mk ((qd 516 [0xB0000000, 0, 0, 0x00100000]).setStash 0 { objs := [(1, some { len := 16 })] }), 0, cm [0xB0000000, 0, 0, 0x00100000], by decide +kernel⟩

theorem witness_stash_commands_run_and_complete_2 :
    ∃ (s : State) (d : Fin 4) (c : Cmd), s.dev.stashHead d.val 0xC = some c ∧ s.dev.stashHeadBad d.val c = none :=
  ⟨mk ((qd 516 [0xC0000000, 0, 0, 0x00100000]).setStash 0 { objs := [(1, some { len := 16 })] }), 0, cm [0xC0000000, 0, 0, 0x00100000], by decide +kernel⟩

theorem witness_stash_commands_run_and_complete_3 :
    ∃ (s : State) (d : Fin 4) (c : Cmd), s.dev.stashHead d.val 0xD = some c ∧ (s.dev.stash d.val).stopped = false ∧
      s.dev.stashHeadBad d.val c = none ∧ (c.word 4).toNat ≤ (s.dev.lbndHead d.val).stashAvail d.val :=
  ⟨mk ((qd 516 [0xD0000000, 0, 0, 0x00100000, 4]).setReg (stsReg 0 0xC) 4), 0, cm [0xD0000000, 0, 0, 0x00100000, 4], by decide +kernel⟩

theorem witness_stash_commands_run_and_complete_5 :
    ∃ (d : Device) (die : Nat) (c : Cmd) (q : List Cmd), d.queue (qSts die) = c :: q :=
  ⟨qd 516 [0xD0000000], 0, cm [0xD0000000], [], by decide +kernel⟩

theorem witness_stash_commands_run_and_complete_6 :
    ∃ (s : State) (d : Fin 4) (c : Cmd) (o : StashObj), s.dev.busyUnits = [] ∧ (s.dev.stash d.val).run = some c ∧
      (s.dev.stash d.val).obj (fld (c.word 3) 31 20) = some o ∧ s.dev.runs (wSts d.val) = true :=
  ⟨mk (sd { run := some (cm [0xA0000000, 0, 0, 0x00100000]), objs := [(1, some { len := 16, tiles := [.pool 0] })] }), 0, cm [0xA0000000, 0, 0, 0x00100000], { len := 16, tiles := [.pool 0] }, by decide +kernel⟩

theorem witness_stash_commands_run_and_complete_6_0 :
    ∃ (s : State) (d : Fin 4) (c : Cmd) (o : StashObj), s.dev.busyUnits = [] ∧ (s.dev.stash d.val).run = some c ∧
      (s.dev.stash d.val).obj (fld (c.word 3) 31 20) = some o ∧ s.dev.runs (wSts d.val) = true ∧ c.op = 0xA ∧ tilesOf
      o.len ≤ o.tiles.length :=
  ⟨mk (sd { run := some (cm [0xA0000000, 0, 0, 0x00100000]), objs := [(1, some { len := 16, tiles := [.pool 0] })] }), 0, cm [0xA0000000, 0, 0, 0x00100000], { len := 16, tiles := [.pool 0] }, by decide +kernel⟩

theorem witness_stash_commands_run_and_complete_6_1 :
    ∃ (s : State) (d : Fin 4) (c : Cmd) (o : StashObj), s.dev.busyUnits = [] ∧ (s.dev.stash d.val).run = some c ∧
      (s.dev.stash d.val).obj (fld (c.word 3) 31 20) = some o ∧ s.dev.runs (wSts d.val) = true ∧ c.op = 0xB ∧
      s.dev.core.flaws = [] ∧ s.dev.core.watch = none :=
  ⟨mk (sd { run := some (cm [0xB0000000, 0, 0, 0x00100000]), objs := [(1, some { len := 16, tiles := [.pool 0] })] }), 0, cm [0xB0000000, 0, 0, 0x00100000], { len := 16, tiles := [.pool 0] }, by decide +kernel⟩

theorem witness_stash_stops_moves_and_allots_0 :
    ∃ (s : State) (d : Fin 4) (c : Cmd), s.dev.stashHead d.val 0xA = some c ∧ (s.dev.stash d.val).stopped = false ∧
      s.dev.stashHeadBad d.val c = none ∧ (s.dev.stash d.val).resv + s.dev.stashAvail d.val < tilesOf (c.word 4).toNat :=
  ⟨mk (qd 516 putW), 0, cm putW, by decide +kernel⟩

theorem witness_stash_stops_moves_and_allots_1 :
    ∃ (s : State) (d : Fin 4) (c : Cmd), (s.dev.stash d.val).stopped = true ∧ s.dev.stashHead d.val 0xA = some c :=
  ⟨mk ((qd 516 putW).setStash 0 { stopped := true }), 0, cm putW, by decide +kernel⟩

theorem witness_stash_stops_moves_and_allots_2 :
    ∃ (s : State) (d : Fin 4) (c : Cmd), (s.dev.stash d.val).stopped = true ∧ s.dev.stashHead d.val 0xD = some c :=
  ⟨mk ((qd 516 [0xD0000000]).setStash 0 { stopped := true }), 0, cm [0xD0000000], by decide +kernel⟩

theorem witness_stash_stops_moves_and_allots_3 :
    ∃ (s : State) (d : Fin 4) (c : Cmd), (s.dev.stash d.val).stopped = true ∧ s.dev.stashHead d.val 0xD = some c ∧
      s.dev.stashHeadBad d.val c = none ∧ (c.word 4).toNat ≤ s.dev.stashAvail d.val + (s.dev.stash d.val).resv ∧
      (s.dev.stash d.val).used + (s.dev.stash d.val).resv ≤ (s.dev.stsN d.val).1 + (s.dev.stsN d.val).2.1 +
      (s.dev.stsN d.val).2.2 :=
  ⟨mk (((qd 516 [0xD0000000, 0, 0, 0x00100000, 4]).setReg (stsReg 0 0xC) 4).setStash 0 { stopped := true, resv := 4 }), 0, cm [0xD0000000, 0, 0, 0x00100000, 4], by decide +kernel⟩

theorem witness_stash_stops_moves_and_allots_4 :
    ∃ (s : State) (d : Fin 4) (f h t : Nat), s.dev.runs (wSts d.val) = true ∧ freeCount Frame.pool (s.dev.stash
      d.val).taken (s.dev.stsN d.val).1 < (s.dev.reg (stsReg d.val 0x2C)).toNat ∧ freeFrame Frame.t1 (s.dev.stash
      d.val).taken (s.dev.stsN d.val).2.1 = some f ∧ (s.dev.stash d.val).oldest Frame.isPool = some (h, t) :=
  ⟨mk ((((sd { objs := [(1, some { len := 16, tiles := [.pool 0] })] }).setReg (stsReg 0 0xC) 1).setReg (stsReg 0 0x2C) 1).setReg (stsReg 0 0x18) 1), 0, 0, 1, 0, by decide +kernel⟩

theorem witness_stash_stops_moves_and_allots_5 :
    ∃ (s : State) (d : Fin 4) (f h t : Nat), s.dev.runs (wSts d.val) = true ∧ freeCount Frame.pool (s.dev.stash
      d.val).taken (s.dev.stsN d.val).1 < (s.dev.reg (stsReg d.val 0x2C)).toNat ∧ freeFrame Frame.t1 (s.dev.stash
      d.val).taken (s.dev.stsN d.val).2.1 = none ∧ freeFrame Frame.t2 (s.dev.stash d.val).taken (s.dev.stsN d.val).2.2
      = some f ∧ (s.dev.stash d.val).oldest Frame.isPool ≠ none ∧ (s.dev.stash d.val).oldest Frame.isT1 = some (h, t) :=
  ⟨mk (((((sd { objs := [(1, some { len := 16, tiles := [.t1 0] }), (2, some { len := 16, tiles := [.pool 0] })] }).setReg (stsReg 0 0xC) 1).setReg (stsReg 0 0x2C) 1).setReg (stsReg 0 0x18) 1).setReg (stsReg 0 0x28) 1), 0, 0, 1, 0, by decide +kernel⟩

theorem witness_stash_stops_moves_and_allots_6 :
    ∃ (s : State) (d : Fin 4), (s.dev.stash d.val).oldest Frame.isPool = none :=
  ⟨mk (sd { objs := [(1, some { len := 16, tiles := [.t1 0] })] }), 0, by decide +kernel⟩

theorem witness_stash_stops_moves_and_allots_7 :
    ∃ (s : State) (d : Fin 4) (k : Nat) (m : StashMove) (o : StashObj) (f : Frame), (s.dev.stash d.val).moves[k]? =
      some m ∧ (s.dev.stash d.val).obj m.handle = some o ∧ o.tiles[m.tile]? = some f ∧ s.dev.runs (wSts d.val) = true
      ∧ s.dev.busyUnits = [] ∧ s.dev.core.flaws = [] ∧ s.dev.core.watch = none :=
  ⟨mk (sd { objs := [(1, some { len := 16, tiles := [.pool 0] })], moves := [{ handle := 1, tile := 0, dst := .t1 0 }] }), 0, 0, { handle := 1, tile := 0, dst := .t1 0 }, { len := 16, tiles := [.pool 0] }, .pool 0, by decide +kernel⟩

theorem witness_stash_stops_moves_and_allots_8 :
    ∃ (s : State) (d : Fin 4) (h : BitVec 12) (o : StashObj), (s.dev.stash d.val).obj h.toNat = some o :=
  ⟨mk (sd { objs := [(4095, some { len := 16 })] }), 0, 4095, { len := 16 }, by decide +kernel⟩

theorem witness_stash_stops_moves_and_allots_9 :
    ∃ (s : State) (d : Fin 4) (h : BitVec 12), (s.dev.stash d.val).obj h.toNat = none :=
  ⟨mk {}, 0, 0, by decide +kernel⟩

theorem witness_stash_stops_moves_and_allots_10 :
    ∃ (s : State) (d : Fin 4) (r : Allotment) (v : Word), (s.dev.stash d.val).objs = [] ∧ (r = .pool → fld (v &&& wd
      (allotReg r).2) 15 0 = 0) ∧ (s.dev.setReg (stsReg d.val (allotReg r).1) (v &&& wd (allotReg r).2)).allotRange
      d.val = true :=
  ⟨mk {}, 0, .t1n, 0, by decide +kernel⟩

theorem witness_stash_stops_moves_and_allots_11 :
    ∃ (s : State) (d : Fin 4) (r : Allotment) (v : Word), (s.dev.stash d.val).objs ≠ [] ∧ allotIsCount r = false :=
  ⟨mk (sd { objs := [(1, some { len := 16 })] }), 0, .pool, 0, by decide +kernel⟩

theorem witness_streams_dispatch_or_halt_0 :
    ∃ (s : State) (d : Fin 4) (n : Fin 8), (s.dev.stream d.val n.val).state = .run ∧ (s.dev.stream d.val n.val).rcd = none ∧ (match (s.dev.stream d.val n.val).ahead with | none => (s.dev.stream d.val n.val).head ≠ (s.dev.stream d.val n.val).tail | some a => aheadReady (s.dev.ringSize d.val n.val) (s.dev.stream d.val n.val).tail a = true) ∧ s.dev.busyUnits = [] ∧ s.dev.core.flaws = [] ∧ s.dev.core.watch = none ∧ s.dev.runs (wCtl d.val) = true ∧ regionOf (s.dev.recordAddr d.val n.val (s.dev.stream d.val n.val).head) < 0xC ∧ s.dev.rangeOk (s.dev.recordAddr d.val n.val (s.dev.stream d.val n.val).head) 64 = true ∧ anyPoison (s.dev.readBytes (s.dev.recordAddr d.val n.val (s.dev.stream d.val n.val).head) 64) = false :=
  by
  refine ⟨mk (({} : Device).setStream 0 0 { state := .run, tail := 1 }), 0, 0, ?_⟩
  refine ⟨by decide +kernel, by decide +kernel, ?_, by decide +kernel, by decide +kernel, by decide +kernel, by decide +kernel⟩
  show (0 : Nat) ≠ 1
  decide

theorem witness_streams_dispatch_or_halt_1 :
    ∃ (s : State) (d : Fin 4) (n : Fin 8) (r : List Word) (ds : List Dest), (s.dev.stream d.val n.val).rcd = some r
      ∧ (s.dev.stream d.val n.val).state = .run ∧ s.dev.runs (wCtl d.val) = true ∧ recordBad d.val (s.dev.ringSize
      d.val n.val) r = false ∧ rIsCop r = false ∧ destsOf (rH r 0) (fld (rW r 0) 31 28) (fld (rW r 0) 27 26) = some ds
      ∧ (∀ x ∈ ds, s.dev.fenced x.slot = true ∨ (s.dev.queue x.q).length < qDepth x.q) :=
  ⟨mk (rd ([0x100FEFFE, 0, 0, 0, 0, 0, 0, 0] ++ putW)), 0, 0, [0x100FEFFE, 0, 0, 0, 0, 0, 0, 0] ++ putW, [⟨516, 27, 1, uDie 0⟩], by decide +kernel⟩

theorem witness_streams_dispatch_or_halt_2 :
    ∃ (e : Device) (die n : Nat) (r : List Word) (x : Dest), e.fenced x.slot = false :=
  ⟨{}, 0, 0, [], ⟨516, 27, 1, 0⟩, by decide +kernel⟩

theorem witness_streams_dispatch_or_halt_3 :
    ∃ (s : State) (d : Fin 4) (n : Fin 8) (r : List Word), (s.dev.stream d.val n.val).rcd = some r ∧ (s.dev.stream
      d.val n.val).state = .run ∧ s.dev.runs (wCtl d.val) = true ∧ recordBad d.val (s.dev.ringSize d.val n.val) r =
      true :=
  ⟨mk (rd ([0xF0000000, 0, 0, 0, 0, 0, 0, 0] ++ putW)), 0, 0, [0xF0000000, 0, 0, 0, 0, 0, 0, 0] ++ putW, by decide +kernel⟩

theorem witness_control_operations_and_branches_0 :
    ∃ (s : State) (d : Fin 4) (n : Fin 8) (r : List Word), s.dev.copReady d.val n.val 1 = some r :=
  ⟨mk (rd (cop 1 [])), 0, 0, cop 1 [], by decide +kernel⟩

theorem witness_control_operations_and_branches_1 :
    ∃ (s : State) (d : Fin 4) (n : Fin 8) (r : List Word), s.dev.copReady d.val n.val 2 = some r :=
  ⟨mk (rd (cop 2 [])), 0, 0, cop 2 [], by decide +kernel⟩

theorem witness_control_operations_and_branches_2 :
    ∃ (s : State) (d : Fin 4) (n : Fin 8) (r : List Word), s.dev.copReady d.val n.val 3 = some r :=
  ⟨mk (rd (cop 3 [])), 0, 0, cop 3 [], by decide +kernel⟩

theorem witness_control_operations_and_branches_3 :
    ∃ (s : State) (d : Fin 4) (n : Fin 8) (r : List Word), s.dev.copReady d.val n.val 6 = some r :=
  ⟨mk (rd (cop 6 [0, 0, 3, 7])), 0, 0, cop 6 [0, 0, 3, 7], by decide +kernel⟩

theorem witness_control_operations_and_branches_4 :
    ∃ (s : State) (d : Fin 4) (n : Fin 8) (r : List Word), s.dev.copReady d.val n.val 8 = some r :=
  ⟨mk (rd (cop 8 [])), 0, 0, cop 8 [], by decide +kernel⟩

theorem witness_control_operations_and_branches_5 :
    ∃ (s : State) (d : Fin 4) (n : Fin 8) (r : List Word), s.dev.copReady d.val n.val 9 = some r :=
  ⟨mk (rd (cop 9 [0, 0, 0xC0000000, 5])), 0, 0, cop 9 [0, 0, 0xC0000000, 5], by decide +kernel⟩

theorem witness_control_operations_and_branches_6 :
    ∃ (e : Device) (die n : Nat) (r : List Word) (act : Device → Device) (status : Nat), ((act e).stream die
      n).state = .run :=
  ⟨rd (cop 1 []), 0, 0, cop 1 [], id, 0, by decide +kernel⟩

theorem witness_control_operations_and_branches_8 :
    ∃ (s : State) (d : Fin 4) (n : Fin 8) (r : List Word), s.dev.copReady d.val n.val 5 = some r :=
  ⟨mk (rd (cop 5 [])), 0, 0, cop 5 [], by decide +kernel⟩

theorem witness_control_operations_and_branches_9 :
    ∃ (s : State) (d : Fin 4) (n : Fin 8) (r : List Word), s.dev.copReady d.val n.val 4 = some r ∧ (s.dev.summary
      d.val (fld (rW r 3) 31 26)).valid = true :=
  ⟨mk { (rd (cop 4 [])) with ctl.sums := [(0, { value := 1, valid := true })] }, 0, 0, cop 4 [], by decide +kernel⟩

theorem witness_control_operations_and_branches_10 :
    ∃ (s : State) (d : Fin 4) (n : Fin 8) (r : List Word), s.dev.copReady d.val n.val 4 = some r ∧ (s.dev.summary
      d.val (fld (rW r 3) 31 26)).valid = false :=
  ⟨mk (rd (cop 4 [])), 0, 0, cop 4 [], by decide +kernel⟩

theorem witness_ring_and_counter_writes_0 :
    ∃ (s : State) (d : Fin 4) (n : Fin 8), (s.dev.stream d.val n.val).state = .halted ∧ s.dev.dieInReset d.val =
      false :=
  ⟨mk (({} : Device).setStream 0 0 { state := .halted }), 0, 0, by decide +kernel⟩

theorem witness_ring_and_counter_writes_1 :
    ∃ (s : State) (d : Fin 4) (n : Fin 8) (v : Word), s.dev.hostOpen = true ∧ s.dev.busyUnits = [] ∧
      s.dev.dieInReset d.val = false ∧ fld v 19 0 < s.dev.ringSize d.val n.val :=
  ⟨mk { hif.memEn := true }, 0, 0, 0, by decide +kernel⟩

theorem witness_ring_and_counter_writes_2 :
    ∃ (s : State) (d : Fin 4) (n : Fin 8) (v : Word) (poison : Bool), s.dev.hostOpen = true ∧ s.dev.busyUnits = [] ∧
      s.dev.dieInReset d.val = false ∧ (poison = true ∨ s.dev.ringSize d.val n.val ≤ fld v 19 0) :=
  ⟨mk { hif.memEn := true }, 0, 0, 0xFFFFF, false, by decide +kernel⟩

theorem witness_ring_and_counter_writes_3 :
    ∃ (s : State) (d : Fin 4) (n : Fin 8) (v : Word), s.dev.dieInReset d.val = false ∧ ((s.dev.stream d.val
      n.val).state = .idle ∨ (s.dev.stream d.val n.val).state = .halted) ∧ fld v 19 0 < s.dev.ringSize d.val n.val :=
  ⟨mk {}, 0, 0, 0, by decide +kernel⟩

theorem witness_ring_and_counter_writes_4 :
    ∃ (s : State) (d : Fin 4) (c : Fin 256) (v : Word), s.dev.hostOpen = true ∧ s.dev.busyUnits = [] ∧
      s.dev.dieInReset d.val = false :=
  ⟨mk { hif.memEn := true }, 0, 255, 0xFFFF, by decide +kernel⟩

theorem witness_met_wait_stays_met_0 :
    ∃ (c v : Nat), c < 2 ^ 16 ∧ v < 2 ^ 16 :=
  ⟨0x7FFF, 0, by decide +kernel⟩

theorem witness_met_wait_stays_met_1 :
    ∃ (d : Device) (q : Nat) (k : Cmd) (l : List Cmd), d.queue q = k :: l ∧ k.met = false ∧ bit (k.word 1) 31 = true :=
  ⟨qd 516 [0, 0x80000001], 516, cm [0, 0x80000001], [], by decide +kernel⟩

theorem witness_met_wait_stays_met_2 :
    ∃ (i : Instr) (s t : State) (q : Nat) (k k' : Cmd) (l l' : List Cmd), exec i s = .next t ∧ s.dev.queue q = k ::
      l ∧ (∀ x ∈ l, x.cid ≠ k.cid) ∧ s.dev.ready q = some k ∧ t.dev.queue q = k' :: l' ∧ k'.cid = k.cid :=
  by
  exact ⟨.ctlSyncWrite 0 0 0x7FFF, mk (qd 516 [0, 0x80000000]), _, 516, cm [0, 0x80000000], _, [], _, rfl, by decide +kernel, by decide +kernel,
    by decide +kernel, rfl, rfl⟩

theorem witness_met_wait_stays_met_3 :
    ∃ (i : Instr) (s t : State) (d : Fin 4) (n : Fin 8) (r : List Word), exec i s = .next t ∧ (s.dev.stream d.val
      n.val).rcd = some r ∧ ((s.dev.stream d.val n.val).met || s.dev.w1Met d.val (rW r 1)) = true ∧ (t.dev.stream
      d.val n.val).rcd = some r :=
  by
  exact ⟨.ctlSyncWrite 0 0 0x7FFF, mk (rd (cop 1 [0x80000000])), _, 0, 0, cop 1 [0x80000000], rfl, by decide +kernel, by decide +kernel, by decide +kernel⟩

theorem witness_met_wait_stays_met_4 :
    ∃ (i : Instr) (s t : State) (d : Fin 4) (n : Fin 32) (p p' : DmaProg) (w : List Word), exec i s = .next t ∧
      (s.dev.chan d.val n.val).prog = some p ∧ (t.dev.chan d.val n.val).prog = some p' ∧ s.dev.dmaFetch p = some w ∧
      t.dev.dmaFetch p' = some w ∧ fld (wordAt w 0) 31 28 = 4 ∧ p'.cmd.cid = p.cmd.cid ∧ p'.pc = p.pc ∧ (p.met ||
      dmaWaitMet s.dev (wordAt w 0) p.woff) = true :=
  by
  exact ⟨.ctlSyncWrite 0 0 0x7FFF, mk (dm [0x40000000, 0, 0, 0, 0, 0, 0, 0]), _, 0, 0, {}, {}, [0x40000000, 0, 0, 0, 0, 0, 0, 0], rfl, by decide +kernel,
    by decide +kernel, by decide +kernel, by decide +kernel, by decide +kernel, by decide +kernel, by decide +kernel, by decide +kernel⟩

theorem witness_vector_integer_results_0 :
    ∃ (s : State) (d : Fin 4) (w : Fin 16) (c : Fin 128) (key : Nat) (l : VLoop) (i : Nat) (ins v : Word), LaneAt
      s.dev d.val w.val c.val 0x01 key l i ins ∧ ialu (iFn ins) ((l.lane i).i (iRa ins)) ((l.lane i).i (iRb ins)) =
      some v :=
  by
  refine ⟨mk (lpD 0x04000000), 0, 0, 0, 0, lp 0x04000000, 0, 0x04000000, 0, ?_⟩
  simp only [LaneAt]; decide +kernel

theorem witness_vector_integer_results_1 :
    ∃ (s : State) (d : Fin 4) (w : Fin 16) (c : Fin 128) (key : Nat) (l : VLoop) (i : Nat) (ins : Word), LaneAt
      s.dev d.val w.val c.val 0x02 key l i ins :=
  by
  refine ⟨mk (lpD 0x08008000), 0, 0, 0, 0, lp 0x08008000, 0, 0x08008000, ?_⟩
  simp only [LaneAt]; decide +kernel

theorem witness_vector_integer_results_2 :
    ∃ (s : State) (d : Fin 4) (w : Fin 16) (c : Fin 128) (key : Nat) (l : VLoop) (i : Nat) (ins : Word), LaneAt
      s.dev d.val w.val c.val 0x03 key l i ins ∧ iRa ins = 0 :=
  by
  refine ⟨mk (lpD 0x0C20FFFF), 0, 0, 0, 0, lp 0x0C20FFFF, 0, 0x0C20FFFF, ?_⟩
  simp only [LaneAt]; decide +kernel

theorem witness_vector_float_results_0 :
    ∃ (s : State) (d : Fin 4) (w : Fin 16) (c : Fin 128) (key : Nat) (l : VLoop) (i : Nat) (ins v : Word), LaneAt
      s.dev d.val w.val c.val 0x08 key l i ins ∧ falu (iFn ins) ((l.lane i).v (iRa ins)) ((l.lane i).v (iRb ins))
      ((l.lane i).f (iRa ins)) = some v :=
  by
  refine ⟨mk (lpD 0x20000000), 0, 0, 0, 0, lp 0x20000000, 0, 0x20000000, 0, ?_⟩
  simp only [LaneAt]; decide +kernel

theorem witness_vector_float_results_1 :
    ∃ (s : State) (d : Fin 4) (w : Fin 16) (c : Fin 128) (key : Nat) (l : VLoop) (i : Nat) (ins : Word), LaneAt
      s.dev d.val w.val c.val 0x09 key l i ins :=
  by
  refine ⟨mk (lpD 0x24000000), 0, 0, 0, 0, lp 0x24000000, 0, 0x24000000, ?_⟩
  simp only [LaneAt]; decide +kernel

theorem witness_vector_float_results_2 :
    ∃ (s : State) (d : Fin 4) (w : Fin 16) (c : Fin 128) (key : Nat) (l : VLoop) (i : Nat) (ins : Word), LaneAt
      s.dev d.val w.val c.val 0x0A key l i ins :=
  by
  refine ⟨mk (lpD 0x28000000), 0, 0, 0, 0, lp 0x28000000, 0, 0x28000000, ?_⟩
  simp only [LaneAt]; decide +kernel

theorem witness_vector_float_results_3 :
    ∃ (s : State) (d : Fin 4) (w : Fin 16) (c : Fin 128) (key : Nat) (l : VLoop) (i : Nat) (ins : Word), LaneAt
      s.dev d.val w.val c.val 0x0B key l i ins ∧ iFn ins ≤ 5 :=
  by
  refine ⟨mk (lpD 0x2C000005), 0, 0, 0, 0, lp 0x2C000005, 0, 0x2C000005, ?_⟩
  simp only [LaneAt]; decide +kernel

theorem witness_vector_float_results_6 :
    ∃ (s : State) (d : Fin 4) (w : Fin 16) (c : Fin 128) (key : Nat) (l : VLoop) (i : Nat) (ins : Word) (f : Fmt),
      LaneAt s.dev d.val w.val c.val 0x0C key l i ins ∧ rmodeReserved (iFn ins / 16) = false ∧ (iFn ins / 16 = 2 → iFn
      ins / 4 % 2 = 1 → l.pstream ≠ 0) ∧ (iFn ins % 4 = 2 ∧ f = .bf16 ∨ iFn ins % 4 = 3 ∧ f = .fp16) :=
  by
  refine ⟨mk (lpD 0x30000002), 0, 0, 0, 0, lp 0x30000002, 0, 0x30000002, .bf16, ?_⟩
  simp only [LaneAt]; decide +kernel

theorem witness_vector_float_results_7 :
    ∃ (s : State) (d : Fin 4) (w : Fin 16) (c : Fin 128) (key : Nat) (l : VLoop) (i : Nat) (ins : Word) (f : Fmt) (dr : Draw) (q : Conv), LaneAt s.dev d.val w.val c.val 0x0C key l i ins ∧ iFn ins / 16 ≠ 3 ∧ (iFn ins / 16 = 2 → iFn ins / 4 % 2 = 1 → l.pstream ≠ 0) ∧ (iFn ins % 4 = 0 ∧ f = .bf16 ∨ iFn ins % 4 = 1 ∧ f = .fp16) ∧ dr = { k0 := l.k0, k1 := l.k1, stream := if iFn ins / 4 % 2 = 1 then l.pstream else 1, tensor := (l.lane i).i (iRb ins), step := l.step } ∧ q = f.convert (dr.rnd (iFn ins / 16) (((l.lane i).i (iRc ins)).toNat + fld ((l.lane i).i 23) 15 0 * 2 ^ 32)) (iFn ins / 8 % 2 == 1) ((l.lane i).v (iRa ins)) :=
  by
  refine ⟨mk (lpD 0x30000000), 0, 0, 0, 0, lp 0x30000000, 0, 0x30000000, .bf16, _, _, ?_, by decide +kernel, by decide +kernel, by decide +kernel, rfl, rfl⟩
  simp only [LaneAt]; decide +kernel

theorem witness_vector_float_results_9 :
    ∃ (s : State) (d : Fin 4) (w : Fin 16) (c : Fin 128) (key : Nat) (l : VLoop) (i : Nat) (ins : Word), LaneAt
      s.dev d.val w.val c.val 0x0C key l i ins ∧ (iFn ins / 16 = 3 ∨ iFn ins / 16 = 2 ∧ iFn ins / 4 % 2 = 1 ∧
      l.pstream = 0) :=
  by
  refine ⟨mk (lpD 0x30000030), 0, 0, 0, 0, lp 0x30000030, 0, 0x30000030, ?_⟩
  simp only [LaneAt]; decide +kernel

theorem witness_vector_memory_and_control_flow_0 :
    ∃ (n opc : Nat) (f : Fin 4 → Fin 16 → Fin 128 → CoreCheck → Instr) (s : State) (d : Fin 4) (w : Fin 16) (c : Fin
      128) (key : Nat) (l : VLoop) (i : Nat) (ins a : Word), (n, opc, f) ∈ [(4, 0x10, Instr.ldw), (2, 0x11, .ldh), (1,
      0x12, .ldb)] ∧ LaneAt s.dev d.val w.val c.val opc key l i ins ∧ a = (l.lane i).i (iRa ins) + immWord ins ∧
      accessFault s.dev a n n = none :=
  by
  refine ⟨4, 0x10, Instr.ldw, mk (lpD 0x40200000), 0, 0, 0, 0, lp 0x40200000, 0, 0x40200000, 0, by simp, ?_⟩
  simp only [LaneAt]; decide +kernel

theorem witness_vector_memory_and_control_flow_1 :
    ∃ (n opc : Nat) (f : Fin 4 → Fin 16 → Fin 128 → CoreCheck → Instr) (s : State) (d : Fin 4) (w : Fin 16) (c : Fin
      128) (key : Nat) (l : VLoop) (i : Nat) (ins a : Word), (n, opc, f) ∈ [(4, 0x14, Instr.stw), (2, 0x15, .sth), (1,
      0x16, .stb)] ∧ LaneAt s.dev d.val w.val c.val opc key l i ins ∧ a = (l.lane i).i (iRa ins) + immWord ins ∧
      accessFault s.dev a n n = none ∧ s.dev.core.flaws = [] :=
  by
  refine ⟨2, 0x15, Instr.sth, mk (lpD 0x54200002), 0, 0, 0, 0, lp 0x54200002, 0, 0x54200002, 2, by simp, ?_⟩
  simp only [LaneAt]; decide +kernel

theorem witness_vector_memory_and_control_flow_2 :
    ∃ (s : State) (d : Fin 4) (w : Fin 16) (c : Fin 128) (key : Nat) (l : VLoop) (i : Nat) (ins a : Word), LaneAt
      s.dev d.val w.val c.val 0x18 key l i ins ∧ a = (l.lane i).i (iRa ins) + immWord ins ∧ a.toNat % 4 = 0 ∧ a.toNat
      < 4096 :=
  by
  refine ⟨mk (lpD 0x60200FFC), 0, 0, 0, 0, lp 0x60200FFC, 0, 0x60200FFC, 0xFFC, ?_⟩
  simp only [LaneAt]; decide +kernel

theorem witness_vector_memory_and_control_flow_3 :
    ∃ (s : State) (d : Fin 4) (w : Fin 16) (c : Fin 128) (key : Nat) (l : VLoop) (i : Nat) (ins a : Word), LaneAt
      s.dev d.val w.val c.val 0x19 key l i ins ∧ a = (l.lane i).i (iRa ins) + immWord ins ∧ a.toNat % 4 = 0 ∧ a.toNat
      < 4096 :=
  by
  refine ⟨mk (lpD 0x64200FFC), 0, 0, 0, 0, lp 0x64200FFC, 0, 0x64200FFC, 0xFFC, ?_⟩
  simp only [LaneAt]; decide +kernel

theorem witness_vector_memory_and_control_flow_4 :
    ∃ (s : State) (d : Fin 4) (w : Fin 16) (c : Fin 128) (key : Nat) (l : VLoop) (i : Nat) (ins : Word) (f : Fmt) (v
      : Val), LaneAt s.dev d.val w.val c.val 0x1A key l i ins ∧ Fmt.ofCode (iFn ins) = some f ∧ f.scaled = true ∧
      awRes ((l.lane i).i (iRa ins)) = false ∧ awRes ((l.lane i).i (iRb ins)) = false ∧ s.dev.rangeOk (sramDA ((l.lane
      i).i (iRa ins)) + ((l.lane i).i (iRc ins)).toNat * f.width / 8) ((((l.lane i).i (iRc ins)).toNat * f.width % 8 +
      f.width + 7) / 8) = true ∧ s.dev.rangeOk (sramDA ((l.lane i).i (iRb ins)) + ((l.lane i).i (iRc ins)).toNat / 32)
      1 = true ∧ s.dev.rowVal (sramDA ((l.lane i).i (iRa ins))) (sramDA ((l.lane i).i (iRb ins))) f ((l.lane i).i (iRc
      ins)).toNat = (v, false) :=
  by
  refine ⟨mk (lpD 0x68200003), 0, 0, 0, 0, lp 0x68200003, 0, 0x68200003, .e4m3, (lpD 0x68200003 |>.rowVal (sramDA ((lp 0x68200003).lane 0 |>.i 1)) (sramDA ((lp 0x68200003).lane 0 |>.i 0)) .e4m3 0).1, ?_⟩
  simp only [LaneAt]; decide +kernel

theorem witness_vector_memory_and_control_flow_5 :
    ∃ (opc : Nat) (f : Fin 4 → Fin 16 → Fin 128 → CoreCheck → Instr) (taken : Word → Word → Bool) (s : State) (d :
      Fin 4) (w : Fin 16) (c : Fin 128) (key : Nat) (l : VLoop) (i : Nat) (ins : Word), (opc, f, taken) ∈ [(0x28,
      Instr.beq, fun a b => a == b), (0x29, .bne, fun a b => a != b), (0x2A, .blt, BitVec.slt), (0x2B, .bltu,
      BitVec.ult)] ∧ LaneAt s.dev d.val w.val c.val opc key l i ins :=
  by
  refine ⟨0x28, Instr.beq, fun a b => a == b, mk (lpD 0xA0008000), 0, 0, 0, 0, lp 0xA0008000, 0, 0xA0008000, by simp, ?_⟩
  simp only [LaneAt]; decide +kernel

theorem witness_vector_memory_and_control_flow_6 :
    ∃ (s : State) (d : Fin 4) (w : Fin 16) (c : Fin 128) (key : Nat) (l : VLoop) (i : Nat) (ins : Word), LaneAt
      s.dev d.val w.val c.val 0x2C key l i ins ∧ iRa ins = 0 :=
  by
  refine ⟨mk (lpD 0xB0200001), 0, 0, 0, 0, lp 0xB0200001, 0, 0xB0200001, ?_⟩
  simp only [LaneAt]; decide +kernel

theorem witness_vector_memory_and_control_flow_7 :
    ∃ (s : State) (d : Fin 4) (w : Fin 16) (c : Fin 128) (key : Nat) (l : VLoop) (i : Nat) (ins : Word), LaneAt
      s.dev d.val w.val c.val 0x2D key l i ins ∧ iRd ins = 0 ∧ iRb ins = 0 ∧ iRc ins = 0 ∧ iFn ins = 0 :=
  by
  refine ⟨mk (lpD 0xB4030000), 0, 0, 0, 0, lp 0xB4030000, 0, 0xB4030000, ?_⟩
  simp only [LaneAt]; decide +kernel

theorem witness_vector_memory_and_control_flow_8 :
    ∃ (s : State) (d : Fin 4) (w : Fin 16) (c : Fin 128) (key : Nat) (l : VLoop) (i : Nat) (ins : Word), LaneAt
      s.dev d.val w.val c.val 0x3F key l i ins ∧ fld ins 25 0 = 0 :=
  by
  refine ⟨mk (lpD 0xFC000000), 0, 0, 0, 0, lp 0xFC000000, 0, 0xFC000000, ?_⟩
  simp only [LaneAt]; decide +kernel

theorem witness_vector_memory_and_control_flow_9 :
    ∃ (s : State) (d : Fin 4) (w : Fin 16) (c : Fin 128) (key : Nat) (l : VLoop) (i : Nat) (ins : Word) (x : Slot),
      LaneAt s.dev d.val w.val c.val 0x24 key l i ins ∧ iRd ins = 0 ∧ iRb ins = 0 ∧ iRc ins = 0 ∧ iFn ins < 8 ∧
      (l.slots.getD (iFn ins) (slotInit 0)).add ((l.lane i).contribution (iRa ins)) ((l.lane i).i (iRa ins)) = some x :=
  by
  refine ⟨mk (lpD 0x90030007), 0, 0, 0, 0, lp 0x90030007, 0, 0x90030007, { (slotInit 1) with acc := (slotInit 1).acc.add (f32 1), n := 1 }, ?_⟩
  simp only [LaneAt]; decide +kernel

theorem witness_vector_memory_and_control_flow_10 :
    ∃ (e : Device) (key : Nat) (l : VLoop) (i : Nat) (ln : Lane) (sl : List Slot), ln.ended = false :=
  ⟨{}, 0, lp 0, 0, { pc := 1 }, [], by decide +kernel⟩

theorem witness_vector_loops_meet_and_fault_0 :
    ∃ (s : State) (d : Fin 4) (w : Fin 16) (c : Cmd), s.dev.ready (qVec d.val w.val) = some c ∧ (∀ v ∈
      targetClusters c.target, (s.dev.ready (qVec d.val v)).map Cmd.cid = some c.cid ∧ s.dev.loopAt d.val v = none ∧
      s.dev.runs (wCluster d.val v) = true) ∧ vloopBad s.dev c = none :=
  by
  refine ⟨mk (({} : Device).setQueue 520 [{ hdr := [0x10200FFE], w := [0x70000000, 0, 0, 0, 1] }]), 0, 0,
    { hdr := [0x10200FFE], w := [0x70000000, 0, 0, 0, 1] }, ?_⟩
  decide +kernel

theorem witness_vector_loops_meet_and_fault_1 :
    ∃ (s : State) (d : Fin 4) (w : Fin 16) (key : Nat) (l : VLoop), s.dev.loopAt d.val w.val = some (key, l) ∧
      l.open_ = false ∧ (∀ v ∈ l.group, s.dev.runs (wCluster d.val v) = true) :=
  ⟨mk (({} : Device).setLoop 0 (some { (lp 0) with open_ := false })), 0, 0, 0, { (lp 0) with open_ := false }, by decide +kernel⟩

theorem witness_vector_loops_meet_and_fault_3 :
    ∃ (s : State) (d : Fin 4) (w : Fin 16) (c : Fin 128) (key : Nat) (l : VLoop), s.dev.loopAt d.val w.val = some
      (key, l) ∧ l.open_ = true ∧ (∀ v ∈ l.group, s.dev.runs (wCluster d.val v) = true) ∧ (∃ i, i < l.cvl ∧ (l.lane
      i).ended = false) ∧ (∀ i, i < l.cvl → (l.lane i).ended = false → ∃ u, standsAt s.dev l 0x20 i = some u ∧ fld u
      10 0 = 0) :=
  by
  refine ⟨mk (lpD 0x80000000), 0, 0, 0, 0, lp 0x80000000, by decide +kernel, by decide +kernel, by decide +kernel,
    ⟨0, by decide +kernel, by decide +kernel⟩, ?_⟩
  intro i hi _
  have h : (lp 0x80000000).cvl = 1 := by decide +kernel
  obtain rfl : i = 0 := by omega
  exact ⟨0x80000000, by decide +kernel⟩

theorem witness_vector_loops_meet_and_fault_4 :
    ∃ (s : State) (d : Fin 4) (w : Fin 16) (c : Fin 128) (blk : Nat) (key : Nat) (l : VLoop) (i0 : Nat) (u : Word)
      (row : ConvRow) (bases : List Word), s.dev.loopAt d.val w.val = some (key, l) ∧ l.open_ = true ∧ (∀ v ∈ l.group,
      s.dev.runs (wCluster d.val v) = true) ∧ ((rangeFrom (32 * blk) 32).filter (fun i => i < l.cvl && !(l.lane
      i).ended)).head? = some i0 ∧ standsAt s.dev l 0x1B i0 = some u ∧ (∀ i ∈ rangeFrom (32 * blk) 32, i < l.cvl →
      (l.lane i).ended = false → ∃ x, standsAt s.dev l 0x1B i = some x ∧ qstIllegal l x = false ∧ qstAddr s.dev l i x
      = false ∧ qstBlock l i x = qstBlock l i0 u) ∧ row = convPBlock (fmtOf (iFn u % 16)) (List.replicate 32 (if iFn u
      / 16 % 2 = 1 then Rnd.rtz else Rnd.rne)) false (qstVals s.dev l (standsAt s.dev l 0x1B) (rangeFrom (32 * blk)
      32) s.dev.core.freeN) ∧ bases = (rangeFrom (32 * blk) 32).map (fun i => if i < l.cvl && !(l.lane i).ended then
      (l.lane i).i (iRb ((standsAt s.dev l 0x1B i).getD 0)) else (l.lane i0).i (iRb u)) ∧ s.dev.core.flaws = [] :=
  by
  refine ⟨mk (lpD 0x6C000003 32), 0, 0, 0, 0, 0, lp 0x6C000003 32, 0, 0x6C000003, _, _, by decide +kernel, by decide +kernel, by decide +kernel,
    by decide +kernel, by decide +kernel, ?_, rfl, rfl, by decide +kernel⟩
  intro i _ hi _
  have h : (lp 0x6C000003 32).cvl = 1 := by decide +kernel
  obtain rfl : i = 0 := by omega
  exact ⟨0x6C000003, by decide +kernel⟩

theorem witness_vector_loops_meet_and_fault_5 :
    ∃ (e : Device) (f : Fmt) (blk : Nat) (codes : List (Nat × Bool)) (bases : List Word) (base : Word), bases.length
      = codes.length ∧ (∀ b ∈ bases, b = base) :=
  by
  exact ⟨{}, .e4m3, 0, [(1, false), (2, true)], [64, 64], 64, rfl, by simp⟩

theorem witness_vector_loops_meet_and_fault_6 :
    ∃ (s : State) (d : Fin 4) (w : Fin 16) (c : Fin 128) (x : CoreCheck) (key : Nat) (l : VLoop) (i cause : Nat),
      s.dev.loopAt d.val w.val = some (key, l) ∧ l.open_ = true ∧ (∀ v ∈ l.group, s.dev.runs (wCluster d.val v) =
      true) ∧ (∀ j u, standsAt s.dev l 0x20 j = some u → fld u 10 0 = 0) ∧ checkedLane s.dev l 0x20 w.val c.val x =
      some (i, cause) ∧ (l.lane i).ended = false :=
  by
  refine ⟨mk (lpD 0x80000000 32), 0, 0, 0, .feedError, 0, lp 0x80000000 32, 0, 5, by decide +kernel, by decide +kernel, by decide +kernel, ?_, by decide +kernel, by decide +kernel⟩
  have h : (lp 0x80000000 32).cvl = 1 := by decide +kernel
  intro j u hu
  by_cases hj : j = 0
  · subst hj
    have e : standsAt (mk (lpD 0x80000000 32)).dev (lp 0x80000000 32) 0x20 0 = some 0x80000000 := by decide +kernel
    rw [e] at hu
    obtain rfl := Option.some.inj hu
    decide +kernel
  · simp only [standsAt, if_neg (show ¬ j < (lp 0x80000000 32).cvl by omega)] at hu
    cases hu

theorem witness_vector_loops_meet_and_fault_8 :
    ∃ (s : State) (d : Fin 4) (w : Fin 16) (c : Fin 128) (x : CoreCheck) (key : Nat) (l : VLoop) (i cause : Nat),
      s.dev.activeLane d.val w.val c.val = some (key, l, i) ∧ fetchIns s.dev l (l.lane i) = .inl cause :=
  ⟨mk (lpD 0xF0000000), 0, 0, 0, .ok, 0, lp 0xF0000000, 0, 1, by decide +kernel⟩

theorem witness_vector_loops_meet_and_fault_7 :
    ∃ (s : State) (d : Fin 4) (w : Fin 16) (c : Fin 128) (x : CoreCheck) (key : Nat) (l : VLoop) (i cause : Nat),
      s.dev.loopAt d.val w.val = some (key, l) ∧ l.open_ = true ∧ (∀ v ∈ l.group, s.dev.runs (wCluster d.val v) =
      true) ∧ (∀ j u, standsAt s.dev l 0x1B j = some u → qstIllegal l u = false) ∧ checkedLane s.dev l 0x1B w.val
      c.val x = some (i, cause) ∧ (l.lane i).ended = false :=
  by
  refine ⟨mk (lpD 0x6C000003 32), 0, 0, 0, .feedError, 0, lp 0x6C000003 32, 0, 5, by decide +kernel, by decide +kernel, by decide +kernel, ?_, by decide +kernel, by decide +kernel⟩
  have h : (lp 0x6C000003 32).cvl = 1 := by decide +kernel
  intro j u hu
  by_cases hj : j = 0
  · subst hj
    have e : standsAt (mk (lpD 0x6C000003 32)).dev (lp 0x6C000003 32) 0x1B 0 = some 0x6C000003 := by decide +kernel
    rw [e] at hu
    obtain rfl := Option.some.inj hu
    decide +kernel
  · simp only [standsAt, if_neg (show ¬ j < (lp 0x6C000003 32).cvl by omega)] at hu
    cases hu

theorem witness_vector_loops_meet_and_fault_9 :
    ∃ (s : State) (d : Fin 4) (w : Fin 16) (c : Fin 128) (key : Nat) (l : VLoop) (i : Nat) (ins : Word), LaneAt
      s.dev d.val w.val c.val 0x02 key l i ins :=
  by
  refine ⟨mk (lpD 0x08000000), 0, 0, 0, 0, lp 0x08000000, 0, 0x08000000, ?_⟩
  simp only [LaneAt]; decide +kernel

theorem witness_vector_loops_meet_and_fault_11 :
    ∃ (n opc : Nat) (f : Fin 4 → Fin 16 → Fin 128 → CoreCheck → Instr) (s : State) (d : Fin 4) (w : Fin 16) (c : Fin
      128) (key : Nat) (l : VLoop) (i : Nat) (ins a : Word) (cause : Nat), (n, opc, f) ∈ [(4, 0x10, Instr.ldw), (2,
      0x11, .ldh), (1, 0x12, .ldb), (4, 0x14, .stw), (2, 0x15, .sth), (1, 0x16, .stb)] ∧ LaneAt s.dev d.val w.val
      c.val opc key l i ins ∧ a = (l.lane i).i (iRa ins) + immWord ins ∧ accessFault s.dev a n n = some cause :=
  by
  refine ⟨4, 0x10, Instr.ldw, mk (lpD 0x40000001), 0, 0, 0, 0, lp 0x40000001, 0, 0x40000001, 1, 2, by simp, ?_, by decide +kernel, by decide +kernel⟩
  simp only [LaneAt]; decide +kernel

theorem witness_vector_loops_meet_and_fault_13 :
    ∃ (e : Device) (key : Nat) (l : VLoop) (i cause k : Nat), k = vecWin (key / 16) (l.clusterOf i) 8 ∧ bit (e.reg
      k) 31 = false :=
  ⟨{}, 0, { group := [0] }, 0, 1, vecWin 0 0 8, by decide +kernel⟩

theorem witness_vector_loops_meet_and_fault_14 :
    ∃ (e : Device) (key : Nat) (l : VLoop) (i cause u : Nat) (o : Open), u = uCore (key / 16) (l.clusterOf i)
      (l.coreOf i) ∧ mget {} e.core.opens l.cmd.cid = o ∧ o.left = l.leaves ∧ o.worst < stFault ∧ (l.pcores.filter
      (fun x => some u != some x)).length < l.leaves :=
  ⟨{ core.opens := [(0, { left := (lp 0).leaves })] }, 0, lp 0, 0, 1, uCore 0 0 0, { left := (lp 0).leaves }, by decide +kernel⟩

theorem witness_dma_programs_loop_wait_and_signal_0 :
    ∃ (s : State) (d : Fin 4) (n : Fin 32) (c : Cmd), s.dev.ready (qDma d.val n.val) = some c ∧ (s.dev.chan d.val
      n.val).prog = none ∧ s.dev.runs (wDma d.val) = true ∧ w012Reserved c true = false ∧ partShare c = false ∧ fld
      (c.word 7) 7 0 = 0 ∧ fld (c.word 6) 29 27 = 0 ∧ fld (c.word 6) 15 0 = 0 ∧ awRes (c.word 3) = false ∧ awMis 32
      (c.word 3) = false ∧ s.dev.sramBad (c.word 3) 32 = false ∧ (bit (c.word 6) 30 = true → awRes (c.word 4) = false
      ∧ awMis 32 (c.word 4) = false ∧ ∀ k ∈ targetChans c.target, s.dev.rangeOk (sramDA (c.word 4) + 32 * dmaLane c k)
      32 = true) :=
  ⟨mk (qd 584 [0x90000000]), 0, 0, cm [0x90000000], by decide +kernel⟩

theorem witness_dma_programs_loop_wait_and_signal_1 :
    ∃ (s : State) (d : Fin 4) (n : Fin 32) (p : DmaProg) (w : List Word) (r count : Nat), DmaAt s.dev d.val n.val 3
      p w ∧ r = fld (wordAt w 0) 27 26 ∧ count = fld (wordAt w 1) 23 0 ∧ fld (wordAt w 1) 31 24 = 0 ∧ wordAt w 7 = 0 ∧
      fld (wordAt w 6) 31 16 = 0 ∧ fld (wordAt w 0) 25 8 = 0 ∧ 0 < count ∧ 0 < fld (wordAt w 0) 7 0 ∧ fld (wordAt w 0)
      7 0 ≤ p.pc ∧ r < p.loops.length :=
  by
  refine ⟨mk (({} : Device).setProg 0 0 { pc := 1 } |>.write 32 (clean (wordsToBytes [0x30000001, 2]))), 0, 0, { pc := 1 }, [0x30000001, 2, 0, 0, 0, 0, 0, 0], 0, 2, ?_⟩
  simp only [DmaAt]; decide +kernel

theorem witness_dma_programs_loop_wait_and_signal_2 :
    ∃ (s : State) (d : Fin 4) (n : Fin 32) (p : DmaProg) (w : List Word), DmaAt s.dev d.val n.val 4 p w ∧ waitBad w
      = false ∧ (p.met = true ∨ dmaWaitMet s.dev (wordAt w 0) p.woff = true) :=
  by
  refine ⟨mk (dm [0x40000000]), 0, 0, {}, [0x40000000, 0, 0, 0, 0, 0, 0, 0], ?_⟩
  simp only [DmaAt]; decide +kernel

theorem witness_dma_programs_loop_wait_and_signal_3 :
    ∃ (s : State) (d : Fin 4) (n : Fin 32) (p : DmaProg) (w : List Word), DmaAt s.dev d.val n.val 4 p w ∧ waitBad w
      = false ∧ p.met = false ∧ dmaWaitMet s.dev (wordAt w 0) p.woff = false :=
  by
  refine ⟨mk (dm [0x40000001, 5]), 0, 0, {}, [0x40000001, 5, 0, 0, 0, 0, 0, 0], ?_⟩
  simp only [DmaAt]; decide +kernel

theorem witness_dma_programs_loop_wait_and_signal_4 :
    ∃ (s : State) (d : Fin 4) (n : Fin 32) (p : DmaProg) (w : List Word), DmaAt s.dev d.val n.val 5 p w ∧ bit
      (wordAt w 0) 24 = false ∧ fld (wordAt w 0) 13 0 = 0 ∧ fld (wordAt w 1) 31 16 = 0 ∧ anyWord w [2, 3, 4, 5, 6, 7]
      = false ∧ (bit (wordAt w 0) 27 = true → ∀ v ∈ (s.dev.chan d.val n.val).writes, v.cid ≠ p.cmd.cid) :=
  by
  refine ⟨mk (dm [0x50000000]), 0, 0, {}, [0x50000000, 0, 0, 0, 0, 0, 0, 0], ?_⟩
  simp only [DmaAt]; decide +kernel

theorem witness_dma_programs_loop_wait_and_signal_5 :
    ∃ (s : State) (d : Fin 4) (n : Fin 32) (p : DmaProg) (w : List Word), DmaAt s.dev d.val n.val 7 p w ∧ fld
      (wordAt w 0) 27 0 = 0 ∧ anyWord w [1, 2, 3, 4, 5, 6, 7] = false :=
  by
  refine ⟨mk (dm [0x70000000]), 0, 0, {}, [0x70000000, 0, 0, 0, 0, 0, 0, 0], ?_⟩
  simp only [DmaAt]; decide +kernel

theorem witness_dma_moves_and_bursts_0 :
    ∃ (s : State) (d : Fin 4) (n : Fin 32) (p : DmaProg) (w : List Word), DmaAt s.dev d.val n.val 1 p w ∧ moveFault s.dev p w (match s.dev.dmaFetch { p with pc := p.pc + 1, first := none } with | some v => fld (wordAt v 0) 31 28 | none => 0) = none :=
  by
  refine ⟨mk (dm [0x10000000, 16]), 0, 0, {}, [0x10000000, 16, 0, 0, 0, 0, 0, 0], ?_, ?_⟩
  · simp only [DmaAt]; decide +kernel
  · decide +kernel

theorem witness_dma_moves_and_bursts_1 :
    ∃ (s : State) (d : Fin 4) (n : Fin 32) (p : DmaProg) (w mw : List Word), DmaAt s.dev d.val n.val 2 p w ∧ p.xdue
      = some mw ∧ wordAt w 7 = 0 ∧ fld (wordAt w 3) 31 20 = 0 ∧ wordAt w 1 = 0 ∧ fld (wordAt w 0) 26 0 = 0 ∧ awRes
      (wordAt w 4) = false ∧ regionOf (movxGeo p mw w).src ≠ 0xC ∧ s.dev.moveRangeOk (movxGeo p mw w).src (movxGeo p
      mw w).sspan = true ∧ s.dev.moveRangeOk (movxGeo p mw w).dst (movxGeo p mw w).dspan = true :=
  by
  refine ⟨mk (dm [0x20000000] { xdue := some [0x11800000, 31] }), 0, 0, { xdue := some [0x11800000, 31] }, [0x20000000, 0, 0, 0, 0, 0, 0, 0], [0x11800000, 31], ?_⟩
  simp only [DmaAt]; decide +kernel

theorem witness_dma_moves_and_bursts_2 :
    ∃ (s : State) (d : Fin 4) (n : Fin 32) (p : DmaProg) (m : DmaMove) (g : MoveGeo) (data : List PByte),
      (s.dev.chan d.val n.val).prog = some p ∧ p.cur = some m ∧ p.latch = none ∧ (s.dev.chan d.val n.val).waiting =
      false ∧ s.dev.busyUnits = [] ∧ s.dev.core.flaws = [] ∧ s.dev.core.watch = none ∧ s.dev.runs (wDma d.val) = true
      ∧ fld (wordAt m.w 0) 31 28 ≤ 2 ∧ g = m.geo p ∧ (p.rate = 0 ∨ g.burst m.pos ≤ p.credit) ∧ (regionOf (g.daddr
      m.pos) = 0xE → s.dev.injRoom d.val = true) ∧ regionOf g.src ≠ 0xE ∧ data = g.assemble m.pos (g.burst m.pos)
      ((g.reads m.pos (g.burst m.pos)).map (fun r => s.dev.readBytes r.1 r.2)) :=
  by
  refine ⟨mk (({} : Device).setProg 0 0 { cur := some { w := [0x10000000, 16, 0, 0, 64], total := 16 } }), 0, 0,
    { cur := some { w := [0x10000000, 16, 0, 0, 64], total := 16 } }, { w := [0x10000000, 16, 0, 0, 64], total := 16 }, _, _,
    ?_, ?_, ?_, ?_, ?_, ?_, ?_, ?_, ?_, rfl, ?_, ?_, ?_, rfl⟩ <;>
    decide +kernel

theorem witness_dma_moves_and_bursts_3 :
    ∃ (s : State) (d : Fin 4) (n : Fin 32) (p : DmaProg) (m : DmaMove) (g : MoveGeo) (feed : Bool), (s.dev.chan
      d.val n.val).prog = some p ∧ p.cur = some m ∧ p.latch = none ∧ (s.dev.chan d.val n.val).waiting = false ∧
      s.dev.busyUnits = [] ∧ s.dev.core.flaws = [] ∧ s.dev.core.watch = none ∧ s.dev.runs (wDma d.val) = true ∧ fld
      (wordAt m.w 0) 31 28 ≤ 2 ∧ g = m.geo p ∧ (p.rate = 0 ∨ g.burst m.pos ≤ p.credit) ∧ (regionOf (g.daddr m.pos) =
      0xE ∨ regionOf g.src = 0xE) :=
  by
  refine ⟨mk (({} : Device).setProg 0 0 { cur := some { w := [0x10000000, 16, 0, 0, 0, 0xE0000], total := 16 } }), 0, 0, { cur := some { w := [0x10000000, 16, 0, 0, 0, 0xE0000], total := 16 } }, { w := [0x10000000, 16, 0, 0, 0, 0xE0000], total := 16 }, _, false, ?_, ?_, ?_, ?_, ?_, ?_, ?_, ?_, ?_, rfl, ?_, ?_⟩ <;>
    decide +kernel

theorem witness_dma_moves_and_bursts_4 :
    ∃ (e : Device) (die n wr : Nat) (p : DmaProg) (m : DmaMove) (w : DmaWr) (r : Nat × Nat) (data : List PByte),
      (e.chan die n).writes.find? (fun v => v.id == wr && v.data.isNone && !v.need.isEmpty) = some w ∧ (e.chan die
      n).prog = some p ∧ p.cmd.cid = w.cid ∧ p.cur = some m ∧ fld (wordAt m.w 0) 31 28 ≤ 2 ∧ w.need = [r] :=
  ⟨({} : Device).setChan 0 0 { prog := some { cur := some { w := [0x10000000, 16, 0, 0, 64], total := 16 } }, writes := [{ need := [(0, 16)], len := 16 }] }, 0, 0, 0, { cur := some { w := [0x10000000, 16, 0, 0, 64], total := 16 } }, { w := [0x10000000, 16, 0, 0, 64], total := 16 }, { need := [(0, 16)], len := 16 }, (0, 16), [], by decide +kernel⟩

theorem witness_dma_moves_and_bursts_3_1 :
    ∃ (s : State) (d : Fin 4) (n : Fin 32) (p : DmaProg) (m : DmaMove) (g : MoveGeo) (feed : Bool), (s.dev.chan
      d.val n.val).prog = some p ∧ p.cur = some m ∧ p.latch = none ∧ (s.dev.chan d.val n.val).waiting = false ∧
      s.dev.busyUnits = [] ∧ s.dev.core.flaws = [] ∧ s.dev.core.watch = none ∧ s.dev.runs (wDma d.val) = true ∧ fld
      (wordAt m.w 0) 31 28 ≤ 2 ∧ g = m.geo p ∧ (p.rate = 0 ∨ g.burst m.pos ≤ p.credit) ∧ (regionOf (g.daddr m.pos) =
      0xE ∨ regionOf g.src = 0xE) ∧ regionOf g.src = 0xE ∧ s.dev.injRoom d.val = true :=
  by
  refine ⟨mk (({} : Device).setProg 0 0 { cur := some { w := [0x10000000, 16, 0, 0xE0000], total := 16 } }), 0, 0, { cur := some { w := [0x10000000, 16, 0, 0xE0000], total := 16 } }, { w := [0x10000000, 16, 0, 0xE0000], total := 16 }, _, false, ?_, ?_, ?_, ?_, ?_, ?_, ?_, ?_, ?_, rfl, ?_, ?_, ?_, ?_⟩ <;>
    decide +kernel

theorem witness_dma_moves_and_bursts_4_0 :
    ∃ (e : Device) (die n wr : Nat) (p : DmaProg) (m : DmaMove) (w : DmaWr) (r : Nat × Nat) (data : List PByte),
      (e.chan die n).writes.find? (fun v => v.id == wr && v.data.isNone && !v.need.isEmpty) = some w ∧ (e.chan die
      n).prog = some p ∧ p.cmd.cid = w.cid ∧ p.cur = some m ∧ fld (wordAt m.w 0) 31 28 ≤ 2 ∧ w.need = [r] ∧ w.bad =
      false ∧ (regionOf ((m.geo p).daddr m.pos) = 0xE → e.injRoom die = true) :=
  ⟨({} : Device).setChan 0 0 { prog := some { cur := some { w := [0x10000000, 16, 0, 0, 64], total := 16 } }, writes := [{ need := [(0, 16)], len := 16 }] }, 0, 0, 0, { cur := some { w := [0x10000000, 16, 0, 0, 64], total := 16 } }, { w := [0x10000000, 16, 0, 0, 64], total := 16 }, { need := [(0, 16)], len := 16 }, (0, 16), [], by decide +kernel⟩

theorem witness_dma_moves_and_bursts_4_1 :
    ∃ (e : Device) (die n wr : Nat) (p : DmaProg) (m : DmaMove) (w : DmaWr) (r : Nat × Nat) (data : List PByte),
      (e.chan die n).writes.find? (fun v => v.id == wr && v.data.isNone && !v.need.isEmpty) = some w ∧ (e.chan die
      n).prog = some p ∧ p.cmd.cid = w.cid ∧ p.cur = some m ∧ fld (wordAt m.w 0) 31 28 ≤ 2 ∧ w.need = [r] ∧ p.latch =
      none ∧ w.bad = true :=
  ⟨({} : Device).setChan 0 0 { prog := some { cur := some { w := [0x10000000, 16, 0, 0, 64], total := 16 } }, writes := [{ need := [(0, 16)], len := 16, bad := true }] }, 0, 0, 0, { cur := some { w := [0x10000000, 16, 0, 0, 64], total := 16 } }, { w := [0x10000000, 16, 0, 0, 64], total := 16 }, { need := [(0, 16)], len := 16, bad := true }, (0, 16), [], by decide +kernel⟩

theorem witness_dma_moves_and_bursts_4_2 :
    ∃ (e : Device) (die n wr : Nat) (p : DmaProg) (m : DmaMove) (w : DmaWr) (r : Nat × Nat) (data : List PByte),
      (e.chan die n).writes.find? (fun v => v.id == wr && v.data.isNone && !v.need.isEmpty) = some w ∧ (e.chan die
      n).prog = some p ∧ p.cmd.cid = w.cid ∧ p.cur = some m ∧ fld (wordAt m.w 0) 31 28 ≤ 2 ∧ w.need = [r] ∧ p.latch =
      none :=
  ⟨({} : Device).setChan 0 0 { prog := some { cur := some { w := [0x10000000, 16, 0, 0, 64], total := 16 } }, writes := [{ need := [(0, 16)], len := 16 }] }, 0, 0, 0, { cur := some { w := [0x10000000, 16, 0, 0, 64], total := 16 } }, { w := [0x10000000, 16, 0, 0, 64], total := 16 }, { need := [(0, 16)], len := 16 }, (0, 16), [], by decide +kernel⟩

theorem witness_dma_moves_and_bursts_5 :
    ∃ (e : Device) (die n : Nat) (p : DmaProg) (m : DmaMove) (data : List PByte), regionOf ((m.geo p).daddr m.pos) ≠
      0xE :=
  ⟨{}, 0, 0, {}, { w := [0x10000000, 16, 0, 0, 64], total := 16 }, [], by decide +kernel⟩

theorem witness_dma_moves_and_bursts_6 :
    ∃ (s : State) (d : Fin 4) (n : Fin 32) (p : DmaProg), (s.dev.chan d.val n.val).prog = some p ∧ p.rate ≠ 0 :=
  ⟨mk (({} : Device).setProg 0 0 { cmd := cm [0, 0, 0, 0, 0, 0, 0, 0x00010000] }), 0, 0, { cmd := cm [0, 0, 0, 0, 0, 0, 0, 0x00010000] }, by decide +kernel⟩

theorem witness_dma_writes_and_crcs_0 :
    ∃ (s : State) (d : Fin 4) (n : Fin 32) (k : Nat) (w : DmaWr) (l : List PByte), (s.dev.chan d.val
      n.val).writes[k]? = some w ∧ w.data = some l ∧ w.peer = false ∧ s.dev.busyUnits = [] :=
  ⟨mk (({} : Device).setChan 0 0 { writes := [{ data := some [(1, false)], len := 1 }] }), 0, 0, 0, { data := some [(1, false)], len := 1 }, [(1, false)], by decide +kernel⟩

theorem witness_dma_writes_and_crcs_1 :
    ∃ (s : State) (d : Fin 4) (n : Fin 32) (k u : Nat) (w : DmaWr), (s.dev.chan d.val n.val).writes[k]? = some w ∧
      s.waitsAt (ordinaryEffect (.writeArrival d n k)) [] = some u :=
  ⟨mk ({ (({} : Device).setChan 0 0 { writes := [{ dst := 4 * 2 ^ 48, data := some [(1, false)], len := 1 }] }) with
  slip := { byStack := [(0, { run := some { mems := [(0, {})] } })] } }), 0, 0, 0, 0, { dst := 4 * 2 ^ 48, data := some [(1, false)], len := 1 }, by decide +kernel⟩

theorem witness_dma_writes_and_crcs_2 :
    ∃ (a b : Nat) (w v : DmaWr) (l m : List PByte), w.data = some l ∧ v ∈ cutWrite a b w ∧ v.data = some m ∧ w.dst =
      canonAddr w.dst :=
  ⟨0, 2, { dst := 1, len := 2, data := some [(1, false), (2, false)] }, { dst := 2, len := 1, data := some [(2, false)] }, [(1, false), (2, false)], [(2, false)], by decide +kernel⟩

theorem witness_dma_writes_and_crcs_3 :
    ∃ (a b i : Nat) (w : DmaWr) (l : List PByte), w.data = some l ∧ w.dst = canonAddr w.dst ∧ i < l.length ∧ (w.dst
      + i < a ∨ b ≤ w.dst + i) :=
  ⟨0, 2, 1, { dst := 1, len := 2, data := some [(1, false), (2, false)] }, [(1, false), (2, false)], by decide +kernel⟩

theorem witness_dma_writes_and_crcs_4 :
    ∃ (s : State) (d : Fin 4) (n : Fin 32) (p : DmaProg) (w : List Word) (a : Nat), DmaAt s.dev d.val n.val 6 p w ∧
      fld (wordAt w 0) 25 0 = 0 ∧ fld (wordAt w 2) 31 20 = 0 ∧ anyWord w [3, 4, 5, 6, 7] = false ∧ a = join (wordAt w
      1) (wd (fld (wordAt w 2) 19 0)) ∧ a % 4 = 0 :=
  by
  refine ⟨mk (dm [0x60000000, 0, 0, 0, 0, 0, 0, 0]), 0, 0, {}, [0x60000000, 0, 0, 0, 0, 0, 0, 0], 0, ?_⟩
  simp only [DmaAt]; decide +kernel

theorem witness_dma_writes_and_crcs_4_0 :
    ∃ (s : State) (d : Fin 4) (n : Fin 32) (p : DmaProg) (w : List Word) (a : Nat), DmaAt s.dev d.val n.val 6 p w ∧
      fld (wordAt w 0) 25 0 = 0 ∧ fld (wordAt w 2) 31 20 = 0 ∧ anyWord w [3, 4, 5, 6, 7] = false ∧ a = join (wordAt w
      1) (wd (fld (wordAt w 2) 19 0)) ∧ a % 4 = 0 ∧ fld (wordAt w 0) 27 26 = 0 :=
  by
  refine ⟨mk (dm [0x60000000, 0, 0, 0, 0, 0, 0, 0]), 0, 0, {}, [0x60000000, 0, 0, 0, 0, 0, 0, 0], 0, ?_⟩
  simp only [DmaAt]; decide +kernel

theorem witness_dma_writes_and_crcs_4_1 :
    ∃ (s : State) (d : Fin 4) (n : Fin 32) (p : DmaProg) (w : List Word) (a : Nat), DmaAt s.dev d.val n.val 6 p w ∧
      fld (wordAt w 0) 25 0 = 0 ∧ fld (wordAt w 2) 31 20 = 0 ∧ anyWord w [3, 4, 5, 6, 7] = false ∧ a = join (wordAt w
      1) (wd (fld (wordAt w 2) 19 0)) ∧ a % 4 = 0 ∧ fld (wordAt w 0) 27 26 = 1 ∧ s.dev.moveRangeOk ((a + p.doff) % 2 ^
      52) 4 = true ∧ (p.rate = 0 ∨ 4 ≤ p.credit) ∧ regionOf ((a + p.doff) % 2 ^ 52) ≠ 0xE :=
  by
  refine ⟨mk (dm [0x64000000, 0, 0, 0, 0, 0, 0, 0]), 0, 0, {}, [0x64000000, 0, 0, 0, 0, 0, 0, 0], 0, ?_⟩
  simp only [DmaAt]; decide +kernel

theorem witness_dma_writes_and_crcs_4_2 :
    ∃ (s : State) (d : Fin 4) (n : Fin 32) (p : DmaProg) (w : List Word) (a : Nat), DmaAt s.dev d.val n.val 6 p w ∧
      fld (wordAt w 0) 25 0 = 0 ∧ fld (wordAt w 2) 31 20 = 0 ∧ anyWord w [3, 4, 5, 6, 7] = false ∧ a = join (wordAt w
      1) (wd (fld (wordAt w 2) 19 0)) ∧ a % 4 = 0 ∧ fld (wordAt w 0) 27 26 = 2 ∧ s.dev.busyUnits = [] ∧
      s.dev.core.flaws = [] ∧ s.dev.core.watch = none ∧ s.dev.moveRangeOk ((a + p.soff) % 2 ^ 52) 4 = true ∧ regionOf
      ((a + p.soff) % 2 ^ 52) ≠ 0xE :=
  by
  refine ⟨mk (dm [0x68000000, 0, 0, 0, 0, 0, 0, 0]), 0, 0, {}, [0x68000000, 0, 0, 0, 0, 0, 0, 0], 0, ?_⟩
  simp only [DmaAt]; decide +kernel

theorem witness_dma_writes_and_crcs_4_3 :
    ∃ (s : State) (d : Fin 4) (n : Fin 32) (p : DmaProg) (w : List Word) (a : Nat) (feed : Bool), DmaAt s.dev d.val
      n.val 6 p w ∧ fld (wordAt w 0) 25 0 = 0 ∧ fld (wordAt w 2) 31 20 = 0 ∧ anyWord w [3, 4, 5, 6, 7] = false ∧ a =
      join (wordAt w 1) (wd (fld (wordAt w 2) 19 0)) ∧ a % 4 = 0 ∧ fld (wordAt w 0) 27 26 = 2 ∧ s.dev.moveRangeOk ((a
      + p.soff) % 2 ^ 52) 4 = true ∧ regionOf ((a + p.soff) % 2 ^ 52) = 0xE ∧ s.dev.injRoom d.val = true :=
  by
  refine ⟨mk (dm [0x68000000, 0, 0xe0000, 0, 0, 0, 0, 0]), 0, 0, {}, [0x68000000, 0, 0xe0000, 0, 0, 0, 0, 0], 0xE * 2 ^ 48, false, ?_⟩
  simp only [DmaAt]; decide +kernel

theorem witness_dma_ends_and_abandonment_0 :
    ∃ (s : State) (d : Fin 4) (n : Fin 32) (p : DmaProg), (s.dev.chan d.val n.val).prog = some p ∧ s.dev.fenced
      (wDma d.val) = false :=
  ⟨mk (({} : Device).setProg 0 0 {}), 0, 0, {}, by decide +kernel⟩

theorem witness_dma_ends_and_abandonment_1 :
    ∃ (s : State) (d : Fin 4) (n : Fin 32), s.dev.fenced (wDma d.val) = false :=
  ⟨mk {}, 0, 31, by decide +kernel⟩

theorem witness_dma_ends_and_abandonment_2 :
    ∃ (s : State) (d : Fin 4) (n : Fin 32) (p : DmaProg), (s.dev.chan d.val n.val).prog = some p ∧ p.latch.isSome =
      true ∧ (s.dev.chan d.val n.val).waiting = false ∧ s.dev.runs (wDma d.val) = true :=
  ⟨mk (({} : Device).setProg 0 0 { latch := some .natural }), 0, 0, { latch := some .natural }, by decide +kernel⟩

theorem witness_dma_ends_and_abandonment_3 :
    ∃ (p : DmaProg) (c : Nat), p.cmd.seq < 2 ^ 12 :=
  ⟨{}, 0, by decide +kernel⟩

theorem witness_tier_commands_raise_and_lower_0 :
    ∃ (s : State) (g : Fin 5) (c : Cmd), s.dev.tierHead g.val 1 = some c ∧ s.dev.tierStops g.val c = none :=
  ⟨mk ((qd 728 [0, 0, 0, 0x10000000, 0, 0x80000, 1]).setSeg 0 { n := 1 }), 0, cm [0, 0, 0, 0x10000000, 0, 0x80000, 1], by decide +kernel⟩

theorem witness_tier_commands_raise_and_lower_1 :
    ∃ (s : State) (g : Fin 5) (c : Cmd), s.dev.tierHead g.val 4 = some c ∧ s.dev.tierStops g.val c = none :=
  ⟨mk ((qd 728 [0, 0, 0, 0x40000000]).setSeg 0 { n := 1 }), 0, cm [0, 0, 0, 0x40000000], by decide +kernel⟩

theorem witness_tier_commands_raise_and_lower_2 :
    ∃ (s : State) (g : Fin 5) (c : Cmd), s.dev.tierHead g.val 2 = some c ∧ s.dev.tierStops g.val c = none ∧ (bit
      (c.word 7) 31 = true → s.dev.expectFrame g.val c = fld (c.word 7) 13 0) :=
  ⟨mk (((qd 728 [0, 0, 0, 0x20000000]).setSeg 0 { n := 1 }).setTierObj 0 (some { w := [0, 0, 0x80000, 1] })), 0, cm [0, 0, 0, 0x20000000], by decide +kernel⟩

theorem witness_tier_commands_raise_and_lower_3 :
    ∃ (s : State) (g : Fin 5) (c : Cmd), s.dev.tierHead g.val 2 = some c ∧ s.dev.tierStops g.val c = none ∧ bit
      (c.word 7) 31 = true ∧ s.dev.expectFrame g.val c ≠ fld (c.word 7) 13 0 :=
  ⟨mk (((qd 728 [0, 0, 0, 0x20000000, 0, 0, 0, 0x80000001]).setSeg 0 { n := 1 }).setTierObj 0 (some { w := [0, 0, 0x80000, 1] })), 0, cm [0, 0, 0, 0x20000000, 0, 0, 0, 0x80000001], by decide +kernel⟩

theorem witness_tier_commands_raise_and_lower_4 :
    ∃ (s : State) (g : Fin 5) (c : Cmd), s.dev.tierHead g.val 3 = some c ∧ s.dev.tierStops g.val c = none :=
  ⟨mk (((qd 732 [0, 0, 0, 0x30000000]).setSeg 4 { n := 1 }).setTierObj 0 (some { w := [0, 0, 0x80000, 1], seg := 4 })), 4, cm [0, 0, 0, 0x30000000], by decide +kernel⟩

theorem witness_tier_commands_raise_and_lower_5 :
    ∃ (s : State) (g : Fin 5) (top : Nat) (c : Cmd) (x : Nat × Nat), s.dev.tierHead g.val top = some c ∧
      s.dev.tierStops g.val c = some x :=
  ⟨mk ((qd 728 [0, 0, 0, 0x30000000]).setSeg 0 { n := 1 }), 0, 3, cm [0, 0, 0, 0x30000000], (728, 0x0404), by decide +kernel⟩

theorem witness_tier_commands_raise_and_lower_6 :
    ∃ (s : State) (g : Fin 5) (r : TierRun) (f : Nat) (e : TierEnt), (s.dev.seg g.val).cur = some r ∧ tTop r.cmd = 2
      ∧ s.dev.segRuns g.val = true ∧ s.dev.freeTierFrame g.val = none ∧ s.dev.victim g.val = some (f, e) ∧ e.filling =
      false ∧ s.dev.pinMet e = true :=
  ⟨mk ((({} : Device).setSeg 0 { n := 1, cur := some { cmd := cm [0, 0, 0, 0x20000000] } }).setEnt 0 0 (some {})), 0, { cmd := cm [0, 0, 0, 0x20000000] }, 0, {}, by decide +kernel⟩

theorem witness_tier_commands_raise_and_lower_7 :
    ∃ (s : State) (g : Fin 5) (r : TierRun), (s.dev.seg g.val).cur = some r ∧ tTop r.cmd = 2 ∧ s.dev.segRuns g.val =
      true ∧ (s.dev.freeTierFrame g.val).isSome = true :=
  ⟨mk (({} : Device).setSeg 0 { n := 1, cur := some { cmd := cm [0, 0, 0, 0x20000000] } }), 0, { cmd := cm [0, 0, 0, 0x20000000] }, by decide +kernel⟩

theorem witness_tier_commands_raise_and_lower_9 :
    ∃ (d : Device) (g : Nat) (c : Cmd) (o : TierObj) (f : Nat), d.tierObj (tOid c) = some o ∧ d.findTile g (tOid c)
      (tT0 c) = none ∧ d.freeTierFrame g = some f :=
  ⟨(({} : Device).setSeg 0 { n := 1 }).setTierObj 0 (some { w := [0, 0, 0x80000, 1] }), 0, {}, { w := [0, 0, 0x80000, 1] }, 0, by decide +kernel⟩

theorem witness_tier_commands_raise_and_lower_5_2 :
    ∃ (s : State) (g : Fin 5) (top : Nat) (c : Cmd) (x : Nat × Nat), s.dev.tierHead g.val top = some c ∧
      s.dev.tierStops g.val c = some x ∧ top = 3 :=
  ⟨mk ((qd 728 [0, 0, 0, 0x30000000]).setSeg 0 { n := 1 }), 0, 3, cm [0, 0, 0, 0x30000000], (728, 0x0404), by decide +kernel⟩

theorem witness_tier_commands_raise_and_lower_5_0 :
    ∃ (s : State) (g : Fin 5) (top : Nat) (c : Cmd) (x : Nat × Nat), s.dev.tierHead g.val top = some c ∧
      s.dev.tierStops g.val c = some x ∧ top = 1 :=
  ⟨mk ((qd 728 [0, 0, 0, 0x10000000]).setSeg 0 { n := 1 }), 0, 1, cm [0, 0, 0, 0x10000000], (728, 0x0404), by decide +kernel⟩

theorem witness_tier_commands_raise_and_lower_5_1 :
    ∃ (s : State) (g : Fin 5) (top : Nat) (c : Cmd) (x : Nat × Nat), s.dev.tierHead g.val top = some c ∧
      s.dev.tierStops g.val c = some x ∧ top = 2 :=
  ⟨mk ((qd 728 [0, 0, 0, 0x20000000]).setSeg 0 { n := 1 }), 0, 2, cm [0, 0, 0, 0x20000000], (728, 0x0404), by decide +kernel⟩

theorem witness_tier_commands_raise_and_lower_5_3 :
    ∃ (s : State) (g : Fin 5) (top : Nat) (c : Cmd) (x : Nat × Nat), s.dev.tierHead g.val top = some c ∧
      s.dev.tierStops g.val c = some x ∧ top = 4 :=
  ⟨mk (((qd 728 [0, 0, 0, 0x40000000]).setSeg 0 { n := 1 }).setEnt 0 0 (some {})), 0, 4, cm [0, 0, 0, 0x40000000], (728, 0x0404), by decide +kernel⟩

theorem witness_tier_commands_raise_and_lower_8 :
    ∃ (s : State) (g : Fin 5) (c : Cmd), s.dev.segRuns g.val = true ∧ (s.dev.seg g.val).cur = none ∧ s.dev.ready
      (qTier g.val) = some c ∧ (tTop c = 0 ∨ 4 < tTop c) :=
  ⟨mk ((qd 728 [0, 0, 0, 0x50000000]).setSeg 0 { n := 1 }), 0, cm [0, 0, 0, 0x50000000], by decide +kernel⟩

theorem witness_tier_commands_raise_and_lower_11 :
    ∃ (d : Device) (g f : Nat) (e : TierEnt) (cause : Nat) (cids : List Nat) (o : TierObj), d.tierObj e.oid = some o :=
  ⟨({} : Device).setTierObj 0 (some { w := [0, 0, 0x80000, 1] }), 0, 0, {}, 0, [], { w := [0, 0, 0x80000, 1] }, by decide +kernel⟩

theorem witness_tier_commands_raise_and_lower_11_0 :
    ∃ (d : Device) (g f : Nat) (e : TierEnt) (cause : Nat) (cids : List Nat) (o : TierObj), d.tierObj e.oid = some o
      ∧ o.keep = true :=
  ⟨({} : Device).setTierObj 0 (some { w := [0x02000000] }), 0, 0, {}, 0, [], { w := [0x02000000] }, by decide +kernel⟩

theorem witness_tier_commands_raise_and_lower_11_1 :
    ∃ (d : Device) (g f : Nat) (e : TierEnt) (cause : Nat) (cids : List Nat) (o : TierObj), d.tierObj e.oid = some o
      ∧ o.keep = false :=
  ⟨({} : Device).setTierObj 0 (some { w := [0, 0, 0x80000, 1] }), 0, 0, {}, 0, [], { w := [0, 0, 0x80000, 1] }, by decide +kernel⟩

theorem witness_tier_moves_and_segments_0 :
    ∃ (s : State) (g : Fin 5) (k : Nat) (m : TierMove), (s.dev.seg g.val).moves[k]? = some m ∧ s.dev.moveFree g.val
      k = true ∧ s.dev.busyUnits = [] ∧ s.dev.core.flaws = [] ∧ s.dev.core.watch = none :=
  ⟨mk (({} : Device).setSeg 0 { n := 1, moves := [{}] }), 0, 0, {}, by decide +kernel⟩

theorem witness_tier_moves_and_segments_1 :
    ∃ (d : Device) (g k : Nat) (m : TierMove), g < 5 ∧ (d.seg g).moves[k]? = some m ∧ m.fill = true ∧ (∃ e ∈ (d.seg
      g).moves.take k, e.fill = false ∧ e.dst = m.src) :=
  ⟨({} : Device).setSeg 0 { n := 1, moves := [{ fill := false, dst := 8 * 2 ^ 48 }, { src := 8 * 2 ^ 48 }] }, 0, 1, { src := 8 * 2 ^ 48 }, by decide +kernel⟩

theorem witness_tier_moves_and_segments_2 :
    ∃ (s : State) (g : Fin 5) (k : Nat), s.dev.moveFree g.val k = true ∧ s.dev.busyUnits = [] :=
  ⟨mk (({} : Device).setSeg 0 { n := 1, moves := [{}] }), 0, 0, by decide +kernel⟩

theorem witness_tier_moves_and_segments_3 :
    ∃ (e : Device) (g k : Nat) (m : TierMove), g < 5 ∧ (e.seg g).moves[k]? = some m ∧ m.fill = true ∧ e.core.flaws =
      [] ∧ e.core.watch = none :=
  ⟨({} : Device).setSeg 0 { n := 1, moves := [{}] }, 0, 0, {}, by decide +kernel⟩

theorem witness_tier_moves_and_segments_4 :
    ∃ (e : Device) (g k : Nat) (m : TierMove), g < 5 ∧ (e.seg g).moves[k]? = some m ∧ m.fill = false ∧ e.core.flaws
      = [] ∧ e.core.watch = none :=
  ⟨({} : Device).setSeg 0 { n := 1, moves := [{ fill := false }] }, 0, 0, { fill := false }, by decide +kernel⟩

theorem witness_tier_moves_and_segments_4_0 :
    ∃ (e : Device) (g k : Nat) (m : TierMove), g < 5 ∧ (e.seg g).moves[k]? = some m ∧ m.fill = false ∧ e.core.flaws
      = [] ∧ e.core.watch = none ∧ (e.seg g).base ≤ m.src ∧ (m.src - (e.seg g).base) / 65536 < (e.seg g).n :=
  ⟨({} : Device).setSeg 0 { n := 1, moves := [{ fill := false }] }, 0, 0, { fill := false }, by decide +kernel⟩

theorem witness_tier_moves_and_segments_5 :
    ∃ (m : TierMove) (pois fault : Bool) (r : TierRun), (r.cmd.cid ∈ m.cids ∨ m.cause = r.cmd.cid) :=
  ⟨{ cids := [0] }, false, false, {}, by decide +kernel⟩

theorem witness_tier_moves_and_segments_5_0 :
    ∃ (m : TierMove) (pois fault : Bool) (r : TierRun), (r.cmd.cid ∈ m.cids ∨ m.cause = r.cmd.cid) ∧ fault = true :=
  ⟨{ cids := [0] }, false, true, {}, by decide +kernel⟩

theorem witness_tier_moves_and_segments_5_1 :
    ∃ (m : TierMove) (pois fault : Bool) (r : TierRun), (r.cmd.cid ∈ m.cids ∨ m.cause = r.cmd.cid) ∧ r.fault = false
      ∧ fault = false ∧ m.cause = r.cmd.cid ∧ pois = true :=
  ⟨{}, true, false, {}, by decide +kernel⟩

theorem witness_tier_moves_and_segments_6 :
    ∃ (s : State) (g : Fin 5) (v : Word), s.dev.modRuns = true ∧ segBad s.dev g.val (fld v 14 0) = none :=
  ⟨mk {}, 0, 2560, by decide +kernel⟩

theorem witness_tier_moves_and_segments_7 :
    ∃ (s : State) (g : Fin 5) (v : Word) (reason : Nat), s.dev.modRuns = true ∧ segBad s.dev g.val (fld v 14 0) =
      some reason :=
  ⟨mk {}, 4, 2561, 2, by decide +kernel⟩

theorem witness_near_bank_parts_issue_and_step_0 :
    ∃ (sop : Nat) (i : Fin 8 → Instr) (s : State) (n : Fin 8) (c : Cmd), (sop, i) ∈ [(1, Instr.gather), (2,
      .reduce), (3, .moment)] ∧ s.dev.ready (qSlp n.val) = some c ∧ sSop c = sop ∧ (s.dev.slipStack n.val).run = none
      ∧ s.dev.runs (wStack n.val) = true ∧ s.dev.groupBad (qSlp n.val) c (fun _ c => slipBad s.dev c) = none :=
  by
  refine ⟨1, Instr.gather, mk ((({} : Device).setQueue 720 [{ hdr := [0x20100000], w := [0x50000000, 0, 0, 0x10000000, 0, 0, 1] }]).write 0
    (clean (wordsToBytes [0, 0, 0, 0, 0, 32]))), 0, { hdr := [0x20100000], w := [0x50000000, 0, 0, 0x10000000, 0, 0, 1] }, by simp, ?_⟩
  decide +kernel

theorem witness_near_bank_parts_issue_and_step_1 :
    ∃ (sop : Nat) (i : Fin 8 → Instr) (s : State) (n : Fin 8) (c : Cmd) (q ev : Nat), (sop, i) ∈ [(1, Instr.gather),
      (2, .reduce), (3, .moment)] ∧ s.dev.ready (qSlp n.val) = some c ∧ sSop c = sop ∧ (s.dev.slipStack n.val).run =
      none ∧ s.dev.runs (wStack n.val) = true ∧ s.dev.groupBad (qSlp n.val) c (fun _ c => slipBad s.dev c) = some (q,
      ev) :=
  by
  refine ⟨2, Instr.reduce, mk (({} : Device).setQueue 720 [{ hdr := [0x20100000], w := [0x50000000, 0, 0, 0x20000000, 0, 0, 1] }]), 0,
    { hdr := [0x20100000], w := [0x50000000, 0, 0, 0x20000000, 0, 0, 1] }, 720, 0x040E, by simp, ?_⟩
  decide +kernel

theorem witness_near_bank_parts_issue_and_step_2 :
    ∃ (s : State) (n : Fin 8) (u : Fin 512) (r : SlipRun) (m m' : SlipMem) (d : Device) (fixed : Nat) (ws : List
      (Nat × List PByte)) (note : NumNote) (row : Option Bool), (s.dev.slipStack n.val).run = some r ∧ r.mem u.val =
      some m ∧ m.done = false ∧ s.dev.heldAt n.val u.val = false ∧ s.dev.runs (wStack n.val) = true ∧ s.dev.stepCoder
      n.val u.val r m = (d, fixed) ∧ slipStep d n.val u.val (r.rank u.val) r { m with cesym := m.cesym + fixed } = .ok
      m' ws note row :=
  by
  refine ⟨mk (({} : Device).setSlipStack 0 { run := some slipR }), 0, 0, slipR, {}, _, _, _, _, _, _, ?_, ?_, ?_, ?_, ?_, rfl, rfl⟩ <;> decide +kernel

theorem witness_near_bank_parts_issue_and_step_3 :
    ∃ (d : Device) (n u : Nat) (r : SlipRun) (m : SlipMem), d.core.flaws = [] :=
  ⟨{}, 0, 0, slipR, {}, by decide +kernel⟩

theorem witness_near_bank_parts_issue_and_step_4 :
    ∃ (s : State) (n : Fin 8) (u : Fin 512) (r : SlipRun) (m : SlipMem) (o : StepOutcome) (k : Nat),
      (s.dev.slipStack n.val).run = some r ∧ r.mem u.val = some m ∧ m.done = false ∧ s.dev.heldAt n.val u.val = false
      ∧ s.dev.runs (wStack n.val) = true ∧ sSten r.cmd = false ∧ (o = .fault 1 ∧ k = 1 ∨ o = .fault 3 ∧ k = 3 ∨ o =
      .done ∧ s.dev.core.flaws = [] ∧ k = 2 ∧ slipStep s.dev n.val u.val (r.rank u.val) r m = .segment) :=
  by
  refine ⟨mk (({} : Device).setSlipStack 0 { run := some slipR }), 0, 0, slipR, {}, .fault 3, 3, ?_, ?_, ?_, ?_, ?_, ?_, Or.inr (Or.inl ⟨rfl, rfl⟩)⟩ <;>
    decide +kernel

theorem witness_near_bank_parts_issue_and_step_5 :
    ∃ (s : State) (n : Fin 8) (u : Fin 512) (r : SlipRun) (m : SlipMem) (o : StepOutcome) (k : Nat),
      (s.dev.slipStack n.val).run = some r ∧ r.mem u.val = some m ∧ m.done = false ∧ s.dev.heldAt n.val u.val = false
      ∧ s.dev.runs (wStack n.val) = true ∧ s.dev.core.flaws = [] ∧ (o = .fault 1 ∧ k = 1 ∨ o = .fault 3 ∧ k = 3 ∨ o =
      .done ∧ k = 2 ∧ slipStep s.dev n.val u.val (r.rank u.val) r m = .segment) :=
  by
  refine ⟨mk (({} : Device).setSlipStack 0 { run := some slipR }), 0, 0, slipR, {}, .fault 3, 3, ?_, ?_, ?_, ?_, ?_, ?_, Or.inr (Or.inl ⟨rfl, rfl⟩)⟩ <;>
    decide +kernel

theorem witness_near_bank_parts_issue_and_step_6 :
    ∃ (d : Device) (n u : Nat) (r : SlipRun) (m : SlipMem) (i : Nat), d.entry n u (r.off 0 + 4 * m.j) = (i, false) ∧
      i < (r.d 6).toNat ∧ i ≠ 0xFFFFFFFF ∧ anyPoison (d.readBytes (bankDA n u (r.off 1 + i * (r.d 3).toNat)) (fld (r.d
      5) 11 0)) = false :=
  ⟨{}, 0, 0, { D := [0, 0, 0, 0, 0, 32, 1] }, {}, 0, by decide +kernel⟩

theorem witness_near_bank_parts_issue_and_step_4_0 :
    ∃ (s : State) (n : Fin 8) (u : Fin 512) (r : SlipRun) (m : SlipMem) (o : StepOutcome) (k : Nat),
      (s.dev.slipStack n.val).run = some r ∧ r.mem u.val = some m ∧ m.done = false ∧ s.dev.heldAt n.val u.val = false
      ∧ s.dev.runs (wStack n.val) = true ∧ sSten r.cmd = false ∧ (o = .fault 1 ∧ k = 1 ∨ o = .fault 3 ∧ k = 3 ∨ o =
      .done ∧ s.dev.core.flaws = [] ∧ k = 2 ∧ slipStep s.dev n.val u.val (r.rank u.val) r m = .segment) ∧ bit
      (s.dev.reg (slpReg n.val 4)) 31 = false :=
  by
  refine ⟨mk (({} : Device).setSlipStack 0 { run := some slipR }), 0, 0, slipR, {}, .fault 3, 3, ?_, ?_, ?_, ?_, ?_, ?_, Or.inr (Or.inl ⟨rfl, rfl⟩), by decide +kernel⟩ <;>
    decide +kernel

theorem witness_near_bank_parts_issue_and_step_5_0 :
    ∃ (s : State) (n : Fin 8) (u : Fin 512) (r : SlipRun) (m : SlipMem) (o : StepOutcome) (k : Nat),
      (s.dev.slipStack n.val).run = some r ∧ r.mem u.val = some m ∧ m.done = false ∧ s.dev.heldAt n.val u.val = false
      ∧ s.dev.runs (wStack n.val) = true ∧ s.dev.core.flaws = [] ∧ (o = .fault 1 ∧ k = 1 ∨ o = .fault 3 ∧ k = 3 ∨ o =
      .done ∧ k = 2 ∧ slipStep s.dev n.val u.val (r.rank u.val) r m = .segment) ∧ sSten r.cmd = true :=
  by
  refine ⟨mk (({} : Device).setSlipStack 0 { run := some { cmd := cm [0x50000000, 0, 0, 0x11000000], D := [0, 0, 0, 0, 0, 32], mems := [(0, {})] } }), 0, 0, { cmd := cm [0x50000000, 0, 0, 0x11000000], D := [0, 0, 0, 0, 0, 32], mems := [(0, {})] }, {}, .fault 1, 1, ?_, ?_, ?_, ?_, ?_, ?_, Or.inl ⟨rfl, rfl⟩, ?_⟩ <;>
    decide +kernel

theorem witness_near_bank_parts_issue_and_step_7 :
    ∃ (d : Device) (n u : Nat) (r : SlipRun) (m : SlipMem) (p : Bool), d.entry n u (r.off 0 + 4 * m.j) =
      (0xFFFFFFFF, p) :=
  ⟨({} : Device).write (bankDA 0 0 0) (clean [255, 255, 255, 255]), 0, 0, {}, {}, false, by decide +kernel⟩

theorem witness_near_bank_parts_issue_and_step_8 :
    ∃ (d : Device) (n u rank : Nat) (r : SlipRun) (m : SlipMem) (b e : Nat), m.pois = false ∧ d.entry n u (r.off 7 +
      4 * m.j) = (e, false) ∧ (m.j = 0 ∧ b = 0 ∨ 0 < m.j ∧ d.entry n u (r.off 7 + 4 * (m.j - 1)) = (b, false)) :=
  ⟨{}, 0, 0, 0, {}, {}, 0, 0, by decide +kernel⟩

theorem witness_near_bank_parts_issue_and_step_8_0 :
    ∃ (d : Device) (n u rank : Nat) (r : SlipRun) (m : SlipMem) (b e : Nat), m.pois = false ∧ d.entry n u (r.off 7 +
      4 * m.j) = (e, false) ∧ (m.j = 0 ∧ b = 0 ∨ 0 < m.j ∧ d.entry n u (r.off 7 + 4 * (m.j - 1)) = (b, false)) ∧ e < b :=
  ⟨({} : Device).write (bankDA 0 0 0) (clean [1, 0, 0, 0, 0, 0, 0, 0]), 0, 0, 0, {}, { j := 1 }, 1, 0, by decide +kernel⟩

theorem witness_near_bank_parts_issue_and_step_8_1 :
    ∃ (d : Device) (n u rank : Nat) (r : SlipRun) (m : SlipMem) (b e : Nat), m.pois = false ∧ d.entry n u (r.off 7 +
      4 * m.j) = (e, false) ∧ (m.j = 0 ∧ b = 0 ∨ 0 < m.j ∧ d.entry n u (r.off 7 + 4 * (m.j - 1)) = (b, false)) ∧ e = b :=
  ⟨{}, 0, 0, 0, {}, {}, 0, 0, by decide +kernel⟩

theorem witness_near_bank_parts_issue_and_step_8_2 :
    ∃ (d : Device) (n u rank : Nat) (r : SlipRun) (m : SlipMem) (b e : Nat) (pos i w : Nat) (f : Fmt) (m' : SlipMem) (prods : List Val), m.pois = false ∧ d.entry n u (r.off 7 + 4 * m.j) = (e, false) ∧ (m.j = 0 ∧ b = 0 ∨ 0 < m.j ∧ d.entry n u (r.off 7 + 4 * (m.j - 1)) = (b, false)) ∧ b < e ∧ pos = max m.pos b ∧ r.off 0 + 4 * pos + 4 ≤ bankBytes ∧ d.entry n u (r.off 0 + 4 * pos) = (i, false) ∧ i < (r.d 6).toNat ∧ i ≠ 0xFFFFFFFF ∧ slipFmt (fld (r.d 5) 31 28) = some f ∧ (bit (r.d 5) 22 = false ∧ w = 0x3F800000 ∨ bit (r.d 5) 22 = true ∧ r.off 8 + 4 * pos + 4 ≤ bankBytes ∧ d.entry n u (r.off 8 + 4 * pos) = (w, false)) ∧ (d.bankVals n u (r.off 1 + i * (r.d 3).toNat) f (fld (r.d 5) 9 0 + 1)).any Prod.snd = false ∧ prods = (d.bankVals n u (r.off 1 + i * (r.d 3).toNat) f (fld (r.d 5) 9 0 + 1)).map (fun x => (f32 (wd w)).mul x.1) ∧ m' = { m with pos := pos + 1, acc := some (match m.acc with | none => prods | some l => (l.zip prods).map (fun x => x.1.add x.2)) } :=
  by
  refine ⟨({} : Device).write (bankDA 0 0 0) (clean [1, 0, 0, 0]), 0, 0, 0, { D := [0, 0, 0, 0, 0, 0, 2] }, {}, 0, 1, 0, 1, 0x3F800000, .fp32, _, _,
    by decide +kernel, by decide +kernel, by decide +kernel, by decide +kernel, by decide +kernel, by decide +kernel, by decide +kernel, by decide +kernel,
    by decide +kernel, by decide +kernel, Or.inl ⟨by decide +kernel, rfl⟩, by decide +kernel, rfl, rfl⟩

theorem witness_near_bank_parts_issue_and_step_9 :
    ∃ (d : Device) (n u rank : Nat) (r : SlipRun) (m : SlipMem) (f : Fmt) (old : List (Val × Bool)) (sums : List
      Val) (row : ConvRow), slipFmt (fld (r.d 5) 27 24) = some f ∧ m.acc = some sums ∧ sums.length = fld (r.d 5) 9 0 +
      1 ∧ old = (if bit (r.d 5) 23 then d.bankVals n u (r.off 2 + m.j * (r.d 4).toNat) f (fld (r.d 5) 9 0 + 1) else
      List.replicate (fld (r.d 5) 9 0 + 1) (Val.zero, false)) ∧ row = convRow f (fun c => (r.draw 5).rnd (sRmode
      r.cmd) ((r.elem0 + (rank * sCount r.cmd + m.j) * (r.d 13).toNat + c) % 2 ^ 48)) (sNosat r.cmd) ((old.zip
      sums).map (fun x => (x.1.1.add ((f32 (r.d 9)).mul x.2), false))) :=
  by
  exact ⟨{}, 0, 0, 0, {}, { acc := some [Val.zero] }, .fp32, _, [Val.zero], _, by decide +kernel, rfl, by decide +kernel, rfl, rfl⟩

theorem witness_near_bank_parts_issue_and_step_10 :
    ∃ (d : Device) (n u rank : Nat) (r : SlipRun) (m : SlipMem) (gs ms vs : List (Val × Bool)) (out : List (Val ×
      Val × Val)) (p : Bool), slipFmt (fld (r.d 5) 31 28) = some .fp32 ∧ bit (r.d 5) 27 = false ∧ gs = d.bankVals n u
      (r.off 0 + 1024 * m.j) .fp32 256 ∧ ms = d.bankVals n u (r.off 1 + 1024 * m.j) .fp32 256 ∧ vs = d.bankVals n u
      (r.off 2 + 1024 * m.j) .fp32 256 ∧ p = (gs.any Prod.snd || ms.any Prod.snd || vs.any Prod.snd) ∧ out = (gs.zip
      (ms.zip vs)).map (fun x => momentElem r x.1.1 x.2.1.1 x.2.2.1) :=
  by
  exact ⟨{}, 0, 0, 0, {}, {}, _, _, _, _, _, by decide +kernel, by decide +kernel, rfl, rfl, rfl, rfl, rfl⟩

theorem witness_near_bank_parts_issue_and_step_11 :
    ∃ (r : SlipRun) (g m v m1 v1 : Val), m1 = rne32 (((f32 (r.d 6)).mul m).add ((f32 (r.d 7)).mul g)) ∧ v1 = rne32
      (((f32 (r.d 8)).mul v).add ((f32 (r.d 9)).mul (g.mul g))) :=
  by
  exact ⟨{}, Val.zero, Val.zero, Val.zero, _, _, rfl, rfl⟩

theorem witness_training_engine_commands_write_0 :
    ∃ (s : State) (d : Fin 4) (c : Cmd) (w : Nat → Word) (us : List UnitOut), s.dev.trsHead d.val [1] = some c ∧
      s.dev.trsStops d.val c = none ∧ s.dev.busyUnits = [] ∧ s.dev.core.flaws = [] ∧ s.dev.core.watch = none ∧ w =
      wordAt (s.dev.descWords (sramDA (c.word 4)) 16) ∧ us = (List.range (qBlocks w)).map (quantBlock s.dev c w
      (s.dev.draw d.val 3 (w 10)) (fld (s.dev.reg (trsReg d.val 4)) 0 0) (lsExp (s.dev.reg (trsReg d.val 0x10)) -
      elsExp (s.dev.reg (trsReg d.val 0x10)))) :=
  by
  exact ⟨mk (qd 712 [0x10000000, 0, 0, 0x10000000]), 0, cm [0x10000000, 0, 0, 0x10000000], _, _, by decide +kernel, by decide +kernel, by decide +kernel, by decide +kernel, by decide +kernel, rfl, rfl⟩

theorem witness_training_engine_commands_write_1 :
    ∃ (s : State) (d : Fin 4) (c : Cmd) (w : Nat → Word), s.dev.trsHead d.val [3] = some c ∧ s.dev.trsStops d.val c
      = none ∧ s.dev.busyUnits = [] ∧ s.dev.core.flaws = [] ∧ s.dev.core.watch = none ∧ w = wordAt (s.dev.descWords
      (sramDA (c.word 4)) 16) :=
  by
  exact ⟨mk (qd 712 [0x10000000, 0, 0, 0x30000000]), 0, cm [0x10000000, 0, 0, 0x30000000], _, by decide +kernel, by decide +kernel, by decide +kernel, by decide +kernel, by decide +kernel, rfl⟩

theorem witness_training_engine_commands_write_2 :
    ∃ (s : State) (d : Fin 4) (c : Cmd) (v : Nat) (p : Bool), s.dev.trsHead d.val [4] = some c ∧ s.dev.trsStops
      d.val c = none ∧ s.dev.busyUnits = [] ∧ s.dev.core.flaws = [] ∧ s.dev.core.watch = none ∧ v = ((s.dev.rangeList
      (sramDA (c.word 4)) (cCount c)).take (cCount c)).foldl (fun r e => crc64Run r (values (s.dev.readBytes e.da
      e.len))) 0 ∧ p = (((s.dev.rangeList (sramDA (c.word 4)) (cCount c)).take (cCount c)).any (fun e => anyPoison
      (s.dev.readBytes e.da e.len)) || anyPoison (s.dev.readBytes (sramDA (c.word 4)) (16 * cCount c))) :=
  by
  exact ⟨mk (qd 712 [0x10000000, 0, 0, 0x40000000]), 0, cm [0x10000000, 0, 0, 0x40000000], _, _, by decide +kernel, by decide +kernel, by decide +kernel, by decide +kernel, by decide +kernel, rfl, rfl⟩

theorem witness_training_engine_commands_write_3 :
    ∃ (s : State) (d : Fin 4) (c : Cmd) (w : Nat → Word) (first body : List PByte) (p : Bool), s.dev.trsHead d.val
      [5] = some c ∧ s.dev.trsStops d.val c = none ∧ s.dev.busyUnits = [] ∧ s.dev.core.flaws = [] ∧ s.dev.core.watch =
      none ∧ w = wordAt (s.dev.descWords (sramDA (c.word 4)) 16) ∧ fld (w 5) 31 24 ≠ 3 ∧ first = (if fld (w 5) 31 24 =
      2 then s.dev.readBytes (sramDA (w 8)) 64 else []) ∧ 32 + first.length ≤ (w 7).toNat ∧ packFit (w 7).toNat (32 +
      first.length) 0 (packChunks s.dev w) = (body, none) ∧ p = (anyPoison first || (packChunks s.dev w).any (·.2)) :=
  by
  refine ⟨mk (at0 (qd 712 [0x10000000, 0, 0, 0x50000000]) [0, 0, 0, 0, 0, 0x01000000, 0, 32]), 0, cm [0x10000000, 0, 0, 0x50000000], _, [], [], false, ?_, ?_, ?_, ?_, ?_, rfl, ?_, ?_, ?_, ?_, ?_⟩ <;>
    decide +kernel

theorem witness_training_engine_commands_write_4 :
    ∃ (s : State) (d : Fin 4) (c : Cmd) (w : Nat → Word), s.dev.trsHead d.val [5] = some c ∧ s.dev.trsStops d.val c
      = none ∧ s.dev.busyUnits = [] ∧ s.dev.core.flaws = [] ∧ s.dev.core.watch = none ∧ w = wordAt (s.dev.descWords
      (sramDA (c.word 4)) 16) ∧ fld (w 5) 31 24 = 3 ∧ 32 + (stepBody s.dev d.val).length ≤ (w 7).toNat :=
  by
  refine ⟨mk (at0 (qd 712 [0x10000000, 0, 0, 0x50000000]) [0, 0, 0, 0, 0, 0x03000000, 0, 0x10000]), 0, cm [0x10000000, 0, 0, 0x50000000], _, ?_, ?_, ?_, ?_, ?_, rfl, ?_, ?_⟩ <;>
    decide +kernel

theorem witness_training_engine_commands_write_5 :
    ∃ (e : Device) (die i cause : Nat) (c : Cmd) (flt : UnitFault) (p : Bool), (flt = .feedError i ∧ cause = 3 ∨ flt
      = .unitCheck i ∧ cause = 4) :=
  by
  exact ⟨{}, 0, 0, 3, {}, .feedError 0, false, Or.inl ⟨rfl, rfl⟩⟩

theorem witness_training_engine_commands_write_6 :
    ∃ (s : State) (d : Fin 4) (c : Cmd) (x : Nat × Nat) (top : Nat) (i : Instr), (top, i) ∈ [(1, Instr.quant d
      .none), (2, .stepgate d .none), (3, .rdrv d .none), (4, .digest d .none), (5, .pack d .none)] ∧ s.dev.trsHead
      d.val [top] = some c ∧ s.dev.trsStops d.val c = some x ∧ s.dev.busyUnits = [] :=
  by
  refine ⟨mk (qd 712 [0x10000000, 0, 0, 0x40000000, 0xF0000000]), 0, cm [0x10000000, 0, 0, 0x40000000, 0xF0000000], (712, 0x0503), 4, .digest 0 .none, by simp, ?_, ?_, ?_⟩ <;>
    decide +kernel

theorem witness_stepgate_decides_0 :
    ∃ (s : State) (d : Fin 4) (c : Cmd) (recs : List (List Word)) (g : Gate), s.dev.trsHead d.val [2] = some c ∧
      s.dev.trsStops d.val c = none ∧ s.dev.busyUnits = [] ∧ s.dev.core.flaws = [] ∧ s.dev.core.watch = none ∧ recs =
      (List.range (cCount c)).map (fun i => s.dev.descWords (sramDA (c.word 4) + 16 * i) 4) ∧ (∀ r ∈ recs, bit (wordAt
      r 0) 31 = true ∧ wordAt r 1 = s.dev.reg (dreg d.val 11 8)) ∧ g = gate recs (s.dev.reg (trsReg d.val 8))
      (s.dev.reg (trsReg d.val 0xC)) (s.dev.reg (trsReg d.val 0x10)) (fld (s.dev.reg (trsReg d.val 4)) 0 0) :=
  by
  refine ⟨mk (at0 (qd 712 [0x10000000, 0, 0, 0x20000000]) [0x80000000]), 0, cm [0x10000000, 0, 0, 0x20000000], _, _, ?_, ?_, ?_, ?_, ?_, rfl, ?_, rfl⟩ <;>
    decide +kernel

theorem witness_stepgate_decides_1 :
    ∃ (s : State) (d : Fin 4) (c : Cmd) (i : Nat), s.dev.trsHead d.val [2] = some c ∧ s.dev.trsStops d.val c = none
      ∧ s.dev.busyUnits = [] ∧ s.dev.core.flaws = [] ∧ s.dev.core.watch = none ∧ i < cCount c ∧ (∀ j, j < i → bit
      (wordAt (s.dev.descWords (sramDA (c.word 4) + 16 * j) 4) 0) 31 = true ∧ wordAt (s.dev.descWords (sramDA (c.word
      4) + 16 * j) 4) 1 = s.dev.reg (dreg d.val 11 8)) ∧ (bit (wordAt (s.dev.descWords (sramDA (c.word 4) + 16 * i) 4)
      0) 31 = false ∨ wordAt (s.dev.descWords (sramDA (c.word 4) + 16 * i) 4) 1 ≠ s.dev.reg (dreg d.val 11 8)) :=
  ⟨mk (qd 712 [0x10000000, 0, 0, 0x20000000]), 0, cm [0x10000000, 0, 0, 0x20000000], 0, by decide +kernel⟩

theorem witness_stepgate_decides_0_0 :
    ∃ (s : State) (d : Fin 4) (c : Cmd) (recs : List (List Word)) (g : Gate), s.dev.trsHead d.val [2] = some c ∧
      s.dev.trsStops d.val c = none ∧ s.dev.busyUnits = [] ∧ s.dev.core.flaws = [] ∧ s.dev.core.watch = none ∧ recs =
      (List.range (cCount c)).map (fun i => s.dev.descWords (sramDA (c.word 4) + 16 * i) 4) ∧ (∀ r ∈ recs, bit (wordAt
      r 0) 31 = true ∧ wordAt r 1 = s.dev.reg (dreg d.val 11 8)) ∧ g = gate recs (s.dev.reg (trsReg d.val 8))
      (s.dev.reg (trsReg d.val 0xC)) (s.dev.reg (trsReg d.val 0x10)) (fld (s.dev.reg (trsReg d.val 4)) 0 0) ∧
      (g.outcome = 2 ∨ g.outcome = 3) :=
  by
  refine ⟨mk (at0 (qd 712 [0x10000000, 0, 0, 0x20000000]) [0x90000000]), 0, cm [0x10000000, 0, 0, 0x20000000], _, _, ?_, ?_, ?_, ?_, ?_, rfl, ?_, rfl, ?_⟩ <;>
    decide +kernel

theorem witness_stepgate_decides_2_1 :
    ∃ (recs : List (List Word)) (pol lim st : Word) (epar : Nat), (∀ r ∈ recs, bit (wordAt r 0) 29 = false) ∧ 2 ≤
      gateVote recs :=
  ⟨[[0x90000000]], 0, 0, 0, 0, by decide +kernel⟩

theorem witness_stepgate_decides_2_2 :
    ∃ (recs : List (List Word)) (pol lim st : Word) (epar : Nat), (∀ r ∈ recs, bit (wordAt r 0) 29 = false ∧ bit
      (wordAt r 0) 30 = false ∧ fld (wordAt r 0) 28 27 < 2) :=
  ⟨[[0x88000000]], 0, 0, 0, 0, by decide +kernel⟩

theorem witness_stepgate_decides_2_3 :
    ∃ (recs : List (List Word)) (pol lim st : Word) (epar : Nat), (∀ r ∈ recs, bit (wordAt r 0) 29 = false ∧ fld
      (wordAt r 0) 28 27 < 2) ∧ (∃ r ∈ recs, bit (wordAt r 0) 30 = true) :=
  ⟨[[0xC0000000], [0x80000000]], 0, 0, 0, 0, by decide +kernel⟩

theorem witness_stepgate_decides_2_0 :
    ∃ (recs : List (List Word)) (pol lim st : Word) (epar : Nat), (∃ r ∈ recs, bit (wordAt r 0) 29 = true) :=
  ⟨[[0xA0000000]], 0, 0, 0, 0, by decide +kernel⟩

theorem witness_master_update_runs_0 :
    ∃ (s : State) (c : Cmd), s.dev.ready qMupd = some c ∧ s.dev.train.mupd = none ∧ s.dev.runs wMupd = true ∧
      mupdBad s.dev c = none ∧ (∀ m ∈ mupdChans c, 0 < linesOn m (pairDA (wordAt (s.dev.descWords (sramDA (c.word 4))
      16)) 0) (mLines (wordAt (s.dev.descWords (sramDA (c.word 4)) 16)))) :=
  ⟨mk (at0 (({} : Device).setQueue 733 [{ hdr := [0x300FEFFE], w := [0x20000000, 0, 0, 0x10000000] }]) [0, 0x80000, 0, 0, 0, 16, 1]), { hdr := [0x300FEFFE], w := [0x20000000, 0, 0, 0x10000000] }, by decide +kernel⟩

theorem witness_master_update_runs_1 :
    ∃ (s : State) (m : Fin 8) (line : Nat) (r : MupdRun) (x : MupdMem), s.dev.train.mupd = some r ∧ r.mems.find?
      (fun p => p.1 == m.val) = some (m.val, x) ∧ line < mLines (wordAt r.D) ∧ t1Stack (pairDA (wordAt r.D) 0 + 64 *
      line) = m.val ∧ r.lines.contains line = false ∧ s.dev.runs wMupd = true ∧ 1 < x.left ∧ s.dev.busyUnits = [] ∧
      s.dev.core.flaws = [] ∧ s.dev.core.watch = none ∧ regionOf (deltaDA (wordAt r.D) line) ≠ 0xE ∧ (mget {} r.asks
      line : MupdAsk).need = [] :=
  ⟨mk { train.mupd := some mupdR }, 0, 1, mupdR, { left := 2 }, by decide +kernel⟩

theorem witness_master_update_runs_2 :
    ∃ (s : State) (m : Fin 8) (line : Nat) (r : MupdRun) (x : MupdMem), s.dev.train.mupd = some r ∧ r.mems.find?
      (fun p => p.1 == m.val) = some (m.val, x) ∧ line < mLines (wordAt r.D) ∧ t1Stack (pairDA (wordAt r.D) 0 + 64 *
      line) = m.val ∧ r.lines.contains line = false ∧ s.dev.runs wMupd = true ∧ s.dev.busyUnits = [] ∧ regionOf
      (deltaDA (wordAt r.D) line) = 0xE ∧ (mget {} r.asks line : MupdAsk) = {} :=
  ⟨mk { train.mupd := some { mupdR with D := [0, 0x80000, 0, 0x000E0000, 0, 16, 2] } }, 0, 1, { mupdR with D := [0, 0x80000, 0, 0x000E0000, 0, 16, 2] }, { left := 2 }, by decide +kernel⟩

theorem witness_master_update_runs_3 :
    ∃ (s : State) (m : Fin 8) (line st : Nat) (r : MupdRun) (x : MupdMem), s.dev.train.mupd = some r ∧ r.mems.find?
      (fun p => p.1 == m.val) = some (m.val, x) ∧ line < mLines (wordAt r.D) ∧ t1Stack (pairDA (wordAt r.D) 0 + 64 *
      line) = m.val ∧ r.lines.contains line = false ∧ s.dev.runs wMupd = true ∧ x.left = 1 ∧ s.dev.busyUnits = [] ∧
      s.dev.core.flaws = [] ∧ s.dev.core.watch = none ∧ regionOf (deltaDA (wordAt r.D) line) ≠ 0xE ∧ (mget {} r.asks
      line : MupdAsk).need = [] ∧ (st = (if x.pois = true ∨ anyPoison (mupdLine s.dev r line).1 = true then stPoisoned
      else stDone)) :=
  by
  exact ⟨mk { train.mupd := some { mupdR with mems := [(0, { left := 1 })] } }, 0, 1, _, { mupdR with mems := [(0, { left := 1 })] }, { left := 1 },
    by decide +kernel, by decide +kernel, by decide +kernel, by decide +kernel, by decide +kernel, by decide +kernel, by decide +kernel,
    by decide +kernel, by decide +kernel, by decide +kernel, by decide +kernel, by decide +kernel, rfl⟩

theorem witness_ingest_jobs_run_0 :
    ∃ (s : State) (c : Cmd), s.dev.ready qIng = some c ∧ s.dev.ing.job = none ∧ s.dev.runs wIng = true ∧ ingBad
      s.dev c = none ∧ s.dev.busyUnits = [] :=
  ⟨mk ((at0 (qd 734 [0xD0000000]) ingD).setReg (ingReg 0x10) 1), cm [0xD0000000], by decide +kernel⟩

theorem witness_ingest_jobs_run_1 :
    ∃ (s : State) (c : Cmd) (ev : Nat), s.dev.ready qIng = some c ∧ s.dev.ing.job = none ∧ s.dev.runs wIng = true ∧
      ingBad s.dev c = some ev ∧ s.dev.busyUnits = [] :=
  ⟨mk ((at0 (qd 734 [0xD0000000]) ingD).setReg (ingReg 0x10) 0), cm [0xD0000000], 0x0411, by decide +kernel⟩

theorem witness_ingest_jobs_run_2 :
    ∃ (s : State) (dec : Fin 48) (flt : SampleFault) (j : IngJob), s.dev.runs wIng = true ∧ s.dev.decoderRuns
      dec.val = true ∧ s.dev.busyUnits = [] ∧ s.dev.ing.job = some j ∧ (∀ x ∈ j.samps, x.dec = dec.val → x.stage =
      .ended) ∧ (∀ r ∈ j.redo, r.failed = some dec.val) ∧ j.next < (j.d 10).toNat ∧ (ingSlots j.d ≤ j.next →
      s.dev.slotMet j = true) :=
  ⟨mk { ing.job := some { D := ingD, redo := [{ failed := some 47 }] } }, 47, .none, { D := ingD, redo := [{ failed := some 47 }] }, by decide +kernel⟩

theorem witness_ingest_jobs_run_3 :
    ∃ (s : State) (dec : Fin 48) (flt : SampleFault) (j : IngJob) (r : Redo), s.dev.runs wIng = true ∧
      s.dev.decoderRuns dec.val = true ∧ s.dev.busyUnits = [] ∧ s.dev.ing.job = some j ∧ (∀ x ∈ j.samps, x.dec =
      dec.val → x.stage = .ended) ∧ j.redo.find? (fun r => r.failed != some dec.val) = some r :=
  ⟨mk { ing.job := some { D := ingD, redo := [{ t := 5 }] } }, 47, .none, { D := ingD, redo := [{ t := 5 }] }, { t := 5 }, by decide +kernel⟩

theorem witness_ingest_jobs_run_4 :
    ∃ (j : IngJob) (size n o : Nat) (p : _) (i : _) (k : _), j.findPlace size n = some o ∧ p ∈ j.places ∧ i < n ∧ k
      < p.2 :=
  ⟨{ samps := [{ t := 1, stage := .decode, ent := List.replicate 16 (1, false) }] }, 2 ^ 27, 32, 16843040, (0, 16843040), 31, 16843039, by decide +kernel⟩

theorem witness_ingest_jobs_run_5 :
    ∃ (s : State) (j : IngJob) (x : Sample), s.dev.runs wIng = true ∧ s.dev.ing.job = some j ∧ j.samps.find? (fun x
      => x.t == j.done && x.stage == .decode) = none ∧ j.samps.find? (fun x => x.t == j.done && x.stage == .ended) =
      some x ∧ x.cause = 0 ∧ x.lost = false ∧ s.dev.busyUnits = [] :=
  ⟨mk { ing.job := some { D := ingD, samps := [{ stage := .ended }] } }, { D := ingD, samps := [{ stage := .ended }] }, { stage := .ended }, by decide +kernel⟩

theorem witness_ingest_jobs_run_6 :
    ∃ (s : State) (j : IngJob) (x : Sample), s.dev.runs wIng = true ∧ s.dev.ing.job = some j ∧ j.samps.find? (fun x
      => x.t == j.done && x.stage == .decode) = none ∧ j.samps.find? (fun x => x.t == j.done && x.stage == .ended) =
      some x ∧ x.cause ≠ 0 ∧ bit (j.d 18) 19 = true ∧ s.dev.busyUnits = [] :=
  ⟨mk { ing.job := some { D := List.replicate 19 0x80000, samps := [{ stage := .ended, cause := 1 }] } }, { D := List.replicate 19 0x80000, samps := [{ stage := .ended, cause := 1 }] }, { stage := .ended, cause := 1 }, by decide +kernel⟩

theorem witness_ingest_jobs_run_7 :
    ∃ (s : State) (j : IngJob) (x : Sample), s.dev.runs wIng = true ∧ s.dev.ing.job = some j ∧ j.samps.find? (fun x
      => x.t == j.done && x.stage == .decode) = none ∧ j.samps.find? (fun x => x.t == j.done && x.stage == .ended) =
      some x ∧ x.cause ≠ 0 ∧ bit (j.d 18) 19 = false ∧ s.dev.busyUnits = [] :=
  ⟨mk { ing.job := some { D := ingD, samps := [{ stage := .ended, cause := 1 }] } }, { D := ingD, samps := [{ stage := .ended, cause := 1 }] }, { stage := .ended, cause := 1 }, by decide +kernel⟩

theorem witness_ingest_jobs_run_5_0 :
    ∃ (s : State) (j : IngJob) (x : Sample), s.dev.runs wIng = true ∧ s.dev.ing.job = some j ∧ j.samps.find? (fun x
      => x.t == j.done && x.stage == .decode) = none ∧ j.samps.find? (fun x => x.t == j.done && x.stage == .ended) =
      some x ∧ x.cause = 0 ∧ x.lost = false ∧ s.dev.busyUnits = [] ∧ j.done + 1 < (j.d 10).toNat ∧ s.dev.dieInReset
      (fld (j.d 15) 31 30) = false :=
  ⟨mk { ing.job := some { D := (ingD.take 10) ++ [2], samps := [{ stage := .ended }] } }, { D := (ingD.take 10) ++ [2], samps := [{ stage := .ended }] }, { stage := .ended }, by decide +kernel⟩

theorem witness_ingest_jobs_run_5_1 :
    ∃ (s : State) (j : IngJob) (x : Sample), s.dev.runs wIng = true ∧ s.dev.ing.job = some j ∧ j.samps.find? (fun x
      => x.t == j.done && x.stage == .decode) = none ∧ j.samps.find? (fun x => x.t == j.done && x.stage == .ended) =
      some x ∧ x.cause = 0 ∧ x.lost = false ∧ s.dev.busyUnits = [] ∧ (j.d 10).toNat ≤ j.done + 1 :=
  ⟨mk { ing.job := some { D := ingD, samps := [{ stage := .ended }] } }, { D := ingD, samps := [{ stage := .ended }] }, { stage := .ended }, by decide +kernel⟩

theorem witness_ingest_jobs_run_8 :
    ∃ (e : Device) (j : IngJob) (x : Sample) (g : IngGeo) (rows scales : List Byte) (a : Nat), x.cause ≠ 0 ∧ x.cause
      ≤ 3 ∧ bit (j.d 18) 19 = false ∧ g = ingGeo j.d ∧ a = slotDA j x.t ∧ rows = List.replicate (g.fmt.bytes (g.rows *
      g.k)) 0 ∧ scales = (if g.fmt.scaled then List.replicate (g.rows * (g.k / 32)) 0x7F else []) :=
  by
  exact ⟨{}, {}, { cause := 1 }, _, _, _, _, by decide, by decide, by decide +kernel, rfl, rfl, rfl, rfl⟩

theorem witness_ingest_jobs_run_9 :
    ∃ (s : State) (dec : Fin 48) (j : IngJob) (x : Sample), s.dev.ing.job = some j ∧ j.samps.find? (fun x => x.dec
      == dec.val && x.stage == .decode) = some x ∧ j.d 21 ≠ 0 ∧ s.dev.decoderRuns dec.val = true ∧ s.dev.expired
      (.decode dec.val x.t) (1000 * (j.d 21).toNat) = true ∧ s.dev.busyUnits = [] :=
  ⟨mk { core.armed := [(.decode 47 0, 0)], core.ltc := [(3, 1000000000)], ing.job := some { D := List.replicate 22 1, samps := [{ stage := .decode, dec := 47 }] } }, 47, { D := List.replicate 22 1, samps := [{ stage := .decode, dec := 47 }] }, { stage := .decode, dec := 47 }, by decide +kernel⟩

theorem witness_ingest_jobs_run_10 :
    ∃ (s : State) (j : IngJob), s.dev.ing.job = some j ∧ s.dev.runs wIng = true :=
  ⟨mk { ing.job := some { D := ingD } }, { D := ingD }, by decide +kernel⟩

theorem witness_ingest_jobs_run_11 :
    ∃ (e : Device) (j : IngJob) (x : Sample), x.cause ≠ 0 ∧ bit (j.d 18) 19 = true :=
  ⟨{}, { D := List.replicate 19 0x80000 }, { cause := 1 }, by decide +kernel⟩

theorem witness_ingest_jobs_run_12 :
    ∃ (e : Device) (j : IngJob) (x : Sample), x.flt = .decoder ∧ x.failed = none :=
  ⟨{}, {}, { flt := .decoder }, by decide +kernel⟩

theorem witness_ingest_jobs_run_13 :
    ∃ (e : Device) (j : IngJob) (x : Sample) (n : Nat), x.flt = .decoder ∧ x.failed = some n :=
  ⟨{}, {}, { flt := .decoder, failed := some 3 }, 3, by decide +kernel⟩

theorem witness_ingest_jobs_run_14 :
    ∃ (e : Device) (j : IngJob) (x : Sample) (i : Config.Decoded), x.flt ≠ .decoder ∧ i = Config.decodeInfo x.codec
      (values x.bytes) (lastFrame j) :=
  by
  exact ⟨{}, {}, {}, _, by decide, rfl⟩

theorem witness_ingest_jobs_run_7_0 :
    ∃ (s : State) (j : IngJob) (x : Sample), s.dev.runs wIng = true ∧ s.dev.ing.job = some j ∧ j.samps.find? (fun x
      => x.t == j.done && x.stage == .decode) = none ∧ j.samps.find? (fun x => x.t == j.done && x.stage == .ended) =
      some x ∧ x.cause ≠ 0 ∧ bit (j.d 18) 19 = false ∧ s.dev.busyUnits = [] ∧ x.lost = true :=
  ⟨mk { ing.job := some { D := ingD, samps := [{ stage := .ended, cause := 1, lost := true }] } }, { D := ingD, samps := [{ stage := .ended, cause := 1, lost := true }] }, { stage := .ended, cause := 1, lost := true }, by decide +kernel⟩

theorem witness_ingest_jobs_run_7_1 :
    ∃ (s : State) (j : IngJob) (x : Sample), s.dev.runs wIng = true ∧ s.dev.ing.job = some j ∧ j.samps.find? (fun x
      => x.t == j.done && x.stage == .decode) = none ∧ j.samps.find? (fun x => x.t == j.done && x.stage == .ended) =
      some x ∧ x.cause ≠ 0 ∧ bit (j.d 18) 19 = false ∧ s.dev.busyUnits = [] ∧ x.lost = false :=
  ⟨mk { ing.job := some { D := ingD, samps := [{ stage := .ended, cause := 1 }] } }, { D := ingD, samps := [{ stage := .ended, cause := 1 }] }, { stage := .ended, cause := 1 }, by decide +kernel⟩

theorem witness_perm_test_runs_0 :
    ∃ (s : State) (n j : Nat) (v : Word), s.dev.ing.test = none ∧ n = dPair (fun k => s.dev.reg (ingReg (0x80 + 4 *
      k))) 3 15 + 1 ∧ j = dPair (fun k => s.dev.reg (ingReg (0x80 + 4 * k))) 5 15 :=
  by
  exact ⟨mk {}, _, _, 0, by decide +kernel, rfl, rfl⟩

theorem witness_data_flits_are_sequenced_and_replayed_0 :
    ∃ (s : State) (p : Fin 16) (f : Flit), (s.dev.port p.val).up = true ∧ f.p.toNat.testBit 19 = true ∧ flitGood f =
      true :=
  by
  exact ⟨mk (pd { state := 2 }), 0, flitOf 0x80000, by decide +kernel, by decide +kernel, flit_of_good _ _ (by decide)⟩

theorem witness_data_flits_are_sequenced_and_replayed_1 :
    ∃ (s : State) (p : Fin 16) (f : Flit), (s.dev.port p.val).up = true ∧ f.p.toNat.testBit 19 = true ∧ flitGood f =
      false :=
  ⟨mk (pd { state := 2 }), 0, { flitOf 0x80000 with wrong := 16 }, by decide +kernel⟩

theorem witness_data_flits_are_sequenced_and_replayed_2 :
    ∃ (s : State) (p : Fin 16) (f : Flit), f.p.toNat.testBit 19 = false ∧ flitGood f = true :=
  by
  exact ⟨mk (pd { state := 2 }), 0, flitOf 0, by decide +kernel, flit_of_good _ _ (by decide)⟩

theorem witness_data_flits_are_sequenced_and_replayed_3 :
    ∃ (s : State) (p : Fin 16), (s.dev.port p.val).up = true ∧ (∃ c ∈ (s.dev.port p.val).ret, c ≠ 0) ∧ (s.dev.port
      p.val).replay.length < 2048 ∧ (s.dev.port p.val).sent = (s.dev.port p.val).replay.length ∧ (s.dev.port
      p.val).ret.length = 7 ∧ (∀ c ∈ (s.dev.port p.val).ret, c < 4096) :=
  ⟨mk (pd { state := 2, ret := [4095, 0, 0, 0, 0, 0, 0] }), 0, by decide +kernel⟩

theorem witness_data_flits_are_sequenced_and_replayed_4 :
    ∃ (s : State) (p : Fin 16) (f : Flit × Nat) (l : List (Flit × Nat)), (s.dev.port p.val).up = true ∧ (s.dev.port
      p.val).replay = f :: l ∧ ((s.dev.port p.val).nakDue = true ∨ (s.dev.port p.val).sent ≠ 0 ∧ f.2 + 4000 ≤
      s.dev.time (p.val / 4)) :=
  by
  exact ⟨mk (pd { state := 2, nakDue := true, replay := [(flitOf 0x80000, 0)] }), 0, _, _, by decide +kernel, rfl, Or.inl rfl⟩

theorem witness_ports_change_state_4 :
    ∃ (s : State) (p : Fin 16) (resume : Bool) (n : Nat), (s.dev.port p.val).told = some (true, resume, n) ∧
      (s.dev.port p.val).lock = 0xFF ∧ (s.dev.port p.val).heard = 0xFF ∧ s.dev.expired (.ready p.val (s.dev.port
      p.val).attempt) 1000 = true :=
  ⟨mk { (pd { state := 4, told := some (true, false, 0), lock := 0xFF, heard := 0xFF }) with core.armed := [(.training 0 0, 0), (.ready 0 0, 0)], core.ltc := [(0, 250000000000)] }, 0, false, 0, by decide +kernel⟩

theorem witness_ports_change_state_5 :
    ∃ (s : State) (p : Fin 16) (resume : Bool) (n : Nat), ((s.dev.port p.val).lock ≠ 0xFF ∨ (s.dev.port p.val).heard
      ≠ 0xFF ∨ (s.dev.port p.val).told ≠ some (true, resume, n)) :=
  by
  exact ⟨mk (pd { state := 4, lock := 0x7F, heard := 0xFF, told := some (true, true, 0) }), 0, true, 0, Or.inl (by decide +kernel)⟩

theorem witness_ports_change_state_6 :
    ∃ (s : State) (p : Fin 16), ((s.dev.port p.val).state = 1 ∨ (s.dev.port p.val).state = 4 ∧ (s.dev.port
      p.val).tries < 3) ∧ s.dev.expired (.training p.val (s.dev.port p.val).attempt) 250000 = true :=
  ⟨mk { (pd { state := 4, tries := 2 }) with core.armed := [(.training 0 0, 0), (.ready 0 0, 0)], core.ltc := [(0, 250000000000)] }, 0, by decide +kernel⟩

theorem witness_ports_change_state_7 :
    ∃ (s : State) (p : Fin 16), (s.dev.port p.val).state = 4 ∧ 3 ≤ (s.dev.port p.val).tries ∧ s.dev.expired
      (.training p.val (s.dev.port p.val).attempt) 250000 = true :=
  ⟨mk { (pd { state := 4, tries := 3 }) with core.armed := [(.training 0 0, 0), (.ready 0 0, 0)], core.ltc := [(0, 250000000000)] }, 0, by decide +kernel⟩

theorem witness_ports_change_state_8 :
    ∃ (i : Fin 16 → Instr) (cause : Nat) (s : State) (p : Fin 16), ((i = .retrain ∧ cause = 3) ∨ (∃ lane, i = (fun p
      => .lossOfSignal p lane) ∧ cause = 2)) ∧ (s.dev.port p.val).up = true :=
  by
  exact ⟨.retrain, 3, mk (pd { state := 3 }), 0, Or.inl ⟨rfl, rfl⟩, by decide +kernel⟩

theorem witness_ports_change_state_1_0 :
    ∃ (s : State) (p : Fin 16), s.dev.pwr.state ≠ .failed ∧ (s.dev.port p.val).state = 0 :=
  ⟨mk {}, 15, by decide +kernel⟩

theorem witness_ports_change_state_4_0 :
    ∃ (s : State) (p : Fin 16) (resume : Bool) (n : Nat), (s.dev.port p.val).told = some (true, resume, n) ∧
      (s.dev.port p.val).lock = 0xFF ∧ (s.dev.port p.val).heard = 0xFF ∧ s.dev.expired (.ready p.val (s.dev.port
      p.val).attempt) 1000 = true ∧ ((s.dev.port p.val).state = 1 ∨ (s.dev.port p.val).state = 4 ∧ resume = false) :=
  ⟨mk { (pd { state := 4, told := some (true, false, 0), lock := 0xFF, heard := 0xFF }) with core.armed := [(.training 0 0, 0), (.ready 0 0, 0)], core.ltc := [(0, 250000000000)] }, 0, false, 0, by decide +kernel⟩

theorem witness_ports_change_state_4_1 :
    ∃ (s : State) (p : Fin 16) (resume : Bool) (n : Nat), (s.dev.port p.val).told = some (true, resume, n) ∧
      (s.dev.port p.val).lock = 0xFF ∧ (s.dev.port p.val).heard = 0xFF ∧ s.dev.expired (.ready p.val (s.dev.port
      p.val).attempt) 1000 = true ∧ (s.dev.port p.val).state = 4 ∧ resume = true :=
  ⟨mk { (pd { state := 4, told := some (true, true, 0), lock := 0xFF, heard := 0xFF }) with core.armed := [(.training 0 0, 0), (.ready 0 0, 0)], core.ltc := [(0, 250000000000)] }, 0, true, 0, by decide +kernel⟩

theorem witness_ports_change_state_6_0 :
    ∃ (s : State) (p : Fin 16), ((s.dev.port p.val).state = 1 ∨ (s.dev.port p.val).state = 4 ∧ (s.dev.port
      p.val).tries < 3) ∧ s.dev.expired (.training p.val (s.dev.port p.val).attempt) 250000 = true ∧ (s.dev.port
      p.val).state = 4 :=
  ⟨mk { (pd { state := 4, tries := 2 }) with core.armed := [(.training 0 0, 0), (.ready 0 0, 0)], core.ltc := [(0, 250000000000)] }, 0, by decide +kernel⟩

theorem witness_ports_change_state_1_1 :
    ∃ (s : State) (p : Fin 16), s.dev.pwr.state ≠ .failed ∧ (s.dev.port p.val).state ≠ 0 :=
  ⟨mk (pd { state := 1 }), 0, by decide +kernel⟩

theorem witness_ports_change_state_9 :
    ∃ (s : State) (p : Fin 16) (lane : Fin 8), (s.dev.port p.val).up = false :=
  ⟨mk (pd { state := 4 }), 0, 7, by decide +kernel⟩

theorem witness_ports_change_state_0 :
    ∃ (s : State) (p : Fin 16), s.dev.pwr.state = .failed :=
  ⟨mk { pwr.state := .failed }, 15, by decide +kernel⟩

theorem witness_ports_change_state_1 :
    ∃ (s : State) (p : Fin 16), s.dev.pwr.state ≠ .failed :=
  ⟨mk {}, 15, by decide +kernel⟩

theorem witness_neighbours_exchange_their_state_0 :
    ∃ (s : State) (p : Fin 16), (∀ die, die < 4 → ∀ r, (s.dev.colOf die).run = some r → r.wait = []) ∧ (s.dev.port
      p.val).up = true ∧ (s.dev.port p.val).replay[(s.dev.port p.val).sent]? = none ∧ (s.dev.port p.val).ready = false :=
  by
  exact ⟨mk (pd { state := 2 }), 0, (fun _ _ r h => nomatch (show (none : Option ColRun) = some r from h)), by decide +kernel, by decide +kernel, by decide +kernel⟩

theorem witness_neighbours_exchange_their_state_1 :
    ∃ (s : State) (p : Fin 16), (∀ die, die < 4 → ∀ r, (s.dev.colOf die).run = some r → r.wait = []) ∧ ((s.dev.port
      p.val).state = 1 ∨ (s.dev.port p.val).state = 4) :=
  by
  exact ⟨mk (pd { state := 1 }), 0, (fun _ _ r h => nomatch (show (none : Option ColRun) = some r from h)), by decide +kernel⟩

theorem witness_neighbours_exchange_their_state_2 :
    ∃ (s : State) (p : Fin 16), (s.dev.port p.val).up = true :=
  ⟨mk (pd { state := 2 }), 0, by decide +kernel⟩

theorem witness_neighbours_exchange_their_state_3 :
    ∃ (s : State) (p : Fin 16), (s.dev.port p.val).up = false :=
  ⟨mk (pd { state := 1 }), 0, by decide +kernel⟩

theorem witness_neighbours_exchange_their_state_4 :
    ∃ (s : State) (p : Fin 16) (k : Packet) (e : Device), s.dev.takeRx p.val (fun k => k.pt == 7) = some (k, e) ∧
      (s.dev.port p.val).up = true :=
  by
  exact ⟨mk (rxD [0x7C000000, 5]), 0, _, _, rfl, by decide +kernel⟩

theorem witness_neighbours_exchange_their_state_5 :
    ∃ (s : State) (p : Fin 16) (k : Packet) (e : Device), s.dev.takeMine p.val 6 = some (k, e) :=
  by
  exact ⟨mk (rxD [0x6C000000, 5]), 0, _, _, rfl⟩

theorem witness_requests_are_served_0 :
    ∃ (i : Fin 16 → Instr) (pt : Nat) (s : State) (p : Fin 16) (k : Packet) (e : Device), ((i = .wr ∧ pt = 1) ∨ (i =
      .rd ∧ pt = 3) ∨ (i = .drd ∧ pt = 9)) ∧ s.dev.takeMine p.val pt = some (k, e) ∧ k.src ≠ s.dev.selfMod ∧
      s.dev.busyUnits = [] :=
  by
  exact ⟨.wr, 1, mk (rxD [0x10000000, 5, 1] [0x5A]), 0, _, _, Or.inl ⟨rfl, rfl⟩, rfl, by decide +kernel⟩

theorem witness_requests_and_replies_match_by_tag_0 :
    ∃ (s : State) (die tag : Nat) (r : PeerReq) (l : List (Nat × PeerReq)), s.dev.inj = (die, r) :: l ∧
      s.dev.freeTag (s.dev.fab.tags.length + s.dev.fab.quar.length + 1) 0 = some tag ∧ r.len ≤ 512 ∧ r.off < 2 ^ 52 ∧
      r.dst < 2 ^ 15 ∧ r.kind < 3 ∧ r.off / 512 = (r.off + r.len - 1) / 512 ∧ r.dst ≠ s.dev.selfMod ∧ (s.dev.route
      r.dst).valid = true ∧ s.dev.candidates (s.dev.route r.dst).pm ≠ [] ∧ s.dev.busyUnits = [] :=
  ⟨mk { ((pd { state := 3 }).setRoute 5 { valid := true, pm := 1 }) with inj := [(0, { dst := 5, len := 512 })] }, 0, 0, { dst := 5, len := 512 }, [], by decide +kernel⟩

theorem witness_requests_and_replies_match_by_tag_1 :
    ∃ (i : Fin 16 → Instr) (pt : Nat) (s : State) (p : Fin 16) (k : Packet) (e : Device), ((i = .wack ∧ pt = 2) ∨ (i
      = .rdr ∧ pt = 4)) ∧ s.dev.takeMine p.val pt = some (k, e) ∧ (s.dev.route k.src).lgen = k.sgen ∧ s.dev.busyUnits
      = [] :=
  by
  exact ⟨.wack, 2, mk (rxD [0x24000000, 5]), 0, _, _, Or.inl ⟨rfl, rfl⟩, rfl, by decide +kernel⟩

theorem witness_requests_and_replies_match_by_tag_2 :
    ∃ (s : State) (tag : BitVec 16) (x : TagEnt), mget none s.dev.fab.tags tag.toNat = some x ∧ s.dev.expired
      (.reply tag.toNat) s.dev.e2eTmo = true ∧ s.dev.busyUnits = [] :=
  ⟨mk { fab.tags := [(65535, some {})], core.armed := [(.reply 65535, 0)], core.ltc := [(0, 10 ^ 18)] }, 65535, {}, by decide +kernel⟩

theorem witness_requests_and_replies_match_by_tag_3 :
    ∃ (s : State) (tag : BitVec 16), (mget none s.dev.fab.tags tag.toNat = none ∨ s.dev.expired (.reply tag.toNat)
      s.dev.e2eTmo = false) ∧ s.dev.busyUnits = [] :=
  ⟨mk {}, 65535, by decide +kernel⟩

theorem witness_packets_are_forwarded_0 :
    ∃ (s : State) (p : Fin 16) (k : Packet) (e : Device), s.dev.takeRx p.val (fun k => [1, 2, 3, 4, 6, 9].contains
      k.pt && k.dst != s.dev.selfMod) = some (k, e) :=
  by
  exact ⟨mk (rxD [0x10000005, 7, 1] [0x5A]), 0, _, _, rfl⟩

theorem witness_collectives_issue_0 :
    ∃ (i : CheckedDie → Instr) (op : Nat) (s : State) (d : Fin 4) (c : Cmd) (w : Nat → Word) (ax : Word), ((i =
      .reduceScatter ∧ op = 1) ∨ (i = .allGather ∧ op = 2) ∨ (i = .allReduce ∧ op = 3)) ∧ s.dev.ready (qCol d.val) =
      some c ∧ (s.dev.colOf d.val).run = none ∧ s.dev.runs (wCol d.val) = true ∧ s.dev.busyUnits = [] ∧
      s.dev.core.flaws = [] ∧ s.dev.core.watch = none ∧ s.dev.sramBad (c.word 3) 64 = false ∧ w = wordAt
      (s.dev.descWords (sramDA (c.word 3)) 16) ∧ fld (w 6) 31 28 = op ∧ ax = s.dev.reg (rteReg (0x40 + 4 * fld (w 6)
      27 25)) :=
  by
  exact ⟨.allReduce, 3, mk (((at0 (qd 716 [0x30000000]) [0, 0, 0, 0, 0, 0, 0x32910000]).setReg (rteReg 0x44) 0x80000000)), 0, cm [0x30000000], _, _,
    Or.inr (Or.inr ⟨rfl, rfl⟩), by decide +kernel, by decide +kernel, by decide +kernel, by decide +kernel,
    by decide +kernel, by decide +kernel, by decide +kernel, rfl, by decide +kernel, rfl⟩

theorem witness_collectives_issue_0_1 :
    ∃ (i : CheckedDie → Instr) (op : Nat) (s : State) (d : Fin 4) (c : Cmd) (w : Nat → Word) (ax : Word), ((i =
      .reduceScatter ∧ op = 1) ∨ (i = .allGather ∧ op = 2) ∨ (i = .allReduce ∧ op = 3)) ∧ s.dev.ready (qCol d.val) =
      some c ∧ (s.dev.colOf d.val).run = none ∧ s.dev.runs (wCol d.val) = true ∧ s.dev.busyUnits = [] ∧
      s.dev.core.flaws = [] ∧ s.dev.core.watch = none ∧ s.dev.sramBad (c.word 3) 64 = false ∧ w = wordAt
      (s.dev.descWords (sramDA (c.word 3)) 16) ∧ fld (w 6) 31 28 = op ∧ ax = s.dev.reg (rteReg (0x40 + 4 * fld (w 6)
      27 25)) ∧ s.dev.groupBad (qCol d.val) c (fun q c => colBad s.dev (q - 716) c) = none ∧ s.dev.colHeld (s.dev.reg
      (dreg d.val 11 8)).toNat (fld (s.dev.reg (colReg d.val 8)) 7 0) = false :=
  by
  exact ⟨.allReduce, 3, mk (((at0 (qd 716 [0x30000000]) [0, 0, 0, 0, 0, 0, 0x32910000]).setReg (rteReg 0x44) 0x80000000)), 0, cm [0x30000000], _, _,
    Or.inr (Or.inr ⟨rfl, rfl⟩), by decide +kernel, by decide +kernel, by decide +kernel, by decide +kernel,
    by decide +kernel, by decide +kernel, by decide +kernel, rfl, by decide +kernel, rfl, by decide +kernel⟩

theorem witness_collectives_issue_0_2 :
    ∃ (i : CheckedDie → Instr) (op : Nat) (s : State) (d : Fin 4) (c : Cmd) (w : Nat → Word) (ax : Word), ((i =
      .reduceScatter ∧ op = 1) ∨ (i = .allGather ∧ op = 2) ∨ (i = .allReduce ∧ op = 3)) ∧ s.dev.ready (qCol d.val) =
      some c ∧ (s.dev.colOf d.val).run = none ∧ s.dev.runs (wCol d.val) = true ∧ s.dev.busyUnits = [] ∧
      s.dev.core.flaws = [] ∧ s.dev.core.watch = none ∧ s.dev.sramBad (c.word 3) 64 = false ∧ w = wordAt
      (s.dev.descWords (sramDA (c.word 3)) 16) ∧ fld (w 6) 31 28 = op ∧ ax = s.dev.reg (rteReg (0x40 + 4 * fld (w 6)
      27 25)) ∧ s.dev.groupBad (qCol d.val) c (fun q c => colBad s.dev (q - 716) c) = none ∧ s.dev.colHeld (s.dev.reg
      (dreg d.val 11 8)).toNat (fld (s.dev.reg (colReg d.val 8)) 7 0) = true :=
  by
  exact ⟨.allReduce, 3, mk (((at0 (qd 716 [0x30000000]) [0, 0, 0, 0, 0, 0, 0x32910000]).setReg (rteReg 0x44) 0x80000000).setReg (colReg 0 0x10) 0x80000000), 0, cm [0x30000000], _, _,
    Or.inr (Or.inr ⟨rfl, rfl⟩), by decide +kernel, by decide +kernel, by decide +kernel, by decide +kernel,
    by decide +kernel, by decide +kernel, by decide +kernel, rfl, by decide +kernel, rfl, by decide +kernel⟩

theorem witness_collectives_advance_0 :
    ∃ (i : Fin 16 → Instr) (kind : Nat) (s : State) (p : Fin 16) (k : Packet) (e : Device), ((i = (fun p =>
      .colReduce p .ok) ∧ kind = 1) ∨ (i = (fun p => .colGather p .ok) ∧ kind = 2) ∨ (i = (fun p => .colClose ⟨p,
      .ok⟩) ∧ kind = 3)) ∧ s.dev.takeCol p.val kind = some (k, e) ∧ s.dev.colStale p.val k = true ∧ s.dev.busyUnits =
      [] :=
  by
  exact ⟨fun p => .colClose ⟨p, .ok⟩, 3, mk (rxD [0x5C000000, 5, 0x30000000, 0, 0, 0, 0, 0xFF000000]), 0, _, _, Or.inr (Or.inr ⟨rfl, rfl⟩), rfl, by decide +kernel⟩

theorem witness_collectives_advance_1 :
    ∃ (s : State) (p : Fin 16) (k : Packet) (e : Device) (die : Nat) (r r1 : ColRun) (b : List PByte) (ps : List
      Partial) (key : Nat × Nat × Nat × Nat) (j : Nat), s.dev.takeCol p.val 1 = some (k, e) ∧ s.dev.colStale p.val k =
      false ∧ s.dev.colDie k = some (die, r) ∧ r.overrun k = false ∧ r.addPart k = some (r1, b) ∧ r1.longer k b.length
      = false ∧ j = fld (k.w 7) 23 0 ∧ decodeStream (8 * r.pieceUnits j) (values b) = .ok ps ∧ key = (colRing k,
      colKind k, fld (k.w 6) 31 16, j) ∧ (∃ x ∈ r.expected, x ∉ r.got ∧ x ≠ key) ∧ s.dev.busyUnits = [] ∧
      s.dev.core.flaws = [] ∧ s.dev.core.watch = none :=
  by
  refine ⟨mk ((rxD [0x58000000, 5, 0x10000020, 0, 0, 0, 0, 1] (List.replicate 32 0)).setColRun 0 (colR 1)), 0, _, _, 0, colR 1, _, _,
    List.replicate 8 (List.replicate 32 0, false), _, _, rfl, ?_, ?_, ?_, rfl, ?_, rfl, ?_, rfl, ?_⟩
  · decide +kernel
  · decide +kernel
  · decide +kernel
  · decide +kernel
  · rfl
  · decide +kernel

theorem witness_collectives_advance_2 :
    ∃ (s : State) (p : Fin 16) (k : Packet) (e : Device) (die : Nat) (r r1 : ColRun) (b : List PByte) (key : Nat ×
      Nat × Nat × Nat) (j : Nat), s.dev.takeCol p.val 2 = some (k, e) ∧ s.dev.colStale p.val k = false ∧ s.dev.colDie
      k = some (die, r) ∧ r.overrun k = false ∧ r.addPart k = some (r1, b) ∧ r1.longer k b.length = false ∧ j = fld
      (k.w 7) 23 0 ∧ b.length = r.gatherLen j ∧ key = (colRing k, colKind k, fld (k.w 6) 31 16, j) ∧ s.dev.busyUnits =
      [] ∧ s.dev.core.flaws = [] ∧ s.dev.core.watch = none :=
  by
  refine ⟨mk ((rxD [0x58000000, 5, 0x20000108, 0, 0, 0, 0, 1] (List.replicate 264 0)).setColRun 0 (colR 0)), 0, _, _, 0, colR 0, _, _,
    _, _, rfl, ?_, ?_, ?_, rfl, ?_, rfl, ?_, rfl, ?_⟩ <;> decide +kernel

theorem witness_collectives_advance_4 :
    ∃ (e : Device) (die : Nat) (r : ColRun) (ring kind round piece : Nat) (l : List PByte), ring < 4 ∧ 0 < kind ∧
      kind < 3 ∧ r.try_ < 256 ∧ round < 65536 ∧ piece < 2 ^ 24 ∧ r.cid < 65536 ∧ l.length ≤ 1048576 :=
  ⟨{}, 0, {}, 0, 1, 0, 0, [], by decide +kernel⟩

theorem witness_partial_sums_are_exact_0 :
    ∃ (emax : Int) (sg p : Bool) (m : Nat) (f : Int), m < 2 ^ 24 :=
  ⟨0, true, false, 0xFFFFFF, -24, by decide +kernel⟩

theorem witness_partial_sums_are_exact_1 :
    ∃ (l : List Int), l.length ≤ 32768 ∧ (∀ a ∈ l, a.natAbs < 2 ^ 111) :=
  ⟨[2 ^ 111 - 1, -(2 ^ 111 - 1)], by decide +kernel⟩

theorem witness_partial_sums_are_exact_2 :
    ∃ (l l' : List (List Partial)) (z : List Partial), l.Perm l' ∧ (∀ x ∈ l, x.length = z.length ∧ ∀ p ∈ x,
      p.1.length = 32) ∧ (∀ p ∈ z, p.1.length = 32) :=
  by
  exact ⟨[[(List.replicate 32 1, false)]], [[(List.replicate 32 1, false)]], [(List.replicate 32 0, true)], List.Perm.refl _, by decide +kernel,
    by decide +kernel⟩

theorem witness_partial_sums_are_exact_3 :
    ∃ (x y z : List Partial), x.length = y.length ∧ y.length = z.length ∧ (∀ p ∈ x ++ y ++ z, p.1.length = 32) :=
  ⟨[(List.replicate 32 1, false)], [(List.replicate 32 2, false)], [(List.replicate 32 0, true)], by decide +kernel⟩

theorem witness_partial_sums_are_exact_4 :
    ∃ (ps : List Partial), (∀ p ∈ ps, p.1.length = 32 ∧ ∀ a ∈ p.1, a.natAbs < 2 ^ 127) :=
  ⟨[(List.replicate 32 (2 ^ 127 - 1), false)], by decide +kernel⟩

theorem witness_collectives_abort_0 :
    ∃ (i : Fin 4 → Instr) (cause : Nat) (s : State) (d : Fin 4) (r : ColRun), ((i = .hostAbort ∧ cause = 4) ∨ (i =
      .collectiveTimeout ∧ cause = 3)) ∧ (s.dev.colOf d.val).run = some r ∧ (cause = 3 → fld (r.w 14) 15 0 ≠ 0) ∧
      (cause = 3 → s.dev.expired (.collective d.val r.cmd.cid) (16000 * fld (r.w 14) 15 0) = true) ∧ r.try_ < 256 ∧
      s.dev.colHeld r.step.toNat r.try_ = false ∧ s.dev.busyUnits = [] :=
  by
  exact ⟨.hostAbort, 4, mk (({} : Device).setColRun 0 { try_ := 255 }), 0, { try_ := 255 }, Or.inl ⟨rfl, rfl⟩, by decide +kernel⟩

theorem witness_collectives_abort_1 :
    ∃ (s : State) (d : Fin 4) (r : ColRun), (s.dev.colOf d.val).run = some r ∧ (fld (r.w 14) 15 0 = 0 ∨
      s.dev.expired (.collective d.val r.cmd.cid) (16000 * fld (r.w 14) 15 0) = false) :=
  ⟨mk (({} : Device).setColRun 0 {}), 0, {}, by decide +kernel⟩

theorem witness_collectives_abort_2 :
    ∃ (s : State) (d : Fin 4), (s.dev.colOf d.val).run = none ∧ s.dev.busyUnits = [] :=
  ⟨mk {}, 0, by decide +kernel⟩

theorem witness_collectives_abort_3 :
    ∃ (i : Fin 16 → CoreCheck → Instr) (kind : Nat) (s : State) (p : Fin 16) (chk : CoreCheck) (k : Packet) (e :
      Device) (die : Nat) (r : ColRun) (cause : Nat), ((i = .colReduce ∧ kind = 1) ∨ (i = .colGather ∧ kind = 2)) ∧
      s.dev.takeCol p.val kind = some (k, e) ∧ s.dev.colStale p.val k = false ∧ s.dev.colDie k = some (die, r) ∧
      s.dev.busyUnits = [] ∧ ((r.overrun k = true ∧ cause = 4) ∨ (r.overrun k = false ∧ (r.addPart k).isSome = true ∧
      checkCause chk = some cause)) :=
  by
  refine ⟨.colReduce, 1, mk ((rxD [0x58000000, 5, 0x10000020, 0, 0, 0, 0, 1] (List.replicate 32 0)).setColRun 0 (colR 1)), 0, .feedError, _, _, 0, colR 1, _,
    Or.inl ⟨rfl, rfl⟩, rfl, ?_, ?_, ?_, Or.inr ⟨?_, ?_, rfl⟩⟩ <;> decide +kernel

theorem witness_collectives_abort_4 :
    ∃ (s : State) (p : Fin 16) (k : Packet) (e : Device) (a : Nat → Word) (axis : Nat), s.dev.takeCol p.val 4 = some
      (k, e) ∧ a = wordAt (bytesToWords 8 k.body) ∧ axis = fld (s.dev.reg (rteReg (if p.val < 8 then 0x30 else 0x34)))
      (4 * (p.val % 8) + 3) (4 * (p.val % 8) + 1) :=
  by
  exact ⟨mk (rxD [0x5E000000, 5, 0x40000020] (List.replicate 32 0)), 0, _, _, _, _, rfl, rfl, rfl⟩

theorem witness_collectives_abort_4_0 :
    ∃ (s : State) (p : Fin 16) (k : Packet) (e : Device) (a : Nat → Word) (axis : Nat), s.dev.takeCol p.val 4 = some
      (k, e) ∧ a = wordAt (bytesToWords 8 k.body) ∧ axis = fld (s.dev.reg (rteReg (if p.val < 8 then 0x30 else 0x34)))
      (4 * (p.val % 8) + 3) (4 * (p.val % 8) + 1) ∧ s.dev.colStale p.val k = true :=
  by
  exact ⟨mk (rxD [0x5E000000, 5, 0x40000020, 0, 0, 0, 0, 0x01000000] (List.replicate 32 0)), 0, _, _, _, _, rfl, rfl, rfl, by decide +kernel⟩

theorem witness_collectives_abort_4_1 :
    ∃ (s : State) (p : Fin 16) (k : Packet) (e : Device) (a : Nat → Word) (axis : Nat), s.dev.takeCol p.val 4 = some
      (k, e) ∧ a = wordAt (bytesToWords 8 k.body) ∧ axis = fld (s.dev.reg (rteReg (if p.val < 8 then 0x30 else 0x34)))
      (4 * (p.val % 8) + 3) (4 * (p.val % 8) + 1) ∧ s.dev.colStale p.val k = false ∧ s.dev.colHeld (a 1).toNat (fld (a
      2) 7 0) = true :=
  by
  exact ⟨mk ((rxD [0x5E000000, 5, 0x40000020] (List.replicate 32 0)).setReg (colReg 0 0x10) 0x80000000), 0, _, _, _, _, rfl, rfl, rfl, by decide +kernel, by decide +kernel⟩

theorem witness_collectives_abort_4_2 :
    ∃ (s : State) (p : Fin 16) (k : Packet) (e : Device) (a : Nat → Word) (axis : Nat), s.dev.takeCol p.val 4 = some
      (k, e) ∧ a = wordAt (bytesToWords 8 k.body) ∧ axis = fld (s.dev.reg (rteReg (if p.val < 8 then 0x30 else 0x34)))
      (4 * (p.val % 8) + 3) (4 * (p.val % 8) + 1) ∧ s.dev.colStale p.val k = false ∧ s.dev.colHeld (a 1).toNat (fld (a
      2) 7 0) = false :=
  by
  exact ⟨mk (rxD [0x5E000000, 5, 0x40000020] (List.replicate 32 0)), 0, _, _, _, _, rfl, rfl, rfl, by decide +kernel, by decide +kernel⟩

theorem witness_collectives_abort_3_0 :
    ∃ (i : Fin 16 → CoreCheck → Instr) (kind : Nat) (s : State) (p : Fin 16) (chk : CoreCheck) (k : Packet) (e :
      Device) (die : Nat) (r : ColRun) (cause : Nat), ((i = .colReduce ∧ kind = 1) ∨ (i = .colGather ∧ kind = 2)) ∧
      s.dev.takeCol p.val kind = some (k, e) ∧ s.dev.colStale p.val k = false ∧ s.dev.colDie k = some (die, r) ∧
      s.dev.busyUnits = [] ∧ ((r.overrun k = true ∧ cause = 4) ∨ (r.overrun k = false ∧ (r.addPart k).isSome = true ∧
      checkCause chk = some cause)) ∧ bit (s.dev.reg (colReg die 0x18)) 31 = false :=
  by
  refine ⟨.colReduce, 1, mk ((rxD [0x58000000, 5, 0x10000020, 0, 0, 0, 0, 1] (List.replicate 32 0)).setColRun 0 (colR 1)), 0, .feedError, _, _, 0, colR 1, _,
    Or.inl ⟨rfl, rfl⟩, rfl, ?_, ?_, ?_, Or.inr ⟨?_, ?_, rfl⟩, ?_⟩ <;> decide +kernel

theorem witness_host_link_and_function_resets_0 :
    ∃ (s : State) (speed : Fin 8) (width : Fin 64) (flit : Bool), s.dev.hif.link = 0 :=
  ⟨mk {}, 6, 16, true, by decide +kernel⟩

theorem witness_host_link_and_function_resets_1 :
    ∃ (s : State) (speed : Fin 8) (width : Fin 64) (flit : Bool), s.dev.hif.link ≠ 0 ∧ (s.dev.hif.link = 2 ∨ fld
      (s.dev.reg (hifReg 0)) 27 24 ≠ speed.val ∨ fld (s.dev.reg (hifReg 0)) 23 18 ≠ width.val) :=
  ⟨mk { hif.link := 1 }, 6, 16, true, by decide +kernel⟩

theorem witness_host_link_and_function_resets_2 :
    ∃ (s : State) (w : Bool) (r : Fin 1024) (v : Word) (bdf : BitVec 16), s.dev.hif.ever = false :=
  ⟨mk {}, true, 1, 0, 0, by decide +kernel⟩

theorem witness_host_link_and_function_resets_3 :
    ∃ (s : State) (r : Fin 1024) (v : Word) (bdf : BitVec 16), s.dev.hif.ever = true :=
  ⟨mk { hif.ever := true }, 1023, 0, 0, by decide +kernel⟩

theorem witness_host_link_and_function_resets_4 :
    ∃ (s : State) (v : Word) (bdf : BitVec 16), s.dev.hif.ever = true :=
  ⟨mk { hif.ever := true }, 0, 0, by decide +kernel⟩

theorem witness_host_link_and_function_resets_5 :
    ∃ (i : Instr) (s : State), (i = .flr ∨ i = .hotReset ∨ i = .hostLinkDown) ∧ (i = .hostLinkDown → s.dev.hif.link
      = 1) :=
  by
  exact ⟨.hostLinkDown, mk { hif.link := 1 }, Or.inr (Or.inr rfl), fun _ => by decide +kernel⟩

theorem witness_host_accesses_are_served_or_refused_0 :
    ∃ (s : State) (off a : Nat) (data : List Byte), s.dev.hostOpen = true ∧ off < 2 ^ 36 ∧ off % 2 ^ 32 +
      data.length ≤ 2 ^ 32 ∧ a = fld (s.dev.reg (hifReg (0x40 + 4 * (off / 2 ^ 32)))) 19 0 * 2 ^ 32 + off % 2 ^ 32 ∧
      bit (s.dev.reg (hifReg (0x40 + 4 * (off / 2 ^ 32)))) 31 = true ∧ regionOf a ∈ [0, 1, 2, 3, 4, 5, 8] ∧
      s.dev.rangeOk a data.length = true ∧ s.dev.busyUnits = [] :=
  ⟨mk (({ hif.memEn := true } : Device).setReg (hifReg 0x40) 0x80000000), 0x9FFFFFF, 0x9FFFFFF, [0x5A], by decide +kernel⟩

theorem witness_host_accesses_are_served_or_refused_1 :
    ∃ (s : State) (off len a : Nat), s.dev.hostOpen = true ∧ off < 2 ^ 36 ∧ off % 2 ^ 32 + len ≤ 2 ^ 32 ∧ a = fld
      (s.dev.reg (hifReg (0x40 + 4 * (off / 2 ^ 32)))) 19 0 * 2 ^ 32 + off % 2 ^ 32 ∧ bit (s.dev.reg (hifReg (0x40 + 4
      * (off / 2 ^ 32)))) 31 = true ∧ regionOf a ∈ [0, 1, 2, 3, 4, 5, 8] ∧ s.dev.rangeOk a len = true ∧
      s.dev.busyUnits = [] ∧ s.dev.core.flaws = [] ∧ s.dev.core.watch = none :=
  ⟨mk (({ hif.memEn := true } : Device).setReg (hifReg 0x40) 0x80000000), 0x9FFFFFF, 1, 0x9FFFFFF, by decide +kernel⟩

theorem witness_host_accesses_are_served_or_refused_2 :
    ∃ (s : State) (off : Nat) (data : List Byte), s.dev.hostOpen = true ∧ off < 2 ^ 36 ∧ off % 2 ^ 32 + data.length
      ≤ 2 ^ 32 ∧ bit (s.dev.reg (hifReg (0x40 + 4 * (off / 2 ^ 32)))) 31 = false ∧ s.dev.busyUnits = [] :=
  ⟨mk { hif.memEn := true }, 0xFFFFFFFFF, [0x5A], by decide +kernel⟩

theorem witness_host_accesses_are_served_or_refused_3 :
    ∃ (s : State) (k : Nat) (v : BitVec 64), s.dev.memSpace = true ∧ s.dev.busyUnits = [] ∧ k < 0x2000 ∧ k % 4 ≠ 3 ∧
      s.dev.hif.pba = [] :=
  ⟨mk { hif.memEn := true }, 0x1FFE, 0, by decide +kernel⟩

theorem witness_host_accesses_are_served_or_refused_4 :
    ∃ (s : State) (off width : Nat) (v : BitVec 64), s.dev.memSpace = true ∧ s.dev.busyUnits = [] :=
  ⟨mk { hif.memEn := true }, 0, 4, 0, by decide +kernel⟩

theorem witness_host_accesses_are_served_or_refused_5 :
    ∃ (s : State) (d : Fin 4) (n : Fin 8) (v : BitVec 64) (off : Nat), s.dev.busyUnits = [] ∧ off = 0x10000 + 0x1000
      * (8 * d.val + n.val) :=
  ⟨mk {}, 3, 7, 0, 0x2F000, by decide +kernel⟩

theorem witness_host_accesses_are_served_or_refused_5_0 :
    ∃ (s : State) (d : Fin 4) (n : Fin 8) (v : BitVec 64) (off : Nat), s.dev.busyUnits = [] ∧ off = 0x10000 + 0x1000
      * (8 * d.val + n.val) ∧ s.dev.memSpace = true :=
  ⟨mk { hif.memEn := true }, 3, 7, 0, 0x2F000, by decide +kernel⟩

theorem witness_host_accesses_are_served_or_refused_5_1 :
    ∃ (s : State) (d : Fin 4) (n : Fin 8) (v : BitVec 64) (off : Nat), s.dev.busyUnits = [] ∧ off = 0x10000 + 0x1000
      * (8 * d.val + n.val) ∧ s.dev.hostOpen = true :=
  ⟨mk { hif.memEn := true }, 3, 7, 0, 0x2F000, by decide +kernel⟩

theorem witness_host_accesses_are_served_or_refused_6 :
    ∃ (i : Bool → Instr) (s : State), ((∃ off data, off < 2 ^ 36 ∧ off % 2 ^ 32 + data.length ≤ 2 ^ 32 ∧ i = fun w
      => .apertureAccess w off data data.length false) ∨ (∃ off width v, i = fun w => .msixTableAccess w off width v
      false)) ∧ s.dev.memSpace = false ∧ s.dev.busyUnits = [] :=
  by
  exact ⟨fun w => .apertureAccess w 0xFFFFFFFFF [0x5A] 1 false, mk {}, Or.inl ⟨0xFFFFFFFFF, [0x5A], by decide, by decide, rfl⟩, by decide +kernel, by decide +kernel⟩

theorem witness_event_ring_records_events_0 :
    ∃ (s : State) (v : Word), s.dev.hostOpen = true ∧ s.dev.busyUnits = [] ∧ s.dev.ringEn = false ∧ bit v 31 = true
      ∧ s.dev.hif.drops = 0 :=
  ⟨mk { hif.memEn := true }, 0x80000000, by decide +kernel⟩

theorem witness_event_ring_records_events_1 :
    ∃ (s : State) (v : Word), s.dev.hostOpen = true ∧ s.dev.busyUnits = [] ∧ bit v 31 = false :=
  ⟨mk { hif.memEn := true }, 0, by decide +kernel⟩

theorem witness_event_ring_records_events_2 :
    ∃ (s : State) (v : Word), s.dev.hostOpen = true ∧ s.dev.busyUnits = [] ∧ s.dev.ringEn = true ∧ bit v 31 = true :=
  ⟨mk (({ hif.memEn := true } : Device).setReg (hifReg 0x18) 0x80000000), 0x80000001, by decide +kernel⟩

theorem witness_event_ring_records_events_3 :
    ∃ (s : State) (v : Word), s.dev.hostOpen = true ∧ s.dev.busyUnits = [] :=
  ⟨mk { hif.memEn := true }, 0, by decide +kernel⟩

theorem witness_event_ring_records_events_4 :
    ∃ (s : State) (e : Event) (l : List Event), s.dev.core.evq = e :: l :=
  ⟨mk { core.evq := [{ code := 0x0101 }] }, { code := 0x0101 }, [], by decide +kernel⟩

theorem witness_management_messages_are_answered_0 :
    ∃ (s : State) (ty ins cmd op eid : Byte), s.dev.mctpUp = true ∧ (op &&& 3 = 0 ∨ op &&& 3 = 1) ∧ eid ≠ 0 ∧ eid ≠
      0xFF :=
  ⟨mk { hif.link := 1, pwr.state := .ready }, 0, 0x80, 1, 0, 8, by decide +kernel⟩

theorem witness_management_messages_are_answered_1 :
    ∃ (i : List Byte → Instr) (s : State) (ty ins cmd a b c : Byte) (l : List Byte), (i = .setEndpointId ∨ i =
      .getEndpointId ∨ i = .getEndpointUuid ∨ i = .getMctpVersionSupport ∨ i = .getMessageTypeSupport ∨ i =
      .getVendorDefinedMessageSupport) ∧ s.dev.mctpUp = true :=
  by
  exact ⟨.getEndpointId, mk { hif.link := 1, pwr.state := .ready }, 0, 0x80, 2, 0, 0, 0, [], Or.inr (Or.inl rfl), by decide +kernel⟩

theorem witness_management_messages_are_answered_2 :
    ∃ (s : State) (ty ins cmd : Byte), s.dev.mctpUp = true :=
  ⟨mk { hif.link := 1, pwr.state := .starting }, 0, 0x80, 5, by decide +kernel⟩

theorem witness_management_messages_are_answered_3 :
    ∃ (s : State) (ins : Byte), s.dev.mctpUp = true :=
  ⟨mk { hif.link := 1, pwr.state := .failed }, 0x80, by decide +kernel⟩

theorem witness_management_messages_are_answered_4 :
    ∃ (held : List (Nat × List Word)) (k : Nat) (e : List Word), (∀ i, i < held.length → (held.map Prod.fst)[i]? =
      some ((held.map Prod.fst).headD 0 + i)) ∧ (held.map Prod.fst).headD 0 + held.length ≤ 2 ^ 31 ∧ held[k]? = some
      ((held.map Prod.fst).headD 0 + k, e) :=
  by
  refine ⟨[(7, [1]), (8, [2])], 1, [2], ?_, ?_, ?_⟩
  · intro i hi
    have : i = 0 ∨ i = 1 := by simp at hi; omega
    rcases this with rfl | rfl <;> rfl
  · decide +kernel
  · decide +kernel

theorem witness_start_up_proceeds_or_stops_0 :
    ∃ (s : State) (b : BootProbe), s.dev.pwr.state = .off :=
  ⟨mk {}, { flashOk := true, partOk := true, cfgOk := true, slotErr := [.none, .none], dimmCap := [256, 256, 256, 256, 256, 256, 256, 256], dimmKind := [true, true, true, true, true, true, true, true] }, by decide +kernel⟩

theorem witness_start_up_proceeds_or_stops_1 :
    ∃ (s : State) (v : Word), bit v 0 = true ∧ s.dev.boot.synian = true ∧ s.dev.boot.bootok = false ∧
      s.dev.pwr.state = .starting :=
  ⟨mk { boot.synian := true, pwr.state := .starting }, 1, by decide +kernel⟩

theorem witness_start_up_proceeds_or_stops_2 :
    ∃ (s : State) (err : ReadError), s.dev.boot.synian = true ∧ s.dev.boot.bootok = false ∧ s.dev.pwr.state =
      .starting ∧ s.dev.expired .bootok (2 * 10 ^ 9) = true :=
  ⟨mk { boot.synian := true, pwr.state := .starting, core.armed := [(.bootok, 0)], core.ltc := [(0, 2000000000000000)] }, .none, by decide +kernel⟩

theorem witness_start_up_proceeds_or_stops_3 :
    ∃ (s : State) (err : ReadError), s.dev.expired .bootok (2 * 10 ^ 9) = false :=
  ⟨mk { boot.synian := true, pwr.state := .starting, core.armed := [(.bootok, 0)], core.ltc := [(0, 1999999999999999)] }, .none, by decide +kernel⟩

theorem witness_start_up_proceeds_or_stops_4 :
    ∃ (s : State) (t1 t2 : Bool) (n : BitVec 16), s.dev.pwr.state = .starting ∧ s.dev.boot.bootok = true ∧
      s.dev.modRuns = true :=
  ⟨mk { boot.bootok := true, pwr.state := .starting }, true, true, 0, by decide +kernel⟩

theorem witness_images_measurements_and_quotes_0 :
    ∃ (s : State), s.dev.boot.prog = none :=
  ⟨mk {}, by decide +kernel⟩

theorem witness_images_measurements_and_quotes_1 :
    ∃ (s : State) (c : List Word), s.dev.boot.prog = some c ∧ c.length = 63 ∧ cfgReason c false = 0 :=
  ⟨mk { boot.prog := some (cfgDefaults.take 63) }, cfgDefaults.take 63, by decide +kernel⟩

theorem witness_images_measurements_and_quotes_2 :
    ∃ (s : State) (c : List Word) (ok : Bool), s.dev.boot.prog = some c ∧ cfgReason c false ≠ 0 :=
  ⟨mk { boot.prog := some [1] }, [1], true, by decide +kernel⟩

theorem witness_images_measurements_and_quotes_3 :
    ∃ (s : State), s.dev.boot.upd = none ∧ s.dev.boot.synian = true ∧ s.dev.busyUnits = [] :=
  ⟨mk { boot.synian := true }, by decide +kernel⟩

theorem witness_images_measurements_and_quotes_4 :
    ∃ (s : State) (u : Update), s.dev.boot.upd = some u :=
  ⟨mk { boot.upd := some { result := 1, slot := 1 } }, { result := 1, slot := 1 }, by decide +kernel⟩

theorem witness_images_measurements_and_quotes_5 :
    ∃ (s : State) (i : Nat), i = fld (s.dev.reg (secReg 0x10)) 23 0 ∧ s.dev.busyUnits = [] :=
  by
  exact ⟨mk {}, _, rfl, by decide +kernel⟩

theorem witness_images_measurements_and_quotes_6 :
    ∃ (s : State) (k : Fin 8), 5 ≤ k.val ∧ s.dev.boot.quote = none :=
  ⟨mk {}, 5, by decide +kernel⟩

theorem witness_images_measurements_and_quotes_7 :
    ∃ (s : State) (k : Fin 8), k.val < 5 :=
  ⟨mk {}, 4, by decide +kernel⟩

theorem witness_images_measurements_and_quotes_8 :
    ∃ (s : State) (k : Fin 8) (m : List Byte), 5 ≤ k.val ∧ s.dev.boot.quote = some m :=
  ⟨mk { boot.quote := some [] }, 5, [], by decide +kernel⟩

theorem witness_images_measurements_and_quotes_9 :
    ∃ (s : State), s.dev.boot.quote = none :=
  ⟨mk {}, by decide +kernel⟩

theorem witness_images_measurements_and_quotes_10 :
    ∃ (s : State) (m : List Byte), s.dev.boot.quote = some m ∧ (∀ x ∈ s.dev.boot.ext, x.1 < 8) :=
  ⟨mk { boot.quote := some [1], boot.ext := [(7, [])] }, [1], by decide +kernel⟩

theorem witness_hangs_latch_a_snapshot_0 :
    ∃ (s : State) (w : Nat), slotOk w = true ∧ s.dev.armed w = true ∧ mget false s.dev.ras.fired w = false ∧
      s.dev.paused w = false ∧ s.dev.expired (.hang w (mget 0 s.dev.ras.prog w)) (1000 * (s.dev.period w).toNat) =
      true :=
  ⟨mk { core.queues := [(516, [cm putW])], core.armed := [(.hang 27 0, 0)], core.ltc := [(0, 10 ^ 18)] }, 27, by decide +kernel⟩

theorem witness_hangs_latch_a_snapshot_1 :
    ∃ (s : State) (w : Nat), (s.dev.armed w = false ∨ mget false s.dev.ras.fired w = true ∨ s.dev.paused w = true ∨
      s.dev.expired (.hang w (mget 0 s.dev.ras.prog w)) (1000 * (s.dev.period w).toNat) = false) :=
  ⟨mk {}, 27, by decide +kernel⟩

theorem witness_hangs_latch_a_snapshot_2 :
    ∃ (s : State), s.dev.ras.sgBusy = false :=
  ⟨mk {}, by decide +kernel⟩

theorem witness_hangs_latch_a_snapshot_3 :
    ∃ (s : State) (x : Device), s.dev.ras.sgBusy = true ∧ s.snap = some x :=
  ⟨{ dev := { ras.sgBusy := true }, snap := some {} }, {}, by decide +kernel⟩

theorem witness_hangs_latch_a_snapshot_4 :
    ∃ (s : State), s.dev.ras.sgBusy = true ∧ s.dev.expired .noresp 100000 = true :=
  ⟨mk { ras.sgBusy := true, core.armed := [(.noresp, 0)], core.ltc := [(0, 100000000000)] }, by decide +kernel⟩

theorem witness_hangs_latch_a_snapshot_5 :
    ∃ (s : State) (w : Nat) (us fs ws : List Nat) (l : List (List Byte)) (trunc : Bool), s.dev.ras.snapw = some w ∧
      l = (if s.dev.dumpRoom = 0 then [] else fitSections (s.dev.dumpRoom - 64) (s.collected us fs ws)) ∧ (trunc =
      decide (s.dev.dumpRoom = 0 ∨ l.length ≠ (us.zip (fs.zip ws)).length)) ∧ s.dev.busyUnits = [] :=
  by
  exact ⟨mk { ras.snapw := some 27 }, 27, [], [], [], _, _, by decide +kernel, rfl, rfl, by decide +kernel⟩

theorem witness_resets_start_and_end_0 :
    ∃ (i : Instr) (r : Reset) (s : State), ((∃ w, i = .groupReset w ∧ r = { level := 0, target := w } ∧ w < 256 ∧ (w
      % 64 < 25 ∨ (30 ≤ w % 64 ∧ w % 64 < 36))) ∨ (∃ d, i = .dieReset .synian d ∧ r = { level := 1, target := d.val })
      ∨ i = .moduleReset .synian ∧ r = { level := 2 } ∨ i = .moduleReset .watchdog ∧ r = { level := 2, src :=
      .watchdog }) ∧ s.dev.busyUnits = [] :=
  by
  exact ⟨.groupReset 227, { level := 0, target := 227 }, mk {}, Or.inl ⟨227, rfl, rfl, by decide, by decide⟩, by decide +kernel⟩

theorem witness_resets_start_and_end_2 :
    ∃ (s : State) (w : Nat), (slotOk w = false ∨ 256 ≤ w ∨ (25 ≤ w % 64 ∧ w % 64 < 30)) :=
  ⟨mk {}, 256, by decide +kernel⟩

theorem witness_resets_start_and_end_3 :
    ∃ (s : State) (r : Reset), s.dev.ras.run = some r ∧ s.dev.ras.queue = [] ∧ r.key ∈ s.dev.ras.fence ∧ r.level < 3
      ∧ (r.level = 1 → r.target < 4) ∧ (r.level = 0 → r.target < 256) ∧ (r.level = 2 → r.target = 0) :=
  ⟨mk { ras.run := some { level := 1, target := 3 }, ras.fence := [1003] }, { level := 1, target := 3 }, by decide +kernel⟩

theorem witness_management_core_and_repairs_1 :
    ∃ (s : State) (err : ReadError), s.dev.time 0 < s.dev.ras.kick + 10 ^ 9 :=
  ⟨mk {}, .header, by decide +kernel⟩

theorem witness_management_core_and_repairs_2 :
    ∃ (s : State) (err : ReadError), s.dev.boot.bootok = true ∧ (s.dev.pwr.state = .starting ∨ s.dev.pwr.state =
      .ready) ∧ s.dev.ras.kick + 10 ^ 9 ≤ s.dev.time 0 ∧ s.dev.ras.run = none :=
  ⟨mk { boot.bootok := true, pwr.state := .ready, core.ltc := [(0, 1000000000000000)] }, .none, by decide +kernel⟩

theorem witness_management_core_and_repairs_3 :
    ∃ (s : State) (src : BitVec 15), s.dev.ras.repair = none ∧ s.dev.busyUnits = [] :=
  ⟨mk {}, 5, by decide +kernel⟩

theorem witness_management_core_and_repairs_4 :
    ∃ (s : State) (src : BitVec 15) (m : Bool) (r : Repairing), s.dev.ras.repair = some r ∧ s.dev.busyUnits = [] :=
  ⟨mk { ras.repair := some {} }, 5, false, {}, by decide +kernel⟩

theorem witness_management_core_and_repairs_5 :
    ∃ (s : State) (ls : List Word) (ep : BitVec 4) (r : Repairing), s.dev.ras.repair = some r ∧ r.result ≠ 0 :=
  ⟨mk { ras.repair := some { result := 1 } }, [1, 2, 3, 4], 0, { result := 1 }, by decide +kernel⟩

theorem witness_management_core_and_repairs_6 :
    ∃ (s : State) (ls : List Word) (ep : BitVec 4), (∀ r, s.dev.ras.repair = some r → r.result = 0) :=
  by
  exact ⟨mk {}, [], 0, fun r h => nomatch (show (none : Option Repairing) = some r from h)⟩

theorem witness_register_writes_and_step_aborts_0 :
    ∃ (s : State) (ag : Agent) (own blk off : Nat) (v : Word) (r : RegRow), own < 9 ∧ blk < 16 ∧ off < 0x10000 ∧ off
      % 4 = 0 ∧ findReg (regKey own blk off) = some r ∧ s.dev.busyUnits = [] ∧ s.dev.regAct ag (regKey own blk off) v
      = none ∧ r.w ≠ 0 ∧ r.w1 = 0 ∧ (r.mgmt = true → ag = .mgmt) ∧ (ag = .host → s.dev.hostOpen = true) ∧
      s.dev.regHeld own blk off = false ∧ s.dev.regWritable own blk off = true ∧ (∀ x, regClamp own blk off x = x) :=
  by
  refine ⟨mk { hif.memEn := true }, .host, 0, 11, 8, 7, ⟨0, 11, 8, [], .rw, 0, 0xFFFFFFFF, 0, false⟩, ?_, ?_, ?_, ?_, ?_, ?_, ?_, ?_, ?_, ?_, ?_, ?_, ?_, fun _ => rfl⟩ <;>
    decide +kernel

theorem witness_register_writes_and_step_aborts_1 :
    ∃ (s : State) (ag : Agent) (off : Nat) (v : BitVec 64) (r : RegRow), findReg off = some r ∧ r.mgmt = true ∧ ag ≠
      .mgmt ∧ (ag = .host → s.dev.hostOpen = true) ∧ s.dev.busyUnits = [] :=
  by
  refine ⟨mk { hif.memEn := true }, .host, (mreg 8 0x40), 0, (findReg (mreg 8 0x40)).getD ⟨0, 0, 0, [], .ro, 0, 0, 0, false⟩, ?_, ?_, ?_, ?_, ?_⟩ <;> decide +kernel

theorem witness_register_writes_and_step_aborts_2 :
    ∃ (s : State) (ag : Agent) (key : Nat) (v : Word) (t : Device), s.dev.busyUnits = [] ∧ s.dev.regAct ag key v =
      some t ∧ key % 4 = 0 ∧ key < 2 ^ 24 ∧ (ag = .host → s.dev.hostOpen = true) ∧ (ag = .mgmt → key = rasReg 4 → bit
      v 0 = false) :=
  ⟨mk { hif.memEn := true }, .host, colReg 0 4, 1, devHostAbort 0 { hif.memEn := true }, by decide +kernel⟩

theorem witness_register_writes_and_step_aborts_3 :
    ∃ (s : State) (v : BitVec 64), v.getLsbD 0 = true ∧ s.dev.busyUnits = [] :=
  ⟨mk {}, 1, by decide +kernel⟩

theorem witness_register_writes_and_step_aborts_4 :
    ∃ (s : State) (d : Fin 4) (n : Fin 32) (t : State), s.dev.busyUnits = [] ∧ s.dev.regHeld d.val 8 (0x1004 + 64 *
      n.val) = false ∧ exec (.dmaAbort d n) s = .next t :=
  by
  exact ⟨mk {}, 3, 31, _, by decide +kernel, by decide +kernel, rfl⟩

theorem witness_register_writes_and_step_aborts_5 :
    ∃ (s : State) (ag : Agent) (off width : Nat) (v : BitVec 64), s.dev.busyUnits = [] ∧ (ag = .host →
      s.dev.hostOpen = true) ∧ (2 ^ 24 ≤ off ∨ (width ≠ 4 ∧ width ≠ 8) ∨ off % width ≠ 0) :=
  by
  exact ⟨mk {}, .mgmt, 4, 8, 0, by decide +kernel, by decide, Or.inr (Or.inr (by decide))⟩

theorem witness_register_writes_and_step_aborts_6 :
    ∃ (d : Device) (off : Nat), off < 2 ^ 24 ∧ off % 8 = 0 ∧ (∀ die, die < 4 → off ≠ dreg die 6 0xF000) :=
  ⟨{}, 0xFFFFF8, by decide +kernel⟩

theorem witness_register_writes_and_step_aborts_7 :
    ∃ (s t : State) (ag : Agent) (off : Nat) (v : BitVec 64), s.dev.busyUnits = [] ∧ off < 2 ^ 24 ∧ off % 8 = 0 ∧
      (ag = .host → s.dev.hostOpen = true) ∧ off ≠ rteReg 0x18 ∧ (∀ die, die < 4 → off / 2 ^ 16 ≠ dreg die 9 0 / 2 ^
      16) ∧ (∀ (d : Device) (v : Word), Device.regAct d ag off v = none ∧ Device.regAct d ag (off + 4) v = none) ∧
      exec (.registerWrite ag off 4 (BitVec.ofNat 64 (v.toNat % 2 ^ 32)) false) s = .next t :=
  by
  have h : ∀ k ∈ [dreg 0 11 8, dreg 0 11 8 + 4], ∀ (d : Device) (v : Word), Device.regAct d .mgmt k v = none := by
    intro k hk d v
    unfold Device.regAct
    generalize findReg k = x
    rcases x with _ | r
    · rfl
    · simp only [List.mem_cons, List.mem_nil_iff, or_false] at hk
      rcases hk with rfl | rfl <;> simp [dreg, regKey, Device.dieAct]
  obtain ⟨t, ht⟩ : ∃ t, exec (.registerWrite .mgmt (dreg 0 11 8) 4 (BitVec.ofNat 64 ((7 : BitVec 64).toNat % 2 ^ 32)) false) (mk {}) = .next t := by
    show ∃ t, ordinary (.registerWrite .mgmt (dreg 0 11 8) 4 _ false) (mk {}) = .next t
    unfold ordinary
    split <;> exact ⟨_, rfl⟩
  exact ⟨mk {}, t, .mgmt, dreg 0 11 8, 7, by decide +kernel, by decide +kernel, by decide +kernel, by decide +kernel, by decide +kernel,
    by decide +kernel, fun d v => ⟨h _ (by simp) d v, h _ (by simp) d v⟩, ht⟩

theorem witness_register_writes_and_step_aborts_8 :
    ∃ (s : State) (off w : Nat) (v : BitVec 64), s.dev.hostOpen = true ∧ s.dev.busyUnits = [] :=
  ⟨mk { hif.memEn := true }, 0, 4, 0, by decide +kernel⟩

theorem witness_register_writes_and_step_aborts_9 :
    ∃ (s : State) (try_ : BitVec 8), s.dev.colHeld (s.dev.reg (rasReg 0x50)).toNat try_.toNat = false :=
  ⟨mk {}, 255, by decide +kernel⟩

theorem witness_register_writes_and_step_aborts_10 :
    ∃ (s : State) (try_ : BitVec 8), s.dev.colHeld (s.dev.reg (rasReg 0x50)).toNat try_.toNat = true :=
  ⟨mk (({} : Device).setReg (colReg 0 0x10) 0x80000000), 0, by decide +kernel⟩

theorem witness_register_writes_and_step_aborts_12 :
    ∃ (e : Device) (tier n code unit : Nat), tier < 2 ∧ n < 8 ∧ unit = (if tier = 0 then uStack n else uMrd n) ∧
      code = (if tier = 0 then 0x040D else 0x040A) :=
  ⟨{}, 1, 7, 0x040A, uMrd 7, by decide +kernel⟩

theorem witness_register_writes_and_step_aborts_12_0 :
    ∃ (e : Device) (tier n code unit : Nat), tier < 2 ∧ n < 8 ∧ unit = (if tier = 0 then uStack n else uMrd n) ∧
      code = (if tier = 0 then 0x040D else 0x040A) ∧ (∀ (b : Nat), mget none e.core.crossed (8 * tier + n) = some b →
      b + 24 * 3600 * 10 ^ 9 < e.time 0) :=
  by
  exact ⟨{}, 1, 7, 0x040A, uMrd 7, by decide, by decide, rfl, rfl, fun b h => nomatch (show (none : Option Nat) = some b from h)⟩

theorem witness_register_writes_and_step_aborts_12_1 :
    ∃ (e : Device) (tier n code unit : Nat) (b : Nat), tier < 2 ∧ n < 8 ∧ unit = (if tier = 0 then uStack n else
      uMrd n) ∧ code = (if tier = 0 then 0x040D else 0x040A) ∧ mget none e.core.crossed (8 * tier + n) = some b ∧
      e.time 0 ≤ b + 24 * 3600 * 10 ^ 9 :=
  ⟨{ core.crossed := [(15, some 0)] }, 1, 7, 0x040A, uMrd 7, 0, by decide +kernel⟩

theorem witness_register_writes_and_step_aborts_11_0 :
    ∃ (s : State) (m : BitVec 3) (who : Nat) (k : _), k < 3 ∧ m.toNat.testBit k = true :=
  ⟨mk {}, 5, 3, 2, by decide +kernel⟩

theorem witness_power_is_lost_and_warned_0 :
    ∃ (i : Instr) (s : State) (st : PowerState), ((i = .lossOfPower ∧ s.dev.pwr.state ≠ .shutdown ∧ st = .off) ∨ (∃
      (k : Fin 5) (x : Fin 64) (v : BitVec 16) (y : Int), i = .thermalShutdown k x v ∧ s.dev.powered = true ∧ x.val <
      sensorCount k.val ∧ shutAt k.val = some y ∧ y ≤ v.toInt ∧ st = .shutdown)) :=
  by
  exact ⟨.thermalShutdown 0 63 1150, mk { pwr.state := .ready }, .shutdown, Or.inr ⟨0, 63, 1150, 1150, rfl, by decide +kernel, by decide +kernel,
    by decide +kernel, by decide +kernel, rfl⟩⟩

theorem witness_power_is_lost_and_warned_1 :
    ∃ (s : State), s.dev.pwr.state = .shutdown :=
  ⟨mk { pwr.state := .shutdown }, by decide +kernel⟩

theorem witness_power_is_lost_and_warned_2 :
    ∃ (s : State) (k : Fin 5) (x : Fin 64) (v : BitVec 16), (∀ y, shutAt k.val = some y → v.toInt < y) :=
  by
  exact ⟨mk {}, 0, 0, 1149, fun y h => by obtain rfl : (1150 : Int) = y := Option.some.inj h; decide +kernel⟩

theorem witness_power_is_lost_and_warned_3 :
    ∃ (s : State) (k : Fin 5) (x : Fin 64) (v : BitVec 16), s.dev.powered = true ∧ x.val < sensorCount k.val ∧
      warnAt k.val x.val ≤ v.toInt ∧ mget false s.dev.pwr.warned (k.val * 64 + x.val) = false :=
  ⟨mk { pwr.state := .ready }, 0, 63, 950, by decide +kernel⟩

theorem witness_power_is_lost_and_warned_4 :
    ∃ (s : State) (k : Fin 5) (x : Fin 64) (v : BitVec 16), s.dev.powered = true ∧ x.val < sensorCount k.val :=
  ⟨mk { pwr.state := .ready }, 3, 16, 700, by decide +kernel⟩

theorem witness_power_is_lost_and_warned_5 :
    ∃ (s : State) (ms : Nat) (op : Bool), s.dev.pwr.state = .shutdown :=
  ⟨mk { pwr.state := .shutdown }, 1000, false, by decide +kernel⟩

theorem witness_writes_are_read_back_2_1 :
    ∃ (d : Device) (a : Nat) (l : List PByte) (u : _) (i : _), d.core.cap ≤ 2 ^ 48 ∧ d.rangeOk a l.length = true ∧
      d.memHeld a = false ∧ d.flawedIn [(a, l.length)] = [] ∧ anyPoison l = false ∧ u % unitBytes (canonAddr a) = 0 ∧
      a ≤ u ∧ u + unitBytes (canonAddr a) ≤ a + l.length ∧ i < unitBytes (canonAddr a) :=
  ⟨{}, 64, List.replicate 64 (1, false), 96, 31, by decide +kernel⟩

theorem witness_writes_are_read_back_2_2 :
    ∃ (d : Device) (a : Nat) (l : List PByte) (b : _) (i : _), d.core.cap ≤ 2 ^ 48 ∧ d.rangeOk a l.length = true ∧
      d.memHeld a = false ∧ d.flawedIn [(a, l.length)] = [] ∧ (d.readByte b).2 = true ∧ i < unitBytes (canonAddr b) ∧
      canonAddr (b / unitBytes (canonAddr b) * unitBytes (canonAddr b) + i) ∉ (rangeFrom a l.length).map canonAddr :=
  ⟨{ core.pois := [0] }, 1, [(0x5A, false)], 0, 0, by decide +kernel⟩

theorem witness_writes_are_read_back_3 :
    ∃ (d : Device) (a : Nat) (l : List PByte), d.memHeld a = false :=
  ⟨{}, 0, [(0x5A, false)], by decide +kernel⟩

theorem witness_writes_are_read_back_2_3 :
    ∃ (d : Device) (a : Nat) (l : List PByte) (b : _), d.core.cap ≤ 2 ^ 48 ∧ d.rangeOk a l.length = true ∧ d.memHeld
      a = false ∧ d.flawedIn [(a, l.length)] = [] ∧ anyPoison l = false ∧ (d.readByte b).2 = false :=
  ⟨{}, 0, [(0x5A, false)], 5, by decide +kernel⟩

theorem witness_supply_time_and_test_commands_0_2 :
    ∃ (s : State) (mv ma : Nat), overCurrent mv ma = true ∧ s.dev.pwr.clamp ≠ none :=
  ⟨mk { pwr.clamp := some [700, 700, 700, 700] }, 50000, 64001, by decide +kernel⟩

theorem witness_supply_time_and_test_commands_0_1 :
    ∃ (s : State) (mv ma : Nat), overCurrent mv ma = true ∧ s.dev.pwr.clamp = none :=
  ⟨mk {}, 50000, 64001, by decide +kernel⟩

theorem witness_supply_time_and_test_commands_6 :
    ∃ (s : State) (d : Fin 4) (ag : Agent), ag ≠ .host :=
  ⟨mk {}, 0, .mgmt, by decide +kernel⟩

theorem witness_supply_time_and_test_commands_7 :
    ∃ (s : State) (d : Fin 4) (ag : Agent), ag ≠ .host :=
  ⟨mk {}, 0, .mgmt, by decide +kernel⟩

theorem witness_supply_time_and_test_commands_8_0 :
    ∃ (s : State) (d : Fin 4) (wide : Bool), (∀ h ∈ s.dev.slip.held, h.what.isHost = false) ∧ s.dev.hostOpen = true :=
  ⟨mk { hif.memEn := true }, 0, true, by decide +kernel⟩

theorem witness_supply_time_and_test_commands_8_1 :
    ∃ (s : State) (d : Fin 4) (wide : Bool), (∀ h ∈ s.dev.slip.held, h.what.isHost = false) ∧ s.dev.hostOpen = false :=
  ⟨mk {}, 0, true, by decide +kernel⟩

theorem witness_supply_time_and_test_commands_9 :
    ∃ (s : State) (d : Fin 4), s.dev.dieInReset d.val = false ∧ bit (s.dev.reg (grgReg d.val 0xC)) 0 = false :=
  ⟨mk {}, 0, by decide +kernel⟩

theorem witness_control_operations_and_branches_1_1 :
    ∃ (s : State) (d : Fin 4) (n : Fin 8) (r : List Word), s.dev.copReady d.val n.val 2 = some r ∧ s.dev.dieInReset
      (fld (rW r 3) 31 30) = true :=
  ⟨mk { (rd (cop 2 [0, 0, 0xC0000000])) with ras.fence := [1003] }, 0, 0, cop 2 [0, 0, 0xC0000000], by decide +kernel⟩

theorem witness_control_operations_and_branches_2_1 :
    ∃ (s : State) (d : Fin 4) (n : Fin 8) (r : List Word), s.dev.copReady d.val n.val 3 = some r ∧ s.dev.dieInReset
      (fld (rW r 3) 31 30) = true :=
  ⟨mk { (rd (cop 3 [0, 0, 0xC0000000])) with ras.fence := [1003] }, 0, 0, cop 3 [0, 0, 0xC0000000], by decide +kernel⟩

theorem witness_control_operations_and_branches_1_0 :
    ∃ (s : State) (d : Fin 4) (n : Fin 8) (r : List Word), s.dev.copReady d.val n.val 2 = some r ∧ s.dev.dieInReset
      (fld (rW r 3) 31 30) = false :=
  ⟨mk (rd (cop 2 [])), 0, 0, cop 2 [], by decide +kernel⟩

theorem witness_control_operations_and_branches_2_0 :
    ∃ (s : State) (d : Fin 4) (n : Fin 8) (r : List Word), s.dev.copReady d.val n.val 3 = some r ∧ s.dev.dieInReset
      (fld (rW r 3) 31 30) = false :=
  ⟨mk (rd (cop 3 [])), 0, 0, cop 3 [], by decide +kernel⟩

theorem witness_control_operations_and_branches_6_0 :
    ∃ (e : Device) (die n : Nat) (r : List Word) (act : Device → Device) (status : Nat), ((act e).stream die
      n).state = .run ∧ fpolNames (rFpol r) status = false :=
  ⟨rd (cop 1 []), 0, 0, cop 1 [], id, 3, by decide +kernel⟩

theorem witness_control_operations_and_branches_6_1 :
    ∃ (e : Device) (die n : Nat) (r : List Word) (act : Device → Device) (status : Nat), ((act e).stream die
      n).state = .run ∧ fpolNames (rFpol r) status = true :=
  ⟨rd ([0, 0x40000000] ++ (cop 1 []).drop 2), 0, 0, [0, 0x40000000] ++ (cop 1 []).drop 2, id, 3, by decide +kernel⟩

theorem witness_control_operations_and_branches_11 :
    ∃ (s : State) (d : Fin 4) (n : Fin 8) (r : List Word), s.dev.copReady d.val n.val 7 = some r ∧ fld (rW r 3) 1 0
      < (s.dev.stream d.val n.val).loops.length :=
  ⟨mk (rd (cop 7 [0, 0, 3])), 0, 0, cop 7 [0, 0, 3], by decide +kernel⟩

theorem witness_control_operations_and_branches_11_0 :
    ∃ (s : State) (d : Fin 4) (n : Fin 8) (r : List Word), s.dev.copReady d.val n.val 7 = some r ∧ fld (rW r 3) 1 0
      < (s.dev.stream d.val n.val).loops.length ∧ 1 < ((s.dev.stream d.val n.val).loops.getD (fld (rW r 3) 1 0)
      0).toNat :=
  ⟨mk (({} : Device).setStream 0 0 { state := .run, tail := 1, loops := [0, 0, 0, 2], rcd := some (cop 7 [0, 0, 3]) }), 0, 0, cop 7 [0, 0, 3], by decide +kernel⟩

theorem witness_control_operations_and_branches_11_1 :
    ∃ (s : State) (d : Fin 4) (n : Fin 8) (r : List Word), s.dev.copReady d.val n.val 7 = some r ∧ fld (rW r 3) 1 0
      < (s.dev.stream d.val n.val).loops.length ∧ ((s.dev.stream d.val n.val).loops.getD (fld (rW r 3) 1 0) 0).toNat ≤
      1 :=
  ⟨mk (rd (cop 7 [0, 0, 3])), 0, 0, cop 7 [0, 0, 3], by decide +kernel⟩

theorem witness_control_operations_and_branches_12 :
    ∃ (st : Stream) (size : Nat) (off : Int), 0 < size :=
  ⟨{}, 1, 0, by decide +kernel⟩

theorem witness_dma_programs_loop_wait_and_signal_1_1 :
    ∃ (s : State) (d : Fin 4) (n : Fin 32) (p : DmaProg) (w : List Word) (r count : Nat), DmaAt s.dev d.val n.val 3
      p w ∧ r = fld (wordAt w 0) 27 26 ∧ count = fld (wordAt w 1) 23 0 ∧ fld (wordAt w 1) 31 24 = 0 ∧ wordAt w 7 = 0 ∧
      fld (wordAt w 6) 31 16 = 0 ∧ fld (wordAt w 0) 25 8 = 0 ∧ 0 < count ∧ 0 < fld (wordAt w 0) 7 0 ∧ fld (wordAt w 0)
      7 0 ≤ p.pc ∧ r < p.loops.length ∧ (if p.loops.getD r 0 = 0 then count else p.loops.getD r 0) = 1 :=
  by
  refine ⟨mk (({} : Device).setProg 0 0 { pc := 1, loops := [1, 0, 0, 0] } |>.write 32 (clean (wordsToBytes [0x30000001, 2]))), 0, 0, { pc := 1, loops := [1, 0, 0, 0] }, [0x30000001, 2, 0, 0, 0, 0, 0, 0], 0, 2, ?_⟩
  simp only [DmaAt]; decide +kernel

theorem witness_dma_programs_loop_wait_and_signal_4_0 :
    ∃ (s : State) (d : Fin 4) (n : Fin 32) (p : DmaProg) (w : List Word), DmaAt s.dev d.val n.val 5 p w ∧ bit
      (wordAt w 0) 24 = false ∧ fld (wordAt w 0) 13 0 = 0 ∧ fld (wordAt w 1) 31 16 = 0 ∧ anyWord w [2, 3, 4, 5, 6, 7]
      = false ∧ (bit (wordAt w 0) 27 = true → ∀ v ∈ (s.dev.chan d.val n.val).writes, v.cid ≠ p.cmd.cid) ∧ bit (wordAt
      w 0) 26 = true ∧ s.dev.dieInReset (fld (wordAt w 0) 15 14) = false :=
  by
  refine ⟨mk (dm [0x5400C000]), 0, 0, {}, [0x5400C000, 0, 0, 0, 0, 0, 0, 0], ?_⟩
  simp only [DmaAt]; decide +kernel

theorem witness_dma_programs_loop_wait_and_signal_4_2 :
    ∃ (s : State) (d : Fin 4) (n : Fin 32) (p : DmaProg) (w : List Word), DmaAt s.dev d.val n.val 5 p w ∧ bit
      (wordAt w 0) 24 = false ∧ fld (wordAt w 0) 13 0 = 0 ∧ fld (wordAt w 1) 31 16 = 0 ∧ anyWord w [2, 3, 4, 5, 6, 7]
      = false ∧ (bit (wordAt w 0) 27 = true → ∀ v ∈ (s.dev.chan d.val n.val).writes, v.cid ≠ p.cmd.cid) ∧ bit (wordAt
      w 0) 25 = true :=
  by
  refine ⟨mk (dm [0x52000000]), 0, 0, {}, [0x52000000, 0, 0, 0, 0, 0, 0, 0], ?_⟩
  simp only [DmaAt]; decide +kernel

theorem witness_dma_programs_loop_wait_and_signal_1_0 :
    ∃ (s : State) (d : Fin 4) (n : Fin 32) (p : DmaProg) (w : List Word) (r count : Nat), DmaAt s.dev d.val n.val 3
      p w ∧ r = fld (wordAt w 0) 27 26 ∧ count = fld (wordAt w 1) 23 0 ∧ fld (wordAt w 1) 31 24 = 0 ∧ wordAt w 7 = 0 ∧
      fld (wordAt w 6) 31 16 = 0 ∧ fld (wordAt w 0) 25 8 = 0 ∧ 0 < count ∧ 0 < fld (wordAt w 0) 7 0 ∧ fld (wordAt w 0)
      7 0 ≤ p.pc ∧ r < p.loops.length ∧ 1 < (if p.loops.getD r 0 = 0 then count else p.loops.getD r 0) :=
  by
  refine ⟨mk (({} : Device).setProg 0 0 { pc := 1 } |>.write 32 (clean (wordsToBytes [0x30000001, 2]))), 0, 0, { pc := 1 }, [0x30000001, 2, 0, 0, 0, 0, 0, 0], 0, 2, ?_⟩
  simp only [DmaAt]; decide +kernel

theorem witness_dma_programs_loop_wait_and_signal_3_1 :
    ∃ (s : State) (d : Fin 4) (n : Fin 32) (p : DmaProg) (w : List Word), DmaAt s.dev d.val n.val 4 p w ∧ waitBad w
      = false ∧ p.met = false ∧ dmaWaitMet s.dev (wordAt w 0) p.woff = false ∧ s.dev.expired (p.timer d.val n.val)
      (1000 * fld (wordAt w 1) 23 0) = false :=
  by
  refine ⟨mk (dm [0x40000001, 5]), 0, 0, {}, [0x40000001, 5, 0, 0, 0, 0, 0, 0], ?_⟩
  simp only [DmaAt]; decide +kernel

theorem witness_dma_programs_loop_wait_and_signal_4_1 :
    ∃ (s : State) (d : Fin 4) (n : Fin 32) (p : DmaProg) (w : List Word), DmaAt s.dev d.val n.val 5 p w ∧ bit
      (wordAt w 0) 24 = false ∧ fld (wordAt w 0) 13 0 = 0 ∧ fld (wordAt w 1) 31 16 = 0 ∧ anyWord w [2, 3, 4, 5, 6, 7]
      = false ∧ (bit (wordAt w 0) 27 = true → ∀ v ∈ (s.dev.chan d.val n.val).writes, v.cid ≠ p.cmd.cid) ∧ bit (wordAt
      w 0) 26 = false :=
  by
  refine ⟨mk (dm [0x50000000]), 0, 0, {}, [0x50000000, 0, 0, 0, 0, 0, 0, 0], ?_⟩
  simp only [DmaAt]; decide +kernel

theorem witness_dma_programs_loop_wait_and_signal_4_3 :
    ∃ (s : State) (d : Fin 4) (n : Fin 32) (p : DmaProg) (w : List Word), DmaAt s.dev d.val n.val 5 p w ∧ bit
      (wordAt w 0) 24 = false ∧ fld (wordAt w 0) 13 0 = 0 ∧ fld (wordAt w 1) 31 16 = 0 ∧ anyWord w [2, 3, 4, 5, 6, 7]
      = false ∧ (bit (wordAt w 0) 27 = true → ∀ v ∈ (s.dev.chan d.val n.val).writes, v.cid ≠ p.cmd.cid) ∧ bit (wordAt
      w 0) 25 = false :=
  by
  refine ⟨mk (dm [0x50000000]), 0, 0, {}, [0x50000000, 0, 0, 0, 0, 0, 0, 0], ?_⟩
  simp only [DmaAt]; decide +kernel

theorem witness_dma_programs_loop_wait_and_signal_3_0 :
    ∃ (s : State) (d : Fin 4) (n : Fin 32) (p : DmaProg) (w : List Word), DmaAt s.dev d.val n.val 4 p w ∧ waitBad w
      = false ∧ p.met = false ∧ dmaWaitMet s.dev (wordAt w 0) p.woff = false ∧ fld (wordAt w 1) 23 0 ≠ 0 ∧
      s.dev.expired (p.timer d.val n.val) (1000 * fld (wordAt w 1) 23 0) = true :=
  by
  refine ⟨mk { dm [0x40000001, 5] with core.armed := [(.wait 0 0 0 0 [0, 0, 0, 0], 0)], core.ltc := [(0, 5000000000)] }, 0, 0, {}, [0x40000001, 5, 0, 0, 0, 0, 0, 0], ?_⟩
  simp only [DmaAt]; decide +kernel

theorem witness_dma_ends_and_abandonment_0_1 :
    ∃ (s : State) (d : Fin 4) (n : Fin 32) (p : DmaProg), (s.dev.chan d.val n.val).prog = some p ∧ s.dev.fenced
      (wDma d.val) = false ∧ p.latch = some .natural :=
  ⟨mk (({} : Device).setProg 0 0 { latch := some .natural }), 0, 0, { latch := some .natural }, by decide +kernel⟩

theorem witness_dma_ends_and_abandonment_0_0 :
    ∃ (s : State) (d : Fin 4) (n : Fin 32) (p : DmaProg), (s.dev.chan d.val n.val).prog = some p ∧ s.dev.fenced
      (wDma d.val) = false ∧ p.latch = none :=
  ⟨mk (({} : Device).setProg 0 0 {}), 0, 0, {}, by decide +kernel⟩

theorem witness_dma_ends_and_abandonment_3_0 :
    ∃ (p : DmaProg) (c : Nat), p.cmd.seq < 2 ^ 12 ∧ p.latch = some (.fault c) ∧ c < 8 :=
  ⟨{ latch := some (.fault 3) }, 3, by decide +kernel⟩

theorem witness_dma_ends_and_abandonment_3_1 :
    ∃ (p : DmaProg) (c : Nat), p.cmd.seq < 2 ^ 12 ∧ p.latch = some .abort :=
  ⟨{ latch := some .abort }, 0, by decide +kernel⟩

theorem witness_dma_ends_and_abandonment_3_2 :
    ∃ (p : DmaProg) (c : Nat), p.cmd.seq < 2 ^ 12 ∧ p.latch = some .natural :=
  ⟨{ latch := some .natural }, 0, by decide +kernel⟩

theorem witness_dma_ends_and_abandonment_4 :
    ∃ (s : State) (d : Fin 4) (n : Fin 8), s.dev.dieInReset d.val = false :=
  ⟨mk {}, 0, 0, by decide +kernel⟩

theorem witness_dma_ends_and_abandonment_4_0 :
    ∃ (s : State) (d : Fin 4) (n : Fin 8), s.dev.dieInReset d.val = false ∧ (∀ k, 720 ≤ k → k < 728 → s.dev.queue k
      = []) :=
  ⟨mk {}, 0, 0, by decide +kernel⟩

theorem witness_dma_ends_and_abandonment_3_3 :
    ∃ (p : DmaProg) (c : Nat), p.cmd.seq < 2 ^ 12 ∧ (p.latch = some .natural ∨ p.latch = some .abort) :=
  ⟨{ latch := some .abort }, 0, by decide +kernel⟩

theorem witness_perm_test_runs_0_1 :
    ∃ (s : State) (n j : Nat) (v : Word), s.dev.ing.test = none ∧ n = dPair (fun k => s.dev.reg (ingReg (0x80 + 4 *
      k))) 3 15 + 1 ∧ j = dPair (fun k => s.dev.reg (ingReg (0x80 + 4 * k))) 5 15 ∧ n ≤ j :=
  by
  exact ⟨mk (({} : Device).setReg (ingReg 0x94) 1), _, _, 0, by decide +kernel, rfl, rfl, by decide +kernel⟩

theorem witness_perm_test_runs_0_0 :
    ∃ (s : State) (n j : Nat) (v : Word), s.dev.ing.test = none ∧ n = dPair (fun k => s.dev.reg (ingReg (0x80 + 4 *
      k))) 3 15 + 1 ∧ j = dPair (fun k => s.dev.reg (ingReg (0x80 + 4 * k))) 5 15 ∧ j < n :=
  by
  exact ⟨mk {}, _, _, 0, by decide +kernel, rfl, rfl, by decide +kernel⟩

theorem witness_data_flits_are_sequenced_and_replayed_0_2 :
    ∃ (s : State) (p : Fin 16) (f : Flit), (s.dev.port p.val).up = true ∧ f.p.toNat.testBit 19 = true ∧ flitGood f =
      true ∧ fld (trailerWord f 0) 31 20 ≠ (s.dev.port p.val).rxNext :=
  by
  exact ⟨mk (pd { state := 2, rxNext := 4095 }), 0, flitOf 0x80000, by decide +kernel, by decide +kernel, flit_of_good _ _ (by decide), by decide +kernel⟩

theorem witness_data_flits_are_sequenced_and_replayed_4_1 :
    ∃ (s : State) (p : Fin 16) (f : Flit × Nat) (l : List (Flit × Nat)), (s.dev.port p.val).up = true ∧ (s.dev.port
      p.val).replay = f :: l ∧ ((s.dev.port p.val).nakDue = true ∨ (s.dev.port p.val).sent ≠ 0 ∧ f.2 + 4000 ≤
      s.dev.time (p.val / 4)) ∧ 8 ≤ (s.dev.port p.val).replays :=
  by
  exact ⟨mk { (pd { state := 2, sent := 1, replays := 8, replay := [(flitOf 0x80000, 0)] }) with core.ltc := [(0, 4000000000)] }, 0, _, _, by decide +kernel, rfl, Or.inr (by decide +kernel), by decide +kernel⟩

theorem witness_data_flits_are_sequenced_and_replayed_5 :
    ∃ (s : State) (p : Fin 16) (f : Flit × Nat) (l : List (Flit × Nat)), (s.dev.port p.val).replay = f :: l ∧
      (s.dev.port p.val).nakDue = false ∧ ((s.dev.port p.val).sent = 0 ∨ s.dev.time (p.val / 4) < f.2 + 4000) :=
  by
  exact ⟨mk { (pd { state := 2, sent := 1, replay := [(flitOf 0x80000, 0)] }) with core.ltc := [(0, 3999999999)] }, 0, _, _, rfl, rfl, Or.inr (by decide +kernel)⟩

theorem witness_data_flits_are_sequenced_and_replayed_0_1 :
    ∃ (s : State) (p : Fin 16) (f : Flit), (s.dev.port p.val).up = true ∧ f.p.toNat.testBit 19 = true ∧ flitGood f =
      true ∧ fld (trailerWord f 0) 31 20 = (s.dev.port p.val).rxNext :=
  by
  exact ⟨mk (pd { state := 2 }), 0, flitOf 0x80000, by decide +kernel, by decide +kernel, flit_of_good _ _ (by decide), by decide +kernel⟩

theorem witness_data_flits_are_sequenced_and_replayed_2_0 :
    ∃ (s : State) (p : Fin 16) (f : Flit), f.p.toNat.testBit 19 = false ∧ flitGood f = true ∧ fld (wordAt
      (f.slots.getD 0 []) 0) 31 28 = 1 ∧ ((s.dev.port p.val).state = 1 ∨ (s.dev.port p.val).state = 4) :=
  by
  exact ⟨mk (pd { state := 1 }), 0, flitOf 0 0x10000000, by decide +kernel, flit_of_good _ _ (by decide), by decide +kernel⟩

theorem witness_data_flits_are_sequenced_and_replayed_2_1 :
    ∃ (s : State) (p : Fin 16) (f : Flit), f.p.toNat.testBit 19 = false ∧ flitGood f = true ∧ fld (wordAt
      (f.slots.getD 0 []) 0) 31 28 = 2 ∧ (s.dev.port p.val).up = true :=
  by
  exact ⟨mk (pd { state := 2 }), 0, flitOf 0 0x20000000, by decide +kernel, flit_of_good _ _ (by decide), by decide +kernel⟩

theorem witness_data_flits_are_sequenced_and_replayed_4_0 :
    ∃ (s : State) (p : Fin 16) (f : Flit × Nat) (l : List (Flit × Nat)), (s.dev.port p.val).up = true ∧ (s.dev.port
      p.val).replay = f :: l ∧ ((s.dev.port p.val).nakDue = true ∨ (s.dev.port p.val).sent ≠ 0 ∧ f.2 + 4000 ≤
      s.dev.time (p.val / 4)) ∧ (s.dev.port p.val).replays < 8 :=
  by
  exact ⟨mk (pd { state := 2, nakDue := true, replay := [(flitOf 0x80000, 0)] }), 0, _, _, by decide +kernel, rfl, Or.inl rfl, by decide +kernel⟩

theorem witness_neighbours_exchange_their_state_4_1 :
    ∃ (s : State) (p : Fin 16) (k : Packet) (e : Device), s.dev.takeRx p.val (fun k => k.pt == 7) = some (k, e) ∧
      (s.dev.port p.val).up = true ∧ (s.dev.port p.val).peer.valid = true ∧ ((s.dev.port p.val).peer.module ≠
      k.identity.module ∨ (s.dev.port p.val).peer.port ≠ k.identity.port ∨ (s.dev.port p.val).peer.kind ≠
      k.identity.kind) :=
  by
  exact ⟨mk (pd { state := 2, peer := { valid := true }, rx := [({ h := [0x7C000000, 5] }, false)] }), 0, _, _, rfl, by decide +kernel, by decide +kernel, by decide +kernel⟩

theorem witness_neighbours_exchange_their_state_4_2 :
    ∃ (s : State) (p : Fin 16) (k : Packet) (e : Device), s.dev.takeRx p.val (fun k => k.pt == 7) = some (k, e) ∧
      (s.dev.port p.val).up = true ∧ k.identity.module = s.dev.selfMod ∧ k.identity.kind = 0 :=
  by
  exact ⟨mk (rxD [0x7C000000, 0]), 0, _, _, rfl, by decide +kernel, by decide +kernel, by decide +kernel⟩

theorem witness_neighbours_exchange_their_state_5_1 :
    ∃ (s : State) (p : Fin 16) (k : Packet) (e : Device), s.dev.takeMine p.val 6 = some (k, e) ∧ bit (k.w 2) 16 =
      false ∧ 128 ≤ (k.sgen + 256 - (s.dev.route k.src).lgen) % 256 :=
  by
  exact ⟨mk (rxD [0x6C000000, 0x80000005]), 0, _, _, rfl, by decide +kernel, by decide +kernel⟩

theorem witness_neighbours_exchange_their_state_4_0 :
    ∃ (s : State) (p : Fin 16) (k : Packet) (e : Device), s.dev.takeRx p.val (fun k => k.pt == 7) = some (k, e) ∧
      (s.dev.port p.val).up = true ∧ (s.dev.port p.val).fresh = true :=
  by
  exact ⟨mk (pd { state := 2, fresh := true, rx := [({ h := [0x7C000000, 5] }, false)] }), 0, _, _, rfl, by decide +kernel, by decide +kernel⟩

theorem witness_neighbours_exchange_their_state_5_2 :
    ∃ (s : State) (p : Fin 16) (k : Packet) (e : Device), s.dev.takeMine p.val 6 = some (k, e) ∧ 1 ≤ (k.sgen + 256 -
      (s.dev.route k.src).lgen) % 256 ∧ (k.sgen + 256 - (s.dev.route k.src).lgen) % 256 ≤ 127 :=
  by
  exact ⟨mk (rxD [0x6C000000, 0x7F000005]), 0, _, _, rfl, by decide +kernel, by decide +kernel⟩

theorem witness_neighbours_exchange_their_state_6 :
    ∃ (s : State) (p : Fin 16) (k : Packet) (e : Device) (w : List Word), s.dev.takeRx p.val (fun k => k.pt == 8) =
      some (k, e) ∧ w = bytesToWords (k.body.length / 4) k.body :=
  by
  exact ⟨mk (rxD [0x8C000000, 5, 32] (List.replicate 32 0)), 0, _, _, _, rfl, rfl⟩

theorem witness_neighbours_exchange_their_state_6_1 :
    ∃ (s : State) (p : Fin 16) (k : Packet) (e : Device) (w : List Word), s.dev.takeRx p.val (fun k => k.pt == 8) =
      some (k, e) ∧ w = bytesToWords (k.body.length / 4) k.body ∧ mget [] s.dev.fab.lsdb (fld (wordAt w 0) 14 0) ≠ []
      ∧ (wordAt w 1).toNat ≤ mget 0 s.dev.fab.lsa (fld (wordAt w 0) 14 0) :=
  by
  exact ⟨mk { (rxD [0x8C000000, 5, 32] (List.replicate 32 0)) with fab.lsdb := [(0, [1])] }, 0, _, _, _, rfl, rfl, by decide +kernel, by decide +kernel⟩

theorem witness_neighbours_exchange_their_state_5_0 :
    ∃ (s : State) (p : Fin 16) (k : Packet) (e : Device), s.dev.takeMine p.val 6 = some (k, e) ∧ (bit (k.w 2) 16 =
      true ∨ (k.sgen + 256 - (s.dev.route k.src).lgen) % 256 ≤ 127) :=
  by
  exact ⟨mk (rxD [0x6C000000, 5]), 0, _, _, rfl, by decide +kernel⟩

theorem witness_neighbours_exchange_their_state_6_0 :
    ∃ (s : State) (p : Fin 16) (k : Packet) (e : Device) (w : List Word), s.dev.takeRx p.val (fun k => k.pt == 8) =
      some (k, e) ∧ w = bytesToWords (k.body.length / 4) k.body ∧ (mget [] s.dev.fab.lsdb (fld (wordAt w 0) 14 0) = []
      ∨ mget 0 s.dev.fab.lsa (fld (wordAt w 0) 14 0) < (wordAt w 1).toNat) :=
  by
  exact ⟨mk (rxD [0x8C000000, 5, 32] (List.replicate 32 0)), 0, _, _, _, rfl, rfl, by decide +kernel⟩

theorem witness_neighbours_exchange_their_state_4_3 :
    ∃ (s : State) (p : Fin 16) (k : Packet) (e : Device), s.dev.takeRx p.val (fun k => k.pt == 7) = some (k, e) ∧
      (s.dev.port p.val).up = true ∧ (s.dev.port p.val).fresh = false ∧ (s.dev.port p.val).peer = k.identity ∧
      (k.identity.module ≠ s.dev.selfMod ∨ k.identity.kind ≠ 0) :=
  by
  exact ⟨mk (pd { state := 2, peer := ({ h := [0x7C000000, 5] } : Packet).identity, rx := [({ h := [0x7C000000, 5] }, false)] }), 0, _, _, rfl, by decide +kernel, by decide +kernel, rfl, by decide +kernel⟩

theorem witness_requests_are_served_0_0 :
    ∃ (i : Fin 16 → Instr) (pt : Nat) (s : State) (p : Fin 16) (k : Packet) (e : Device), ((i = .wr ∧ pt = 1) ∨ (i =
      .rd ∧ pt = 3) ∨ (i = .drd ∧ pt = 9)) ∧ s.dev.takeMine p.val pt = some (k, e) ∧ k.src ≠ s.dev.selfMod ∧
      s.dev.busyUnits = [] ∧ 128 ≤ (k.sgen + 256 - (s.dev.route k.src).lgen) % 256 :=
  by
  exact ⟨.rd, 3, mk (rxD [0x30000000, 0x80000005, 1]), 0, _, _, Or.inr (Or.inl ⟨rfl, rfl⟩), rfl, by decide +kernel, by decide +kernel⟩

theorem witness_requests_are_served_0_1 :
    ∃ (i : Fin 16 → Instr) (pt : Nat) (s : State) (p : Fin 16) (k : Packet) (e : Device), ((i = .wr ∧ pt = 1) ∨ (i =
      .rd ∧ pt = 3) ∨ (i = .drd ∧ pt = 9)) ∧ s.dev.takeMine p.val pt = some (k, e) ∧ k.src ≠ s.dev.selfMod ∧
      s.dev.busyUnits = [] ∧ 1 ≤ (k.sgen + 256 - (s.dev.route k.src).lgen) % 256 ∧ (k.sgen + 256 - (s.dev.route
      k.src).lgen) % 256 ≤ 127 :=
  by
  exact ⟨.drd, 9, mk (rxD [0x90000000, 0x7F000005, 1]), 0, _, _, Or.inr (Or.inr ⟨rfl, rfl⟩), rfl, by decide +kernel, by decide +kernel, by decide +kernel⟩

theorem witness_requests_are_served_0_2 :
    ∃ (i : Fin 16 → Instr) (pt : Nat) (s : State) (p : Fin 16) (k : Packet) (e : Device) (st : _), ((i = .wr ∧ pt =
      1) ∨ (i = .rd ∧ pt = 3) ∨ (i = .drd ∧ pt = 9)) ∧ s.dev.takeMine p.val pt = some (k, e) ∧ k.src ≠ s.dev.selfMod ∧
      s.dev.busyUnits = [] ∧ (s.dev.route k.src).lgen = k.sgen ∧ s.dev.core.flaws = [] ∧ s.dev.core.watch = none ∧ st
      = (if (s.dev.reach k).2 ≠ 0 then (s.dev.reach k).2 else if s.dev.memHeld (s.dev.reach k).1 = true then 1 else 0) :=
  by
  exact ⟨.wr, 1, mk (rxD [0x10000000, 5, 1] [0x5A]), 0, _, _, _, Or.inl ⟨rfl, rfl⟩, rfl, by decide +kernel, by decide +kernel, by decide +kernel, by decide +kernel, by decide +kernel, rfl⟩

theorem witness_requests_and_replies_match_by_tag_1_0 :
    ∃ (i : Fin 16 → Instr) (pt : Nat) (s : State) (p : Fin 16) (k : Packet) (e : Device) (x : _), ((i = .wack ∧ pt =
      2) ∨ (i = .rdr ∧ pt = 4)) ∧ s.dev.takeMine p.val pt = some (k, e) ∧ (s.dev.route k.src).lgen = k.sgen ∧
      s.dev.busyUnits = [] ∧ mget none s.dev.fab.tags k.tag = some x ∧ k.rgen = s.dev.selfGen ∧ (pt = 2 ↔ x.kind = 0) :=
  by
  exact ⟨.wack, 2, mk { (rxD [0x24000000, 5]) with fab.tags := [(0, some {})] }, 0, _, _, {}, Or.inl ⟨rfl, rfl⟩, rfl, by decide +kernel, by decide +kernel,
    by decide +kernel, by decide +kernel⟩

theorem witness_requests_and_replies_match_by_tag_1_1 :
    ∃ (i : Fin 16 → Instr) (pt : Nat) (s : State) (p : Fin 16) (k : Packet) (e : Device), ((i = .wack ∧ pt = 2) ∨ (i
      = .rdr ∧ pt = 4)) ∧ s.dev.takeMine p.val pt = some (k, e) ∧ (s.dev.route k.src).lgen = k.sgen ∧ s.dev.busyUnits
      = [] ∧ (mget none s.dev.fab.tags k.tag = none ∨ k.rgen ≠ s.dev.selfGen) :=
  by
  exact ⟨.rdr, 4, mk (rxD [0x44000000, 5]), 0, _, _, Or.inr ⟨rfl, rfl⟩, rfl, by decide +kernel, by decide +kernel⟩

theorem witness_requests_and_replies_match_by_tag_4 :
    ∃ (s : State) (tag : BitVec 16), s.dev.expired (.reuse tag.toNat) (2 * s.dev.e2eTmo) = false :=
  ⟨mk {}, 65535, by decide +kernel⟩

theorem witness_requests_and_replies_match_by_tag_5 :
    ∃ (s : State) (tag : BitVec 16), s.dev.expired (.reuse tag.toNat) (2 * s.dev.e2eTmo) = true :=
  ⟨mk { fab.quar := [65535], core.armed := [(.reuse 65535, 0)], core.ltc := [(0, 10 ^ 18)] }, 65535, by decide +kernel⟩

theorem witness_requests_and_replies_match_by_tag_0_0 :
    ∃ (s : State) (die tag : Nat) (r : PeerReq) (l : List (Nat × PeerReq)), s.dev.inj = (die, r) :: l ∧
      s.dev.freeTag (s.dev.fab.tags.length + s.dev.fab.quar.length + 1) 0 = some tag ∧ r.len ≤ 512 ∧ r.off < 2 ^ 52 ∧
      r.dst < 2 ^ 15 ∧ r.kind < 3 ∧ r.off / 512 = (r.off + r.len - 1) / 512 ∧ r.dst ≠ s.dev.selfMod ∧ (s.dev.route
      r.dst).valid = true ∧ s.dev.candidates (s.dev.route r.dst).pm ≠ [] ∧ s.dev.busyUnits = [] ∧ s.dev.injw = [] :=
  ⟨mk { ((pd { state := 3 }).setRoute 5 { valid := true, pm := 1 }) with inj := [(0, { dst := 5, len := 512 })] }, 0, 0, { dst := 5, len := 512 }, [], by decide +kernel⟩

theorem witness_requests_and_replies_match_by_tag_2_0 :
    ∃ (s : State) (tag : BitVec 16) (x : TagEnt), mget none s.dev.fab.tags tag.toNat = some x ∧ s.dev.expired
      (.reply tag.toNat) s.dev.e2eTmo = true ∧ s.dev.busyUnits = [] ∧ bit (s.dev.reg (rteReg 0x20)) 4 = false :=
  ⟨mk { fab.tags := [(65535, some {})], core.armed := [(.reply 65535, 0)], core.ltc := [(0, 10 ^ 18)] }, 65535, {}, by decide +kernel⟩

theorem witness_packets_are_forwarded_0_0 :
    ∃ (s : State) (p : Fin 16) (k : Packet) (e : Device), s.dev.takeRx p.val (fun k => [1, 2, 3, 4, 6, 9].contains
      k.pt && k.dst != s.dev.selfMod) = some (k, e) ∧ (s.dev.route k.dst).valid = true ∧ 0 < k.hops ∧ s.dev.candidates
      (s.dev.route k.dst).pm ≠ [] :=
  by
  exact ⟨mk { ((pd { state := 3, rx := [({ h := [0x10080005, 7, 1], body := [0x5A] }, false)] }).setRoute 5 { valid := true, pm := 1 }) with out := [] }, 0, _, _, rfl,
    by decide +kernel, by decide +kernel, by decide +kernel⟩

theorem witness_packets_are_forwarded_0_1 :
    ∃ (s : State) (p : Fin 16) (k : Packet) (e : Device), s.dev.takeRx p.val (fun k => [1, 2, 3, 4, 6, 9].contains
      k.pt && k.dst != s.dev.selfMod) = some (k, e) ∧ ((s.dev.route k.dst).valid = false ∨ (0 < k.hops ∧
      s.dev.candidates (s.dev.route k.dst).pm = [])) :=
  by
  exact ⟨mk (rxD [0x10080005, 7, 1] [0x5A]), 0, _, _, rfl, by decide +kernel⟩

theorem witness_packets_are_forwarded_0_2 :
    ∃ (s : State) (p : Fin 16) (k : Packet) (e : Device), s.dev.takeRx p.val (fun k => [1, 2, 3, 4, 6, 9].contains
      k.pt && k.dst != s.dev.selfMod) = some (k, e) ∧ (s.dev.route k.dst).valid = true ∧ k.hops = 0 :=
  by
  exact ⟨mk ((rxD [0x10000005, 7, 1] [0x5A]).setRoute 5 { valid := true, pm := 1 }), 0, _, _, rfl, by decide +kernel, by decide +kernel⟩

theorem witness_collectives_advance_1_1 :
    ∃ (s : State) (p : Fin 16) (k : Packet) (e : Device) (die : Nat) (r r1 : ColRun) (b : List PByte) (ps : List
      Partial) (key : Nat × Nat × Nat × Nat) (j : Nat), s.dev.takeCol p.val 1 = some (k, e) ∧ s.dev.colStale p.val k =
      false ∧ s.dev.colDie k = some (die, r) ∧ r.overrun k = false ∧ r.addPart k = some (r1, b) ∧ r1.longer k b.length
      = false ∧ j = fld (k.w 7) 23 0 ∧ decodeStream (8 * r.pieceUnits j) (values b) = .ok ps ∧ key = (colRing k,
      colKind k, fld (k.w 6) 31 16, j) ∧ (∃ x ∈ r.expected, x ∉ r.got ∧ x ≠ key) ∧ s.dev.busyUnits = [] ∧
      s.dev.core.flaws = [] ∧ s.dev.core.watch = none ∧ r.n ≤ fld (k.w 6) 31 16 + 2 :=
  by
  refine ⟨mk ((rxD [0x58000000, 5, 0x10000020, 0, 0, 0, 0, 1] (List.replicate 32 0)).setColRun 0 (colR 1)), 0, _, _, 0, colR 1, _, _,
    List.replicate 8 (List.replicate 32 0, false), _, _, rfl, ?_, ?_, ?_, rfl, ?_, rfl, ?_, rfl, ?_⟩
  · decide +kernel
  · decide +kernel
  · decide +kernel
  · decide +kernel
  · rfl
  · decide +kernel

theorem witness_collectives_advance_1_0 :
    ∃ (s : State) (p : Fin 16) (k : Packet) (e : Device) (die : Nat) (r r1 : ColRun) (b : List PByte) (ps : List
      Partial) (key : Nat × Nat × Nat × Nat) (j : Nat), s.dev.takeCol p.val 1 = some (k, e) ∧ s.dev.colStale p.val k =
      false ∧ s.dev.colDie k = some (die, r) ∧ r.overrun k = false ∧ r.addPart k = some (r1, b) ∧ r1.longer k b.length
      = false ∧ j = fld (k.w 7) 23 0 ∧ decodeStream (8 * r.pieceUnits j) (values b) = .ok ps ∧ key = (colRing k,
      colKind k, fld (k.w 6) 31 16, j) ∧ (∃ x ∈ r.expected, x ∉ r.got ∧ x ≠ key) ∧ s.dev.busyUnits = [] ∧
      s.dev.core.flaws = [] ∧ s.dev.core.watch = none ∧ fld (k.w 6) 31 16 + 2 < r.n :=
  by
  refine ⟨mk ((rxD [0x58000000, 5, 0x10000020, 0, 0, 0, 0, 1] (List.replicate 32 0)).setColRun 0 ({ colR 1 with n := 3 })), 0, _, _, 0, { colR 1 with n := 3 }, _, _,
    List.replicate 8 (List.replicate 32 0, false), _, _, rfl, ?_, ?_, ?_, rfl, ?_, rfl, ?_, rfl, ?_⟩
  · decide +kernel
  · decide +kernel
  · decide +kernel
  · decide +kernel
  · rfl
  · decide +kernel

theorem witness_collectives_advance_2_0 :
    ∃ (s : State) (p : Fin 16) (k : Packet) (e : Device) (die : Nat) (r r1 : ColRun) (b : List PByte) (key : Nat ×
      Nat × Nat × Nat) (j : Nat), s.dev.takeCol p.val 2 = some (k, e) ∧ s.dev.colStale p.val k = false ∧ s.dev.colDie
      k = some (die, r) ∧ r.overrun k = false ∧ r.addPart k = some (r1, b) ∧ r1.longer k b.length = false ∧ j = fld
      (k.w 7) 23 0 ∧ b.length = r.gatherLen j ∧ key = (colRing k, colKind k, fld (k.w 6) 31 16, j) ∧ s.dev.busyUnits =
      [] ∧ s.dev.core.flaws = [] ∧ s.dev.core.watch = none ∧ (∃ x ∈ r.expected, x ∉ r.got ∧ x ≠ key) :=
  by
  refine ⟨mk ((rxD [0x58000000, 5, 0x20000108, 0, 0, 0, 0, 1] (List.replicate 264 0)).setColRun 0 (colR 0)), 0, _, _, 0, colR 0, _, _,
    _, _, rfl, ?_, ?_, ?_, rfl, ?_, rfl, ?_, rfl, ?_⟩ <;> decide +kernel

theorem witness_collectives_advance_6 :
    ∃ (s : State) (p : Fin 16) (k : Packet) (e : Device) (die : Nat) (r : ColRun) (x : Nat) (a : List Word),
      s.dev.takeCol p.val 3 = some (k, e) ∧ s.dev.colStale p.val k = false ∧ s.dev.colDie k = some (die, r) ∧ fld (k.w
      6) 31 16 + 1 < r.n ∧ colRing k = r.closeRing ∧ x = (ringCoord r.n r.closeRing r.c + 2 * r.n - fld (k.w 6) 31 16
      - 1) % r.n ∧ (∀ y ∈ r.recs, y.1 ≠ x) ∧ a = bytesToWords 8 k.body ∧ s.dev.busyUnits = [] :=
  by
  refine ⟨mk ((rxD [0x5A000000, 5, 0x30000020]).setColRun 0 { colR 0 with n := 3 }), 0, _, _, 0, { colR 0 with n := 3 }, 2, _, rfl, ?_, ?_, ?_, ?_, ?_, ?_, rfl, ?_⟩ <;>
    decide +kernel

theorem witness_collectives_advance_7 :
    ∃ (s : State) (d : Fin 4) (r : ColRun) (dec : ColDecision), (s.dev.colOf d.val).run = some r ∧ r.dec = some dec
      ∧ s.dev.expired (.seal d.val r.cmd.cid) (1000 * fld (s.dev.reg (colReg d.val 0xC)) 15 0) = true ∧
      s.dev.busyUnits = [] :=
  ⟨mk { ((({} : Device).setReg (colReg 0 0xC) 20).setColRun 0 { dec := some {} }) with core.armed := [(.seal 0 0, 0)], core.ltc := [(0, 10 ^ 18)] }, 0, { dec := some {} }, {}, by decide +kernel⟩

theorem witness_collectives_advance_8_0 :
    ∃ (recs : List (List Word)) (me : Nat) (dg : Bool), (∃ x ∈ recs, ∃ y ∈ recs, wordAt x 3 ≠ wordAt y 3) :=
  ⟨[[0, 0, 0, 1], [0, 0, 0, 2]], 0, true, by decide +kernel⟩

theorem witness_collectives_advance_8_1 :
    ∃ (recs : List (List Word)) (me : Nat) (dg : Bool) (P : _), (∀ x ∈ recs, wordAt x 3 = P) ∧ (∃ x ∈ recs, bit
      (wordAt x 0) 29 = true) :=
  ⟨[[0, 0, 0, 1], [0x20000000, 0, 0, 1]], 0, true, 1, by decide +kernel⟩

theorem witness_collectives_advance_8_2 :
    ∃ (recs : List (List Word)) (me : Nat) (dg : Bool) (P : _) (a : _) (b : _), (∀ x ∈ recs, wordAt x 3 = P ∧ bit
      (wordAt x 0) 29 = false ∧ bit (wordAt x 0) 28 = false ∧ wordAt x 1 = a ∧ wordAt x 2 = b) :=
  ⟨[[0, 5, 6, 1], [1, 5, 6, 1]], 0, true, 1, 5, 6, by decide +kernel⟩

theorem witness_collectives_advance_3 :
    ∃ (s : State) (p : Fin 16) (k : Packet) (e : Device) (die : Nat) (r r1 : ColRun) (b : List PByte) (ps : List
      Partial) (j : Nat), s.dev.takeCol p.val 1 = some (k, e) ∧ s.dev.colStale p.val k = false ∧ s.dev.colDie k = some
      (die, r) ∧ r.overrun k = false ∧ r.addPart k = some (r1, b) ∧ r1.longer k b.length = false ∧ j = fld (k.w 7) 23
      0 ∧ decodeStream (8 * r.pieceUnits j) (values b) = .ok ps ∧ (∀ x ∈ r.expected, x ∈ r.got ∨ x = (colRing k,
      colKind k, fld (k.w 6) 31 16, j)) ∧ r.n ≤ fld (k.w 6) 31 16 + 2 ∧ r.op ≠ 3 ∧ r.closed = false ∧ r.dec = none ∧
      r.wait = [] ∧ r.recs.length + 1 < r.n ∧ s.dev.busyUnits = [] ∧ s.dev.core.flaws = [] ∧ s.dev.core.watch = none :=
  by
  refine ⟨mk ((rxD [0x58000000, 5, 0x10000020, 0, 0, 0, 0, 1] (List.replicate 32 0)).setColRun 0 { D := [0, 0, 0, 0, 0, 0, 0x12940000, 16], n := 2, c := 1, gens := [(0, 0)] }), 0, _, _, 0, { D := [0, 0, 0, 0, 0, 0, 0x12940000, 16], n := 2, c := 1, gens := [(0, 0)] }, _, _,
    List.replicate 8 (List.replicate 32 0, false), _, rfl, ?_, ?_, ?_, rfl, ?_, rfl, ?_, ?_, ?_, ?_, ?_, ?_, ?_, ?_, ?_, ?_, ?_⟩
  · decide +kernel
  · decide +kernel
  · decide +kernel
  · decide +kernel
  · rfl
  all_goals decide +kernel

theorem witness_collectives_advance_6_0 :
    ∃ (s : State) (p : Fin 16) (k : Packet) (e : Device) (die : Nat) (r : ColRun) (x : Nat) (a : List Word),
      s.dev.takeCol p.val 3 = some (k, e) ∧ s.dev.colStale p.val k = false ∧ s.dev.colDie k = some (die, r) ∧ fld (k.w
      6) 31 16 + 1 < r.n ∧ colRing k = r.closeRing ∧ x = (ringCoord r.n r.closeRing r.c + 2 * r.n - fld (k.w 6) 31 16
      - 1) % r.n ∧ (∀ y ∈ r.recs, y.1 ≠ x) ∧ a = bytesToWords 8 k.body ∧ s.dev.busyUnits = [] ∧ (r.closed = false ∨
      r.recs.length + 1 < r.n) :=
  by
  refine ⟨mk ((rxD [0x5A000000, 5, 0x30000020]).setColRun 0 { colR 0 with n := 3 }), 0, _, _, 0, { colR 0 with n := 3 }, 2, _, rfl, ?_, ?_, ?_, ?_, ?_, ?_, rfl, ?_, ?_⟩ <;>
    decide +kernel

theorem witness_event_ring_records_events_3_0 :
    ∃ (s : State) (v : Word), s.dev.hostOpen = true ∧ s.dev.busyUnits = [] ∧ (s.dev.evTail + 2 ^ 32 - s.dev.evHead)
      % 2 ^ 32 < (v.toNat + 2 ^ 32 - s.dev.evHead) % 2 ^ 32 :=
  ⟨mk { hif.memEn := true }, 1, by decide +kernel⟩

theorem witness_event_ring_records_events_4_1 :
    ∃ (s : State) (e : Event) (l : List Event), s.dev.core.evq = e :: l ∧ s.dev.ringEn = true ∧ s.dev.modRuns = true
      ∧ s.dev.ringFull = false ∧ (e.code / 256 = 0 ∨ 10 < e.code / 256 ∨ bit (s.dev.reg (hifReg 0x28)) (e.code / 256)
      = false) :=
  ⟨mk (({ core.evq := [{ code := 0x0101 }] } : Device).setReg (hifReg 0x18) 0x80000000), { code := 0x0101 }, [], by decide +kernel⟩

theorem witness_event_ring_records_events_4_0 :
    ∃ (s : State) (e : Event) (l : List Event), s.dev.core.evq = e :: l ∧ s.dev.hif.held.length < 4096 :=
  ⟨mk { core.evq := [{ code := 0x0101 }] }, { code := 0x0101 }, [], by decide +kernel⟩

theorem witness_event_ring_records_events_3_1 :
    ∃ (s : State) (v : Word), s.dev.hostOpen = true ∧ s.dev.busyUnits = [] ∧ (v.toNat + 2 ^ 32 - s.dev.evHead) % 2 ^
      32 ≤ (s.dev.evTail + 2 ^ 32 - s.dev.evHead) % 2 ^ 32 ∧ s.dev.hif.drops = 0 :=
  ⟨mk (({ hif.memEn := true } : Device).setReg (hifReg 0x18) 0x80000000), 0, by decide +kernel⟩

theorem witness_event_ring_records_events_4_2 :
    ∃ (s : State) (e : Event) (l : List Event), s.dev.core.evq = e :: l ∧ (s.dev.ringEn = false ∨ s.dev.modRuns =
      false ∨ (1 ≤ e.code / 256 ∧ e.code / 256 ≤ 10 ∧ bit (s.dev.reg (hifReg 0x28)) (e.code / 256) = true)) :=
  ⟨mk (({ core.evq := [{ code := 0x0A01 }] } : Device).setReg (hifReg 0x18) 0x80000006 |>.setReg (hifReg 0x28) 0x400), { code := 0x0A01 }, [], by decide +kernel⟩

theorem witness_event_ring_records_events_4_3 :
    ∃ (s : State) (e : Event) (l : List Event), s.dev.core.evq = e :: l ∧ s.dev.ringEn = true ∧ s.dev.modRuns = true
      ∧ s.dev.ringFull = true ∧ (e.code / 256 = 0 ∨ 10 < e.code / 256 ∨ bit (s.dev.reg (hifReg 0x28)) (e.code / 256) =
      false) :=
  ⟨mk (({ core.evq := [{ code := 0x0101 }] } : Device).setReg (hifReg 0x18) 0x80000006 |>.setReg (hifReg 0x20) 64), { code := 0x0101 }, [], by decide +kernel⟩

theorem witness_event_ring_records_events_3_2 :
    ∃ (s : State) (v : Word), s.dev.hostOpen = true ∧ s.dev.busyUnits = [] ∧ (v.toNat + 2 ^ 32 - s.dev.evHead) % 2 ^
      32 ≤ (s.dev.evTail + 2 ^ 32 - s.dev.evHead) % 2 ^ 32 ∧ s.dev.ringEn = true ∧ 0 < s.dev.hif.drops ∧ (s.dev.evTail
      + 2 ^ 32 - v.toNat) % 2 ^ 32 ≠ 2 ^ s.dev.ringLog :=
  ⟨mk (({ hif.memEn := true, hif.drops := 2 } : Device).setReg (hifReg 0x18) 0x80000006), 0, by decide +kernel⟩

theorem witness_start_up_proceeds_or_stops_0_0 :
    ∃ (s : State) (b : BootProbe), s.dev.pwr.state = .off ∧ b.flashOk = false :=
  ⟨mk {}, { flashOk := false, partOk := true, cfgOk := true, slotErr := [.none, .none], dimmCap := [], dimmKind := [] }, by decide +kernel⟩

theorem witness_start_up_proceeds_or_stops_0_1 :
    ∃ (s : State) (b : BootProbe), s.dev.pwr.state = .off ∧ b.flashOk = true ∧ b.partOk = false :=
  ⟨mk {}, { flashOk := true, partOk := false, cfgOk := true, slotErr := [.none, .none], dimmCap := [], dimmKind := [] }, by decide +kernel⟩

theorem witness_start_up_proceeds_or_stops_4_1 :
    ∃ (s : State) (t1 t2 : Bool) (n : BitVec 16), s.dev.pwr.state = .starting ∧ s.dev.boot.bootok = true ∧
      s.dev.modRuns = true ∧ t1 = false :=
  ⟨mk { boot.bootok := true, pwr.state := .starting }, false, true, 0, by decide +kernel⟩

theorem witness_start_up_proceeds_or_stops_4_2 :
    ∃ (s : State) (t1 t2 : Bool) (n : BitVec 16), s.dev.pwr.state = .starting ∧ s.dev.boot.bootok = true ∧
      s.dev.modRuns = true ∧ t1 = true ∧ t2 = false :=
  ⟨mk { boot.bootok := true, pwr.state := .starting }, true, false, 0, by decide +kernel⟩

theorem witness_start_up_proceeds_or_stops_5 :
    ∃ (s : State) (t1 t2 : Bool) (n : BitVec 16), s.dev.pwr.state = .ready ∧ s.dev.modRuns = true :=
  ⟨mk { pwr.state := .ready }, true, true, 0, by decide +kernel⟩

theorem witness_start_up_proceeds_or_stops_2_0 :
    ∃ (s : State) (err : ReadError), s.dev.boot.synian = true ∧ s.dev.boot.bootok = false ∧ s.dev.pwr.state =
      .starting ∧ s.dev.expired .bootok (2 * 10 ^ 9) = true ∧ (s.dev.boot.failed ≠ [] ∨ err ≠ .none) :=
  ⟨mk { boot.synian := true, pwr.state := .starting, core.armed := [(.bootok, 0)], core.ltc := [(0, 2000000000000000)] }, .header, by decide +kernel⟩

theorem witness_start_up_proceeds_or_stops_4_0 :
    ∃ (s : State) (t1 t2 : Bool) (n : BitVec 16), s.dev.pwr.state = .starting ∧ s.dev.boot.bootok = true ∧
      s.dev.modRuns = true ∧ t1 = true ∧ t2 = true :=
  ⟨mk { boot.bootok := true, pwr.state := .starting }, true, true, 0, by decide +kernel⟩

theorem witness_images_measurements_and_quotes_4_2 :
    ∃ (s : State) (u : Update), s.dev.boot.upd = some u ∧ u.result = 1 :=
  ⟨mk { boot.upd := some { result := 1, slot := 1 } }, { result := 1, slot := 1 }, by decide +kernel⟩

theorem witness_images_measurements_and_quotes_4_1 :
    ∃ (s : State) (u : Update), s.dev.boot.upd = some u ∧ u.result = 1 ∧ u.slot < 2 ∧ s.dev.flashRefused (slotBase
      u.slot) slotLen = false :=
  ⟨mk { boot.upd := some { result := 1, slot := 1 } }, { result := 1, slot := 1 }, by decide +kernel⟩

theorem witness_images_measurements_and_quotes_3_0 :
    ∃ (s : State), s.dev.boot.upd = none ∧ s.dev.boot.synian = true ∧ s.dev.busyUnits = [] ∧ s.dev.rangeOk (join
      (s.dev.reg (secReg 0x20)) (s.dev.reg (secReg 0x24))) (s.dev.reg (secReg 0x28)).toNat = false :=
  ⟨mk ((({ boot.synian := true } : Device).setReg (secReg 0x24) 0xF0000).setReg (secReg 0x28) 1), by decide +kernel⟩

theorem witness_images_measurements_and_quotes_4_0 :
    ∃ (s : State) (u : Update) (ok : Bool), s.dev.boot.upd = some u ∧ s.dev.flashRefused (slotBase u.slot) slotLen =
      true :=
  ⟨mk { boot.upd := some { result := 1, slot := 1 }, boot.synian := true, boot.slot := 1 }, { result := 1, slot := 1 }, true, by decide +kernel⟩

theorem witness_images_measurements_and_quotes_4_3 :
    ∃ (s : State) (u : Update), s.dev.boot.upd = some u ∧ u.result ≠ 1 ∧ u.result < 16 ∧ u.result ≠ 5 :=
  ⟨mk { boot.upd := some { result := 15 } }, { result := 15 }, by decide +kernel⟩

theorem witness_images_measurements_and_quotes_5_0 :
    ∃ (s : State) (i : Nat), i = fld (s.dev.reg (secReg 0x10)) 23 0 ∧ s.dev.busyUnits = [] ∧ s.dev.hostOpen = true :=
  by
  exact ⟨mk { hif.memEn := true }, _, rfl, by decide +kernel, by decide +kernel⟩

theorem witness_images_measurements_and_quotes_5_1 :
    ∃ (s : State) (i : Nat), i = fld (s.dev.reg (secReg 0x10)) 23 0 ∧ s.dev.busyUnits = [] ∧ s.dev.hostOpen = false :=
  by
  exact ⟨mk {}, _, rfl, by decide +kernel, by decide +kernel⟩

theorem witness_hangs_latch_a_snapshot_0_1 :
    ∃ (s : State) (w : Nat), slotOk w = true ∧ s.dev.armed w = true ∧ mget false s.dev.ras.fired w = false ∧
      s.dev.paused w = false ∧ s.dev.expired (.hang w (mget 0 s.dev.ras.prog w)) (1000 * (s.dev.period w).toNat) =
      true ∧ w ∉ s.dev.ras.stopped ∧ (∀ l b, mget none s.dev.ras.hung w = some (l, b) → b + 10 ^ 9 < s.dev.time 0) :=
  by
  exact ⟨mk { core.queues := [(516, [cm putW])], core.armed := [(.hang 27 0, 0)], core.ltc := [(0, 10 ^ 18)] }, 27, by decide +kernel, by decide +kernel, by decide +kernel,
    by decide +kernel, by decide +kernel, by decide +kernel, fun l b h => nomatch (show (none : Option (Nat × Nat)) = some (l, b) from h)⟩

theorem witness_hangs_latch_a_snapshot_5_1 :
    ∃ (s : State) (w : Nat) (us fs ws : List Nat) (l : List (List Byte)) (trunc : Bool), s.dev.ras.snapw = some w ∧
      l = (if s.dev.dumpRoom = 0 then [] else fitSections (s.dev.dumpRoom - 64) (s.collected us fs ws)) ∧ (trunc =
      decide (s.dev.dumpRoom = 0 ∨ l.length ≠ (us.zip (fs.zip ws)).length)) ∧ s.dev.busyUnits = [] ∧ s.dev.dumpRoom ≠
      0 :=
  by
  exact ⟨mk (({ ras.snapw := some 27 } : Device).setReg (rasReg 0x34) 0x80040000 |>.setReg (rasReg 0x38) 1), 27, [], [], [], _, _, by decide +kernel, rfl, rfl, by decide +kernel, by decide +kernel⟩

theorem witness_hangs_latch_a_snapshot_5_3 :
    ∃ (s : State) (w : Nat) (us fs ws : List Nat) (l : List (List Byte)) (trunc : Bool), s.dev.ras.snapw = some w ∧
      l = (if s.dev.dumpRoom = 0 then [] else fitSections (s.dev.dumpRoom - 64) (s.collected us fs ws)) ∧ (trunc =
      decide (s.dev.dumpRoom = 0 ∨ l.length ≠ (us.zip (fs.zip ws)).length)) ∧ s.dev.busyUnits = [] ∧ mget none
      s.dev.ras.owed w = none :=
  by
  exact ⟨mk ({ ras.snapw := some 27 }), 27, [], [], [], _, _, by decide +kernel, rfl, rfl, by decide +kernel, by decide +kernel⟩

theorem witness_hangs_latch_a_snapshot_0_0 :
    ∃ (s : State) (w : Nat), slotOk w = true ∧ s.dev.armed w = true ∧ mget false s.dev.ras.fired w = false ∧
      s.dev.paused w = false ∧ s.dev.expired (.hang w (mget 0 s.dev.ras.prog w)) (1000 * (s.dev.period w).toNat) =
      true ∧ w ∈ s.dev.ras.stopped :=
  ⟨mk { core.queues := [(516, [cm putW])], core.armed := [(.hang 27 0, 0)], core.ltc := [(0, 10 ^ 18)], ras.stopped := [27] }, 27, by decide +kernel⟩

theorem witness_hangs_latch_a_snapshot_5_0 :
    ∃ (s : State) (w : Nat) (us fs ws : List Nat) (l : List (List Byte)) (trunc : Bool), s.dev.ras.snapw = some w ∧
      l = (if s.dev.dumpRoom = 0 then [] else fitSections (s.dev.dumpRoom - 64) (s.collected us fs ws)) ∧ (trunc =
      decide (s.dev.dumpRoom = 0 ∨ l.length ≠ (us.zip (fs.zip ws)).length)) ∧ s.dev.busyUnits = [] ∧ s.dev.dumpRoom =
      0 :=
  by
  exact ⟨mk ({ ras.snapw := some 27 }), 27, [], [], [], _, _, by decide +kernel, rfl, rfl, by decide +kernel, by decide +kernel⟩

theorem witness_hangs_latch_a_snapshot_5_2 :
    ∃ (s : State) (w : Nat) (us fs ws : List Nat) (l : List (List Byte)) (trunc : Bool) (x : _), s.dev.ras.snapw =
      some w ∧ l = (if s.dev.dumpRoom = 0 then [] else fitSections (s.dev.dumpRoom - 64) (s.collected us fs ws)) ∧
      (trunc = decide (s.dev.dumpRoom = 0 ∨ l.length ≠ (us.zip (fs.zip ws)).length)) ∧ s.dev.busyUnits = [] ∧ mget
      none s.dev.ras.owed w = some x :=
  by
  exact ⟨mk ({ ras.snapw := some 27, ras.owed := [(27, some 1)] }), 27, [], [], [], _, _, 1, by decide +kernel, rfl, rfl, by decide +kernel, by decide +kernel⟩

theorem witness_hangs_latch_a_snapshot_0_2 :
    ∃ (s : State) (w : Nat) (l : _) (b : _), slotOk w = true ∧ s.dev.armed w = true ∧ mget false s.dev.ras.fired w =
      false ∧ s.dev.paused w = false ∧ s.dev.expired (.hang w (mget 0 s.dev.ras.prog w)) (1000 * (s.dev.period
      w).toNat) = true ∧ w ∉ s.dev.ras.stopped ∧ mget none s.dev.ras.hung w = some (l, b) ∧ s.dev.time 0 ≤ b + 10 ^ 9 :=
  ⟨mk { core.queues := [(516, [cm putW])], core.armed := [(.hang 27 0, 0)], core.ltc := [(0, 10 ^ 18)], ras.hung := [(27, some (1, 10 ^ 15))] }, 27, 1, 10 ^ 15, by decide +kernel⟩

theorem witness_hangs_latch_a_snapshot_0_3 :
    ∃ (s : State) (w : Nat), slotOk w = true ∧ s.dev.armed w = true ∧ mget false s.dev.ras.fired w = false ∧
      s.dev.paused w = false ∧ s.dev.expired (.hang w (mget 0 s.dev.ras.prog w)) (1000 * (s.dev.period w).toNat) =
      true ∧ s.dev.ras.snapw = none :=
  ⟨mk { core.queues := [(516, [cm putW])], core.armed := [(.hang 27 0, 0)], core.ltc := [(0, 10 ^ 18)] }, 27, by decide +kernel⟩

theorem witness_hangs_latch_a_snapshot_0_4 :
    ∃ (s : State) (w : Nat), slotOk w = true ∧ s.dev.armed w = true ∧ mget false s.dev.ras.fired w = false ∧
      s.dev.paused w = false ∧ s.dev.expired (.hang w (mget 0 s.dev.ras.prog w)) (1000 * (s.dev.period w).toNat) =
      true ∧ s.dev.ras.snapw ≠ none :=
  ⟨mk { core.queues := [(516, [cm putW])], ras.snapw := some 3, core.armed := [(.hang 27 0, 0)], core.ltc := [(0, 10 ^ 18)] }, 27, by decide +kernel⟩

theorem witness_hangs_latch_a_snapshot_5_4 :
    ∃ (s : State) (w : Nat) (us fs ws : List Nat) (l : List (List Byte)) (trunc : Bool), s.dev.ras.snapw = some w ∧
      l = (if s.dev.dumpRoom = 0 then [] else fitSections (s.dev.dumpRoom - 64) (s.collected us fs ws)) ∧ (trunc =
      decide (s.dev.dumpRoom = 0 ∨ l.length ≠ (us.zip (fs.zip ws)).length)) ∧ s.dev.busyUnits = [] ∧ s.dev.ras.pend =
      [] :=
  by
  exact ⟨mk ({ ras.snapw := some 27 }), 27, [], [], [], _, _, by decide +kernel, rfl, rfl, by decide +kernel, by decide +kernel⟩

theorem witness_hangs_latch_a_snapshot_5_5 :
    ∃ (s : State) (w : Nat) (us fs ws : List Nat) (l : List (List Byte)) (trunc : Bool) (v : _) (m : _),
      s.dev.ras.snapw = some w ∧ l = (if s.dev.dumpRoom = 0 then [] else fitSections (s.dev.dumpRoom - 64)
      (s.collected us fs ws)) ∧ (trunc = decide (s.dev.dumpRoom = 0 ∨ l.length ≠ (us.zip (fs.zip ws)).length)) ∧
      s.dev.busyUnits = [] ∧ s.dev.ras.pend = v :: m :=
  by
  exact ⟨mk ({ ras.snapw := some 27, ras.pend := [3] }), 27, [], [], [], _, _, 3, [], by decide +kernel, rfl, rfl, by decide +kernel, by decide +kernel⟩

theorem witness_hangs_latch_a_snapshot_6 :
    ∃ (s : State) (us fs ws : List Nat), s.dev.ras.snapw = none ∧ s.dev.busyUnits = [] :=
  ⟨mk {}, [], [], [], by decide +kernel⟩

theorem witness_hangs_latch_a_snapshot_8_0 :
    ∃ (x : Device) (nr : Bool) (unit index n : Nat), nr = true :=
  ⟨{}, true, 0x11105001, 0, 3, by decide +kernel⟩

theorem witness_hangs_latch_a_snapshot_8_1 :
    ∃ (x : Device) (nr : Bool) (unit index n : Nat) (i : _), nr = false ∧ i < n :=
  ⟨{}, false, 0x11105001, 0, 3, 2, by decide +kernel⟩

theorem witness_hangs_latch_a_snapshot_7_0 :
    ∃ (room : Nat) (l : List (List Byte)), l.flatten.length ≤ room :=
  ⟨1024, [], by decide +kernel⟩

theorem witness_resets_start_and_end_0_1 :
    ∃ (i : Instr) (r : Reset) (s : State) (x : _), ((∃ w, i = .groupReset w ∧ r = { level := 0, target := w } ∧ w <
      256 ∧ (w % 64 < 25 ∨ (30 ≤ w % 64 ∧ w % 64 < 36))) ∨ (∃ d, i = .dieReset .synian d ∧ r = { level := 1, target :=
      d.val }) ∨ i = .moduleReset .synian ∧ r = { level := 2 } ∨ i = .moduleReset .watchdog ∧ r = { level := 2, src :=
      .watchdog }) ∧ s.dev.busyUnits = [] ∧ s.dev.ras.run = some x ∧ (∃ y ∈ x :: s.dev.ras.queue, y.encloses r = true) :=
  by
  exact ⟨.groupReset 227, { level := 0, target := 227 }, mk { ras.run := some { level := 2 } }, { level := 2 },
    Or.inl ⟨227, rfl, rfl, by decide, by decide⟩, by decide +kernel, rfl, by decide +kernel⟩

theorem witness_resets_start_and_end_0_2 :
    ∃ (i : Instr) (r : Reset) (s : State) (x : _), ((∃ w, i = .groupReset w ∧ r = { level := 0, target := w } ∧ w <
      256 ∧ (w % 64 < 25 ∨ (30 ≤ w % 64 ∧ w % 64 < 36))) ∨ (∃ d, i = .dieReset .synian d ∧ r = { level := 1, target :=
      d.val }) ∨ i = .moduleReset .synian ∧ r = { level := 2 } ∨ i = .moduleReset .watchdog ∧ r = { level := 2, src :=
      .watchdog }) ∧ s.dev.busyUnits = [] ∧ s.dev.ras.run = some x ∧ (∀ y ∈ x :: s.dev.ras.queue, y.encloses r =
      false) :=
  by
  exact ⟨.dieReset .synian 3, { level := 1, target := 3 }, mk { ras.run := some { level := 1, target := 2 } }, { level := 1, target := 2 },
    Or.inr (Or.inl ⟨3, rfl, rfl⟩), by decide +kernel, rfl, by decide +kernel⟩

theorem witness_resets_start_and_end_3_2 :
    ∃ (s : State) (r : Reset), s.dev.ras.run = some r ∧ s.dev.ras.queue = [] ∧ r.key ∈ s.dev.ras.fence ∧ r.level < 3
      ∧ (r.level = 1 → r.target < 4) ∧ (r.level = 0 → r.target < 256) ∧ (r.level = 2 → r.target = 0) ∧ r.level = 2 :=
  ⟨mk { ras.run := some { level := 2 }, ras.fence := [2000] }, { level := 2 }, by decide +kernel⟩

theorem witness_resets_start_and_end_3_3 :
    ∃ (s : State) (r : Reset), s.dev.ras.run = some r ∧ s.dev.ras.queue = [] ∧ r.key ∈ s.dev.ras.fence ∧ r.level < 3
      ∧ (r.level = 1 → r.target < 4) ∧ (r.level = 0 → r.target < 256) ∧ (r.level = 2 → r.target = 0) ∧ r.level < 2 :=
  ⟨mk { ras.run := some { level := 1, target := 3 }, ras.fence := [1003] }, { level := 1, target := 3 }, by decide +kernel⟩

theorem witness_resets_start_and_end_0_0 :
    ∃ (i : Instr) (r : Reset) (s : State), ((∃ w, i = .groupReset w ∧ r = { level := 0, target := w } ∧ w < 256 ∧ (w
      % 64 < 25 ∨ (30 ≤ w % 64 ∧ w % 64 < 36))) ∨ (∃ d, i = .dieReset .synian d ∧ r = { level := 1, target := d.val })
      ∨ i = .moduleReset .synian ∧ r = { level := 2 } ∨ i = .moduleReset .watchdog ∧ r = { level := 2, src :=
      .watchdog }) ∧ s.dev.busyUnits = [] ∧ s.dev.ras.run = none :=
  by
  exact ⟨.groupReset 227, { level := 0, target := 227 }, mk {}, Or.inl ⟨227, rfl, rfl, by decide, by decide⟩, by decide +kernel, by decide +kernel⟩

theorem witness_resets_start_and_end_3_1 :
    ∃ (s : State) (r : Reset) (w : _), s.dev.ras.run = some r ∧ s.dev.ras.queue = [] ∧ r.key ∈ s.dev.ras.fence ∧
      r.level < 3 ∧ (r.level = 1 → r.target < 4) ∧ (r.level = 0 → r.target < 256) ∧ (r.level = 2 → r.target = 0) ∧ w <
      263 ∧ slotOk w = true ∧ r.holds w = true ∧ mget false s.dev.ras.fired w = true :=
  ⟨mk { ras.run := some { level := 1, target := 3 }, ras.fence := [1003], ras.fired := [(199, true)] }, { level := 1, target := 3 }, 199, by decide +kernel⟩

theorem witness_resets_start_and_end_1_0 :
    ∃ (s : State) (d : Fin 4), s.dev.busyUnits = [] ∧ s.dev.hostOpen = false :=
  ⟨mk {}, 0, by decide +kernel⟩

theorem witness_resets_start_and_end_1_1 :
    ∃ (s : State) (d : Fin 4), s.dev.busyUnits = [] ∧ s.dev.hostOpen = true ∧ s.dev.ras.run = none :=
  ⟨mk { hif.memEn := true }, 0, by decide +kernel⟩

theorem witness_resets_start_and_end_1 :
    ∃ (s : State) (d : Fin 4), s.dev.busyUnits = [] :=
  ⟨mk {}, 0, by decide +kernel⟩

theorem witness_resets_start_and_end_3_0 :
    ∃ (s : State) (r : Reset) (w : _), s.dev.ras.run = some r ∧ s.dev.ras.queue = [] ∧ r.key ∈ s.dev.ras.fence ∧
      r.level < 3 ∧ (r.level = 1 → r.target < 4) ∧ (r.level = 0 → r.target < 256) ∧ (r.level = 2 → r.target = 0) ∧
      r.holds w = true :=
  ⟨mk { ras.run := some { level := 1, target := 3 }, ras.fence := [1003] }, { level := 1, target := 3 }, 199, by decide +kernel⟩

theorem witness_resets_start_and_end_3_4 :
    ∃ (s : State) (r : Reset), s.dev.ras.run = some r ∧ s.dev.ras.queue = [] ∧ r.key ∈ s.dev.ras.fence ∧ r.level < 3
      ∧ (r.level = 1 → r.target < 4) ∧ (r.level = 0 → r.target < 256) ∧ (r.level = 2 → r.target = 0) ∧ r.level = 1 :=
  ⟨mk { ras.run := some { level := 1, target := 3 }, ras.fence := [1003] }, { level := 1, target := 3 }, by decide +kernel⟩

theorem witness_management_core_and_repairs_5_1 :
    ∃ (s : State) (ls : List Word) (ep : BitVec 4) (r : Repairing) (a : _), s.dev.ras.repair = some r ∧ r.result ≠ 0
      ∧ (∀ x ∈ r.regions, ∀ i, i < x.2 → canonAddr a ≠ canonAddr (x.1 + i)) :=
  by
  exact ⟨mk { ras.repair := some { result := 4, regions := [(0, 4)] } }, [1, 2, 3, 4], 0, { result := 4, regions := [(0, 4)] }, 4, rfl, by decide, by decide +kernel⟩

theorem witness_management_core_and_repairs_2_0 :
    ∃ (s : State) (err : ReadError), s.dev.boot.bootok = true ∧ (s.dev.pwr.state = .starting ∨ s.dev.pwr.state =
      .ready) ∧ s.dev.ras.kick + 10 ^ 9 ≤ s.dev.time 0 ∧ s.dev.ras.run = none ∧ s.dev.ras.snapw = none :=
  ⟨mk { boot.bootok := true, pwr.state := .ready, core.ltc := [(0, 1000000000000000)] }, .none, by decide +kernel⟩

theorem witness_management_core_and_repairs_5_0 :
    ∃ (s : State) (ls : List Word) (ep : BitVec 4) (r : Repairing), s.dev.ras.repair = some r ∧ r.result ≠ 0 ∧
      r.result = 1 :=
  ⟨mk { ras.repair := some { result := 1 } }, [1, 2, 3, 4], 0, { result := 1 }, by decide +kernel⟩

theorem witness_management_core_and_repairs_2_1 :
    ∃ (s : State) (err : ReadError), s.dev.boot.bootok = true ∧ (s.dev.pwr.state = .starting ∨ s.dev.pwr.state =
      .ready) ∧ s.dev.ras.kick + 10 ^ 9 ≤ s.dev.time 0 ∧ s.dev.ras.run = none ∧ s.dev.ras.snapw ≠ none :=
  ⟨mk { boot.bootok := true, pwr.state := .ready, core.ltc := [(0, 1000000000000000)], ras.snapw := some 5 }, .none, by decide +kernel⟩

theorem witness_management_core_and_repairs_2_2 :
    ∃ (s : State) (err : ReadError), s.dev.boot.bootok = true ∧ (s.dev.pwr.state = .starting ∨ s.dev.pwr.state =
      .ready) ∧ s.dev.ras.kick + 10 ^ 9 ≤ s.dev.time 0 ∧ s.dev.ras.run = none ∧ err ≠ .none :=
  ⟨mk { boot.bootok := true, pwr.state := .ready, core.ltc := [(0, 1000000000000000)] }, .body, by decide +kernel⟩

theorem witness_management_core_and_repairs_5_3 :
    ∃ (s : State) (ls : List Word) (ep : BitVec 4) (r : Repairing), s.dev.ras.repair = some r ∧ r.result ≠ 0 ∧
      r.result ≠ 1 :=
  ⟨mk { ras.repair := some { result := 2 } }, [1, 2, 3, 4], 0, { result := 2 }, by decide +kernel⟩

theorem witness_management_core_and_repairs_5_2 :
    ∃ (s : State) (ls : List Word) (ep : BitVec 4) (r : Repairing) (die : _), s.dev.ras.repair = some r ∧ r.result ≠
      0 ∧ r.result = 1 ∧ r.source ≠ s.dev.selfMod ∧ die < 4 :=
  ⟨mk { ras.repair := some { result := 1, source := 7 } }, [1, 2, 3, 4], 0, { result := 1, source := 7 }, 3, by decide +kernel⟩

theorem witness_power_is_lost_and_warned_5_1 :
    ∃ (s : State) (ms : Nat) (op : Bool), s.dev.pwr.state = .shutdown ∧ ms < 1000 ∧ op = false :=
  ⟨mk { pwr.state := .shutdown }, 999, false, by decide +kernel⟩

theorem witness_power_is_lost_and_warned_5_0 :
    ∃ (s : State) (ms : Nat) (op : Bool), s.dev.pwr.state = .shutdown ∧ (1000 ≤ ms ∨ op = true) :=
  ⟨mk { pwr.state := .shutdown }, 1000, false, by decide +kernel⟩

theorem witness_power_is_lost_and_warned_0_0 :
    ∃ (i : Instr) (s : State) (st : PowerState), ((i = .lossOfPower ∧ s.dev.pwr.state ≠ .shutdown ∧ st = .off) ∨ (∃
      (k : Fin 5) (x : Fin 64) (v : BitVec 16) (y : Int), i = .thermalShutdown k x v ∧ s.dev.powered = true ∧ x.val <
      sensorCount k.val ∧ shutAt k.val = some y ∧ y ≤ v.toInt ∧ st = .shutdown)) ∧ s.dev.boot.prog = none ∧
      s.dev.boot.upd = none :=
  by
  exact ⟨.thermalShutdown 0 63 1150, mk { pwr.state := .ready }, .shutdown, Or.inr ⟨0, 63, 1150, 1150, rfl, by decide +kernel, by decide +kernel,
    by decide +kernel, by decide +kernel, rfl⟩, by decide +kernel⟩

theorem witness_accesses_wait_and_meet_the_coder_0 :
    ∃ (i : Instr) (s : State) (u : Nat), ((∃ d k, i = .tileLanding d k) ∨ (∃ d, i = .stashCommandComplete d) ∨ (∃ d
      n, i = .recordFetch d n) ∨ (∃ d n, i = .crcCheck d n) ∨ (∃ d n f, i = .burst d n f) ∨ (∃ d n k, i =
      .writeArrival d n k) ∨ (∃ g k, i = .tileMoveArrival g k) ∨ (∃ n c b w, i = .tier1PatrolScrub n c b w) ∨ (∃ d f,
      i = .quant d f) ∨ (∃ d f, i = .stepgate d f) ∨ (∃ d f, i = .rdrv d f) ∨ (∃ d f, i = .digest d f) ∨ (∃ d f, i =
      .pack d f) ∨ (∃ m l f, i = .masterLineUpdate m l f) ∨ i = .ingestJob ∨ (∃ d f, i = .sampleStart d f) ∨ i =
      .sampleCommit ∨ (∃ d, i = .decodeTimeout d) ∨ (∃ p, i = .wr p) ∨ (∃ p, i = .rd p) ∨ (∃ p, i = .drd p) ∨ (∃ p, i
      = .rdr p) ∨ i = .peerRequest ∨ (∃ d, i = .reduceScatter d) ∨ (∃ d, i = .allGather d) ∨ (∃ d, i = .allReduce d) ∨
      (∃ p x, i = .colReduce p x) ∨ (∃ p x, i = .colGather p x) ∨ (∃ p, i = .colClose p) ∨ (∃ d, i = .sealExpiry d) ∨
      (∃ w o x l p, i = .apertureAccess w o x l p) ∨ i = .offerUpdate ∨ (∃ a o w v p, i = .registerWrite a o w v p) ∨
      (∃ p t x, i = .release p t x) ∨ (∃ x m, i = .repair x m) ∨ (∃ t, i = .e2eTimeout t) ∨ (∃ g k, i = .tierMoveFault
      g k) ∨ (∃ x d, i = .dieReset x d) ∨ (∃ x, i = .moduleReset x) ∨ (∃ d r, i = .ctlLtcLoRead d r) ∨ fromHost i =
      true) ∧ s.heldBy (s.dev.accessOf i) (ordinaryEffect i) [] = some u :=
  by
  refine ⟨.writeArrival 0 0 0, mk { (({} : Device).setChan 0 0 { writes := [{ dst := 4 * 2 ^ 48, data := some [(1, false)], len := 1 }] }) with slip := { byStack := [(0, { run := some { mems := [(0, {})] } })] } }, 0, ?_, ?_⟩
  · exact .inr (.inr (.inr (.inr (.inr (.inl ⟨0, 0, 0, rfl⟩)))))
  · decide +kernel

theorem witness_accesses_wait_and_meet_the_coder_2 :
    ∃ (d : Device) (h : Held), (h.what.isHost = true ∨ d.slip.held.any (fun x => x.what == h.what) = false) :=
  ⟨{}, { unit := 0, what := .cmd .ingestJob }, by decide +kernel⟩

theorem witness_accesses_wait_and_meet_the_coder_3 :
    ∃ (d : Device) (h : Held), h.what.isHost = false ∧ d.slip.held.any (fun x => x.what == h.what) = true :=
  ⟨{ slip := { held := [{ unit := 1, what := .cmd .ingestJob }] } }, { unit := 0, what := .cmd .ingestJob }, by decide +kernel⟩

theorem witness_accesses_wait_and_meet_the_coder_4 :
    ∃ (d : Device) (n u : Nat) (r : SlipRun) (m : SlipMem), (d.slipStack n).run = some r ∧ r.mem u = some m ∧ m.done
      = false :=
  ⟨{ slip := { byStack := [(0, { run := some { mems := [(0, {})] } })] } }, 0, 0, { mems := [(0, {})] }, {}, by decide +kernel⟩

theorem witness_accesses_wait_and_meet_the_coder_5 :
    ∃ (d : Device) (a u : Nat) (l : List PByte), d.core.watch = some [] ∧ d.memHeld a = false ∧ regionOf a = 5 ∧ l ≠
      [] ∧ u ∈ d.busyUnits ∧ a / 2 ^ 36 % 8 = u / 512 ∧ a / 2 ^ 31 % 32 = u % 512 / 16 ∧ a / 2 ^ 27 % 16 = u % 16 :=
  ⟨{ slip := { byStack := [(0, { run := some { mems := [(0, {})] } })] }, core.watch := some [] }, 5 * 2 ^ 48, 0, [(1, false)], by decide +kernel⟩

theorem witness_accesses_wait_and_meet_the_coder_6 :
    ∃ (s : State) (n : Fin 8) (u : Fin 512), s.dev.slip.held.filter (fun h => h.unit == n.val * 512 + u.val) = [] :=
  ⟨mk {}, 7, 511, by decide +kernel⟩

theorem witness_accesses_wait_and_meet_the_coder_7 :
    ∃ (s s0 : State) (n : Fin 8) (u : Fin 512) (h : Held), s.dev.slip.held.filter (fun h => h.unit == n.val * 512 +
      u.val) = [h] ∧ s0 = s.withDev { s.dev with slip.held := s.dev.slip.held.filter (fun h => h.unit != n.val * 512 +
      u.val) } :=
  ⟨mk { slip := { held := [{ unit := 0, what := .cmd .ingestJob }] } }, mk {}, 0, 0, { unit := 0, what := .cmd .ingestJob }, by decide +kernel⟩

theorem witness_accesses_wait_and_meet_the_coder_7_0 :
    ∃ (s s0 : State) (n : Fin 8) (u : Fin 512) (h : Held), s.dev.slip.held.filter (fun h => h.unit == n.val * 512 +
      u.val) = [h] ∧ s0 = s.withDev { s.dev with slip.held := s.dev.slip.held.filter (fun h => h.unit != n.val * 512 +
      u.val) } ∧ s0.heldBy h.what (accessEffect h.what) (h.unit :: h.passed) = none :=
  ⟨mk { slip := { held := [{ unit := 0, what := .cmd .ingestJob }] } }, mk {}, 0, 0, { unit := 0, what := .cmd .ingestJob }, by decide +kernel⟩

theorem witness_accesses_wait_and_meet_the_coder_7_1 :
    ∃ (s s0 : State) (n : Fin 8) (u : Fin 512) (h : Held) (v : _), s.dev.slip.held.filter (fun h => h.unit == n.val
      * 512 + u.val) = [h] ∧ s0 = s.withDev { s.dev with slip.held := s.dev.slip.held.filter (fun h => h.unit != n.val
      * 512 + u.val) } ∧ s0.heldBy h.what (accessEffect h.what) (h.unit :: h.passed) = some v :=
  by
  refine ⟨mk { (({} : Device).setChan 0 0 { writes := [{ dst := 5 * 2 ^ 48 + 2 ^ 27, data := some [(1, false)], len := 1 }] }) with
      slip := { byStack := [(0, { run := some { mems := [(1, {})] } })], held := [{ unit := 0, what := .dmaWrite 0 0 0 }] } },
    mk { (({} : Device).setChan 0 0 { writes := [{ dst := 5 * 2 ^ 48 + 2 ^ 27, data := some [(1, false)], len := 1 }] }) with
      slip := { byStack := [(0, { run := some { mems := [(1, {})] } })] } }, 0, 0, { unit := 0, what := .dmaWrite 0 0 0 }, 1, ?_, ?_, ?_⟩ <;> decide +kernel

theorem witness_accesses_wait_and_meet_the_coder_8 :
    ∃ (s s0 : State) (n : Fin 8) (u : Fin 512) (h g : Held), s.dev.slip.held.filter (fun h => h.unit == n.val * 512
      + u.val) = [h, g] ∧ s0 = s.withDev { s.dev with slip.held := s.dev.slip.held.filter (fun h => h.unit != n.val *
      512 + u.val) } ∧ s0.dev.busyUnits = [] ∧ (accessEffect h.what s0).dev.busyUnits = [] :=
  ⟨mk { slip := { held := [{ unit := 0, what := .cmd .ingestJob }, { unit := 0, what := .dmaWrite 0 0 0 }] } }, mk {}, 0, 0, { unit := 0, what := .cmd .ingestJob }, { unit := 0, what := .dmaWrite 0 0 0 }, by decide +kernel⟩

theorem witness_accesses_wait_and_meet_the_coder_9 :
    ∃ (s : State) (ch : Fin 8) (line a : Nat), a = 8 * 2 ^ 48 + (line / 64 * 512 + ch.val * 64 + line % 64) * 64 ∧
      s.dev.rangeOk a 64 = true ∧ s.dev.modRuns = true :=
  ⟨mk {}, 7, 0xFFFFFFF, 8 * 2 ^ 48 + (0xFFFFFFF / 64 * 512 + 7 * 64 + 0xFFFFFFF % 64) * 64, by decide +kernel⟩

theorem witness_accesses_wait_and_meet_the_coder_10 :
    ∃ (s : State) (sn : Fin 8) (ch : Fin 32) (bank : Fin 16) (word u : Nat), u = ch.val * 16 + bank.val ∧
      s.dev.busyUnits = [] ∧ s.dev.modRuns = true ∧ word < 3145728 :=
  ⟨mk {}, 7, 31, 15, 3145727, 511, by decide +kernel⟩

theorem witness_accesses_wait_and_meet_the_coder_12 :
    ∃ (x : Scrub) (now i n h : Nat), x.on = true :=
  ⟨{ on := true }, 0, 5, 1, 24, by decide +kernel⟩

theorem witness_accesses_wait_and_meet_the_coder_13 :
    ∃ (x : Scrub) (now i n h t : Nat), x.on = false ∧ x.start = some t ∧ now < t + h * 3600 * 1000000000 :=
  by
  exact ⟨{ start := some 0 }, 3599999999999, 0, 1, 1, 0, by decide +kernel⟩

theorem witness_accesses_wait_and_meet_the_coder_14 :
    ∃ (d : Device) (a : Nat) (l : List Nat), regionOf a = 8 ∧ a % 64 = 0 ∧ d.core.flaws = [(poisonUnit a, l)] ∧
      d.coderSays (poisonUnit a) = .uncorrectable :=
  ⟨{ core.flaws := [(2 ^ 46, [0])], core.pois := [2 ^ 46] }, 8 * 2 ^ 48, [0], by decide +kernel⟩

theorem witness_accesses_wait_and_meet_the_coder_15 :
    ∃ (d : Device) (a : Nat) (l : List Nat), regionOf a = 8 ∧ a % 64 = 0 ∧ d.core.flaws = [(poisonUnit a, l)] ∧
      d.coderSays (poisonUnit a) = .corrected :=
  ⟨{ core.flaws := [(2 ^ 46, [0, 3])] }, 8 * 2 ^ 48, [0, 3], by decide +kernel⟩

theorem witness_accesses_wait_and_meet_the_coder_16 :
    ∃ (d : Device) (key : Nat), d.core.pois.contains key = true ∧ mget [] d.core.flaws key ≠ [] :=
  ⟨{ core.flaws := [(2 ^ 46, [0])], core.pois := [2 ^ 46] }, 2 ^ 46, by decide +kernel⟩

theorem witness_accesses_wait_and_meet_the_coder_12_1 :
    ∃ (x : Scrub) (now i n h : Nat), x.on = true ∧ i ∉ x.seen :=
  ⟨{ on := true }, 0, 5, 1, 24, by decide +kernel⟩

theorem witness_accesses_wait_and_meet_the_coder_12_0 :
    ∃ (x : Scrub) (now i n h : Nat), x.on = true ∧ i ∈ x.seen :=
  ⟨{ on := true, seen := [5] }, 0, 5, 1, 24, by decide +kernel⟩

theorem witness_accesses_wait_and_meet_the_coder_11_1 :
    ∃ (d : Device) (k i n hours a bytes : Nat), (mget {} d.tier.scrub k : Scrub).turn (d.time 0) i n (fld (d.reg
      hours) 7 0) = none :=
  ⟨{ tier.scrub := [(0, { start := some 0 })] }, 0, 0, 1, mreg 2 4, 0, 64, by decide +kernel⟩

theorem witness_accesses_wait_and_meet_the_coder_1 :
    ∃ (i : Instr) (s : State) (l : List Held) (h : Held), fromHost i = true ∧ s.dev.slip.held = l ++ [h] ∧
      h.what.isHost = true :=
  ⟨.hifEvheadWrite 5, mk { slip.held := [{ unit := 9, what := .cmd (.doorbell 0 0 1 false) }] }, [], { unit := 9, what := .cmd (.doorbell 0 0 1 false) }, by decide +kernel⟩

end Sys2Proof.Tests
end

section
/-! Writes of ring registers, doorbells and sync counters, and a stream resumed (O21). -/

namespace Sys2Proof.Machine

/-! Fields and bits of a word: a read after a write. -/

/-- The field that was set reads as the value, cut to the field's width. -/
@[simp] theorem fld_setFld_self (w : Word) (hi lo v : Nat) (hlo : lo ≤ hi) (hhi : hi < 32) :
    fld (setFld w hi lo v) hi lo = v % 2 ^ (hi + 1 - lo) := by
  have hsplit : 2 ^ 32 = 2 ^ lo * (2 ^ (hi + 1 - lo) * 2 ^ (31 - hi)) := by
    rw [← pow_add, ← pow_add]; congr 1; omega
  have hw : w.toNat < 2 ^ 32 := w.isLt
  have hW : 0 < 2 ^ lo := Nat.two_pow_pos lo
  have hF : 0 < 2 ^ (hi + 1 - lo) := Nat.two_pow_pos _
  unfold fld setFld
  simp only [fld, BitVec.toNat_ofNat]
  generalize 2 ^ lo = W at *
  generalize 2 ^ (hi + 1 - lo) = F at *
  -- the word as the part above the field, the field, and the part below it
  have hword : w.toNat = W * (F * (w.toNat / W / F) + w.toNat / W % F) + w.toNat % W := by
    rw [Nat.div_add_mod, Nat.div_add_mod]
  have hnew : w.toNat - w.toNat / W % F * W + v % F * W = W * (F * (w.toNat / W / F) + v % F) + w.toNat % W := by
    conv_lhs => enter [1, 1]; rw [hword]
    rw [Nat.mul_add, Nat.mul_add, Nat.mul_comm (w.toNat / W % F) W, Nat.mul_comm (v % F) W]
    omega
  have habove : w.toNat / W / F < 2 ^ (31 - hi) := by
    rw [Nat.div_div_eq_div_mul, Nat.div_lt_iff_lt_mul (Nat.mul_pos hW hF)]
    rw [hsplit] at hw
    linarith
  have hfit : W * (F * (w.toNat / W / F) + v % F) + w.toNat % W < 2 ^ 32 := by
    have hr : w.toNat % W < W := Nat.mod_lt _ hW
    have hv : v % F < F := Nat.mod_lt v hF
    calc W * (F * (w.toNat / W / F) + v % F) + w.toNat % W
        < W * (F * (w.toNat / W / F) + v % F + 1) := by rw [Nat.mul_succ]; omega
      _ ≤ W * (F * (w.toNat / W / F + 1)) := Nat.mul_le_mul_left W (by rw [Nat.mul_succ]; omega)
      _ ≤ W * (F * 2 ^ (31 - hi)) := Nat.mul_le_mul_left W (Nat.mul_le_mul_left F habove)
      _ = 2 ^ 32 := hsplit.symm
  rw [hnew, Nat.mod_eq_of_lt hfit, Nat.mul_add_div hW, Nat.div_eq_of_lt (Nat.mod_lt _ hW), Nat.add_zero,
    Nat.mul_add_mod, Nat.mod_mod]

/-- A bit is a field of one bit. -/
theorem bit_eq_fld (w : Word) (n : Nat) : bit w n = (fld w n n == 1) := by
  simp [bit, fld]

/-- The bit that was set reads as the value. -/
@[simp] theorem bit_setBit_self (w : Word) (n : Nat) (b : Bool) (hn : n < 32) : bit (setBit w n b) n = b := by
  rw [bit_eq_fld, setBit, fld_setFld_self w n n _ le_rfl hn]
  cases b <;> simp

/-- A field's value fits its width. -/
theorem fld_mod_width (w : Word) (hi lo : Nat) : fld w hi lo % 2 ^ (hi + 1 - lo) = fld w hi lo := by
  simp [fld]

/-! The errors of the host interface (R419, R421). -/

/-- The error's bit of HIF_ERR is set, whether or not its event is posted. -/
theorem Device.reg_hifErr_self (d : Device) (n code : Nat) (data : Word) :
    (d.hifErr n code data).reg (mreg 5 4) = setBit (d.reg (mreg 5 4)) n true := by
  unfold Device.hifErr
  dsimp only
  split <;> simp

@[simp] theorem Device.aerLog_ctl (d : Device) (n : Nat) : (d.aerLog n).ctl = d.ctl := rfl
@[simp] theorem Device.reg_aerLog (d : Device) (n j : Nat) : (d.aerLog n).reg j = d.reg j := rfl

/-- A poisoned host write leaves the control core alone. -/
@[simp] theorem Device.poisonedWrite_ctl (d : Device) : d.poisonedWrite.ctl = d.ctl := by
  simp [Device.poisonedWrite]

/-- A poisoned host write sets HIF_ERR.PRXWR. -/
theorem Device.poisonedWrite_sets_prxwr (d : Device) : bit (d.poisonedWrite.reg (mreg 5 4)) 28 = true := by
  simp [Device.poisonedWrite, Device.reg_hifErr_self]

/-! Sync counters (R194). -/

/-- The counter written reads as the value modulo 2^16, every other one as before. -/
theorem Device.sync_putSync (d : Device) (die c v e k : Nat) :
    (d.putSync die c v).sync e k = if e * 256 + k = die * 256 + c then v % 2 ^ 16 else d.sync e k := by
  have hlatch : d.latchWaits.core.sync = d.core.sync := d.latchWaits_core_sync
  simp only [Device.sync, Device.putSync, mget_mset, hlatch]

/-- A die out of reset takes a write of its sync counters. -/
theorem Device.setSync_running (d : Device) (die c v : Nat) (h : d.dieInReset die = false) : d.setSync die c v = d.putSync die c v := by
  simp [Device.setSync, h]

/-- A host write reaches a die out of reset while BARs are served. -/
theorem Device.hostDieWrite_served (d : Device) (die : Nat) (f : Device → Device) (ho : d.hostOpen = true) (hr : d.dieInReset die = false) :
    d.hostDieWrite die f = f d := by
  simp [Device.hostDieWrite, ho, hr]

/-- A write that sets one counter: that counter reads as the value modulo 2^16, and the others as before. -/
theorem Device.sync_setSync (d : Device) (die c v : Nat) (h : d.dieInReset die = false) :
    (d.setSync die c v).sync die c = v % 2 ^ 16 ∧
      ∀ e k, e * 256 + k ≠ die * 256 + c → (d.setSync die c v).sync e k = d.sync e k := by
  rw [d.setSync_running die c v h]
  refine ⟨?_, fun e k hne => ?_⟩
  · rw [Device.sync_putSync, if_pos rfl]
  · rw [Device.sync_putSync, if_neg hne]

/-! Tails and heads of rings (R204, R420, R421). -/

/-- A tail within the ring is taken. -/
theorem Device.tailWrite_inside (d : Device) (die n : Nat) (v : Word) (hr : d.dieInReset die = false) (h : fld v 19 0 < d.ringSize die n) :
    d.tailWrite die n v = d.setStream die n ({ (d.stream die n) with tail := fld v 19 0 } : Stream).settle := by
  simp [Device.tailWrite, hr, Nat.not_le.mpr h]

/-- A tail beyond the ring is discarded, with HIF_ERR.DBRANGE and DOORBELL_INVALID. -/
theorem Device.tailWrite_beyond (d : Device) (die n : Nat) (v : Word) (hr : d.dieInReset die = false) (h : d.ringSize die n ≤ fld v 19 0) :
    d.tailWrite die n v = (d.hifErr 31 0 0).post 0x0803 uHif (wd ((8 * die + n) * 2 ^ 27 + fld v 19 0)) := by
  simp [Device.tailWrite, hr, h]

theorem devDoorbell_clean (die n : Nat) (v : Word) (d : Device) (ho : d.hostOpen = true) :
    devDoorbell die n v false d = d.tailWrite die n v := by
  simp [devDoorbell, ho]

theorem devDoorbell_poisoned (die n : Nat) (v : Word) (d : Device) (ho : d.hostOpen = true) :
    devDoorbell die n v true d = d.poisonedWrite := by
  simp [devDoorbell, ho]

/-- A doorbell that is discarded leaves the control core alone and sets its bit of HIF_ERR: PRXWR where it comes poisoned, DBRANGE
where it lies beyond the ring. -/
theorem devDoorbell_discarded (die n : Nat) (v : Word) (poison : Bool) (d : Device) (ho : d.hostOpen = true)
    (hr : d.dieInReset die = false) (h : poison = true ∨ d.ringSize die n ≤ fld v 19 0) :
    (devDoorbell die n v poison d).ctl = d.ctl ∧
      bit ((devDoorbell die n v poison d).reg (mreg 5 4)) (if poison then 28 else 31) = true := by
  cases poison with
  | true =>
    rw [devDoorbell_poisoned die n v d ho]
    exact ⟨d.poisonedWrite_ctl, d.poisonedWrite_sets_prxwr⟩
  | false =>
    have hbeyond : d.ringSize die n ≤ fld v 19 0 := h.resolve_left Bool.false_ne_true
    rw [devDoorbell_clean die n v d ho, d.tailWrite_beyond die n v hr hbeyond]
    exact ⟨by simp, by simp [Device.reg_hifErr_self]⟩

/-- The head of an idle or halted stream is rewritten within the ring. -/
theorem devCtlSheadWrite_taken (die n : Nat) (v : Word) (d : Device) (hr : d.dieInReset die = false)
    (hs : (d.stream die n).state = .idle ∨ (d.stream die n).state = .halted) (h : fld v 19 0 < d.ringSize die n) :
    devCtlSheadWrite die n v d =
      d.setStream die n ({ (d.stream die n) with head := fld v 19 0, ahead := none } : Stream).settle := by
  rcases hs with hs | hs <;> simp [devCtlSheadWrite, hr, hs, Nat.not_le.mpr h]

/-- A halted stream of a die out of reset runs on (R199). -/
theorem devStreamResume_halted (die n : Nat) (d : Device) (hs : (d.stream die n).state = .halted) (hr : d.dieInReset die = false) :
    devStreamResume die n d = d.setStream die n ({ (d.stream die n) with state := StreamState.run } : Stream).settle := by
  simp [devStreamResume, hs, hr]

/-! The commands: what they do to the device, those of the host while no unit of tier 1 holds an access. -/

theorem exec_streamResume (d : Fin 4) (n : Fin 8) (s : State) :
    exec (.streamResume d n) s = .next (s.withDev (devStreamResume d.val n.val s.dev)) := rfl

theorem exec_ctlSheadWrite (d : Fin 4) (n : Fin 8) (v : Word) (s : State) :
    exec (.ctlSheadWrite d n v) s = .next (s.withDev (devCtlSheadWrite d.val n.val v s.dev)) := rfl

theorem exec_doorbell_idle (d : Fin 4) (n : Fin 8) (v : Word) (poison : Bool) (s : State) (hb : s.dev.busyUnits = []) :
    exec (.doorbell d n v poison) s = .next (s.withDev (devDoorbell d.val n.val v poison s.dev)) :=
  ordinary_idle (.doorbell d n v poison) s hb

/-- CTL_SYNC_WRITE sets its counter to the value's low half. -/
theorem exec_ctlSyncWrite_served (d : Fin 4) (c : Fin 256) (v : Word) (s : State) (ho : s.dev.hostOpen = true)
    (hb : s.dev.busyUnits = []) (hr : s.dev.dieInReset d.val = false) :
    exec (.ctlSyncWrite d c v) s = .next (s.withDev (s.dev.setSync d.val c.val (fld v 15 0))) := by
  have hserved := s.dev.hostDieWrite_served d.val (devCtlSyncWrite d.val c.val v) ho hr
  calc exec (.ctlSyncWrite d c v) s
      = .next (s.withDev (s.dev.hostDieWrite d.val (devCtlSyncWrite d.val c.val v))) := ordinary_idle (.ctlSyncWrite d c v) s hb
    _ = .next (s.withDev (devCtlSyncWrite d.val c.val v s.dev)) := by rw [hserved]

/-- CTL_SYNCADD_WRITE adds the value's low half to its counter. -/
theorem exec_ctlSyncaddWrite_served (d : Fin 4) (c : Fin 256) (v : Word) (s : State) (ho : s.dev.hostOpen = true)
    (hb : s.dev.busyUnits = []) (hr : s.dev.dieInReset d.val = false) :
    exec (.ctlSyncaddWrite d c v) s =
      .next (s.withDev (s.dev.setSync d.val c.val (s.dev.sync d.val c.val + fld v 15 0))) := by
  have hserved := s.dev.hostDieWrite_served d.val (devCtlSyncaddWrite d.val c.val v) ho hr
  calc exec (.ctlSyncaddWrite d c v) s
      = .next (s.withDev (s.dev.hostDieWrite d.val (devCtlSyncaddWrite d.val c.val v))) := ordinary_idle (.ctlSyncaddWrite d c v) s hb
    _ = .next (s.withDev (devCtlSyncaddWrite d.val c.val v s.dev)) := by rw [hserved]

/-- Settles O21, command by command: each is its device function, which takes the branch that the clause's hypotheses name. -/
theorem ringAndCounterWrites : Obligations.RingAndCounterWrites := by
  refine ⟨?resume, ?doorbell, ?discarded, ?head, ?counters⟩
  case resume =>
    intro s d n hs hr
    rw [exec_streamResume, devStreamResume_halted d.val n.val s.dev hs hr]
  case doorbell =>
    intro s d n v ho hb hr h
    rw [exec_doorbell_idle d n v false s hb, devDoorbell_clean d.val n.val v s.dev ho, s.dev.tailWrite_inside d.val n.val v hr h]
  case discarded =>
    intro s d n v poison ho hb hr h
    exact ⟨_, exec_doorbell_idle d n v poison s hb, devDoorbell_discarded d.val n.val v poison s.dev ho hr h⟩
  case head =>
    intro s d n v hr hs h
    rw [exec_ctlSheadWrite, devCtlSheadWrite_taken d.val n.val v s.dev hr hs h]
  case counters =>
    intro s d c v ho hb hr
    have hset := s.dev.sync_setSync d.val c.val (fld v 15 0) hr
    rw [fld_mod_width v 15 0] at hset
    exact ⟨⟨_, exec_ctlSyncWrite_served d c v s ho hb hr, hset⟩,
      ⟨_, exec_ctlSyncaddWrite_served d c v s ho hb hr, s.dev.sync_setSync d.val c.val _ hr⟩⟩

end Sys2Proof.Machine
end

section
/-! SUPPORT. What the functions of the device leave of memory, the local time counters and the watch list (O4, O5, O6). A function that
stores nothing leaves the three as they were (`X_still`); one that stores keeps memory canonical, the counters, and an empty watch list
(`X_tame`). -/

namespace Sys2Proof.Machine

/-- What a command other than a store leaves alone: memory, the local time counters, and the units that an access tried in advance reaches. -/
structure Still where
  mem   : List Host.Cell
  ltc   : List (Nat × Nat)
  watch : Option (List Nat)

def Core.still (c : Core) : Still := ⟨c.mem, c.ltc, c.watch⟩
def Device.still (d : Device) : Still := d.core.still

@[simp] theorem Device.still_mk (core : Core) (kiln mvp sts vec ctl dma tier slip train ing fab col inj injw hif boot ras pwr out) :
    (Device.mk core kiln mvp sts vec ctl dma tier slip train ing fab col inj injw hif boot ras pwr out).still = core.still := by
  rfl

@[simp] theorem Core.still_mk (regs mem pois flaws cap queues opens nextCid nextOrd done sync ltc evq arb grg cePost crossed hourly now armed
    freeN watch) : (Core.mk regs mem pois flaws cap queues opens nextCid nextOrd done sync ltc evq arb grg cePost crossed hourly now armed
      freeN watch).still = ⟨mem, ltc, watch⟩ := by
  rfl

@[simp] theorem Device.core_still (d : Device) : d.core.still = d.still := by
  rfl

@[simp] theorem Core.still_eta (c : Core) : (⟨c.mem, c.ltc, c.watch⟩ : Still) = c.still := by
  rfl

@[simp] theorem Device.still_ite (c : Prop) [Decidable c] (a b : Device) : (if c then a else b).still = if c then a.still else b.still :=
  apply_ite Device.still c a b

@[simp] theorem foldl_still {α : Type} (f : Device → α → Device) (l : List α) (d : Device) (h : ∀ e x, (f e x).still = e.still) :
    (l.foldl f d).still = d.still := by
  induction l generalizing d with
  | nil => rfl
  | cons x l ih => exact (ih (f d x)).trans (h d x)

/-- From p to q memory stays canonical, the counters stand, and an empty watch list stays empty. -/
structure Tame (p q : Still) : Prop where
  mem   : Memory.wf p.mem → Memory.wf q.mem
  ltc   : q.ltc = p.ltc
  watch : p.watch = none → q.watch = none

@[simp] theorem Tame.refl (p : Still) : Tame p p := ⟨id, rfl, id⟩

theorem Tame.trans {p q r : Still} (h : Tame p q) (k : Tame q r) : Tame p r :=
  ⟨k.mem ∘ h.mem, k.ltc.trans h.ltc, k.watch ∘ h.watch⟩

theorem Tame.congr {p q r : Still} (h : Tame p q) (e : r = q) : Tame p r := e ▸ h

@[simp] theorem Tame.ite (p q r : Still) (c : Prop) [Decidable c] : Tame p (if c then q else r) ↔ (c → Tame p q) ∧ (¬c → Tame p r) := by
  split <;> simp_all

@[simp] theorem foldl_tame {α : Type} {p : Still} (f : Device → α → Device) (l : List α) (d : Device)
    (h : ∀ e x, Tame e.still (f e x).still) (hd : Tame p d.still) : Tame p (l.foldl f d).still := by
  induction l generalizing d with
  | nil => exact hd
  | cons x l ih => exact ih (f d x) (hd.trans (h d x))

theorem Device.still_of (d e : Device) (hm : e.core.mem = d.core.mem) (hl : e.core.ltc = d.core.ltc)
    (hw : e.core.watch = d.core.watch) : e.still = d.still := by
  simp only [Device.still, Core.still, hm, hl, hw]

@[simp] theorem foldl_fst_tame {α β : Type} {σ : Still} (f : Device × β → α → Device × β) (l : List α) (x : Device × β)
    (h : ∀ y a, Tame y.1.still (f y a).1.still) (hx : Tame σ x.1.still) : Tame σ (l.foldl f x).1.still := by
  induction l generalizing x with
  | nil => exact hx
  | cons a l ih => exact ih (f x a) (hx.trans (h x a))

theorem getD_tame {σ : Still} {o : Option Device} {d : Device} (hd : Tame σ d.still) (ho : ∀ e, o = some e → Tame σ e.still) :
    Tame σ (o.getD d).still := by
  cases o with
  | none => exact hd
  | some e => exact ho e rfl

theorem Tame.of_pair {β : Type} {σ : Still} {x : Device × β} {e : Device} {y : β} (hx : x = (e, y)) (h : Tame σ x.1.still) :
    Tame σ e.still := by
  rw [hx] at h
  exact h

/-! Ops. -/

@[simp] theorem Device.setReg_still (d : Device) (k : Nat) (v : Word) : (d.setReg k v).still = d.still := by
  rfl

@[simp] theorem Device.setReg64_still (d : Device) (k n : Nat) : (d.setReg64 k n).still = d.still := by
  rfl

@[simp] theorem Device.clearRegs_still (d : Device) (a b : Nat) : (d.clearRegs a b).still = d.still := by
  rfl

@[simp] theorem Device.setRecord_still (d : Device) (k : Nat) (lo hi : Word) : (d.setRecord k lo hi).still = d.still := by
  simp [Device.setRecord]

@[simp] theorem Device.drawn_still (d : Device) : (d.drawn).still = d.still := by
  rfl

@[simp] theorem Device.disarm_still (d : Device) (t : Timer) : (d.disarm t).still = d.still := by
  rfl

@[simp] theorem Device.post_still (d : Device) (code unit : Nat) (data : Word) : (d.post code unit data).still = d.still := by
  rfl

@[simp] theorem Device.disarmSlots_still (d : Device) (p : Nat → Bool) : (d.disarmSlots p).still = d.still := by
  rfl

@[simp] theorem Device.progress_still (d : Device) (w : Nat) : (d.progress w).still = d.still := by
  rfl

@[simp] theorem Device.progressN_still (d : Device) (w n : Nat) : (d.progressN w n).still = d.still := by
  rfl

@[simp] theorem Core.pokeByte_tame {σ : Still} (c : Core) (a : Nat) (b : Byte) (h : Tame σ c.still) : Tame σ (c.pokeByte a b).still :=
  h.trans ⟨mset_wf _ _ _ _, rfl, id⟩

@[simp] theorem Core.pokeBytes_tame {σ : Still} (c : Core) (a : Nat) (l : List PByte) (h : Tame σ c.still) :
    Tame σ (c.pokeBytes a l).still := by
  induction l generalizing c a with
  | nil => exact h
  | cons b l ih => exact ih _ _ (c.pokeByte_tame a b.1 h)

@[simp] theorem Core.markUnit_still (c : Core) (u a : Nat) (l : List PByte) : (c.markUnit u a l).still = c.still := by
  unfold Core.markUnit
  simp only
  split
  · rfl
  · split <;> rfl

@[simp] theorem Core.markUnits_still (c : Core) (a : Nat) (l : List PByte) (u n : Nat) : (c.markUnits a l u n).still = c.still := by
  induction n generalizing c u with
  | zero => rfl
  | succ n ih => simp [Core.markUnits, ih]

@[simp] theorem Device.advise_still (d : Device) (k unit who : Nat) : (d.advise k unit who).still = d.still := by
  rfl

@[simp] theorem Device.answerCe_still (d : Device) (code unit : Nat) : (d.answerCe code unit).still = d.still := by
  unfold Device.answerCe
  split <;> simp

@[simp] theorem Device.ceTest_still (d : Device) (cnt thr code unit : Nat) : (d.ceTest cnt thr code unit).still = d.still := by
  simp [Device.ceTest]

@[simp] theorem Device.count1_still (d : Device) (k : Nat) : (d.count1 k).still = d.still := by
  rfl

@[simp] theorem Device.ceCount_still (d : Device) (cnt thr code unit : Nat) : (d.ceCount cnt thr code unit).still = d.still := by
  simp [Device.ceCount]

@[simp] theorem Device.spoil_tame {σ : Still} (d : Device) (key : Nat) (b : Bool) (h : Tame σ d.still) :
    Tame σ (d.spoil key b).still :=
  d.core.pokeBytes_tame (32 * key) _ h

@[simp] theorem Device.meetCoder_tame {σ : Still} (step : Bool) (d : Device) (key : Nat) (h : Tame σ d.still) :
    Tame σ (Device.meetCoder step d key).still := by
  have h0 : Tame σ ({ d with core.flaws := mset [] d.core.flaws key [] } : Device).still := h
  unfold Device.meetCoder
  simp only []
  generalize ({ d with core.flaws := mset [] d.core.flaws key [] } : Device) = e at h0 ⊢
  split <;> simp [h0]

@[simp] theorem Device.watched_tame {σ : Still} (d : Device) (rs : List (Nat × Nat)) (h : Tame σ d.still) :
    Tame σ (d.watched rs).still := by
  refine h.trans ⟨d.watched_wf rs, d.watched_core_ltc rs, fun hw => ?_⟩
  have hw : d.core.watch = none := hw
  simp [Device.watched, hw, Device.still, Core.still]

@[simp] theorem Device.coder_tame {σ : Still} (d : Device) (step : Bool) (rs : List (Nat × Nat)) (h : Tame σ d.still) :
    Tame σ (d.coder step rs).still := by
  fun_cases Device.coder d step rs
  simp +zetaDelta [h]

@[simp] theorem Device.fetch_tame {σ : Still} (d : Device) (a n : Nat) (h : Tame σ d.still) : Tame σ (d.fetch a n).still := by
  simp [Device.fetch, h]

@[simp] theorem Device.write_tame {σ : Still} (d : Device) (a : Nat) (l : List PByte) (h : Tame σ d.still) :
    Tame σ (d.write a l).still := by
  unfold Device.write
  split
  · exact h
  · have met := fun l' => foldl_tame (Device.meetCoder false) l' _ (by simp) (d.watched_tame [(a, l.length)] h)
    exact (Core.pokeBytes_tame _ a l (met _)).congr (Core.markUnits_still _ a l _ _)

@[simp] theorem Device.leaveOpen_tame {σ : Still} (d : Device) (a n : Nat) (h : Tame σ d.still) : Tame σ (d.leaveOpen a n).still := by
  let e := d.watched [(a, n)]
  have he : Tame σ ({ e.core with freeN := e.core.freeN + n } : Core).still := d.watched_tame _ h
  exact (Core.pokeBytes_tame _ a _ he).congr (Core.markUnits_still _ a _ _ _)

@[simp] theorem Device.leaveAllOpen_tame {σ : Still} (d : Device) (l : List (Nat × Nat)) (h : Tame σ d.still) :
    Tame σ (d.leaveAllOpen l).still :=
  foldl_tame _ l d (by simp) h

@[simp] theorem Device.writes_tame {σ : Still} (d : Device) (l : List (Nat × List PByte)) (h : Tame σ d.still) :
    Tame σ (d.writes l).still := by
  induction l generalizing d with
  | nil => exact h
  | cons x l ih => exact ih _ (d.write_tame x.1 x.2 h)

@[simp] theorem Device.latchWaits_still (d : Device) : (d.latchWaits).still = d.still := by
  rfl

@[simp] theorem Device.putSync_still (d : Device) (die c v : Nat) : (d.putSync die c v).still = d.still := by
  rfl

@[simp] theorem Device.signal_still (d : Device) (die c : Nat) : (d.signal die c).still = d.still := by
  rfl

@[simp] theorem Device.setSync_still (d : Device) (die c v : Nat) : (d.setSync die c v).still = d.still := by
  simp [Device.setSync]

@[simp] theorem Device.addSync_still (d : Device) (die c v : Nat) : (d.addSync die c v).still = d.still := by
  simp [Device.addSync]

@[simp] theorem Device.setQueue_still (d : Device) (q : Nat) (l : List Cmd) : (d.setQueue q l).still = d.still := by
  rfl

@[simp] theorem Device.pushCmd_still (d : Device) (q : Nat) (c : Cmd) : (d.pushCmd q c).still = d.still := by
  rfl

@[simp] theorem Device.popCmd_still (d : Device) (q : Nat) : (d.popCmd q).still = d.still := by
  rfl

@[simp] theorem Device.lbndHead_still (d : Device) (die : Nat) : (d.lbndHead die).still = d.still := by
  fun_cases Device.lbndHead d die <;> simp +zetaDelta

@[simp] theorem Device.noteLast_still (d : Device) (q seq : Nat) : (d.noteLast q seq).still = d.still := by
  fun_cases Device.noteLast d q seq <;> simp +zetaDelta

@[simp] theorem Device.setStream_still (d : Device) (die s : Nat) (v : Machine.Stream) : (d.setStream die s v).still = d.still := by
  rfl

@[simp] theorem Device.haltStream_still (d : Device) (die s cause index : Nat) : (d.haltStream die s cause index).still = d.still := by
  rfl

@[simp] theorem Device.closeCmd_still (d : Device) (o : Open) : (d.closeCmd o).still = d.still := by
  simp [Device.closeCmd]

@[simp] theorem Device.completePart_still (d : Device) (cid n status nfail first : Nat) :
    (d.completePart cid n status nfail first).still = d.still := by
  simp [Device.completePart]

@[simp] theorem Device.finish_still (d : Device) (c : Cmd) (status : Nat) : (d.finish c status).still = d.still := by
  simp [Device.finish]

@[simp] theorem Device.invalidSlots_still (d : Device) (c : Cmd) : (d.invalidSlots c).still = d.still := by
  rfl

@[simp] theorem Device.slipStatus_tame {σ : Still} (d : Device) (c : Cmd) (rank : Nat) (m : SlipMem) (status cause : Nat)
    (h : Tame σ d.still) : Tame σ (d.slipStatus c rank m status cause).still := by
  unfold Device.slipStatus
  split <;> simp [h]

@[simp] theorem Device.idleRecords_tame {σ : Still} (d : Device) (q : Nat) (c : Cmd) (status : Nat) (h : Tame σ d.still) :
    Tame σ (d.idleRecords q c status).still := by
  fun_cases Device.idleRecords d q c status <;> simp +zetaDelta [h]

@[simp] theorem Device.endUnrun_tame {σ : Still} (d : Device) (q : Nat) (c : Cmd) (status : Nat) (h : Tame σ d.still) :
    Tame σ (d.endUnrun q c status).still := by
  simp [Device.endUnrun, h]

@[simp] theorem Device.endQueued_tame {σ : Still} (d : Device) (q : Nat) (c : Cmd) (status : Nat) (h : Tame σ d.still) :
    Tame σ (d.endQueued q c status).still := by
  simp [Device.endQueued, h]

@[simp] theorem Device.pullAll_tame {σ : Still} (d : Device) (c : Cmd) (status : Nat) (h : Tame σ d.still) :
    Tame σ (d.pullAll c status).still :=
  foldl_tame _ _ d (fun _ _ => foldl_tame _ _ _ (by simp) (by simp)) h

@[simp] theorem Device.refuse_still (d : Device) (q : Nat) (c : Cmd) (code unit : Nat) (data : Word) :
    (d.refuse q c code unit data).still = d.still :=
  Device.still_of _ _ (by simp) (by simp) (by simp)

@[simp] theorem Device.endQueued_fault_still (d : Device) (q : Nat) (c : Cmd) : (d.endQueued q c stFault).still = d.still :=
  Device.still_of _ _ (by simp) (by simp) (by simp)

@[simp] theorem Device.note_still (d : Device) (k unit : Nat) (n : NumNote) : (d.note k unit n).still = d.still := by
  simp [Device.note]

@[simp] theorem Device.hifErr_still (d : Device) (n code : Nat) (data : Word) : (d.hifErr n code data).still = d.still := by
  simp [Device.hifErr]

@[simp] theorem Device.aerLog_still (d : Device) (n : Nat) : (d.aerLog n).still = d.still := by
  rfl

@[simp] theorem Device.poisonedWrite_still (d : Device) : (d.poisonedWrite).still = d.still := by
  simp [Device.poisonedWrite]

@[simp] theorem Device.barShut_still (d : Device) : (d.barShut).still = d.still := by
  simp [Device.barShut]

@[simp] theorem Device.emit_still (d : Device) (o : Out) : (d.emit o).still = d.still := by
  rfl

/-! Ecc. -/

@[simp] theorem Device.msixSend_still (d : Device) (vec : Nat) : (d.msixSend vec).still = d.still := by
  rfl

@[simp] theorem Device.msixRaise_still (d : Device) (vec : Nat) : (d.msixRaise vec).still = d.still := by
  simp [Device.msixRaise]

@[simp] theorem Device.scrubRead_tame {σ : Still} (d : Device) (k i n hours a bytes : Nat) (h : Tame σ d.still) :
    Tame σ (d.scrubRead k i n hours a bytes).still := by
  fun_cases Device.scrubRead d k i n hours a bytes <;> simp +zetaDelta [h]

/-! Records. -/

@[simp] theorem Device.refuseRecord_still (d : Device) (die s : Nat) : (d.refuseRecord die s).still = d.still := by
  rfl

@[simp] theorem devRecordFetch_tame {σ : Still} (die s : Nat) (d : Device) (h : Tame σ d.still) :
    Tame σ (devRecordFetch die s d).still := by
  simp [devRecordFetch, h]

@[simp] theorem Device.leaveStream_still (d : Device) (die s : Nat) (r : List Word) : (d.leaveStream die s r).still = d.still := by
  rfl

@[simp] theorem Device.noteLive_still (d : Device) (ds : List Dest) (seq : Nat) : (d.noteLive ds seq).still = d.still := by
  simp [Device.noteLive]

@[simp] theorem Device.enqueue_tame {σ : Still} (d : Device) (c : Cmd) (x : Dest) (h : Tame σ d.still) : Tame σ (d.enqueue c x).still := by
  simp [Device.enqueue, h]

@[simp] theorem Device.dispatch_tame {σ : Still} (d : Device) (die s : Nat) (r : List Word) (ds : List Dest) (h : Tame σ d.still) :
    Tame σ (d.dispatch die s r ds).still := by
  fun_cases Device.dispatch d die s r ds <;> simp +zetaDelta [h]

@[simp] theorem devRecordDispatch_tame {σ : Still} (die s : Nat) (d : Device) (h : Tame σ d.still) :
    Tame σ (devRecordDispatch die s d).still := by
  fun_cases devRecordDispatch die s d <;> simp +zetaDelta [h]

@[simp] theorem Device.copDone_still (d : Device) (die s index : Nat) (r : List Word) (status : Nat) :
    (d.copDone die s index r status).still = d.still := by
  simp [Device.copDone]

@[simp] theorem Device.copStep_still (d : Device) (die s : Nat) (r : List Word) (act : Device → Device) (status : Nat)
    (h : ∀ e, (act e).still = e.still) : (d.copStep die s r act status).still = d.still := by
  simp [Device.copStep, h]

@[simp] theorem Device.copBranch_still (d : Device) (die s : Nat) (r : List Word) (act : Machine.Stream → Machine.Stream) :
    (d.copBranch die s r act).still = d.still := by
  simp [Device.copBranch]

@[simp] theorem devWaitc_still (die s : Nat) (d : Device) : (devWaitc die s d).still = d.still := by
  fun_cases devWaitc die s d <;> simp +zetaDelta

@[simp] theorem devSetc_still (die s : Nat) (d : Device) : (devSetc die s d).still = d.still := by
  fun_cases devSetc die s d <;> simp +zetaDelta

@[simp] theorem devAddc_still (die s : Nat) (d : Device) : (devAddc die s d).still = d.still := by
  fun_cases devAddc die s d <;> simp +zetaDelta

@[simp] theorem devBrs_still (die s : Nat) (d : Device) : (devBrs die s d).still = d.still := by
  fun_cases devBrs die s d <;> simp +zetaDelta

@[simp] theorem devJump_still (die s : Nat) (d : Device) : (devJump die s d).still = d.still := by
  fun_cases devJump die s d <;> simp +zetaDelta

@[simp] theorem Device.setLoopReg_still (d : Device) (die s k : Nat) (v : Word) : (d.setLoopReg die s k v).still = d.still := by
  rfl

@[simp] theorem devLoop_still (die s : Nat) (d : Device) : (devLoop die s d).still = d.still := by
  fun_cases devLoop die s d <;> simp +zetaDelta

@[simp] theorem devDecbr_still (die s : Nat) (d : Device) : (devDecbr die s d).still = d.still := by
  unfold devDecbr
  split <;> simp

@[simp] theorem devHalt_still (die s : Nat) (d : Device) : (devHalt die s d).still = d.still := by
  fun_cases devHalt die s d <;> simp +zetaDelta

@[simp] theorem devSetstep_still (die s : Nat) (d : Device) : (devSetstep die s d).still = d.still := by
  fun_cases devSetstep die s d <;> simp +zetaDelta

@[simp] theorem devStreamResume_still (die s : Nat) (d : Device) : (devStreamResume die s d).still = d.still := by
  simp [devStreamResume]

@[simp] theorem Device.tailWrite_still (d : Device) (die s : Nat) (v : Word) : (d.tailWrite die s v).still = d.still := by
  simp [Device.tailWrite]

@[simp] theorem devDoorbell_still (die s : Nat) (v : Word) (poison : Bool) (d : Device) :
    (devDoorbell die s v poison d).still = d.still := by
  simp [devDoorbell]

@[simp] theorem devCtlSheadWrite_still (die s : Nat) (v : Word) (d : Device) : (devCtlSheadWrite die s v d).still = d.still := by
  simp [devCtlSheadWrite]

@[simp] theorem devCtlSyncWrite_still (die c : Nat) (v : Word) (d : Device) : (devCtlSyncWrite die c v d).still = d.still := by
  simp [devCtlSyncWrite]

@[simp] theorem devCtlSyncaddWrite_still (die c : Nat) (v : Word) (d : Device) : (devCtlSyncaddWrite die c v d).still = d.still := by
  simp [devCtlSyncaddWrite]

@[simp] theorem Device.hostDieWrite_still (d : Device) (die : Nat) (f : Device → Device) (h : ∀ e, (f e).still = e.still) :
    (d.hostDieWrite die f).still = d.still := by
  simp [Device.hostDieWrite, h]

/-! Dma. -/

@[simp] theorem Device.setChan_still (d : Device) (die n : Nat) (v : DmaCh) : (d.setChan die n v).still = d.still := by
  rfl

@[simp] theorem Device.setProg_still (d : Device) (die n : Nat) (p : DmaProg) : (d.setProg die n p).still = d.still := by
  rfl

@[simp] theorem Device.dmaRaise_still (d : Device) (die n : Nat) (p : DmaProg) (k : Nat) : (d.dmaRaise die n p k).still = d.still := by
  simp [Device.dmaRaise]

@[simp] theorem Device.dmaFault_still (d : Device) (die n : Nat) (p : DmaProg) (cause : Nat) :
    (d.dmaFault die n p cause).still = d.still := by
  fun_cases Device.dmaFault d die n p cause
  simp +zetaDelta

@[simp] theorem Device.dmaNext_still (d : Device) (die n : Nat) (p : DmaProg) : (d.dmaNext die n p).still = d.still := by
  rfl

@[simp] theorem devDstart_still (die n : Nat) (d : Device) : (devDstart die n d).still = d.still := by
  fun_cases devDstart die n d <;> simp +zetaDelta

@[simp] theorem dmaRow_still (opc : Nat) (act : Device → DmaProg → List Word → Device) (die n : Nat) (d : Device)
    (h : ∀ e p w, (act e p w).still = e.still) : (dmaRow opc act die n d).still = d.still := by
  unfold dmaRow
  split
  · rfl
  · split
    · rfl
    · split <;> simp [h]

@[simp] theorem dmaRow_tame {σ : Still} (opc : Nat) (act : Device → DmaProg → List Word → Device) (die n : Nat) (d : Device)
    (h : ∀ e p w, Tame e.still (act e p w).still) (hd : Tame σ d.still) : Tame σ (dmaRow opc act die n d).still := by
  unfold dmaRow
  split
  · exact hd
  · split
    · exact hd
    · split
      · simp [hd]
      · simp [hd, hd.trans (h _ _ _)]

@[simp] theorem devMove_still (die n : Nat) (d : Device) : (devMove die n d).still = d.still := by
  refine dmaRow_still _ _ _ _ _ fun e p w => ?_
  simp only
  split <;> simp

@[simp] theorem devMovx_still (die n : Nat) (d : Device) : (devMovx die n d).still = d.still := by
  refine dmaRow_still _ _ _ _ _ fun e p w => ?_
  simp only
  split <;> simp

@[simp] theorem Device.inject_still (d : Device) (die : Nat) (r : PeerReq) : (d.inject die r).still = d.still := by
  simp [Device.inject]

@[simp] theorem Device.injRefill_still (d : Device) : (d.injRefill).still = d.still := by
  simp [Device.injRefill]

@[simp] theorem Device.sendOne_still (d : Device) (die n cid dst : Nat) (data : List PByte) :
    (d.sendOne die n cid dst data).still = d.still := by
  simp [Device.sendOne]

@[simp] theorem Device.sendWrite_still (d : Device) (die n cid dst : Nat) (data : List PByte) :
    (d.sendWrite die n cid dst data).still = d.still := by
  simp [Device.sendWrite]

@[simp] theorem Device.notePoison_still (d : Device) (die n : Nat) (p : DmaProg) (b : Bool) :
    (d.notePoison die n p b).1.still = d.still := by
  fun_cases Device.notePoison d die n p b <;> simp +zetaDelta

@[simp] theorem Device.openOverlap_still (d : Device) (g : MoveGeo) (a : Nat) (data : List PByte) :
    (d.openOverlap g a data).1.still = d.still := by
  fun_cases Device.openOverlap d g a data <;> simp +zetaDelta

@[simp] theorem Device.burstLeaves_still (d : Device) (die n : Nat) (p : DmaProg) (m : DmaMove) (data : List PByte) :
    (d.burstLeaves die n p m data).still = d.still := by
  simp [Device.burstLeaves]

@[simp] theorem Device.answeredLeaves_still (d : Device) (die n : Nat) (p : DmaProg) (m : DmaMove) (w : DmaWr) :
    (d.answeredLeaves die n p m w).still = d.still := by
  simp [Device.answeredLeaves]

@[simp] theorem devBurst_tame {σ : Still} (die n : Nat) (feed : Bool) (d : Device) (h : Tame σ d.still) :
    Tame σ (devBurst die n feed d).still := by
  fun_cases devBurst die n feed d <;> simp +zetaDelta [h]

@[simp] theorem devCreditTick_still (die n : Nat) (d : Device) : (devCreditTick die n d).still = d.still := by
  unfold devCreditTick
  split <;> simp

@[simp] theorem Device.supersede_still (d : Device) (die n k cid a len : Nat) : (d.supersede die n k cid a len).still = d.still := by
  rfl

@[simp] theorem Device.peerWrite_tame {σ : Still} (d : Device) (die n wr a : Nat) (l : List PByte) (h : Tame σ d.still) :
    Tame σ (d.peerWrite die n wr a l).still := by
  unfold Device.peerWrite
  simp only
  split <;> simp [h]

@[simp] theorem Device.applyWrite_tame {σ : Still} (d : Device) (die n k : Nat) (h : Tame σ d.still) :
    Tame σ (d.applyWrite die n k).still := by
  unfold Device.applyWrite
  simp only
  split
  · exact h
  · split <;> simp [h]

@[simp] theorem devWriteArrival_tame {σ : Still} (die n k : Nat) (d : Device) (h : Tame σ d.still) :
    Tame σ (devWriteArrival die n k d).still := by
  fun_cases devWriteArrival die n k d <;> simp +zetaDelta [h]

@[simp] theorem Device.dmaReadAnswer_still (d : Device) (die n wr : Nat) (ok : Bool) (data : List PByte) :
    (d.dmaReadAnswer die n wr ok data).still = d.still := by
  fun_cases Device.dmaReadAnswer d die n wr ok data <;> simp +zetaDelta

@[simp] theorem Device.dmaWriteAnswer_still (d : Device) (die n wr : Nat) (ok : Bool) : (d.dmaWriteAnswer die n wr ok).still = d.still := by
  fun_cases Device.dmaWriteAnswer d die n wr ok <;> simp +zetaDelta

@[simp] theorem devDmaLoop_still (die n : Nat) (d : Device) : (devDmaLoop die n d).still = d.still := by
  simp [devDmaLoop]

@[simp] theorem devWait_still (die n : Nat) (d : Device) : (devWait die n d).still = d.still := by
  simp [devWait]

@[simp] theorem devWaitTimeout_still (die n : Nat) (d : Device) : (devWaitTimeout die n d).still = d.still := by
  simp [devWaitTimeout]

@[simp] theorem devSignal_still (die n : Nat) (d : Device) : (devSignal die n d).still = d.still := by
  simp [devSignal]

@[simp] theorem crcRow_still (cop : Nat) (act : Device → DmaProg → List Word → Nat → Device) (die n : Nat) (d : Device)
    (h : ∀ e p w a, (act e p w a).still = e.still) : (crcRow cop act die n d).still = d.still := by
  simp [crcRow, h]

@[simp] theorem crcRow_tame {σ : Still} (cop : Nat) (act : Device → DmaProg → List Word → Nat → Device) (die n : Nat) (d : Device)
    (h : ∀ e p w a, Tame e.still (act e p w a).still) (hd : Tame σ d.still) : Tame σ (crcRow cop act die n d).still := by
  simp [crcRow, h, hd]

@[simp] theorem devCrcReset_still (die n : Nat) (d : Device) : (devCrcReset die n d).still = d.still := by
  simp [devCrcReset]

@[simp] theorem devCrcStore_still (die n : Nat) (d : Device) : (devCrcStore die n d).still = d.still := by
  simp [devCrcStore]

@[simp] theorem devCrcCheck_tame {σ : Still} (die n : Nat) (feed : Bool) (d : Device) (h : Tame σ d.still) :
    Tame σ (devCrcCheck die n feed d).still := by
  simp [devCrcCheck, h]

@[simp] theorem devDmaEnd_still (die n : Nat) (d : Device) : (devDmaEnd die n d).still = d.still := by
  simp [devDmaEnd]

@[simp] theorem devDmaAbort_still (die n : Nat) (d : Device) : (devDmaAbort die n d).still = d.still := by
  fun_cases devDmaAbort die n d <;> simp +zetaDelta

@[simp] theorem devPurge_tame {σ : Still} (die n : Nat) (d : Device) (h : Tame σ d.still) : Tame σ (devPurge die n d).still := by
  fun_cases devPurge die n d <;> simp +zetaDelta [h]

@[simp] theorem devCompletingStep_still (die n : Nat) (d : Device) : (devCompletingStep die n d).still = d.still := by
  fun_cases devCompletingStep die n d <;> simp +zetaDelta

@[simp] theorem Device.dropUnissued_tame {σ : Still} (d : Device) (cids : List Nat) (q : Nat) (h : Tame σ d.still) :
    Tame σ (d.dropUnissued cids q).still := by
  simp [Device.dropUnissued, h]

@[simp] theorem Device.detach_still (d : Device) (die s : Nat) : (d.detach die s).still = d.still := by
  rfl

@[simp] theorem devAbandon_tame {σ : Still} (die s : Nat) (d : Device) (h : Tame σ d.still) : Tame σ (devAbandon die s d).still := by
  unfold devAbandon
  split <;> simp [h]

/-! Arbiter. -/

@[simp] theorem devArbiterGrant_still (tree : Nat) (asks : List LeafAsk) (gone : List (List Nat)) (late : Bool) (d : Device) :
    (devArbiterGrant tree asks gone late d).still = d.still := by
  simp [devArbiterGrant]

/-! Array. -/

@[simp] theorem Device.setArr_still (d : Device) (die a : Nat) (v : Arr) : (d.setArr die a v).still = d.still := by
  rfl

@[simp] theorem Device.setPart_still (d : Device) (die a p : Nat) (v : Machine.Part) : (d.setPart die a p v).still = d.still := by
  rfl

@[simp] theorem Device.setTurn_still (d : Device) (die a : Nat) (v : Turn) : (d.setTurn die a v).still = d.still := by
  rfl

@[simp] theorem Device.setTile_still (d : Device) (die a t : Nat) (v : Tile) : (d.setTile die a t v).still = d.still := by
  rfl

@[simp] theorem Device.setTilePend_still (d : Device) (die a t : Nat) (v : Option Tile) : (d.setTilePend die a t v).still = d.still := by
  rfl

@[simp] theorem Device.setDrains_still (d : Device) (die a p : Nat) (v : List DRun) : (d.setDrains die a p v).still = d.still := by
  rfl

@[simp] theorem Device.setAccCnt_still (d : Device) (die a : Nat) (v : AccCnt) : (d.setAccCnt die a v).still = d.still := by
  rfl

@[simp] theorem Device.setQuart_still (d : Device) (die a slot q : Nat) (v : Quarter) : (d.setQuart die a slot q v).still = d.still := by
  rfl

@[simp] theorem Device.modeFor_still (d : Device) (die a : Nat) (c : Cmd) : (d.modeFor die a c).still = d.still := by
  fun_cases Device.modeFor d die a c <;> simp +zetaDelta

@[simp] theorem Device.turnFor_still (d : Device) (die a : Nat) (c : Cmd) : (d.turnFor die a c).still = d.still := by
  fun_cases Device.turnFor d die a c <;> simp +zetaDelta

@[simp] theorem Device.tileFor_still (d : Device) (die a t : Nat) : (d.tileFor die a t).still = d.still := by
  fun_cases Device.tileFor d die a t <;> simp +zetaDelta

@[simp] theorem Device.foresee_still (d : Device) (die a : Nat) (c : Cmd) : (d.foresee die a c).still = d.still := by
  simp [Device.foresee]

@[simp] theorem devKload_still (die a p : Nat) (d : Device) : (devKload die a p d).still = d.still := by
  fun_cases devKload die a p d <;> simp +zetaDelta

@[simp] theorem devLoadComplete_still (die a : Nat) (d : Device) : (devLoadComplete die a d).still = d.still := by
  fun_cases devLoadComplete die a d <;> simp +zetaDelta

@[simp] theorem devColumnSwap_still (die a p col : Nat) (d : Device) : (devColumnSwap die a p col d).still = d.still := by
  simp [devColumnSwap]

@[simp] theorem Device.arrayTokens_still (d : Device) (die a n : Nat) : (d.arrayTokens die a n).still = d.still := by
  fun_cases Device.arrayTokens d die a n with
  | case1 => rfl
  | case2 _ ar e =>
    have loaded : e.still = d.still := by
      simp only [e]
      split <;> simp
    simp [loaded]

@[simp] theorem devStream_still (op die a p : Nat) (d : Device) : (devStream op die a p d).still = d.still := by
  fun_cases devStream op die a p d <;> simp +zetaDelta

@[simp] theorem devKstream_still (die a p : Nat) (d : Device) : (devKstream die a p d).still = d.still := by
  simp [devKstream]

@[simp] theorem devKconv_still (die a p : Nat) (d : Device) : (devKconv die a p d).still = d.still := by
  simp [devKconv]

@[simp] theorem devKcfg_still (die a : Nat) (d : Device) : (devKcfg die a d).still = d.still := by
  fun_cases devKcfg die a d <;> simp +zetaDelta

@[simp] theorem Device.prepQuarter_tame {σ : Still} (d : Device) (die a t l q : Nat) (zero : Bool) (h : Tame σ d.still) :
    Tame σ (d.prepQuarter die a t l q zero).1.still := by
  unfold Device.prepQuarter
  simp only
  split
  · have park (o : Nat) (k : AccCnt) : Tame σ ((d.write ((d.tile die a t).backing o q)
        ((d.quart die a ((d.tile die a t).slot l) q).bytes (d.tile die a t))).setAccCnt die a k).still := by simp [h]
    split <;> split <;> (try split) <;> simp [h]
  · split <;> exact h

@[simp] theorem Device.addToQuarter_tame {σ : Still} (d : Device) (die a p t l : Nat) (c : Cmd) (r : InRow) (q : Nat) (h : Tame σ d.still) :
    Tame σ (d.addToQuarter die a p t l c r q).1.still := by
  simp [Device.addToQuarter, h]

@[simp] theorem Device.addRow_tame {σ : Still} (d : Device) (die a p t l : Nat) (c : Cmd) (r : InRow) (qs : List Nat)
    (h : Tame σ d.still) : Tame σ (d.addRow die a p t l c r qs).1.still := by
  induction qs generalizing d with
  | nil => exact h
  | cons q qs ih => exact ih _ (d.addToQuarter_tame die a p t l c r q h)

@[simp] theorem devAccumulatorAdd_tame {σ : Still} (die a p fixed : Nat) (d : Device) (h : Tame σ d.still) :
    Tame σ (devAccumulatorAdd die a p fixed d).still := by
  fun_cases devAccumulatorAdd die a p fixed d with
  | case1 => exact h
  | case2 => exact h
  | case3 => exact h
  | case4 _ _ _ _ _ _ _ _ _ _ _ _ _ _ hrow => simp +zetaDelta [Tame.of_pair (σ := σ) hrow (by simp [h])]
  | case5 _ _ _ _ _ _ _ _ _ _ _ _ _ _ hrow => simp +zetaDelta [Tame.of_pair (σ := σ) hrow (by simp [h])]

@[simp] theorem Device.enterOne_still (d : Device) (die a p : Nat) : (d.enterOne die a p).still = d.still := by
  fun_cases Device.enterOne d die a p <;> simp +zetaDelta

@[simp] theorem devRowEntry_still (die a p : Nat) (hit : List (Fin 256)) (d : Device) : (devRowEntry die a p hit d).still = d.still := by
  fun_cases devRowEntry die a p hit d <;> simp +zetaDelta

@[simp] theorem Device.poisonQuarter_tame {σ : Still} (d : Device) (die a t l q : Nat) (h : Tame σ d.still) :
    Tame σ (d.poisonQuarter die a t l q).still := by
  unfold Device.poisonQuarter
  simp only
  split
  · simp [h]
  · split <;> simp [h]

@[simp] theorem devPartitionFault_tame {σ : Still} (die a p cause : Nat) (d : Device) (h : Tame σ d.still) :
    Tame σ (devPartitionFault die a p cause d).still := by
  unfold devPartitionFault
  simp only
  split
  · exact h
  · split
    · exact h
    · have poisoned (l qs : List Nat) (t : Nat) : Tame σ (l.foldl (fun d l => qs.foldl (fun d q => d.poisonQuarter die a t l q) d) d).still :=
        foldl_tame _ _ d (fun _ _ => foldl_tame _ _ _ (by simp) (by simp)) h
      simp [poisoned]

@[simp] theorem Device.applyTile_still (d : Device) (die a t : Nat) (v : Tile) : (d.applyTile die a t v).still = d.still := by
  simp [Device.applyTile]

@[simp] theorem devTileCommit_still (die a t : Nat) (lo : Word) (d : Device) : (devTileCommit die a t lo d).still = d.still := by
  simp [devTileCommit]

@[simp] theorem devPendingCommit_still (die a t : Nat) (d : Device) : (devPendingCommit die a t d).still = d.still := by
  fun_cases devPendingCommit die a t d <;> simp +zetaDelta

@[simp] theorem devTurnWrite_still (die pr : Nat) (v : Word) (d : Device) : (devTurnWrite die pr v d).still = d.still := by
  rfl

@[simp] theorem devTurnTakeEffect_still (die pr : Nat) (d : Device) : (devTurnTakeEffect die pr d).still = d.still := by
  fun_cases devTurnTakeEffect die pr d <;> simp +zetaDelta

/-! Fabric. -/

@[simp] theorem Device.setPort_still (d : Device) (p : Nat) (v : Port) : (d.setPort p v).still = d.still := by
  rfl

@[simp] theorem Device.count_still (d : Device) (k : Nat) : (d.count k).still = d.still := by
  rfl

@[simp] theorem Device.dropBit_still (d : Device) (n code : Nat) (data : Word) : (d.dropBit n code data).still = d.still := by
  simp [Device.dropBit]

@[simp] theorem Device.queueAt_still (d : Device) (p : Nat) (k : Packet) : (d.queueAt p k).still = d.still := by
  rfl

@[simp] theorem Device.setRoute_still (d : Device) (dst : Nat) (e : RouteEnt) : (d.setRoute dst e).still = d.still := by
  rfl

theorem Device.tryRoute_still {d e : Device} {k : Packet} (hx : d.tryRoute k = some e) : e.still = d.still := by
  revert hx
  fun_cases Device.tryRoute d k with
  | case1 => simp
  | case2 => simp
  | case3 => rintro ⟨⟩; simp

@[simp] theorem Device.sendData_still (d : Device) (p : Nat) : (d.sendData p).still = d.still := by
  simp [Device.sendData]

@[simp] theorem Device.resend_still (d : Device) (p : Nat) (f : Flit) : (d.resend p f).still = d.still := by
  simp [Device.resend]

@[simp] theorem Device.sendControl_still (d : Device) (p : Nat) (c : List Word) : (d.sendControl p c).still = d.still := by
  rfl

@[simp] theorem Device.sendLane_still (p lane : Nat) (d : Device) : (Device.sendLane p lane d).still = d.still := by
  fun_cases Device.sendLane p lane d <;> simp +zetaDelta

@[simp] theorem Device.lockLanes_still (d : Device) (p : Nat) : (d.lockLanes p).still = d.still := by
  simp [Device.lockLanes]

@[simp] theorem Device.ackTrailer_still (d : Device) (p : Nat) (t0 : Word) : (d.ackTrailer p t0).still = d.still := by
  rfl

@[simp] theorem Device.newAttempt_still (d : Device) (p : Nat) : (d.newAttempt p).still = d.still := by
  rfl

@[simp] theorem Device.enterRetrain_still (d : Device) (p cause : Nat) : (d.enterRetrain p cause).still = d.still := by
  simp [Device.enterRetrain]

@[simp] theorem Device.beginReplay_still (d : Device) (p : Nat) : (d.beginReplay p).still = d.still := by
  simp [Device.beginReplay]

@[simp] theorem Device.linkDown_still (d : Device) (p : Nat) : (d.linkDown p).still = d.still := by
  simp [Device.linkDown]

@[simp] theorem Device.freshLink_still (d : Device) (p : Nat) : (d.freshLink p).still = d.still := by
  simp [Device.freshLink]

@[simp] theorem Device.resumeLink_still (d : Device) (p rxNext : Nat) : (d.resumeLink p rxNext).still = d.still := by
  simp [Device.resumeLink]

@[simp] theorem Device.packetCome_still (d : Device) (p : Nat) (k : Packet) : (d.packetCome p k).still = d.still := by
  simp [Device.packetCome]

@[simp] theorem Device.slotCome_still (d : Device) (p : Nat) (s : Bool × List Word) : (d.slotCome p s).still = d.still := by
  fun_cases Device.slotCome d p s <;> simp +zetaDelta

@[simp] theorem Device.slotsCome_still (d : Device) (p : Nat) (l : List (Bool × List Word)) : (d.slotsCome p l).still = d.still := by
  induction l generalizing d with
  | nil => rfl
  | cons s l ih => simp [Device.slotsCome, ih]

@[simp] theorem Device.codeword_still (d : Device) (p : Nat) (f : Flit) : (d.codeword p f).still = d.still := by
  simp [Device.codeword]

@[simp] theorem devDataFlit_still (p : Nat) (f : Flit) (d : Device) : (devDataFlit p f d).still = d.still := by
  simp [devDataFlit]

@[simp] theorem devControlFlit_still (p : Nat) (f : Flit) (d : Device) : (devControlFlit p f d).still = d.still := by
  fun_cases devControlFlit p f d <;> simp +zetaDelta

@[simp] theorem devCreditReturn_still (p : Nat) (d : Device) : (devCreditReturn p d).still = d.still := by
  simp [devCreditReturn]

@[simp] theorem devReplay_still (p : Nat) (d : Device) : (devReplay p d).still = d.still := by
  fun_cases devReplay p d <;> simp +zetaDelta

@[simp] theorem devLossOfSignal_still (p lane : Nat) (d : Device) : (devLossOfSignal p lane d).still = d.still := by
  simp [devLossOfSignal]

@[simp] theorem devRetrain_still (p : Nat) (d : Device) : (devRetrain p d).still = d.still := by
  simp [devRetrain]

@[simp] theorem devPortEnable_still (p : Nat) (d : Device) : (devPortEnable p d).still = d.still := by
  simp [devPortEnable]

@[simp] theorem devKeepalive_still (p : Nat) (d : Device) : (devKeepalive p d).still = d.still := by
  simp [devKeepalive]

@[simp] theorem Device.flood_still (d : Device) (but : Nat) (body : List Byte) : (d.flood but body).still = d.still := by
  simp [Device.flood]

@[simp] theorem Device.ownLsa_still (d : Device) : (d.ownLsa).still = d.still := by
  simp [Device.ownLsa]

/-! Network. -/

@[simp] theorem Device.setInput_still (d : Device) (mv ma : Nat) : (d.setInput mv ma).still = d.still := by
  simp [Device.setInput]

@[simp] theorem devCurrentClamp_still (mv ma : Nat) (d : Device) : (devCurrentClamp mv ma d).still = d.still := by
  simp [devCurrentClamp]

@[simp] theorem devClampRelease_still (mv ma : Nat) (d : Device) : (devClampRelease mv ma d).still = d.still := by
  simp [devClampRelease]

@[simp] theorem devThermTrip_still (die : Nat) (d : Device) : (devThermTrip die d).still = d.still := by
  fun_cases devThermTrip die d <;> simp +zetaDelta

@[simp] theorem devThermRelease_still (die : Nat) (d : Device) : (devThermRelease die d).still = d.still := by
  simp [devThermRelease]

@[simp] theorem devConeReport_still (die c : Nat) (rate temp : BitVec 16) (mv : BitVec 10) (d : Device) :
    (devConeReport die c rate temp mv d).still = d.still := by
  simp [devConeReport]

@[simp] theorem devPwrVsetWrite_still (ag : Agent) (die : Nat) (v : Word) (d : Device) : (devPwrVsetWrite ag die v d).still = d.still := by
  simp [devPwrVsetWrite]

@[simp] theorem Device.moveSupply_still (d : Device) (die : Nat) : (d.moveSupply die).still = d.still := by
  rfl

@[simp] theorem devGrgTestEvaluation_still (die : Nat) (d : Device) : (devGrgTestEvaluation die d).still = d.still := by
  unfold devGrgTestEvaluation
  split
  · rfl
  · simp -implicitDefEqProofs

@[simp] theorem devGrgTestDone_still (die : Nat) (d : Device) : (devGrgTestDone die d).still = d.still := by
  simp [devGrgTestDone]

/-! Boot. -/

@[simp] theorem Device.applyConfig_still (d : Device) (c : List Word) : (d.applyConfig c).still = d.still := by
  simp [Device.applyConfig]

@[simp] theorem Device.setMeasurement_still (d : Device) (k : Nat) (l : List Byte) : (d.setMeasurement k l).still = d.still := by
  simp [Device.setMeasurement]

@[simp] theorem Device.extendM_still (d : Device) (k : Nat) (dg : List Byte) : (d.extendM k dg).still = d.still := by
  simp [Device.extendM]

@[simp] theorem Device.bootField_still (d : Device) (hi lo v : Nat) : (d.bootField hi lo v).still = d.still := by
  rfl

@[simp] theorem Device.secStat_still (d : Device) (fallback : Bool) : (d.secStat fallback).still = d.still := by
  simp [Device.secStat]

@[simp] theorem Device.bootLog_still (d : Device) (time : Nat) : (d.bootLog time).still = d.still := by
  rfl

@[simp] theorem Device.portsOff_still (d : Device) : (d.portsOff).still = d.still := by
  simp [Device.portsOff]

@[simp] theorem Device.bootFail_still (d : Device) (code : Nat) : (d.bootFail code).still = d.still := by
  simp [Device.bootFail]

@[simp] theorem Device.startImage_still (d : Device) (s fb : Nat) : (d.startImage s fb).still = d.still := by
  simp [Device.startImage]

@[simp] theorem Device.trySlots_still (d : Device) (err : Nat → ReadError) (fb : Nat) (l : List Nat) :
    (d.trySlots err fb l).still = d.still := by
  induction l generalizing d fb with
  | nil => simp [Device.trySlots]
  | cons s l ih =>
    unfold Device.trySlots
    simp only
    split
    · exact d.startImage_still s fb
    · exact ih _ _

/-- What power good leaves alone: it starts the local time counters from 0. -/
theorem devPowerGood_still (presence : Bool) (b : BootProbe) (d : Device) :
    ∃ l, (devPowerGood presence b d).still = ⟨d.core.mem, l, d.core.watch⟩ := by
  fun_cases devPowerGood presence b d with
  | case1 => exact ⟨d.core.ltc, rfl⟩
  | case2 => exact ⟨[], by simp -implicitDefEqProofs +zetaDelta⟩
  | case3 => exact ⟨[], by simp -implicitDefEqProofs +zetaDelta⟩
  | case4 => exact ⟨[], by simp -implicitDefEqProofs +zetaDelta⟩
  | case5 => exact ⟨[], by simp -implicitDefEqProofs +zetaDelta⟩
  | case6 => exact ⟨[], by simp -implicitDefEqProofs +zetaDelta⟩

@[simp] theorem devMgtBootokWrite_still (v : Word) (d : Device) : (devMgtBootokWrite v d).still = d.still := by
  simp [devMgtBootokWrite]

@[simp] theorem devBootokTimeout_still (err : ReadError) (d : Device) : (devBootokTimeout err d).still = d.still := by
  simp [devBootokTimeout]

@[simp] theorem Device.writeScrubs_still (d : Device) : (d.writeScrubs).still = d.still := by
  rfl

@[simp] theorem devModuleReady_tame {σ : Still} (t1ok t2ok : Bool) (tready : Nat) (d : Device) (h : Tame σ d.still) :
    Tame σ (devModuleReady t1ok t2ok tready d).still := by
  fun_cases devModuleReady t1ok t2ok tready d with
  | case1 => exact h
  | case2 => simp -implicitDefEqProofs +zetaDelta [h]
  | case3 => exact h
  | case4 => simp [h]
  | case5 => simp [h]
  | case6 _ _ _ _ e e1 =>
    have cleared : Tame σ e.still := ⟨fun _ => rfl, h.ltc, h.watch⟩
    simp -implicitDefEqProofs [e1, cleared]

@[simp] theorem devProgram_still (d : Device) : (devProgram d).still = d.still := by
  simp [devProgram]

@[simp] theorem Device.programConfig_still (d : Device) (l : List Word) : (d.programConfig l).still = d.still := by
  rfl

@[simp] theorem Device.programCut_still (d : Device) (l : List Word) : (d.programCut l).still = d.still := by
  rfl

@[simp] theorem devCfgProgram_still (flashOk : Bool) (d : Device) : (devCfgProgram flashOk d).still = d.still := by
  fun_cases devCfgProgram flashOk d <;> simp +zetaDelta

@[simp] theorem devOfferUpdate_tame {σ : Still} (d : Device) (h : Tame σ d.still) : Tame σ (devOfferUpdate d).still := by
  simp [devOfferUpdate, h]

@[simp] theorem Device.programSlot_still (d : Device) (s : Nat) (l : List Byte) : (d.programSlot s l).still = d.still := by
  rfl

@[simp] theorem devImageUpdate_still (flashOk : Bool) (d : Device) : (devImageUpdate flashOk d).still = d.still := by
  unfold devImageUpdate
  split <;> simp

@[simp] theorem devRaiseFloor_still (d : Device) : (devRaiseFloor d).still = d.still := by
  simp [devRaiseFloor]

@[simp] theorem devRevoke_still (mask : BitVec 4) (d : Device) : (devRevoke mask d).still = d.still := by
  unfold devRevoke
  split <;> simp

@[simp] theorem devExtend_still (k : Nat) (d : Device) : (devExtend k d).still = d.still := by
  simp [devExtend]

@[simp] theorem devQuote_still (d : Device) : (devQuote d).still = d.still := by
  simp [devQuote]

@[simp] theorem Device.quoteDone_still (d : Device) : (d.quoteDone).still = d.still := by
  unfold Device.quoteDone
  split
  · rfl
  · simp -implicitDefEqProofs

@[simp] theorem devQuoteReady_still (d : Device) : (devQuoteReady d).still = d.still := by
  simp [devQuoteReady]

/-! Train. -/

@[simp] theorem Device.trsDone_still (d : Device) (die : Nat) (c : Cmd) (status : Nat) : (d.trsDone die c status).still = d.still := by
  simp [Device.trsDone]

@[simp] theorem Device.trsRefuse_still (d : Device) (die : Nat) (c : Cmd) (x : Nat × Nat) : (d.trsRefuse die c x).still = d.still := by
  simp [Device.trsRefuse]

@[simp] theorem Device.trsFault_still (d : Device) (die : Nat) (c : Cmd) (cause index : Nat) :
    (d.trsFault die c cause index).still = d.still := by
  simp [Device.trsFault]

@[simp] theorem Device.trsPoison_still (d : Device) (die : Nat) (c : Cmd) (p : Bool) : (d.trsPoison die c p).still = d.still := by
  simp [Device.trsPoison]

@[simp] theorem Device.trsEnd_still (d : Device) (die : Nat) (c : Cmd) (flt : UnitFault) (p : Bool) (status : Nat) :
    (d.trsEnd die c flt p status).still = d.still := by
  fun_cases Device.trsEnd d die c flt p status <;> simp +zetaDelta

@[simp] theorem Device.runUnits_tame {σ : Still} (d : Device) (die n : Nat) (f : Nat → UnitOut) (h : Tame σ d.still) :
    Tame σ (d.runUnits die n f).1.still := by
  simp [Device.runUnits, h]

@[simp] theorem devQuant_tame {σ : Still} (die : Nat) (flt : UnitFault) (d : Device) (h : Tame σ d.still) :
    Tame σ (devQuant die flt d).still := by
  fun_cases devQuant die flt d with
  | case1 => exact h
  | case2 => simp [h]
  | case3 c _ _ w ls n flt epar e e' nonfin p hrun e'' =>
    have ran : Tame σ e'.still := by
      have put := e.runUnits_tame die (flt.units n) (quantBlock e c w (e.draw die 3 (w 10)) epar (lsExp ls - elsExp ls))
        (d.coder_tame false (quantReads w epar (flt.units n)) h)
      rwa [hrun] at put
    simp +zetaDelta [ran]

@[simp] theorem Device.haltAll_still (d : Device) (die : Nat) : (d.haltAll die).still = d.still := by
  simp [Device.haltAll]

@[simp] theorem Device.applyGate_tame {σ : Still} (d : Device) (die : Nat) (c : Cmd) (recs : List (List Word)) (g : Gate) (p : Bool)
    (h : Tame σ d.still) : Tame σ (d.applyGate die c recs g p).still := by
  have written (a b : Word) (e : Nat) (l : List PByte) : Tame σ (((d.setReg (trsReg die 0x10) a).setReg (trsReg die 4) b).write e l).still := by
    simp -implicitDefEqProofs [h]
  unfold Device.applyGate
  simp only
  split <;> simp -implicitDefEqProofs [written]

@[simp] theorem devStepgate_tame {σ : Still} (die : Nat) (flt : UnitFault) (d : Device) (h : Tame σ d.still) :
    Tame σ (devStepgate die flt d).still := by
  fun_cases devStepgate die flt d with
  | case1 => exact h
  | case2 => simp [h]
  | case3 => simp +zetaDelta [h]
  | case4 => simp +zetaDelta [h]
  | case5 => simp +zetaDelta [h]

@[simp] theorem devRdrv_tame {σ : Still} (die : Nat) (flt : UnitFault) (d : Device) (h : Tame σ d.still) :
    Tame σ (devRdrv die flt d).still := by
  fun_cases devRdrv die flt d with
  | case1 => exact h
  | case2 => simp [h]
  | case3 c _ _ w n flt e e' _ p hrun =>
    have ran : Tame σ e'.still := by
      have put := e.runUnits_tame die (flt.units n) (rdrvRecord e w) (d.fetch_tame _ _ h)
      rwa [hrun] at put
    simp [ran]

@[simp] theorem devDigest_tame {σ : Still} (die : Nat) (flt : UnitFault) (d : Device) (h : Tame σ d.still) :
    Tame σ (devDigest die flt d).still := by
  fun_cases devDigest die flt d with
  | case1 => exact h
  | case2 => simp [h]
  | case3 _ _ _ n flt' rl e data p v e' e'' =>
    have read : Tame σ e'.still := Device.coder_tame _ _ _ h
    have wrote : Tame σ e''.still := by
      unfold e''
      split
      · exact (Device.write_tame _ _ _ read).congr (Device.setReg64_still _ _ _)
      · exact read
    exact wrote.congr (e''.trsEnd_still _ _ _ _ _)

@[simp] theorem devPack_tame {σ : Still} (die : Nat) (flt : UnitFault) (d : Device) (h : Tame σ d.still) :
    Tame σ (devPack die flt d).still := by
  have wrote (c : Prop) [Decidable c] (a n b k p) (l : List PByte) :
      Tame σ (((if c then d else d.fetch a n).write b l).progressN k p).still := by
    rw [Device.progressN_still]
    exact Device.write_tame _ _ _ (by simp [h])
  fun_cases devPack die flt d with
  | case1 => exact h
  | case2 => simp [h]
  | case3 => simpa only [Device.trsFault_still, Device.trsPoison_still] using wrote _ _ _ _ _ _ _
  | case4 =>
    simp only [Device.trsEnd_still, Device.setReg_still]
    exact Device.write_tame _ _ _ (wrote _ _ _ _ _ _ _)
  | case5 => simpa only [Device.trsEnd_still] using wrote _ _ _ _ _ _ _

@[simp] theorem Device.mupdMember_still (d : Device) (r : MupdRun) (m status : Nat) : (d.mupdMember r m status).still = d.still := by
  fun_cases Device.mupdMember d r m status
  simp +zetaDelta

@[simp] theorem Device.mupdStop_still (d : Device) (r : MupdRun) : (d.mupdStop r).still = d.still := by
  simp [Device.mupdStop]

@[simp] theorem Device.mupdEmpty_still (d : Device) (l : List (Nat × MupdMem)) : (d.mupdEmpty l).still = d.still := by
  induction l generalizing d with
  | nil => rfl
  | cons x l ih =>
    unfold Device.mupdEmpty
    split <;> simp [ih]

@[simp] theorem devMupd_still (d : Device) : (devMupd d).still = d.still := by
  fun_cases devMupd d <;> simp +zetaDelta

@[simp] theorem Device.mupdRead_still (d : Device) (cid line m : Nat) (r : Nat × Nat) : (d.mupdRead cid line m r).still = d.still := by
  simp [Device.mupdRead]

@[simp] theorem Device.mupdFault_still (d : Device) (r : MupdRun) (m line cause : Nat) : (d.mupdFault r m line cause).still = d.still := by
  simp [Device.mupdFault]

@[simp] theorem Device.mupdAnswer_still (d : Device) (cid line : Nat) (ok : Bool) (data : List PByte) :
    (d.mupdAnswer cid line ok data).still = d.still := by
  fun_cases Device.mupdAnswer d cid line ok data <;> simp +zetaDelta

@[simp] theorem Device.mupdWrite_tame {σ : Still} (d : Device) (r : MupdRun) (m line : Nat) (x : MupdMem) (flt : UnitFault)
    (h : Tame σ d.still) : Tame σ (d.mupdWrite r m line x flt).still := by
  have read := fun l => d.coder_tame false l h
  unfold Device.mupdWrite
  simp only
  split <;> simp -implicitDefEqProofs [read]

@[simp] theorem devMasterLineUpdate_tame {σ : Still} (m line : Nat) (flt : UnitFault) (d : Device) (h : Tame σ d.still) :
    Tame σ (devMasterLineUpdate m line flt d).still := by
  fun_cases devMasterLineUpdate m line flt d <;> simp +zetaDelta [h]

/-! Collect. -/

@[simp] theorem Device.setCol_still (d : Device) (die : Nat) (v : Col) : (d.setCol die v).still = d.still := by
  rfl

@[simp] theorem Device.setColRun_still (d : Device) (die : Nat) (r : ColRun) : (d.setColRun die r).still = d.still := by
  rfl

@[simp] theorem Device.colSend_still (d : Device) (die : Nat) (r : ColRun) (ring : Nat) (k : Packet) :
    (d.colSend die r ring k).1.still = d.still := by
  fun_cases Device.colSend d die r ring k <;> simp +zetaDelta

@[simp] theorem Device.colSendAll_still (d : Device) (die : Nat) (r : ColRun) (ring : Nat) (l : List Packet) :
    (d.colSendAll die r ring l).1.still = d.still := by
  induction l generalizing d r with
  | nil => rfl
  | cons k l ih => simp [Device.colSendAll, ih]

@[simp] theorem Device.sendStream_still (d : Device) (die : Nat) (r : ColRun) (ring kind round piece : Nat) (l : List PByte) :
    (d.sendStream die r ring kind round piece l).1.still = d.still := by
  simp [Device.sendStream]

@[simp] theorem Device.colWrite_tame {σ : Still} (d : Device) (die : Nat) (r : ColRun) (j : Nat) (l : List PByte)
    (h : Tame σ d.still) : Tame σ (d.colWrite die r j l).1.still := by
  simp [Device.colWrite, h]

@[simp] theorem Device.writeResult_tame {σ : Still} (d : Device) (r : ColRun) (dec : ColDecision) (abort : Bool)
    (h : Tame σ d.still) : Tame σ (d.writeResult r dec abort).still := by
  unfold Device.writeResult
  split <;> simp [h]

@[simp] theorem Device.outputOpen_tame {σ : Still} (d : Device) (r : ColRun) (h : Tame σ d.still) : Tame σ (d.outputOpen r).still := by
  simp [Device.outputOpen, h]

@[simp] theorem Device.colDone_still (d : Device) (die : Nat) (r : ColRun) (status : Nat) : (d.colDone die r status).still = d.still := by
  simp [Device.colDone]

@[simp] theorem Device.sendAbort_still (d : Device) (by_ : Option Nat) (gens : List (Nat × Nat)) (axis dir : Nat) (k : Packet) :
    (d.sendAbort by_ gens axis dir k).still = d.still := by
  fun_cases Device.sendAbort d by_ gens axis dir k <;> simp +zetaDelta

@[simp] theorem Device.sendAborts_still (d : Device) (by_ : Option Nat) (r : ColRun) (cause origin : Nat) :
    (d.sendAborts by_ r cause origin).still = d.still := by
  simp [Device.sendAborts]

@[simp] theorem Device.markAborted_still (d : Device) (step : Word) (try_ cause origin die : Nat) :
    (d.markAborted step try_ cause origin die).still = d.still := by
  simp [Device.markAborted]

@[simp] theorem Device.abortStep_tame {σ : Still} (d : Device) (send : Bool) (step : Word) (try_ cause origin : Nat)
    (faulted : Option Nat) (h : Tame σ d.still) :
    Tame σ (d.abortStep send step try_ cause origin faulted).still := by
  fun_cases Device.abortStep d send step try_ cause origin faulted <;> simp +zetaDelta [h]

@[simp] theorem Device.stepAbort_tame {σ : Still} (d : Device) (step : Word) (try_ cause origin : Nat) (faulted : Option Nat)
    (h : Tame σ d.still) :
    Tame σ (d.stepAbort step try_ cause origin faulted).still := by
  simp [Device.stepAbort, h]

@[simp] theorem Device.colFault_tame {σ : Still} (d : Device) (die : Nat) (r : ColRun) (cause piece : Nat) (h : Tame σ d.still) :
    Tame σ (d.colFault die r cause piece).still := by
  simp [Device.colFault, h]

@[simp] theorem Device.colPeerReset_tame {σ : Still} (d : Device) (src : Nat) (h : Tame σ d.still) : Tame σ (d.colPeerReset src).still := by
  fun_cases Device.colPeerReset d src
  simp +zetaDelta [h]

@[simp] theorem Device.colLinkCheck_tame {σ : Still} (d : Device) (h : Tame σ d.still) : Tame σ (d.colLinkCheck).still := by
  fun_cases Device.colLinkCheck d
  simp +zetaDelta [h]

@[simp] theorem Device.noteEntries_still (d : Device) (die : Nat) (r : ColRun) (l : List Entry) :
    (d.noteEntries die r l).1.still = d.still := by
  simp [Device.noteEntries]

@[simp] theorem Device.sumComplete_tame {σ : Still} (d : Device) (die : Nat) (r : ColRun) (ring j : Nat) (ps : List Partial)
    (h : Tame σ d.still) : Tame σ (d.sumComplete die r ring j ps).1.still := by
  fun_cases Device.sumComplete d die r ring j ps with
  | case1 _ _ _ e _ _ hw => simpa using Tame.of_pair (σ := σ) hw (by simp [e, h])
  | case2 _ _ _ e _ _ hw => exact Tame.of_pair hw (by simp [e, h])

@[simp] theorem Device.colDecide_tame {σ : Still} (d : Device) (die : Nat) (r : ColRun) (h : Tame σ d.still) :
    Tame σ (d.colDecide die r).still := by
  simp [Device.colDecide, h]

@[simp] theorem Device.passClose_still (d : Device) (die : Nat) (r : ColRun) (from_ : Nat) (k : List Word) :
    (d.passClose die r from_ k).1.still = d.still := by
  fun_cases Device.passClose d die r from_ k <;> simp +zetaDelta

@[simp] theorem Device.passCloses_still (d : Device) (die : Nat) (r : ColRun) (l : List (Nat × List Word)) :
    (d.passCloses die r l).1.still = d.still := by
  induction l generalizing d r with
  | nil => rfl
  | cons k l ih => simp [Device.passCloses, ih]

@[simp] theorem Device.colClose_tame {σ : Still} (d : Device) (die : Nat) (r : ColRun) (h : Tame σ d.still) :
    Tame σ (d.colClose die r).still := by
  fun_cases Device.colClose d die r with
  | case1 => simp [h]
  | case2 _ _ _ _ _ _ _ _ hs _ _ hp =>
    have sent := Tame.of_pair (σ := σ) hs (by simp [apply_ite Prod.fst, h])
    exact Device.colDecide_tame _ _ _ (Tame.of_pair hp (by simp [sent]))
  | case3 _ _ _ _ _ _ _ _ hs _ _ hp =>
    have sent := Tame.of_pair (σ := σ) hs (by simp [apply_ite Prod.fst, h])
    simpa using Tame.of_pair hp (by simp [sent])

@[simp] theorem Device.sendFirst_tame {σ : Still} (d : Device) (die ring : Nat) (r : ColRun) (l : List Nat) (h : Tame σ d.still) :
    Tame σ (d.sendFirst die ring r l).1.still := by
  induction l generalizing d r with
  | nil => exact h
  | cons j l ih => exact ih _ _ (by simp [h])

@[simp] theorem Device.sumAlone_tame {σ : Still} (d : Device) (die ring : Nat) (r : ColRun) (l : List Nat) (h : Tame σ d.still) :
    Tame σ (d.sumAlone die ring r l).1.still := by
  induction l generalizing d r with
  | nil => exact h
  | cons j l ih => exact ih _ _ (by simp [h])

@[simp] theorem Device.gatherFirst_tame {σ : Still} (d : Device) (die ring : Nat) (r : ColRun) (l : List Nat) (h : Tame σ d.still) :
    Tame σ (d.gatherFirst die ring r l).1.still := by
  induction l generalizing d r with
  | nil => exact h
  | cons j l ih =>
    have fetched := d.fetch_tame (pairDA r.w 0 + 256 * (16 * (j % r.pieces))) (r.gatherLen j) h
    refine ih _ _ ?_
    split <;> simp [fetched]

@[simp] theorem Device.openRing_tame {σ : Still} (d : Device) (die ring : Nat) (r : ColRun) (h : Tame σ d.still) :
    Tame σ (d.openRing die ring r).1.still := by
  fun_cases Device.openRing d die ring r <;> simp +zetaDelta [h]

@[simp] theorem Device.colHeader_tame {σ : Still} (d : Device) (c : Cmd) (h : Tame σ d.still) : Tame σ (d.colHeader c).still := by
  simp [Device.colHeader, h]

@[simp] theorem Device.colIssue_tame {σ : Still} (d : Device) (die : Nat) (chk : CoreCheck) (ops : List Nat) (h : Tame σ d.still) :
    Tame σ (d.colIssue die chk ops).still := by
  have opened (l : List Nat) (r : ColRun) {e : Device} (he : Tame σ e.still) :
      Tame σ (l.foldl (fun x ring => x.1.openRing die ring x.2) (e, r)).1.still :=
    foldl_fst_tame _ l (e, r) (fun y ring => y.1.openRing_tame die ring y.2 (Tame.refl _)) he
  unfold Device.colIssue
  cases d.ready (qCol die) with
  | none => exact h
  | some c =>
    refine iteInduction (motive := fun e : Device => Tame σ e.still) (fun _ => h) (fun _ => ?_)
    have he := Device.colHeader_tame d c h
    generalize d.colHeader c = e at he ⊢
    simp -implicitDefEqProofs only
    cases e.groupBad (qCol die) c fun q c => colBad e (q - 716) c with
    | some x => exact he.congr (Device.refuse_still _ _ _ _ _ _)
    | none =>
      have hp := he.congr (Device.popCmd_still e (qCol die))
      refine iteInduction (motive := fun e : Device => Tame σ e.still) (fun _ => ?_) (fun _ => ?_)
      · exact (Device.writeResult_tame _ _ _ _ (Device.outputOpen_tame _ _
          (hp.congr (Device.sendAborts_still _ _ _ _ _)))).congr (Device.colDone_still _ _ _ _)
      · cases checkCause chk with
        | some cause => exact Device.colFault_tame _ _ _ _ _ ((opened _ _ hp).congr (Device.setColRun_still _ _ _))
        | none => exact Device.colClose_tame _ _ _ (opened _ _ hp)

@[simp] theorem devReduceScatter_tame {σ : Still} (die : Nat) (chk : CoreCheck) (d : Device) (h : Tame σ d.still) :
    Tame σ (devReduceScatter die chk d).still :=
  d.colIssue_tame die chk _ h

@[simp] theorem devAllGather_tame {σ : Still} (die : Nat) (chk : CoreCheck) (d : Device) (h : Tame σ d.still) :
    Tame σ (devAllGather die chk d).still :=
  d.colIssue_tame die chk _ h

@[simp] theorem devAllReduce_tame {σ : Still} (die : Nat) (chk : CoreCheck) (d : Device) (h : Tame σ d.still) :
    Tame σ (devAllReduce die chk d).still :=
  d.colIssue_tame die chk _ h

theorem Device.takeRx_still {d e : Device} {p : Nat} {f : Packet → Bool} {k : Packet} (hx : d.takeRx p f = some (k, e)) :
    e.still = d.still := by
  revert hx
  fun_cases Device.takeRx d p f with
  | case1 => simp
  | case2 => rintro ⟨⟩; simp

theorem Device.takeCol_still {d e : Device} {p kind : Nat} {k : Packet} (hx : d.takeCol p kind = some (k, e)) :
    e.still = d.still :=
  Device.takeRx_still hx

@[simp] theorem Device.reducePart_tame {σ : Still} (d : Device) (die : Nat) (r : ColRun) (k : Packet) (x : CoreCheck)
    (h : Tame σ d.still) : Tame σ (d.reducePart die r k x).still := by
  fun_cases Device.reducePart d die r k x with
  | case1 => simp [h]
  | case2 => exact h
  | case3 => simp +zetaDelta [h]
  | case4 => simp +zetaDelta [h]
  | case5 => simp +zetaDelta [h]
  | case6 => simp +zetaDelta [h]
  | case7 => simp +zetaDelta [h]
  | case8 _ _ _ _ _ _ _ _ _ _ _ _ _ _ _ _ hn _ _ _ hs =>
    have noted := Tame.of_pair (σ := σ) hn (by simp +zetaDelta [h])
    have sent := Tame.of_pair (σ := σ) hs (by simp [apply_ite Prod.fst, noted])
    exact Device.colClose_tame _ _ _ sent

@[simp] theorem devColReduce_tame {σ : Still} (p : Nat) (x : CoreCheck) (d : Device) (h : Tame σ d.still) :
    Tame σ (devColReduce p x d).still := by
  fun_cases devColReduce p x d with
  | case1 => exact h
  | case2 _ _ hx => simp [Device.takeCol_still hx, h]
  | case3 _ _ hx => simp [Device.takeCol_still hx, h]
  | case4 _ _ hx => simp [Device.takeCol_still hx, h]

@[simp] theorem Device.gatherPart_tame {σ : Still} (d : Device) (die : Nat) (r : ColRun) (k : Packet) (x : CoreCheck)
    (h : Tame σ d.still) : Tame σ (d.gatherPart die r k x).still := by
  fun_cases Device.gatherPart d die r k x with
  | case1 => simp [h]
  | case2 => exact h
  | case3 => simp +zetaDelta [h]
  | case4 => simp +zetaDelta [h]
  | case5 => simp +zetaDelta [h]
  | case6 _ _ _ _ _ _ _ _ _ _ _ _ hw _ _ hs =>
    have wrote := Tame.of_pair (σ := σ) hw (by simp +zetaDelta [h])
    have sent := Tame.of_pair (σ := σ) hs (by simp [apply_ite Prod.fst, wrote])
    exact Device.colClose_tame _ _ _ sent

@[simp] theorem devColGather_tame {σ : Still} (p : Nat) (x : CoreCheck) (d : Device) (h : Tame σ d.still) :
    Tame σ (devColGather p x d).still := by
  fun_cases devColGather p x d with
  | case1 => exact h
  | case2 _ _ hx => simp [Device.takeCol_still hx, h]
  | case3 _ _ hx => simp [Device.takeCol_still hx, h]
  | case4 _ _ hx => simp [Device.takeCol_still hx, h]

@[simp] theorem Device.closePart_tame {σ : Still} (d : Device) (die : Nat) (r : ColRun) (k : Packet) (x : CoreCheck) (h : Tame σ d.still) :
    Tame σ (d.closePart die r k x).still := by
  unfold Device.closePart
  split <;> simp [h]

@[simp] theorem devColClose_tame {σ : Still} (p : Nat) (x : CoreCheck) (d : Device) (h : Tame σ d.still) :
    Tame σ (devColClose p x d).still := by
  fun_cases devColClose p x d with
  | case1 => exact h
  | case2 _ _ hx => simp [Device.takeCol_still hx, h]
  | case3 _ _ hx => simp [Device.takeCol_still hx, h]
  | case4 _ _ hx => simp [Device.takeCol_still hx, h]

@[simp] theorem devSealExpiry_tame {σ : Still} (die : Nat) (d : Device) (h : Tame σ d.still) : Tame σ (devSealExpiry die d).still := by
  fun_cases devSealExpiry die d <;> simp +zetaDelta [h]

@[simp] theorem devAbortPacket_tame {σ : Still} (p : Nat) (d : Device) (h : Tame σ d.still) :
    Tame σ (devAbortPacket p d).still := by
  fun_cases devAbortPacket p d with
  | case1 => exact h
  | case2 _ _ hx => simp [Device.takeCol_still hx, h]
  | case3 _ _ hx => simp +zetaDelta [Device.takeCol_still hx, h]
  | case4 _ _ hx => simp +zetaDelta [Device.takeCol_still hx, h]

@[simp] theorem devCollectiveTimeout_tame {σ : Still} (die : Nat) (d : Device) (h : Tame σ d.still) :
    Tame σ (devCollectiveTimeout die d).still := by
  fun_cases devCollectiveTimeout die d <;> simp +zetaDelta [h]

@[simp] theorem devHostAbort_tame {σ : Still} (die : Nat) (d : Device) (h : Tame σ d.still) : Tame σ (devHostAbort die d).still := by
  fun_cases devHostAbort die d <;> simp +zetaDelta [h]

@[simp] theorem Device.flushCol_tame {σ : Still} (d : Device) (die : Nat) (h : Tame σ d.still) :
    Tame σ (d.flushCol die).still := by
  have sent (l : List (Nat × Packet)) (r : ColRun) :
      Tame σ (l.foldl (fun x k => x.1.colSend die x.2 k.1 k.2) (d, r)).1.still :=
    foldl_fst_tame _ l (d, r) (fun y k => by simp) h
  fun_cases Device.flushCol d die with
  | case1 => exact h
  | case2 => exact h
  | case3 => exact Device.colClose_tame _ _ _ (sent _ _)

/-! Drain. -/

@[simp] theorem devDrain_still (die a p : Nat) (d : Device) : (devDrain die a p d).still = d.still := by
  fun_cases devDrain die a p d <;> simp +zetaDelta

@[simp] theorem Device.cleanRow_still (d : Device) (die a t l q0 nq : Nat) : (d.cleanRow die a t l q0 nq).still = d.still := by
  simp [Device.cleanRow]

@[simp] theorem Device.poisonRow_still (d : Device) (die a t l q0 nq : Nat) : (d.poisonRow die a t l q0 nq).still = d.still := by
  simp [Device.poisonRow]

@[simp] theorem devDrainRowSegment_tame {σ : Still} (die a p k : Nat) (ecc : EccOutcome) (d : Device) (h : Tame σ d.still) :
    Tame σ (devDrainRowSegment die a p k ecc d).still := by
  fun_cases devDrainRowSegment die a p k ecc d with
  | case1 => exact h
  | case2 => exact h
  | case3 _ _ _ _ _ _ _ _ _ _ _ _ e _ _ _ _ _ _ _ e1 e2 _ e3 e4 _ e5 e6 =>
    have read : Tame σ e.still := by cases ecc <;> simp [e, h]
    have cleaned : Tame σ e2.still := by simp [e2, e1, read]
    have counted : Tame σ e6.still := by simp [e6, e5, e4, e3, cleaned]
    simpa using counted

@[simp] theorem devDrainComplete_still (die a p k : Nat) (d : Device) : (devDrainComplete die a p k d).still = d.still := by
  fun_cases devDrainComplete die a p k d <;> simp +zetaDelta

@[simp] theorem devDrainFault_still (die a p k cause : Nat) (d : Device) : (devDrainFault die a p k cause d).still = d.still := by
  fun_cases devDrainFault die a p k cause d <;> simp +zetaDelta

/-! Hostif. -/

@[simp] theorem Device.linkFields_still (d : Device) (speed width : Nat) (flit : Bool) :
    (d.linkFields speed width flit).still = d.still := by
  simp [Device.linkFields]

@[simp] theorem devLinkUp_still (speed width : Nat) (flit : Bool) (d : Device) : (devLinkUp speed width flit d).still = d.still := by
  simp [devLinkUp]

@[simp] theorem devLinkState_still (speed width : Nat) (flit : Bool) (d : Device) : (devLinkState speed width flit d).still = d.still := by
  simp [devLinkState]

@[simp] theorem Device.msixFlush_still (d : Device) : (d.msixFlush).still = d.still := by
  simp [Device.msixFlush]

@[simp] theorem Device.cfgWrite_still (d : Device) (r : Nat) (v : Word) : (d.cfgWrite r v).still = d.still := by
  fun_cases Device.cfgWrite d r v <;> simp +zetaDelta

@[simp] theorem devConfigRequest_still (write : Bool) (r : Nat) (v : Word) (bdf : BitVec 16) (d : Device) :
    (devConfigRequest write r v bdf d).still = d.still := by
  simp [devConfigRequest]

@[simp] theorem Device.functionReset_still (d : Device) : (d.functionReset).still = d.still := by
  simp [Device.functionReset]

@[simp] theorem devFlr_still (d : Device) : (devFlr d).still = d.still := by
  simp [devFlr]

@[simp] theorem devHotReset_still (d : Device) : (devHotReset d).still = d.still := by
  simp [devHotReset]

@[simp] theorem devHostLinkDown_still (d : Device) : (devHostLinkDown d).still = d.still := by
  simp [devHostLinkDown]

@[simp] theorem Device.barShutRead_still (d : Device) (n : Nat) : (d.barShutRead n).still = d.still := by
  simp [Device.barShutRead]

@[simp] theorem Device.bar0Read_still (d : Device) (n v : Nat) : (d.bar0Read n v).still = d.still := by
  simp [Device.bar0Read]

@[simp] theorem Device.apRefused_still (d : Device) (off reason : Nat) : (d.apRefused off reason).still = d.still := by
  simp [Device.apRefused]

@[simp] theorem devApertureAccess_tame {σ : Still} (write : Bool) (off : Nat) (data : List Byte) (len : Nat) (poison : Bool) (d : Device)
    (h : Tame σ d.still) :
    Tame σ (devApertureAccess write off data len poison d).still := by
  fun_cases devApertureAccess write off data len poison d <;> simp +zetaDelta [h]

@[simp] theorem Device.msixPoke_still (d : Device) (k : Nat) (v : Word) : (d.msixPoke k v).still = d.still := by
  rfl

@[simp] theorem devPageAccess_still (die s off : Nat) (write : Bool) (width : Nat) (v : BitVec 64) (poison : Bool) (d : Device) :
    (devPageAccess die s off write width v poison d).still = d.still := by
  simp [devPageAccess]

@[simp] theorem devMsixTableAccess_still (write : Bool) (off width : Nat) (v : BitVec 64) (poison : Bool) (d : Device) :
    (devMsixTableAccess write off width v poison d).still = d.still := by
  fun_cases devMsixTableAccess write off width v poison d <;> simp +zetaDelta

@[simp] theorem Device.toSynian_still (d : Device) (e : Event) : (d.toSynian e).1.still = d.still := by
  rfl

@[simp] theorem Device.toRing_still (d : Device) (e : Event) (seq : Nat) : (d.toRing e seq).still = d.still := by
  fun_cases Device.toRing d e seq <;> simp +zetaDelta

@[simp] theorem Device.overflowRecord_still (d : Device) : (d.overflowRecord).still = d.still := by
  unfold Device.overflowRecord
  split <;> simp

@[simp] theorem Device.eventCame_still (d : Device) (e : Event) : (d.eventCame e).still = d.still := by
  simp [Device.eventCame]

@[simp] theorem devEventRecordWrite_still (d : Device) : (devEventRecordWrite d).still = d.still := by
  fun_cases devEventRecordWrite d <;> simp +zetaDelta

@[simp] theorem Device.drainEvents_still (d : Device) : (d.drainEvents).still = d.still := by
  simp [Device.drainEvents]

@[simp] theorem Device.evcfgWrite_still (d : Device) (v : Word) : (d.evcfgWrite v).still = d.still := by
  simp [Device.evcfgWrite]

@[simp] theorem Device.evheadWrite_still (d : Device) (v : Word) : (d.evheadWrite v).still = d.still := by
  fun_cases Device.evheadWrite d v <;> simp +zetaDelta

@[simp] theorem devEventRingEnable_still (v : Word) (d : Device) : (devEventRingEnable v d).still = d.still := by
  simp [devEventRingEnable]

@[simp] theorem devEventRingDisable_still (v : Word) (d : Device) : (devEventRingDisable v d).still = d.still := by
  simp [devEventRingDisable]

@[simp] theorem devEventRingVecChange_still (v : Word) (d : Device) : (devEventRingVecChange v d).still = d.still := by
  simp [devEventRingVecChange]

@[simp] theorem devHifEvheadWrite_still (v : Word) (d : Device) : (devHifEvheadWrite v d).still = d.still := by
  simp [devHifEvheadWrite]

/-! Ingest. -/

@[simp] theorem Device.ingFinish_still (d : Device) (c : Cmd) (status : Nat) : (d.ingFinish c status).still = d.still := by
  simp [Device.ingFinish]

@[simp] theorem devIngestJob_still (d : Device) : (devIngestJob d).still = d.still := by
  fun_cases devIngestJob d <;> simp +zetaDelta

@[simp] theorem Device.setJob_still (d : Device) (j : IngJob) : (d.setJob j).still = d.still := by
  rfl

@[simp] theorem Device.writeSlot_tame {σ : Still} (d : Device) (j : IngJob) (s : Sample) (rows scales : List Byte) (pic nf : Nat)
    (h : Tame σ d.still) : Tame σ (d.writeSlot j s rows scales pic nf).still :=
  Device.write_tame _ _ _ (Device.write_tame _ _ _ (Device.write_tame _ _ _ h))

@[simp] theorem Device.endSample_tame {σ : Still} (d : Device) (j : IngJob) (s : Sample) (h : Tame σ d.still) :
    Tame σ (d.endSample j s).still := by
  simp [Device.endSample, h]

@[simp] theorem Device.framesDone_still (d : Device) (n : Nat) : (d.framesDone n).still = d.still := by
  simp [Device.framesDone]

@[simp] theorem Device.decodeEnds_tame {σ : Still} (d : Device) (j : IngJob) (s : Sample) (h : Tame σ d.still) :
    Tame σ (d.decodeEnds j s).still := by
  fun_cases Device.decodeEnds d j s <;> simp +zetaDelta [h]

@[simp] theorem Device.putRing_tame {σ : Still} (d : Device) (off : Nat) (l : List PByte) (h : Tame σ d.still) :
    Tame σ (d.putRing off l).still := by
  simp [Device.putRing, h]

@[simp] theorem Device.ingStop_tame {σ : Still} (d : Device) (j : IngJob) (status : Nat) (stopped : Bool) (h : Tame σ d.still) :
    Tame σ (d.ingStop j status stopped).still := by
  simp [Device.ingStop, h]

@[simp] theorem Device.ingRead_still (d : Device) (j : IngJob) (s : Sample) (a n : Nat) : (d.ingRead j s a n).still = d.still := by
  fun_cases Device.ingRead d j s a n
  simp +zetaDelta

@[simp] theorem Device.streamThere_tame {σ : Still} (d : Device) (j : IngJob) (s : Sample) (h : Tame σ d.still) :
    Tame σ (d.streamThere j s).still := by
  simp [Device.streamThere, h]

@[simp] theorem Device.readStream_tame {σ : Still} (d : Device) (j : IngJob) (s : Sample) (h : Tame σ d.still) :
    Tame σ (d.readStream j s).still := by
  simp [Device.readStream, h]

@[simp] theorem Device.fetchStream_tame {σ : Still} (d : Device) (j : IngJob) (s : Sample) (h : Tame σ d.still) :
    Tame σ (d.fetchStream j s).still := by
  fun_cases Device.fetchStream d j s <;> simp +zetaDelta [h]

@[simp] theorem Device.entryThere_tame {σ : Still} (d : Device) (j : IngJob) (s : Sample) (h : Tame σ d.still) :
    Tame σ (d.entryThere j s).still := by
  simp [Device.entryThere, h]

@[simp] theorem Device.ingAnswer_tame {σ : Still} (d : Device) (rid : Nat) (ok : Bool) (data : List PByte) (h : Tame σ d.still) :
    Tame σ (d.ingAnswer rid ok data).still := by
  fun_cases Device.ingAnswer d rid ok data <;> simp +zetaDelta [h]

@[simp] theorem Device.startSample_tame {σ : Still} (d : Device) (j : IngJob) (r : Redo) (dec : Nat) (flt : SampleFault)
    (h : Tame σ d.still) : Tame σ (d.startSample j r dec flt).still := by
  have hd := h.congr (d.disarm_still (.decode dec r.t))
  refine iteInduction (motive := fun e : Device => Tame σ e.still) (fun _ => ?_) (fun _ => ?_)
  · exact hd.congr (Device.ingRead_still _ _ _ _ _)
  · exact Device.entryThere_tame _ _ _ (Device.fetch_tame _ _ _ hd)

@[simp] theorem Device.freeDecoder_tame {σ : Still} (d : Device) (dec : Nat) (h : Tame σ d.still) : Tame σ (d.freeDecoder dec).still := by
  fun_cases Device.freeDecoder d dec <;> simp +zetaDelta [h]

@[simp] theorem devSampleStart_tame {σ : Still} (dec : Nat) (flt : SampleFault) (d : Device) (h : Tame σ d.still) :
    Tame σ (devSampleStart dec flt d).still := by
  fun_cases devSampleStart dec flt d <;> simp +zetaDelta [h]

@[simp] theorem Device.badSample_still (d : Device) (j : IngJob) (s : Sample) : (d.badSample j s).still = d.still := by
  simp [Device.badSample]

@[simp] theorem Device.endNext_tame {σ : Still} (d : Device) (h : Tame σ d.still) : Tame σ (d.endNext).still := by
  fun_cases Device.endNext d <;> simp +zetaDelta [h]

@[simp] theorem Device.commitNext_tame {σ : Still} (d : Device) (h : Tame σ d.still) : Tame σ (d.commitNext).still := by
  fun_cases Device.commitNext d <;> simp +zetaDelta [h]

@[simp] theorem devSampleCommit_tame {σ : Still} (d : Device) (h : Tame σ d.still) : Tame σ (devSampleCommit d).still := by
  simp [devSampleCommit, h]

@[simp] theorem devDecodeTimeout_tame {σ : Still} (dec : Nat) (d : Device) (h : Tame σ d.still) :
    Tame σ (devDecodeTimeout dec d).still := by
  fun_cases devDecodeTimeout dec d <;> simp +zetaDelta [h]

@[simp] theorem devIngAbort_tame {σ : Still} (d : Device) (h : Tame σ d.still) : Tame σ (devIngAbort d).still := by
  fun_cases devIngAbort d <;> simp +zetaDelta [h]

@[simp] theorem devPermTestEvaluation_still (d : Device) : (devPermTestEvaluation d).still = d.still := by
  unfold devPermTestEvaluation
  cases d.ing.test with
  | some _ => rfl
  | none => simp -implicitDefEqProofs

@[simp] theorem devPermTestDone_still (d : Device) : (devPermTestDone d).still = d.still := by
  unfold devPermTestDone
  cases d.ing.test with
  | none => rfl
  | some _ => simp -implicitDefEqProofs

/-! Link. -/

@[simp] theorem Device.learnTag_tame {σ : Still} (d : Device) (src sgen : Nat) (h : Tame σ d.still) :
    Tame σ (d.learnTag src sgen).still := by
  fun_cases Device.learnTag d src sgen <;> simp +zetaDelta [h]

@[simp] theorem Device.acceptTag_tame {σ : Still} (d : Device) (src sgen : Nat) (force : Bool) (h : Tame σ d.still) :
    Tame σ (d.acceptTag src sgen force).1.still := by
  fun_cases Device.acceptTag d src sgen force <;> simp +zetaDelta [h]

@[simp] theorem devTrainingComplete_tame {σ : Still} (p : Nat) (resume : Bool) (rxNext : Nat) (d : Device) (h : Tame σ d.still) :
    Tame σ (devTrainingComplete p resume rxNext d).still := by
  fun_cases devTrainingComplete p resume rxNext d <;> simp +zetaDelta [h]

@[simp] theorem devTrainingAttemptTimeout_tame {σ : Still} (p : Nat) (d : Device) (h : Tame σ d.still) :
    Tame σ (devTrainingAttemptTimeout p d).still := by
  simp [devTrainingAttemptTimeout, h]

@[simp] theorem devPortDisable_tame {σ : Still} (p : Nat) (d : Device) (h : Tame σ d.still) : Tame σ (devPortDisable p d).still := by
  simp [devPortDisable, h]

@[simp] theorem devPortAdmit_still (p : Nat) (v : Bool) (d : Device) : (devPortAdmit p v d).still = d.still := by
  simp [devPortAdmit]

@[simp] theorem devCodewordTime_tame {σ : Still} (p : Nat) (d : Device) (h : Tame σ d.still) : Tame σ (devCodewordTime p d).still := by
  simp [devCodewordTime, h]

@[simp] theorem Device.recordPeer_still (d : Device) (p : Nat) (r : Peer) : (d.recordPeer p r).still = d.still := by
  simp [Device.recordPeer]

@[simp] theorem Device.keepaliveCame_tame {σ : Still} (d : Device) (p : Nat) (r : Peer) (h : Tame σ d.still) :
    Tame σ (d.keepaliveCame p r).still := by
  simp [Device.keepaliveCame, h]

@[simp] theorem devKa_tame {σ : Still} (p : Nat) (d : Device) (h : Tame σ d.still) :
    Tame σ (devKa p d).still := by
  fun_cases devKa p d with
  | case1 => exact h
  | case2 _ _ hx => simp [Device.takeRx_still hx, h]
  | case3 _ _ hx => simp [Device.takeRx_still hx, h]

@[simp] theorem devLsa_still (p : Nat) (d : Device) : (devLsa p d).still = d.still := by
  fun_cases devLsa p d with
  | case1 => rfl
  | case2 _ _ hx => simpa using Device.takeRx_still hx
  | case3 _ _ hx => exact Device.takeRx_still hx

/-! Router. -/

@[simp] theorem Device.routeDrop_still (d : Device) (n dst : Nat) : (d.routeDrop n dst).still = d.still := by
  simp [Device.routeDrop]

@[simp] theorem Device.repairNext_still (d : Device) (r : Repairing) : (d.repairNext r).still = d.still := by
  fun_cases Device.repairNext d r <;> simp +zetaDelta

@[simp] theorem Device.repairAnswer_tame {σ : Still} (d : Device) (rid : Nat) (rstat : Option Nat) (data : List PByte)
    (h : Tame σ d.still) :
    Tame σ (d.repairAnswer rid rstat data).still := by
  fun_cases Device.repairAnswer d rid rstat data <;> simp +zetaDelta [h]

@[simp] theorem Device.answer_tame {σ : Still} (d : Device) (who : Requester) (rstat : Option Nat) (data : List PByte)
    (h : Tame σ d.still) :
    Tame σ (d.answer who rstat data).still := by
  fun_cases Device.answer d who rstat data <;> simp +zetaDelta [h]

@[simp] theorem Device.replyCame_tame {σ : Still} (d : Device) (k : Packet) (h : Tame σ d.still) : Tame σ (d.replyCame k).still := by
  fun_cases Device.replyCame d k <;> simp +zetaDelta [h]

@[simp] theorem Device.serve_tame {σ : Still} (d : Device) (own : Option (Nat × Nat × Nat)) (k : Packet) (h : Tame σ d.still) :
    Tame σ (d.serve own k).1.still := by
  fun_cases Device.serve d own k with
  | case1 => simp +zetaDelta [h]
  | case2 => simp +zetaDelta [h]
  | case3 => cases own <;> simp [h]
  | case4 => simp +zetaDelta [h]

@[simp] theorem Device.localReply_tame {σ : Still} (d : Device) (k : Packet) (h : Tame σ d.still) : Tame σ (d.localReply k).still := by
  simp [Device.localReply, h]

@[simp] theorem Device.sendReply_tame {σ : Still} (d : Device) (k : Packet) (h : Tame σ d.still) : Tame σ (d.sendReply k).still := by
  fun_cases Device.sendReply d k with
  | case1 => simp [h]
  | case2 _ _ hx => simp [Device.tryRoute_still hx, h]
  | case3 => simp [h]

@[simp] theorem Device.serveHere_tame {σ : Still} (d : Device) (own : Option (Nat × Nat × Nat)) (k : Packet) (h : Tame σ d.still) :
    Tame σ (d.serveHere own k).still := by
  unfold Device.serveHere
  have asked := d.acceptTag_tame k.src k.sgen false h
  generalize d.acceptTag k.src k.sgen false = x at asked ⊢
  obtain ⟨e, ok⟩ := x
  cases ok with
  | false => exact asked
  | true => exact Device.sendReply_tame _ _ (Device.serve_tame _ _ _ asked)

@[simp] theorem Device.dropRouted_tame {σ : Still} (d : Device) (n : Nat) (k : Packet) (h : Tame σ d.still) :
    Tame σ (d.dropRouted n k).still := by
  simp [Device.dropRouted, h]

@[simp] theorem devRoutedPacketArrival_tame {σ : Still} (p : Nat) (d : Device) (h : Tame σ d.still) :
    Tame σ (devRoutedPacketArrival p d).still := by
  fun_cases devRoutedPacketArrival p d with
  | case1 => exact h
  | case2 _ _ hx => simp [Device.takeRx_still hx, h]
  | case3 _ _ hx => simp [Device.takeRx_still hx, h]
  | case4 _ _ hx _ _ _ hr => simp [Device.tryRoute_still hr, Device.takeRx_still hx, h]
  | case5 _ _ hx => simp [Device.takeRx_still hx, h]

theorem Device.takeMine_still {d e : Device} {p pt : Nat} {k : Packet} (hx : d.takeMine p pt = some (k, e)) :
    e.still = d.still :=
  Device.takeRx_still hx

@[simp] theorem devWr_tame {σ : Still} (p : Nat) (d : Device) (h : Tame σ d.still) : Tame σ (devWr p d).still := by
  fun_cases devWr p d with
  | case1 => exact h
  | case2 _ _ hx => simp [Device.takeMine_still hx, h]

@[simp] theorem devRd_tame {σ : Still} (p : Nat) (d : Device) (h : Tame σ d.still) : Tame σ (devRd p d).still := by
  fun_cases devRd p d with
  | case1 => exact h
  | case2 _ _ hx => simp [Device.takeMine_still hx, h]

@[simp] theorem devDrd_tame {σ : Still} (p : Nat) (d : Device) (h : Tame σ d.still) : Tame σ (devDrd p d).still := by
  fun_cases devDrd p d with
  | case1 => exact h
  | case2 _ _ hx => simp [Device.takeMine_still hx, h]

@[simp] theorem devWack_tame {σ : Still} (p : Nat) (d : Device) (h : Tame σ d.still) :
    Tame σ (devWack p d).still := by
  fun_cases devWack p d with
  | case1 => exact h
  | case2 _ _ hx => simp [Device.takeMine_still hx, h]

@[simp] theorem devRdr_tame {σ : Still} (p : Nat) (d : Device) (h : Tame σ d.still) :
    Tame σ (devRdr p d).still := by
  fun_cases devRdr p d with
  | case1 => exact h
  | case2 _ _ hx => simp [Device.takeMine_still hx, h]

@[simp] theorem devGenann_tame {σ : Still} (p : Nat) (d : Device) (h : Tame σ d.still) :
    Tame σ (devGenann p d).still := by
  fun_cases devGenann p d with
  | case1 => exact h
  | case2 _ _ hx => simp [Device.takeMine_still hx, h]

@[simp] theorem devPeerRequest_tame {σ : Still} (d : Device) (h : Tame σ d.still) : Tame σ (devPeerRequest d).still := by
  fun_cases devPeerRequest d with
  | case1 => exact h
  | case2 => exact h
  | case3 => simp +zetaDelta [h]
  | case4 => simp +zetaDelta [h]
  | case5 _ _ _ _ _ _ e e' _ _ _ _ hr =>
    have sent : Tame σ e'.still := by simp [e', e, h]
    exact sent.congr (Device.tryRoute_still hr)
  | case6 => simp +zetaDelta [h]

@[simp] theorem devE2eTimeout_tame {σ : Still} (tag : Nat) (d : Device) (h : Tame σ d.still) : Tame σ (devE2eTimeout tag d).still := by
  fun_cases devE2eTimeout tag d <;> simp +zetaDelta [h]

@[simp] theorem devTagReuse_still (tag : Nat) (d : Device) : (devTagReuse tag d).still = d.still := by
  simp [devTagReuse]

@[simp] theorem Device.announceAll_tame {σ : Still} (d : Device) (force : Bool) (h : Tame σ d.still) :
    Tame σ (d.announceAll force).still := by
  have sent (k : Packet) (e : Device) (m : Nat) :
      (match e.tryRoute k with | some e => e | none => e.routeDrop 0 m).still = e.still := by
    cases hr : e.tryRoute k with
    | none => simp
    | some e' => exact Device.tryRoute_still hr
  refine foldl_tame _ _ _ (fun e x => ?_) h
  refine iteInduction (motive := fun e' : Device => Tame e.still e'.still) (fun _ => by simp) (fun _ => ?_)
  exact (Tame.refl _).congr (sent _ _ _)

@[simp] theorem devAnnounce_tame {σ : Still} (d : Device) (h : Tame σ d.still) : Tame σ (devAnnounce d).still := by
  simp [devAnnounce, h]

@[simp] theorem devTableEntryWrite_still (v : BitVec 64) (d : Device) : (devTableEntryWrite v d).still = d.still := by
  rfl

/-! Vector. -/

@[simp] theorem Device.setLoop_still (d : Device) (key : Nat) (l : Option VLoop) : (d.setLoop key l).still = d.still := by
  rfl

@[simp] theorem Device.writeSummaries_still (d : Device) (die : Nat) (l : VLoop) (valid : Bool) :
    (d.writeSummaries die l valid).still = d.still := by
  rfl

@[simp] theorem Device.endLoop_still (d : Device) (key : Nat) (l : VLoop) (faulted : Option Nat) :
    (d.endLoop key l faulted).still = d.still := by
  fun_cases Device.endLoop d key l faulted <;> simp +zetaDelta

@[simp] theorem Device.laneFault_still (d : Device) (key : Nat) (l : VLoop) (lane cause : Nat) :
    (d.laneFault key l lane cause).still = d.still := by
  simp [Device.laneFault]

@[simp] theorem Device.popAll_still (d : Device) (die : Nat) (ws : List Nat) : (d.popAll die ws).still = d.still := by
  simp [Device.popAll]

@[simp] theorem devVloop_still (die w : Nat) (d : Device) : (devVloop die w d).still = d.still := by
  fun_cases devVloop die w d <;> simp +zetaDelta

@[simp] theorem devIterationStart_still (die w : Nat) (d : Device) : (devIterationStart die w d).still = d.still := by
  fun_cases devIterationStart die w d <;> simp +zetaDelta

@[simp] theorem Device.iterationEnd_still (d : Device) (key : Nat) (l : VLoop) : (d.iterationEnd key l).still = d.still := by
  fun_cases Device.iterationEnd d key l <;> simp +zetaDelta

@[simp] theorem Device.laneDone_still (d : Device) (key : Nat) (l : VLoop) (i : Nat) (lane : Lane) (slots : List Slot) (pois : Bool) :
    (d.laneDone key l i lane slots pois).still = d.still := by
  simp [Device.laneDone]

/-- The device that an instruction of a lane leaves: a fault leaves the one it found. -/
def LaneOut.dev (d : Device) : LaneOut → Device
  | .fault _ => d
  | .ok _ e _ _ => e

@[simp] theorem LaneCtx.go_dev (x : LaneCtx) (lane : Lane) : (x.go lane).dev x.d = x.d := by
  rfl

@[simp] theorem LaneCtx.res_dev (x : LaneCtx) (v : Word) : (x.res v).dev x.d = x.d := by
  rfl

@[simp] theorem LaneCtx.opt_dev (x : LaneCtx) (o : Option Word) : (x.opt o).dev x.d = x.d := by
  cases o <;> rfl

@[simp] theorem LaneCtx.converted_dev (x : LaneCtx) (v : Word) (n : NumNote) :
    ((x.converted v n).dev x.d).still = x.d.still := by
  exact Device.note_still _ _ _ _

@[simp] theorem LaneOut.dev_fault (d : Device) (c : Nat) : (LaneOut.fault c).dev d = d := by
  rfl

@[simp] theorem LaneOut.dev_ok (d e : Device) (lane : Lane) (slots : List Slot) (p : Bool) : (LaneOut.ok lane e slots p).dev d = e := by
  rfl

@[simp] theorem opIalu_dev (x : LaneCtx) : (opIalu x).dev x.d = x.d :=
  x.opt_dev _

@[simp] theorem opAddi_dev (x : LaneCtx) : (opAddi x).dev x.d = x.d :=
  x.res_dev _

@[simp] theorem opLui_dev (x : LaneCtx) : (opLui x).dev x.d = x.d := by
  unfold opLui
  split <;> simp

@[simp] theorem opFalu_dev (x : LaneCtx) : (opFalu x).dev x.d = x.d :=
  x.opt_dev _

@[simp] theorem opFfma_dev (x : LaneCtx) : (opFfma x).dev x.d = x.d :=
  x.res_dev _

@[simp] theorem opBfma2_dev (x : LaneCtx) : (opBfma2 x).dev x.d = x.d :=
  x.res_dev _

@[simp] theorem opFspec_dev (x : LaneCtx) : (opFspec x).dev x.d = x.d := by
  unfold opFspec
  simp only
  split <;> simp

@[simp] theorem opCvt_dev (x : LaneCtx) : ((opCvt x).dev x.d).still = x.d.still := by
  fun_cases opCvt x <;> simp [LaneCtx.widen]

@[simp] theorem opLoad_dev (n : Nat) (x : LaneCtx) : (opLoad n x).dev x.d = x.d := by
  unfold opLoad
  split <;> simp

@[simp] theorem opStore_dev {σ : Still} (n : Nat) (x : LaneCtx) (h : Tame σ x.d.still) : Tame σ ((opStore n x).dev x.d).still := by
  unfold opStore
  split <;> simp [h]

@[simp] theorem opLdl_dev (x : LaneCtx) : (opLdl x).dev x.d = x.d := by
  unfold opLdl
  split <;> simp

@[simp] theorem opStl_dev (x : LaneCtx) : (opStl x).dev x.d = x.d := by
  unfold opStl
  split <;> simp

@[simp] theorem opLdq_dev (x : LaneCtx) : ((opLdq x).dev x.d).still = x.d.still := by
  fun_cases opLdq x <;> simp

@[simp] theorem opSumx_dev (x : LaneCtx) : (opSumx x).dev x.d = x.d := by
  fun_cases opSumx x <;> simp

@[simp] theorem opBranch_dev (taken : Word → Word → Bool) (x : LaneCtx) : (opBranch taken x).dev x.d = x.d :=
  x.go_dev _

@[simp] theorem opJal_dev (x : LaneCtx) : (opJal x).dev x.d = x.d := by
  unfold opJal
  split <;> simp

@[simp] theorem opJr_dev (x : LaneCtx) : (opJr x).dev x.d = x.d := by
  unfold opJr
  split <;> simp

@[simp] theorem opEnd_dev (x : LaneCtx) : (opEnd x).dev x.d = x.d := by
  unfold opEnd
  split <;> simp

@[simp] theorem laneRow_still (opc : Nat) (op : LaneCtx → LaneOut) (die w c : Nat) (chk : CoreCheck) (d : Device)
    (hop : ∀ x, ((op x).dev x.d).still = x.d.still) : (laneRow opc op die w c chk d).still = d.still := by
  fun_cases laneRow opc op die w c chk d with
  | case1 => rfl
  | case2 => simp
  | case3 => rfl
  | case4 => simp
  | case5 => simp
  | case6 => simp
  | case7 key l i _ ins _ _ lane e slots p he =>
    have after := hop { d := d, die := die, l := l, lane := l.lane i, ins := ins }
    simpa [he] using after

@[simp] theorem laneRow_tame {σ : Still} (opc : Nat) (op : LaneCtx → LaneOut) (die w c : Nat) (chk : CoreCheck) (d : Device)
    (hop : ∀ x, Tame σ x.d.still → Tame σ ((op x).dev x.d).still) (h : Tame σ d.still) :
    Tame σ (laneRow opc op die w c chk d).still := by
  fun_cases laneRow opc op die w c chk d with
  | case1 => exact h
  | case2 => simp [h]
  | case3 => exact h
  | case4 => simp [h]
  | case5 => simp [h]
  | case6 => simp [h]
  | case7 key l i _ ins _ _ lane e slots p he =>
    have after := hop { d := d, die := die, l := l, lane := l.lane i, ins := ins } h
    simpa [he] using after

@[simp] theorem devIalu_still (die w c : Nat) (chk : CoreCheck) (d : Device) : (devIalu die w c chk d).still = d.still := by
  simp [devIalu]

@[simp] theorem devAddi_still (die w c : Nat) (chk : CoreCheck) (d : Device) : (devAddi die w c chk d).still = d.still := by
  simp [devAddi]

@[simp] theorem devLui_still (die w c : Nat) (chk : CoreCheck) (d : Device) : (devLui die w c chk d).still = d.still := by
  simp [devLui]

@[simp] theorem devFalu_still (die w c : Nat) (chk : CoreCheck) (d : Device) : (devFalu die w c chk d).still = d.still := by
  simp [devFalu]

@[simp] theorem devFfma_still (die w c : Nat) (chk : CoreCheck) (d : Device) : (devFfma die w c chk d).still = d.still := by
  simp [devFfma]

@[simp] theorem devBfma2_still (die w c : Nat) (chk : CoreCheck) (d : Device) : (devBfma2 die w c chk d).still = d.still := by
  simp [devBfma2]

@[simp] theorem devFspec_still (die w c : Nat) (chk : CoreCheck) (d : Device) : (devFspec die w c chk d).still = d.still := by
  simp [devFspec]

@[simp] theorem devCvt_still (die w c : Nat) (chk : CoreCheck) (d : Device) : (devCvt die w c chk d).still = d.still := by
  simp [devCvt]

@[simp] theorem devLdw_still (die w c : Nat) (chk : CoreCheck) (d : Device) : (devLdw die w c chk d).still = d.still :=
  laneRow_still _ _ _ _ _ _ _ fun x => congrArg Device.still (opLoad_dev 4 x)

@[simp] theorem devLdh_still (die w c : Nat) (chk : CoreCheck) (d : Device) : (devLdh die w c chk d).still = d.still :=
  laneRow_still _ _ _ _ _ _ _ fun x => congrArg Device.still (opLoad_dev 2 x)

@[simp] theorem devLdb_still (die w c : Nat) (chk : CoreCheck) (d : Device) : (devLdb die w c chk d).still = d.still :=
  laneRow_still _ _ _ _ _ _ _ fun x => congrArg Device.still (opLoad_dev 1 x)

@[simp] theorem devStw_tame {σ : Still} (die w c : Nat) (chk : CoreCheck) (d : Device) (h : Tame σ d.still) :
    Tame σ (devStw die w c chk d).still :=
  laneRow_tame _ _ _ _ _ _ _ (opStore_dev 4) h

@[simp] theorem devSth_tame {σ : Still} (die w c : Nat) (chk : CoreCheck) (d : Device) (h : Tame σ d.still) :
    Tame σ (devSth die w c chk d).still :=
  laneRow_tame _ _ _ _ _ _ _ (opStore_dev 2) h

@[simp] theorem devStb_tame {σ : Still} (die w c : Nat) (chk : CoreCheck) (d : Device) (h : Tame σ d.still) :
    Tame σ (devStb die w c chk d).still :=
  laneRow_tame _ _ _ _ _ _ _ (opStore_dev 1) h

@[simp] theorem devLdl_still (die w c : Nat) (chk : CoreCheck) (d : Device) : (devLdl die w c chk d).still = d.still := by
  simp [devLdl]

@[simp] theorem devStl_still (die w c : Nat) (chk : CoreCheck) (d : Device) : (devStl die w c chk d).still = d.still := by
  simp [devStl]

@[simp] theorem devLdq_still (die w c : Nat) (chk : CoreCheck) (d : Device) : (devLdq die w c chk d).still = d.still := by
  simp [devLdq]

@[simp] theorem devSumx_still (die w c : Nat) (chk : CoreCheck) (d : Device) : (devSumx die w c chk d).still = d.still := by
  simp [devSumx]

@[simp] theorem devBeq_still (die w c : Nat) (chk : CoreCheck) (d : Device) : (devBeq die w c chk d).still = d.still :=
  laneRow_still _ _ _ _ _ _ _ fun x => congrArg Device.still (opBranch_dev _ x)

@[simp] theorem devBne_still (die w c : Nat) (chk : CoreCheck) (d : Device) : (devBne die w c chk d).still = d.still :=
  laneRow_still _ _ _ _ _ _ _ fun x => congrArg Device.still (opBranch_dev _ x)

@[simp] theorem devBlt_still (die w c : Nat) (chk : CoreCheck) (d : Device) : (devBlt die w c chk d).still = d.still :=
  laneRow_still _ _ _ _ _ _ _ fun x => congrArg Device.still (opBranch_dev _ x)

@[simp] theorem devBltu_still (die w c : Nat) (chk : CoreCheck) (d : Device) : (devBltu die w c chk d).still = d.still :=
  laneRow_still _ _ _ _ _ _ _ fun x => congrArg Device.still (opBranch_dev _ x)

@[simp] theorem devJal_still (die w c : Nat) (chk : CoreCheck) (d : Device) : (devJal die w c chk d).still = d.still := by
  simp [devJal]

@[simp] theorem devJr_still (die w c : Nat) (chk : CoreCheck) (d : Device) : (devJr die w c chk d).still = d.still := by
  simp [devJr]

@[simp] theorem devEnd_still (die w c : Nat) (chk : CoreCheck) (d : Device) : (devEnd die w c chk d).still = d.still := by
  simp [devEnd]

@[simp] theorem devPerm_still (die w c : Nat) (chk : CoreCheck) (d : Device) : (devPerm die w c chk d).still = d.still := by
  fun_cases devPerm die w c chk d <;> simp +zetaDelta

@[simp] theorem Device.putElems_tame {σ : Still} (d : Device) (f : Fmt) (blk : Nat) (codes : List (Nat × Bool)) (bases : List Word)
    (base : Word) (h : Tame σ d.still) :
    Tame σ (d.putElems f blk codes bases base).still := by
  simp [Device.putElems, h]

@[simp] theorem devQst_tame {σ : Still} (die w blk c : Nat) (chk : CoreCheck) (d : Device) (h : Tame σ d.still) :
    Tame σ (devQst die w blk c chk d).still := by
  fun_cases devQst die w blk c chk d with
  | case1 => exact h
  | case2 => exact h
  | case3 => simp [h]
  | case4 => exact h
  | case5 => simp [h]
  | case6 _ _ _ _ _ _ _ _ _ _ _ _ _ _ e _ _ _ _ _ e1 e2 e3 e4 =>
    have stored : Tame σ e2.still := foldl_tame _ _ _ (by simp) (by simp [e1, e, h])
    simp [e4, e3, stored]

/-! Mvp. -/

@[simp] theorem Device.setMvp_still (d : Device) (die : Nat) (v : Mvp) : (d.setMvp die v).still = d.still := by
  rfl

@[simp] theorem devMvmul_still (die : Nat) (d : Device) : (devMvmul die d).still = d.still := by
  fun_cases devMvmul die d <;> simp +zetaDelta

@[simp] theorem devMvmulComplete_tame {σ : Still} (die : Nat) (d : Device) (h : Tame σ d.still) :
    Tame σ (devMvmulComplete die d).still := by
  fun_cases devMvmulComplete die d <;> simp +zetaDelta [h]

@[simp] theorem devMvpFault_tame {σ : Still} (die cause nidx : Nat) (d : Device) (h : Tame σ d.still) :
    Tame σ (devMvpFault die cause nidx d).still := by
  fun_cases devMvpFault die cause nidx d <;> simp +zetaDelta [h]

/-! Slip. -/

@[simp] theorem Device.setSlipStack_still (d : Device) (s : Nat) (v : SlipStack) : (d.setSlipStack s v).still = d.still := by
  rfl

@[simp] theorem Device.slipIssue_still (d : Device) (s : Nat) (ops : List Nat) : (d.slipIssue s ops).still = d.still := by
  fun_cases Device.slipIssue d s ops <;> simp +zetaDelta

@[simp] theorem devGather_still (s : Nat) (d : Device) : (devGather s d).still = d.still := by
  simp [devGather]

@[simp] theorem devReduce_still (s : Nat) (d : Device) : (devReduce s d).still = d.still := by
  simp [devReduce]

@[simp] theorem devMoment_still (s : Nat) (d : Device) : (devMoment s d).still = d.still := by
  simp [devMoment]

@[simp] theorem Device.endMember_tame {σ : Still} (d : Device) (s u : Nat) (r : SlipRun) (m : SlipMem) (status cause : Nat)
    (h : Tame σ d.still) : Tame σ (d.endMember s u r m status cause).still := by
  fun_cases Device.endMember d s u r m status cause with
  | case1 r' e _ ended e1 e2 =>
    have ends : Tame σ e2.still := by
      unfold e2
      split <;> simp [e1, e, h]
    simp [ends]

@[simp] theorem Device.slipFault_tame {σ : Still} (d : Device) (s u : Nat) (r : SlipRun) (m : SlipMem) (cause : Nat) (h : Tame σ d.still) :
    Tame σ (d.slipFault s u r m cause).still := by
  simp [Device.slipFault, h]

@[simp] theorem Device.stepDone_tame {σ : Still} (d : Device) (s u : Nat) (r : SlipRun) (m0 m : SlipMem) (row : Option Bool)
    (h : Tame σ d.still) :
    Tame σ (d.stepDone s u r m0 m row).still := by
  simp [Device.stepDone, h]

theorem stepWord_tame {σ : Still} (x : Device × Nat) (key : Nat) (h : Tame σ x.1.still) : Tame σ (stepWord x key).1.still :=
  x.1.meetCoder_tame true key h

@[simp] theorem Device.stepCoder_tame {σ : Still} (d : Device) (s u : Nat) (r : SlipRun) (m : SlipMem) (h : Tame σ d.still) :
    Tame σ (d.stepCoder s u r m).1.still :=
  foldl_fst_tame _ _ _ (fun y _ => foldl_fst_tame _ _ y (fun z key => stepWord_tame z key (Tame.refl _)) (Tame.refl _)) h

@[simp] theorem devNearBankStep_tame {σ : Still} (s u : Nat) (o : StepOutcome) (d : Device) (h : Tame σ d.still) :
    Tame σ (devNearBankStep s u o d).still := by
  fun_cases devNearBankStep s u o d with
  | case1 => exact h
  | case2 => exact h
  | case3 => exact h
  | case4 => simp [h]
  | case5 => exact h
  | case6 _ _ _ _ _ _ _ hc =>
    have coded := Tame.of_pair (σ := σ) hc (by simp [h])
    simp [coded]
  | case7 _ _ _ _ _ _ _ hc =>
    have coded := Tame.of_pair (σ := σ) hc (by simp [h])
    simp [coded]

@[simp] theorem devTier1PatrolScrub_tame {σ : Still} (s u word : Nat) (d : Device) (h : Tame σ d.still) :
    Tame σ (devTier1PatrolScrub s u word d).still := by
  simp [devTier1PatrolScrub, h]

/-! Stash. -/

@[simp] theorem Device.setStash_still (d : Device) (die : Nat) (v : Stash) : (d.setStash die v).still = d.still := by
  rfl

@[simp] theorem Device.putTiles_tame {σ : Still} (d : Device) (die hd src x4 : Nat) (h : Tame σ d.still) :
    Tame σ (d.putTiles die hd src x4).still := by
  fun_induction Device.putTiles d die hd src x4 <;> simp +zetaDelta [*]

@[simp] theorem Device.putStep_tame {σ : Still} (d : Device) (die : Nat) (h : Tame σ d.still) : Tame σ (d.putStep die).still := by
  fun_cases Device.putStep d die <;> simp +zetaDelta [h]

@[simp] theorem Device.stashIssue_still (d : Device) (die : Nat) : (d.stashIssue die).still = d.still := by
  simp [Device.stashIssue]

@[simp] theorem Device.stashDone_still (d : Device) (die : Nat) (c : Cmd) (status : Nat) : (d.stashDone die c status).still = d.still := by
  simp [Device.stashDone]

@[simp] theorem Device.stashRefuse_still (d : Device) (die : Nat) (c : Cmd) (ev b : Nat) : (d.stashRefuse die c ev b).still = d.still := by
  simp [Device.stashRefuse]

@[simp] theorem Device.stashStop_still (d : Device) (die layer : Nat) (putStop : Bool) (short : Nat) :
    (d.stashStop die layer putStop short).still = d.still := by
  rfl

@[simp] theorem Device.evalPut_tame {σ : Still} (d : Device) (die : Nat) (c : Cmd) (h : Tame σ d.still) :
    Tame σ (d.evalPut die c).still := by
  unfold Device.evalPut
  split <;> simp [h]

@[simp] theorem Device.evalLbnd_still (d : Device) (die : Nat) (c : Cmd) : (d.evalLbnd die c).still = d.still := by
  fun_cases Device.evalLbnd d die c <;> simp +zetaDelta

@[simp] theorem devPut_tame {σ : Still} (die : Nat) (d : Device) (h : Tame σ d.still) : Tame σ (devPut die d).still := by
  unfold devPut
  split <;> simp [h]

@[simp] theorem devLbnd_still (die : Nat) (d : Device) : (devLbnd die d).still = d.still := by
  fun_cases devLbnd die d <;> simp +zetaDelta

@[simp] theorem devGet_still (die : Nat) (d : Device) : (devGet die d).still = d.still := by
  fun_cases devGet die d <;> simp +zetaDelta

@[simp] theorem devDrop_still (die : Nat) (d : Device) : (devDrop die d).still = d.still := by
  fun_cases devDrop die d <;> simp +zetaDelta

@[simp] theorem devSpill_still (die : Nat) (d : Device) : (devSpill die d).still = d.still := by
  fun_cases devSpill die d <;> simp +zetaDelta

@[simp] theorem devTileLanding_tame {σ : Still} (die k : Nat) (d : Device) (h : Tame σ d.still) :
    Tame σ (devTileLanding die k d).still := by
  fun_cases devTileLanding die k d with
  | case1 => exact h
  | case2 => exact h
  | case3 => exact h
  | case4 => exact h
  | case5 _ _ _ _ _ _ _ _ e e1 e2 =>
    have landed : Tame σ e1.still := by simp [e1, e, h]
    simp [e2, landed]

@[simp] theorem devStashCommandComplete_tame {σ : Still} (die : Nat) (d : Device) (h : Tame σ d.still) :
    Tame σ (devStashCommandComplete die d).still := by
  fun_cases devStashCommandComplete die d <;> simp +zetaDelta [h]

@[simp] theorem devStsResume_tame {σ : Still} (die : Nat) (d : Device) (h : Tame σ d.still) : Tame σ (devStsResume die d).still := by
  fun_cases devStsResume die d <;> simp +zetaDelta [h]

@[simp] theorem Device.stsErr_still (d : Device) (die reason : Nat) : (d.stsErr die reason).still = d.still := by
  simp [Device.stsErr]

@[simp] theorem devStsDrop_tame {σ : Still} (die hd : Nat) (d : Device) (h : Tame σ d.still) : Tame σ (devStsDrop die hd d).still := by
  fun_cases devStsDrop die hd d <;> simp +zetaDelta [h]

@[simp] theorem Device.allotWrite_tame {σ : Still} (d : Device) (die : Nat) (l : List (Allotment × Word)) (h : Tame σ d.still) :
    Tame σ (d.allotWrite die l).still := by
  fun_cases Device.allotWrite d die l <;> simp +zetaDelta [h]

@[simp] theorem devAllotmentWrite_tame {σ : Still} (die : Nat) (r : Allotment) (v : Word) (d : Device) (h : Tame σ d.still) :
    Tame σ (devAllotmentWrite die r v d).still := by
  simp [devAllotmentWrite, h]

/-! Tier. -/

@[simp] theorem Device.setSeg_still (d : Device) (g : Nat) (v : Seg) : (d.setSeg g v).still = d.still := by
  rfl

@[simp] theorem Device.setTierObj_still (d : Device) (oid : Nat) (v : Option TierObj) : (d.setTierObj oid v).still = d.still := by
  rfl

@[simp] theorem Device.setEnt_still (d : Device) (g f : Nat) (v : Option TierEnt) : (d.setEnt g f v).still = d.still := by
  rfl

@[simp] theorem Device.tierFinish_still (d : Device) (g : Nat) (c : Cmd) (status : Nat) : (d.tierFinish g c status).still = d.still := by
  simp [Device.tierFinish]

@[simp] theorem Device.tierHandled_still (d : Device) (g : Nat) (r : TierRun) : (d.tierHandled g r).still = d.still := by
  simp [Device.tierHandled]

@[simp] theorem Device.tierRefuse_still (d : Device) (g : Nat) (c : Cmd) (x : Nat × Nat) : (d.tierRefuse g c x).still = d.still := by
  simp [Device.tierRefuse]

@[simp] theorem devObjdef_still (g : Nat) (d : Device) : (devObjdef g d).still = d.still := by
  fun_cases devObjdef g d <;> simp +zetaDelta

@[simp] theorem devObjdel_still (g : Nat) (d : Device) : (devObjdel g d).still = d.still := by
  fun_cases devObjdel g d <;> simp +zetaDelta

@[simp] theorem Device.takeFrame_still (d : Device) (g : Nat) (r : TierRun) (o : TierObj) (t f : Nat) :
    (d.takeFrame g r o t f).1.still = d.still := by
  rfl

@[simp] theorem Device.hitFrame_still (d : Device) (g : Nat) (r : TierRun) (f : Nat) (e : TierEnt) :
    (d.hitFrame g r f e).1.still = d.still := by
  rfl

@[simp] theorem Device.raiseTiles_still (d : Device) (g : Nat) (r : TierRun) (n : Nat) : (d.raiseTiles g r n).still = d.still := by
  fun_induction Device.raiseTiles d g r n with
  | case1 => simp
  | case2 => simp
  | case3 d r _ _ _ _ f e _ _ _ hx ih =>
    have raised := d.hitFrame_still g r f e
    rw [hx] at raised
    exact ih.trans raised
  | case4 d r _ o _ t _ f _ _ _ hx ih =>
    have raised := d.takeFrame_still g r o t f
    rw [hx] at raised
    exact ih.trans raised
  | case5 => simp

@[simp] theorem devRaise_still (g : Nat) (d : Device) : (devRaise g d).still = d.still := by
  fun_cases devRaise g d <;> simp +zetaDelta

@[simp] theorem Device.lowerTile_still (d : Device) (g f : Nat) (e : TierEnt) (cause : Nat) (cids : List Nat) :
    (d.lowerTile g f e cause cids).still = d.still := by
  fun_cases Device.lowerTile d g f e cause cids <;> simp +zetaDelta

@[simp] theorem devVictimLowering_still (g : Nat) (d : Device) : (devVictimLowering g d).still = d.still := by
  fun_cases devVictimLowering g d <;> simp +zetaDelta

@[simp] theorem Device.lowerTiles_still (d : Device) (g : Nat) (r : TierRun) (x3 : Nat) : (d.lowerTiles g r x3).still = d.still := by
  fun_induction Device.lowerTiles d g r x3 <;> simp +zetaDelta [*]

@[simp] theorem devLower_still (g : Nat) (d : Device) : (devLower g d).still = d.still := by
  fun_cases devLower g d <;> simp +zetaDelta

@[simp] theorem Device.readOut_tame {σ : Still} (d : Device) (g a : Nat) (h : Tame σ d.still) : Tame σ (d.readOut g a).still := by
  fun_cases Device.readOut d g a <;> simp +zetaDelta [h]

@[simp] theorem Device.tierSettle_still (d : Device) (g : Nat) : (d.tierSettle g).still = d.still := by
  simp [Device.tierSettle]

@[simp] theorem Device.tierMoved_still (d : Device) (g : Nat) (m : TierMove) (pois fault : Bool) :
    (d.tierMoved g m pois fault).still = d.still := by
  simp [Device.tierMoved]

@[simp] theorem Device.seatOpen_tame {σ : Still} (d : Device) (g : Nat) (m : TierMove) (h : Tame σ d.still) :
    Tame σ (d.seatOpen g m).still := by
  fun_cases Device.seatOpen d g m <;> simp +zetaDelta [h]

@[simp] theorem devTileMoveArrival_tame {σ : Still} (g k : Nat) (d : Device) (h : Tame σ d.still) :
    Tame σ (devTileMoveArrival g k d).still := by
  fun_cases devTileMoveArrival g k d with
  | case1 => exact h
  | case2 => exact h
  | case3 m _ _ e e1 _ e2 e3 e4 e5 =>
    have read : Tame σ e1.still := by simp [e1, e, h]
    have put : Tame σ e4.still := by simp [e4, e3, e2, read]
    have done : Tame σ e5.still := by
      unfold e5
      split
      · split <;> simp [put]
      · exact put
    simp [done]

@[simp] theorem Device.dropFill_still (d : Device) (g : Nat) (m : TierMove) : (d.dropFill g m).still = d.still := by
  simp [Device.dropFill]

@[simp] theorem Device.putBack_tame {σ : Still} (d : Device) (a : Nat) (b : List PByte) (h : Tame σ d.still) :
    Tame σ (d.putBack a b).still := by
  simp [Device.putBack, h]

@[simp] theorem Device.dropLowering_tame {σ : Still} (d : Device) (g : Nat) (m : TierMove) (h : Tame σ d.still) :
    Tame σ (d.dropLowering g m).still := by
  fun_cases Device.dropLowering d g m with
  | case1 e e1 s f e2 e3 =>
    have read : Tame σ e.still := by simp [e, h]
    have dropped : Tame σ e1.still :=
      foldl_tame _ _ _ (fun x hh => foldl_tame _ _ _ (fun y k => by simp) (Tame.refl _)) read
    have back : Tame σ e3.still := by
      unfold e3
      split <;> simp [e2, dropped]
    simp [back]

@[simp] theorem Device.abandonMove_tame {σ : Still} (d : Device) (g k : Nat) (h : Tame σ d.still) : Tame σ (d.abandonMove g k).still := by
  fun_cases Device.abandonMove d g k <;> simp +zetaDelta [h]

@[simp] theorem devTierMoveFault_tame {σ : Still} (g k : Nat) (d : Device) (h : Tame σ d.still) :
    Tame σ (devTierMoveFault g k d).still := by
  simp [devTierMoveFault, h]

@[simp] theorem devSegmentCommit_still (g : Nat) (v : Word) (d : Device) : (devSegmentCommit g v d).still = d.still := by
  fun_cases devSegmentCommit g v d <;> simp +zetaDelta

@[simp] theorem devPatrolScrub_tame {σ : Still} (ch line : Nat) (d : Device) (h : Tame σ d.still) :
    Tame σ (devPatrolScrub ch line d).still := by
  simp [devPatrolScrub, h]

/-! Ras. -/

@[simp] theorem Device.judgeHang_still (d : Device) (w : Nat) : (d.judgeHang w).still = d.still := by
  fun_cases Device.judgeHang d w <;> simp +zetaDelta

@[simp] theorem Device.fire_still (d : Device) (w : Nat) : (d.fire w).still = d.still := by
  simp [Device.fire]

@[simp] theorem devShadowRead_still (d : Device) : (devShadowRead d).still = d.still := by
  simp [devShadowRead]

@[simp] theorem devNoresp_still (d : Device) : (devNoresp d).still = d.still := by
  simp [devNoresp]

@[simp] theorem Device.startReset_still (d : Device) (r : Reset) : (d.startReset r).still = d.still := by
  simp [Device.startReset]

@[simp] theorem Device.requestReset_still (d : Device) (r : Reset) : (d.requestReset r).still = d.still := by
  fun_cases Device.requestReset d r <;> simp +zetaDelta

@[simp] theorem Device.payReset_still (d : Device) (w : Nat) : (d.payReset w).still = d.still := by
  fun_cases Device.payReset d w <;> simp +zetaDelta

@[simp] theorem devGroupReset_still (w : Nat) (d : Device) : (devGroupReset w d).still = d.still := by
  simp [devGroupReset]

@[simp] theorem devDieReset_still (src : ResetSource) (die : Nat) (d : Device) : (devDieReset src die d).still = d.still := by
  fun_cases devDieReset src die d <;> simp +zetaDelta

@[simp] theorem devModuleReset_still (src : ResetSource) (d : Device) : (devModuleReset src d).still = d.still := by
  simp [devModuleReset]

@[simp] theorem Device.stopCmd_still (d : Device) (w : Nat) (c : Cmd) : (d.stopCmd w c).still = d.still := by
  simp [Device.stopCmd]

@[simp] theorem Device.stopCmds_still (d : Device) (w : Nat) (l : List Cmd) : (d.stopCmds w l).still = d.still := by
  simp [Device.stopCmds]

@[simp] theorem Device.stopQueue_tame {σ : Still} (d : Device) (q : Nat) (h : Tame σ d.still) : Tame σ (d.stopQueue q).still := by
  fun_cases Device.stopQueue d q
  simp +zetaDelta [h]

@[simp] theorem Device.stopPair_tame {σ : Still} (d : Device) (die pr : Nat) (h : Tame σ d.still) : Tame σ (d.stopPair die pr).still := by
  refine foldl_tame _ _ _ (fun e a => ?_) h
  refine foldl_tame _ _ _ (fun e p => by simp) ?_
  simp

@[simp] theorem Device.stopCores_still (d : Device) (r : Reset) (die v cid : Nat) (cores : List Nat) :
    (d.stopCores r die v cid cores).still = d.still := by
  refine foldl_still _ _ _ fun e st => ?_
  split <;> simp

@[simp] theorem Device.stopLoop_still (d : Device) (r : Reset) (key : Nat) (l : VLoop) : (d.stopLoop r key l).still = d.still := by
  simp [Device.stopLoop]

@[simp] theorem Device.stopCluster_tame {σ : Still} (d : Device) (r : Reset) (die c : Nat) (h : Tame σ d.still) :
    Tame σ (d.stopCluster r die c).still := by
  fun_cases Device.stopCluster d r die c with
  | case1 e cids e1 =>
    have left : Tame σ e.still := by
      unfold e
      split <;> simp [h]
    have ended : Tame σ e1.still :=
      foldl_tame _ _ _ (fun x v => foldl_tame _ _ _ (fun y k => by simp) (by simp)) left
    simp [ended]

@[simp] theorem Device.stopDma_tame {σ : Still} (d : Device) (die : Nat) (h : Tame σ d.still) : Tame σ (d.stopDma die).still := by
  fun_cases Device.stopDma d die with
  | case1 e =>
    have stopped : Tame σ e.still := by
      refine foldl_tame _ _ _ (fun x n => ?_) h
      refine Device.stopQueue_tame _ _ ?_
      split <;> simp
    simp [stopped]

@[simp] theorem Device.stopMember_tame {σ : Still} (d : Device) (s u : Nat) (r : SlipRun) (m : SlipMem) (h : Tame σ d.still) :
    Tame σ (d.stopMember s u r m).still := by
  simp [Device.stopMember, h]

@[simp] theorem Device.stopStack_tame {σ : Still} (d : Device) (s : Nat) (h : Tame σ d.still) : Tame σ (d.stopStack s).still := by
  fun_cases Device.stopStack d s with
  | case1 run e e1 e2 =>
    have stopped : Tame σ e1.still := by
      unfold e1
      clear_value run
      cases run with
      | none => simp [e, h]
      | some r =>
        refine foldl_tame _ _ _ (fun x m => by simp) ?_
        split <;> simp [e, h]
    simp [e2, stopped]

@[simp] theorem Device.stopPort_still (d : Device) (p : Nat) : (d.stopPort p).still = d.still := by
  rfl

@[simp] theorem Device.dropMoves_tame {σ : Still} (d : Device) (die g x3 : Nat) (h : Tame σ d.still) :
    Tame σ (d.dropMoves die g x3).still := by
  fun_induction Device.dropMoves d die g x3 <;> simp +zetaDelta [*]

@[simp] theorem Device.stopSeg_tame {σ : Still} (d : Device) (inDomain : Bool) (g : Nat) (h : Tame σ d.still) :
    Tame σ (d.stopSeg inDomain g).still := by
  fun_cases Device.stopSeg d inDomain g
  simp +zetaDelta [h]

@[simp] theorem Device.stopDie_tame {σ : Still} (d : Device) (die : Nat) (h : Tame σ d.still) : Tame σ (d.stopDie die).still := by
  refine foldl_tame _ _ _ (fun e q => by simp) ?_
  simp [h]

@[simp] theorem Device.clearDie_still (d : Device) (die : Nat) (rws : Bool) : (d.clearDie die rws).still = d.still := by
  rfl

@[simp] theorem Device.giveUpDecodes_still (d : Device) (die : Nat) : (d.giveUpDecodes die).still = d.still := by
  fun_cases Device.giveUpDecodes d die <;> simp +zetaDelta

@[simp] theorem Device.resetDie_tame {σ : Still} (d : Device) (r : Reset) (die : Nat) (rws : Bool) (h : Tame σ d.still) :
    Tame σ (d.resetDie r die rws).still := by
  have pairs := foldl_tame (fun e p => e.stopPair die p) (List.range 8) d (by simp) h
  have clusters := foldl_tame (fun e c => e.stopCluster r die c) (List.range 16) _ (by simp) pairs
  have inStacks := foldl_tame (fun e s => e.stopStack s) [2 * die, 2 * die + 1] _ (by simp) (Device.stopDma_tame _ die clusters)
  exact (Device.stopDie_tame _ die inStacks).congr (Device.clearDie_still _ _ _)

@[simp] theorem Device.colDieReset_tame {σ : Still} (d : Device) (co : Option ColRun) (h : Tame σ d.still) :
    Tame σ (d.colDieReset co).still := by
  fun_cases Device.colDieReset d co <;> simp +zetaDelta [h]

@[simp] theorem Device.repairCut_still (d : Device) : (d.repairCut).still = d.still := by
  fun_cases Device.repairCut d <;> simp +zetaDelta

@[simp] theorem Device.answerHeld_still (d : Device) : (d.answerHeld).still = d.still := by
  refine foldl_still _ _ _ fun e h => ?_
  split <;> simp

@[simp] theorem Device.resetModule_tame {σ : Still} (d : Device) (h : Tame σ d.still) : Tame σ d.resetModule.still := by
  have answered : Tame σ ((List.range 5).foldl (fun e g => e.stopSeg true g) d).answerHeld.still :=
    (foldl_tame (fun e g => e.stopSeg true g) _ d (by simp) h).congr (Device.answerHeld_still _)
  fun_cases Device.resetModule d with
  | case1 segs e mu jo e1 e2 e3 e4 e5 e6 e7 =>
    change Tame σ e.still at answered
    clear_value e
    have stopped : Tame σ e1.still := answered
    clear_value e1 mu jo
    have master : Tame σ e2.still := by
      unfold e2
      cases mu with
      | none => exact stopped
      | some r => exact stopped.congr (foldl_still _ _ _ (by simp))
    clear_value e2
    have ingest : Tame σ e3.still := by
      unfold e3
      cases jo <;> simp [master]
    clear_value e3
    simp -implicitDefEqProofs [e7, e6, e5, e4, ingest]

@[simp] theorem Device.resetUnits_tame {σ : Still} (d : Device) (r : Reset) (h : Tame σ d.still) : Tame σ (d.resetUnits r).still := by
  fun_cases Device.resetUnits d r with
  | case1 => simp [h]
  | case2 => simp [h]
  | case3 => simp [h]
  | case4 => simp [h]
  | case5 => simp [h]
  | case6 _ die co e e1 e2 e3 e4 =>
    have reset : Tame σ e.still := by simp [e, h]
    have ports : Tame σ e1.still := reset.congr (foldl_still _ _ _ (by simp))
    have segment : Tame σ e2.still := by simp [e2, ports]
    have moves : Tame σ e3.still := foldl_tame _ _ _ (fun x g => by simp) segment
    simp [e4, moves]
  | case7 => exact Device.resetModule_tame _ (foldl_tame _ _ _ (by simp) h)

@[simp] theorem Device.nextTag_still (d : Device) (r : Reset) : (d.nextTag r).1.still = d.still := by
  fun_cases Device.nextTag d r <;> simp +zetaDelta

@[simp] theorem Device.settleHangs_still (d : Device) (r : Reset) : (d.settleHangs r).still = d.still := by
  rfl

@[simp] theorem Device.releaseReset_still (d : Device) (r : Reset) (tag : Nat) : (d.releaseReset r tag).still = d.still := by
  fun_cases Device.releaseReset d r tag <;> simp +zetaDelta

@[simp] theorem devResetDone_tame {σ : Still} (d : Device) (h : Tame σ d.still) : Tame σ (devResetDone d).still := by
  unfold devResetDone
  split <;> simp [h]

@[simp] theorem devKick_still (d : Device) : (devKick d).still = d.still := by
  rfl

@[simp] theorem Device.restartMgmt_still (d : Device) (err : ReadError) : (d.restartMgmt err).still = d.still := by
  simp [Device.restartMgmt]

@[simp] theorem devRepair_still (source : Nat) (minority : Bool) (d : Device) : (devRepair source minority d).still = d.still := by
  fun_cases devRepair source minority d <;> simp +zetaDelta

@[simp] theorem devRepairDone_tame {σ : Still} (ls : List Word) (epar : BitVec 4) (d : Device) (h : Tame σ d.still) :
    Tame σ (devRepairDone ls epar d).still := by
  fun_cases devRepairDone ls epar d <;> simp +zetaDelta [h]

@[simp] theorem devStepAbort_tame {σ : Still} (try_ : Nat) (d : Device) (h : Tame σ d.still) : Tame σ (devStepAbort try_ d).still := by
  simp [devStepAbort, h]

@[simp] theorem devSvcset_still (mask who : Nat) (d : Device) : (devSvcset mask who d).still = d.still := by
  simp [devSvcset]

/-! Regs. -/

@[simp] theorem Device.regAfter_still (d : Device) (own blk off : Nat) (v : Word) : (d.regAfter own blk off v).still = d.still := by
  fun_cases Device.regAfter d own blk off v <;> simp +zetaDelta

theorem Device.dieAct_tame {σ : Still} (d : Device) (die blk off : Nat) (v : Word) (h : Tame σ d.still) :
    ∀ e ∈ d.dieAct die blk off v, Tame σ e.still := by
  fun_cases Device.dieAct d die blk off v <;> simp +zetaDelta [h]

theorem Device.rasAct_tame {σ : Still} (d : Device) (off : Nat) (v : Word) (h : Tame σ d.still) :
    ∀ e ∈ d.rasAct off v, Tame σ e.still := by
  fun_cases Device.rasAct d off v
  case case3 =>
    simp only [Option.mem_some_iff, forall_eq']
    split <;> simp [h]
  all_goals simp +zetaDelta [h]

theorem Device.modAct_tame {σ : Still} (d : Device) (ag : Agent) (blk off : Nat) (v : Word) (h : Tame σ d.still) :
    ∀ e ∈ d.modAct ag blk off v, Tame σ e.still := by
  fun_cases Device.modAct d ag blk off v
  case case25 => exact d.rasAct_tame off v h
  all_goals simp +zetaDelta [h]

theorem Device.regAct_tame {σ : Still} (d : Device) (ag : Agent) (key : Nat) (v : Word) (h : Tame σ d.still) :
    ∀ e ∈ d.regAct ag key v, Tame σ e.still := by
  fun_cases Device.regAct d ag key v with
  | case1 => simp
  | case2 own blk off r hr =>
    intro e he
    obtain ⟨e', he', rfl⟩ := Option.mem_map.mp he
    have acted : Tame σ e'.still := by
      split at he'
      · exact d.modAct_tame ag blk off v h e' he'
      · exact d.dieAct_tame own blk off v h e' he'
    simp [h, acted]

@[simp] theorem Device.storeReg_still (d : Device) (ag : Agent) (key : Nat) (v : Word) : (d.storeReg ag key v).still = d.still := by
  fun_cases Device.storeReg d ag key v <;> simp +zetaDelta

@[simp] theorem Device.writeReg_tame {σ : Still} (d : Device) (ag : Agent) (key : Nat) (v : Word) (h : Tame σ d.still) :
    Tame σ (d.writeReg ag key v).still :=
  getD_tame (by simp [h]) (d.regAct_tame ag key v h)

@[simp] theorem Device.writeReg64_tame {σ : Still} (d : Device) (ag : Agent) (key : Nat) (v : BitVec 64) (h : Tame σ d.still) :
    Tame σ (d.writeReg64 ag key v).still := by
  fun_cases Device.writeReg64 d ag key v with
  | case1 => exact h
  | case2 => simp [h]
  | case3 => exact h
  | case4 => simp [h]
  | case5 _ _ _ _ e e1 e2 =>
    have stored : Tame σ e1.still := by simp [e1, e, h]
    have low : Tame σ e2.still := getD_tame stored (e1.regAct_tame ag key _ stored)
    exact getD_tame low (e2.regAct_tame ag _ _ low)

@[simp] theorem devRegisterWrite_tame {σ : Still} (ag : Agent) (off width : Nat) (v : BitVec 64) (poison : Bool) (d : Device)
    (h : Tame σ d.still) :
    Tame σ (devRegisterWrite ag off width v poison d).still := by
  simp [devRegisterWrite, h]

@[simp] theorem devCtlLtcLoRead_still (die : Nat) (wide : Bool) (ag : Agent) (d : Device) :
    (devCtlLtcLoRead die wide ag d).still = d.still := by
  simp [devCtlLtcLoRead]

@[simp] theorem devSecFldataRead_still (d : Device) : (devSecFldataRead d).still = d.still := by
  simp [devSecFldataRead]

/-! Interlock. -/

@[simp] theorem Device.hold_still (d : Device) (hd : Held) : (d.hold hd).still = d.still := by
  fun_cases Device.hold d hd <;> simp +zetaDelta

/-! Late. -/

@[simp] theorem Device.markLate_still (d : Device) (q : Nat) : (d.markLate q).still = d.still := by
  fun_cases Device.markLate d q <;> simp +zetaDelta

@[simp] theorem Device.lateSeg_still (d : Device) (g : Nat) : (d.lateSeg g).still = d.still := by
  fun_cases Device.lateSeg d g <;> simp +zetaDelta

@[simp] theorem devLatePrefetch_still (u : LateUnit) (d : Device) : (devLatePrefetch u d).still = d.still := by
  fun_cases devLatePrefetch u d <;> simp +zetaDelta

/-! Mctp. -/

@[simp] theorem Device.ctlAnswer_still (d : Device) (req : List Byte) (cc : Byte) (data : List Byte) :
    (d.ctlAnswer req cc data).still = d.still := by
  simp [Device.ctlAnswer]

@[simp] theorem devSetEndpointId_still (req : List Byte) (d : Device) : (devSetEndpointId req d).still = d.still := by
  fun_cases devSetEndpointId req d <;> simp +zetaDelta

@[simp] theorem devGetEndpointId_still (req : List Byte) (d : Device) : (devGetEndpointId req d).still = d.still := by
  simp [devGetEndpointId]

@[simp] theorem devGetEndpointUuid_still (req : List Byte) (d : Device) : (devGetEndpointUuid req d).still = d.still := by
  simp [devGetEndpointUuid]

@[simp] theorem devGetMctpVersionSupport_still (req : List Byte) (d : Device) : (devGetMctpVersionSupport req d).still = d.still := by
  fun_cases devGetMctpVersionSupport req d <;> simp +zetaDelta

@[simp] theorem devGetMessageTypeSupport_still (req : List Byte) (d : Device) : (devGetMessageTypeSupport req d).still = d.still := by
  simp [devGetMessageTypeSupport]

@[simp] theorem devGetVendorDefinedMessageSupport_still (req : List Byte) (d : Device) :
    (devGetVendorDefinedMessageSupport req d).still = d.still := by
  fun_cases devGetVendorDefinedMessageSupport req d <;> simp +zetaDelta

@[simp] theorem Device.daxAnswer_still (d : Device) (cmd inst cc : Byte) (payload : List Byte) :
    (d.daxAnswer cmd inst cc payload).still = d.still := by
  simp [Device.daxAnswer]

@[simp] theorem devGetStatus_still (inst : Byte) (payload : List Byte) (d : Device) : (devGetStatus inst payload d).still = d.still := by
  simp [devGetStatus]

@[simp] theorem devGetHealth_still (inst : Byte) (payload : List Byte) (d : Device) : (devGetHealth inst payload d).still = d.still := by
  simp [devGetHealth]

@[simp] theorem devGetEvents_still (inst : Byte) (payload : List Byte) (d : Device) : (devGetEvents inst payload d).still = d.still := by
  simp [devGetEvents]

@[simp] theorem devGetQuote_still (inst : Byte) (payload : List Byte) (d : Device) : (devGetQuote inst payload d).still = d.still := by
  simp [devGetQuote]

/-! Power. -/

@[simp] theorem Device.powerLost_still (d : Device) (st : PowerState) : (d.powerLost st).still = ⟨[], [], none⟩ := by
  rfl

@[simp] theorem Device.reading_still (d : Device) (k i : Nat) (t : BitVec 16) : (d.reading k i t).still = d.still := by
  fun_cases Device.reading d k i t <;> simp +zetaDelta

@[simp] theorem devThermWarn_still (k i : Nat) (t : BitVec 16) (d : Device) : (devThermWarn k i t d).still = d.still := by
  simp [devThermWarn]

@[simp] theorem devThermWarnRearm_still (k i : Nat) (t : BitVec 16) (d : Device) : (devThermWarnRearm k i t d).still = d.still := by
  simp [devThermWarnRearm]

@[simp] theorem devShutdownRelease_still (feedRemovedMs : Nat) (presenceOpen : Bool) (d : Device) :
    (devShutdownRelease feedRemovedMs presenceOpen d).still = d.still := by
  simp [devShutdownRelease]

/-! Tick. -/

@[simp] theorem Device.tickArray_still (d : Device) (die a ns : Nat) : (d.tickArray die a ns).still = d.still := by
  fun_cases Device.tickArray d die a ns <;> simp +zetaDelta

@[simp] theorem Device.tickMvp_still (d : Device) (die ns : Nat) : (d.tickMvp die ns).still = d.still := by
  fun_cases Device.tickMvp d die ns <;> simp +zetaDelta

@[simp] theorem Device.tickStack_still (d : Device) (s ns : Nat) : (d.tickStack s ns).still = d.still := by
  fun_cases Device.tickStack d s ns <;> simp +zetaDelta

@[simp] theorem Device.armTimers_still (d : Device) : (d.armTimers).still = d.still := by
  simp [Device.armTimers]

theorem Device.countTime_still (d : Device) : ∃ l, d.countTime.still = ⟨d.core.mem, l, d.core.watch⟩ := by
  have counted (l : List Nat) : ∀ e : Device, e.still.mem = d.core.mem ∧ e.still.watch = d.core.watch →
      ∃ m, Device.still (l.foldl (fun e die =>
      { e with core.ltc := mset 0 e.core.ltc die (mget 0 e.core.ltc die + max 980000 (min 1020000 (Config.rate die e.core.now))) }) e) =
        ⟨d.core.mem, m, d.core.watch⟩ := by
    induction l with
    | nil => exact fun e he => ⟨e.core.ltc, by rw [← he.1, ← he.2]; rfl⟩
    | cons x l ih => exact fun e he => ih _ he
  exact counted _ d ⟨rfl, rfl⟩

@[simp] theorem Device.struck_still (d : Device) : (d.struck).still = d.still := by
  fun_cases Device.struck d <;> simp +zetaDelta

@[simp] theorem Device.allTokens_still (d : Device) : (d.allTokens).still = d.still := by
  simp [Device.allTokens]

@[simp] theorem Device.tickSupplies_still (d : Device) : (d.tickSupplies).still = d.still := by
  simp [Device.tickSupplies]

@[simp] theorem Device.tickLsa_still (d : Device) : (d.tickLsa).still = d.still := by
  simp [Device.tickLsa]

@[simp] theorem Device.tickWaits_still (d was : Device) : (d.tickWaits was).still = d.still := by
  simp [Device.tickWaits]

@[simp] theorem Device.tickNow_still (d : Device) : (d.tickNow).still = d.still := by
  rfl

theorem Device.tick_still (d : Device) : ∃ l, d.tick.still = ⟨d.core.mem, l, d.core.watch⟩ := by
  obtain ⟨l, hl⟩ := d.countTime_still
  unfold Device.tick
  split
  · exact ⟨l, by simp [hl]⟩
  · exact ⟨d.core.ltc, rfl⟩

/-! States and steps. -/

/-- What a step keeps of a state: its device stays tame, and the memory of a snapshot stays canonical. -/
structure State.Tame (s t : State) : Prop where
  dev  : Machine.Tame s.dev.still t.dev.still
  snap : s.memWf → ∀ x, t.snap = some x → x.memWf

theorem State.Tame.refl (s : State) : s.Tame s :=
  ⟨Machine.Tame.refl _, And.right⟩

theorem State.Tame.memWf {s t : State} (h : s.Tame t) (hs : s.memWf) : t.memWf :=
  ⟨h.dev.mem hs.1, h.snap hs⟩

theorem State.Tame.trans {s t u : State} (h : s.Tame t) (k : t.Tame u) : s.Tame u :=
  ⟨h.dev.trans k.dev, fun hs => k.snap (h.memWf hs)⟩

theorem State.tame_of_dev {s t : State} (hd : Machine.Tame s.dev.still t.dev.still) (hs : t.snap = s.snap) : s.Tame t :=
  ⟨hd, fun h x hx => h.2 x (hs ▸ hx)⟩

theorem State.latch_tame (s : State) (w : Nat) : s.Tame (s.latch w) :=
  ⟨Machine.Tame.refl _, fun h _ hx => Option.some.inj hx ▸ h.1⟩

theorem onDev_tame {f : Device → Device} (s : State) (hf : ∀ d, Machine.Tame d.still (f d).still) : s.Tame (onDev f s) :=
  State.tame_of_dev (hf s.dev) rfl

theorem stHang_tame (w : Nat) (s : State) : s.Tame (stHang w s) := by
  have fired : s.Tame { s with dev := s.dev.fire w } := State.tame_of_dev (by simp) rfl
  fun_cases stHang w s with
  | case1 => exact .refl s
  | case2 => exact fired.trans (State.latch_tame _ w)
  | case3 => exact fired.trans (State.tame_of_dev (Machine.Tame.refl _) rfl)

theorem stShadowWordReady_tame (s : State) : s.Tame (stShadowWordReady s) := by
  fun_cases stShadowWordReady s with
  | case1 => exact .refl s
  | case2 d _ v e hx e1 =>
    have read : e.still = s.dev.still := by
      split at hx <;> cases hx <;> simp [d]
    exact State.tame_of_dev (by simp [e1, read]) rfl

theorem stMgtWatchdog_tame (err : ReadError) (s : State) : s.Tame (stMgtWatchdog err s) := by
  fun_cases stMgtWatchdog err s with
  | case1 => exact .refl s
  | case2 d _ s' =>
    have latched : s.Tame s' := by
      unfold s'
      split
      · exact State.latch_tame s _
      · exact .refl s
    exact latched.trans (State.tame_of_dev (by simp) rfl)

theorem stRelease_tame (units first words : List Nat) (s : State) : s.Tame (stRelease units first words s) := by
  fun_cases stRelease units first words s with
  | case1 => exact .refl s
  | case2 _ _ _ _ _ _ _ e e' =>
    have dumped : Machine.Tame s.dev.still e'.still := by simp +zetaDelta
    exact State.tame_of_dev dumped rfl
  | case3 _ _ _ _ _ _ _ e e' v l =>
    have dumped : Machine.Tame s.dev.still e'.still := by simp +zetaDelta
    exact State.Tame.trans (t := { s with dev := { e' with ras.pend := l } }) (State.tame_of_dev dumped rfl) (State.latch_tame _ v)

theorem stRegisterWrite_tame (ag : Agent) (off width : Nat) (v : BitVec 64) (poison : Bool) (s : State) :
    s.Tame (stRegisterWrite ag off width v poison s) := by
  have written : s.Tame { s with dev := devRegisterWrite ag off width v poison s.dev } := State.tame_of_dev (by simp) rfl
  fun_cases stRegisterWrite ag off width v poison s with
  | case1 => exact written.trans (stRelease_tame _ _ _ _)
  | case2 => exact written

theorem ordinaryEffect_tame (i : Instr) (s : State) : s.Tame (ordinaryEffect i s) := by
  cases i
  case registerWrite ag off width v poison => exact stRegisterWrite_tame ag off width v poison s
  case release units first words => exact stRelease_tame units first words s
  case ctlSyncWrite d c v =>
    exact onDev_tame (f := fun x => x.hostDieWrite d.val (devCtlSyncWrite d.val c.val v)) s fun _ => by simp
  case ctlSyncaddWrite d c v =>
    exact onDev_tame (f := fun x => x.hostDieWrite d.val (devCtlSyncaddWrite d.val c.val v)) s fun _ => by simp
  all_goals first | exact .refl s | exact onDev_tame s fun d => by simp

theorem accessEffect_tame (o : Ordinary) (s : State) : s.Tame (accessEffect o s) := by
  fun_cases accessEffect o s with
  | case1 i => exact ordinaryEffect_tame i s
  | case3 => exact .refl s
  | case5 => exact .refl s
  | case7 => exact .refl s
  | case9 => exact .refl s
  | case2 => exact onDev_tame s fun _ => by simp
  | case4 => exact onDev_tame s fun _ => by simp
  | case6 => exact onDev_tame s fun _ => by simp
  | case8 => exact onDev_tame s fun _ => by simp

theorem serveHeld_tame (s : State) (h : Held) : s.Tame (serveHeld s h) := by
  fun_cases serveHeld s h with
  | case1 => exact State.tame_of_dev (by simp) rfl
  | case2 => exact accessEffect_tame h.what s

theorem foldl_serveHeld_tame (l : List Held) (s : State) : s.Tame (l.foldl serveHeld s) := by
  induction l generalizing s with
  | nil => exact .refl s
  | cons h l ih => exact (serveHeld_tame s h).trans (ih _)

theorem stOrdinaryAccessService_tame (sn u : Nat) (s : State) : s.Tame (stOrdinaryAccessService sn u s) :=
  State.Tame.trans (t := { s with dev := { s.dev with slip.held := s.dev.slip.held.filter (fun h => h.unit != sn * 512 + u) } })
    (State.tame_of_dev (Machine.Tame.refl _) rfl) (foldl_serveHeld_tame _ _)

theorem ordinary_tame {i : Instr} {s t : State} (h : ordinary i s = .next t) : s.Tame t := by
  obtain ⟨-, run⟩ | ⟨u, -, held⟩ := ordinary_cases i s
  · obtain rfl := Host.Outcome.next.inj (run ▸ h)
    exact ordinaryEffect_tame i s
  · obtain rfl := Host.Outcome.next.inj (held ▸ h)
    exact State.tame_of_dev (by simp) rfl

theorem onDevice_tame {f : Device → Device} {s t : State} (h : onDevice f s = .next t) (hf : Machine.Tame s.dev.still (f s.dev).still) :
    s.Tame t := by
  obtain rfl := Host.Outcome.next.inj h
  exact State.tame_of_dev hf rfl

/-- Every command but those of power is tame: an ordinary access by what it does once served, any other by its device function. -/
theorem exec_tame {c : Instr} {s t : State} (hp : powerCommand c = false) (h : exec c s = .next t) : s.Tame t := by
  cases c
  case powerGood => cases hp
  case lossOfPower => cases hp
  case thermalShutdown => cases hp
  case hang w => exact Host.Outcome.next.inj h ▸ stHang_tame w s
  case shadowWordReady => exact Host.Outcome.next.inj h ▸ stShadowWordReady_tame s
  case mgtWatchdog err => exact Host.Outcome.next.inj h ▸ stMgtWatchdog_tame err s
  case ordinaryAccessService sn u => exact Host.Outcome.next.inj h ▸ stOrdinaryAccessService_tame sn.val u.val s
  all_goals first | exact ordinary_tame h | exact onDevice_tame h (by simp)

theorem devPowerGood_mem (presence : Bool) (b : BootProbe) (d : Device) : (devPowerGood presence b d).core.mem = d.core.mem := by
  obtain ⟨l, hl⟩ := devPowerGood_still presence b d
  exact congrArg Still.mem hl

theorem devPowerGood_watch (presence : Bool) (b : BootProbe) (d : Device) : (devPowerGood presence b d).core.watch = d.core.watch := by
  obtain ⟨l, hl⟩ := devPowerGood_still presence b d
  exact congrArg Still.watch hl

theorem Device.tick_mem (d : Device) : d.tick.core.mem = d.core.mem := by
  obtain ⟨l, hl⟩ := d.tick_still
  exact congrArg Still.mem hl

theorem Device.tick_watch (d : Device) : d.tick.core.watch = d.core.watch := by
  obtain ⟨l, hl⟩ := d.tick_still
  exact congrArg Still.watch hl

theorem stLossOfPower_cases (s : State) :
    stLossOfPower s = s ∨ stLossOfPower s = { s with dev := s.dev.powerLost .off, snap := none } := by
  unfold stLossOfPower
  split
  · exact .inl rfl
  · exact .inr rfl

theorem stThermalShutdown_cases (k i : Nat) (t : BitVec 16) (s : State) :
    stThermalShutdown k i t s = s ∨ stThermalShutdown k i t s = { s with dev := s.dev.powerLost .shutdown, snap := none } := by
  fun_cases stThermalShutdown k i t s with
  | case1 => exact .inl rfl
  | case2 => exact .inl rfl
  | case3 => exact .inr rfl

/-- What O4 says of a state: memory and the snapshot's are canonical, and no access is tried in advance. -/
structure Keeps (s t : State) : Prop where
  memWf : s.memWf → t.memWf
  watch : s.dev.core.watch = none → t.dev.core.watch = none

theorem Keeps.of_powerLost (s : State) (st : PowerState) : Keeps s { s with dev := s.dev.powerLost st, snap := none } :=
  ⟨fun _ => ⟨rfl, fun _ h => nomatch h⟩, fun _ => rfl⟩

theorem State.Tame.keeps {s t : State} (h : s.Tame t) : Keeps s t :=
  ⟨h.memWf, h.dev.watch⟩

theorem exec_keeps {c : Instr} {s t : State} (h : exec c s = .next t) : Keeps s t := by
  cases hp : powerCommand c with
  | false => exact (exec_tame hp h).keeps
  | true =>
    revert hp
    fun_cases powerCommand c with
    | case1 presence probe =>
      obtain rfl := Host.Outcome.next.inj h
      exact fun _ => ⟨fun hs => ⟨s.dev.memWf_of_mem (devPowerGood_mem presence probe s.dev) hs.1, hs.2⟩,
        fun hw => (devPowerGood_watch presence probe s.dev).trans hw⟩
    | case2 =>
      obtain rfl := Host.Outcome.next.inj h
      obtain stays | lost := stLossOfPower_cases s
      · exact fun _ => stays.symm ▸ (State.Tame.refl s).keeps
      · exact fun _ => lost.symm ▸ Keeps.of_powerLost s _
    | case3 k i temp =>
      obtain rfl := Host.Outcome.next.inj h
      obtain stays | lost := stThermalShutdown_cases k.val i.val temp s
      · exact fun _ => stays.symm ▸ (State.Tame.refl s).keeps
      · exact fun _ => lost.symm ▸ Keeps.of_powerLost s _
    | case4 => exact nofun

theorem step_keeps {s t : State} (h : step s = .next t) : Keeps s t := by
  unfold step at h
  split at h
  · obtain rfl := Host.Outcome.next.inj h
    exact ⟨fun hs => ⟨s.dev.memWf_of_mem s.dev.tick_mem hs.1, hs.2⟩, fun hw => s.dev.tick_watch.trans hw⟩
  · have kept := exec_keeps h
    exact ⟨kept.memWf, kept.watch⟩

theorem stHang_still (w : Nat) (s : State) : (stHang w s).dev.still = s.dev.still := by
  fun_cases stHang w s with
  | case1 => rfl
  | case2 => exact s.dev.fire_still w
  | case3 => exact s.dev.fire_still w

theorem stShadowWordReady_still (s : State) : (stShadowWordReady s).dev.still = s.dev.still := by
  fun_cases stShadowWordReady s with
  | case1 => rfl
  | case2 d _ v e hx e1 =>
    have read : e.still = s.dev.still := by
      split at hx <;> cases hx <;> simp [d]
    simp [e1, read]

theorem stMgtWatchdog_still (err : ReadError) (s : State) : (stMgtWatchdog err s).dev.still = s.dev.still := by
  fun_cases stMgtWatchdog err s with
  | case1 => rfl
  | case2 d _ s' =>
    have latched : s'.dev.still = s.dev.still := by
      unfold s'
      split <;> rfl
    simp [latched]

/-- A queue of another unit than a stack has no status records in memory. -/
theorem Device.endQueued_still (d : Device) (q : Nat) (c : Cmd) (status : Nat) (hq : q < 720) :
    (d.endQueued q c status).still = d.still := by
  have idle (e : Device) : (e.idleRecords q c status).still = e.still := by
    fun_cases Device.idleRecords e q c status with
    | case1 => omega
    | case2 => rfl
  simp [Device.endQueued, Device.endUnrun, idle]

theorem devPurge_still (die : Fin 4) (n : Fin 32) (d : Device) : (devPurge die.val n.val d).still = d.still := by
  have hq : qDma die.val n.val < 720 := by unfold qDma; omega
  fun_cases devPurge die.val n.val d with
  | case1 => rfl
  | case2 => exact foldl_still _ _ _ fun e c => e.endQueued_still _ c stAborted hq

theorem onDev_still {f : Device → Device} (s : State) (hf : ∀ d, (f d).still = d.still) : (onDev f s).dev.still = s.dev.still :=
  hf s.dev

theorem ordinaryEffect_still {i : Instr} (hm : mayStore i = false) (s : State) : (ordinaryEffect i s).dev.still = s.dev.still := by
  cases i
  case ctlSyncWrite d c v =>
    exact onDev_still (f := fun x => x.hostDieWrite d.val (devCtlSyncWrite d.val c.val v)) s fun _ => by simp
  case ctlSyncaddWrite d c v =>
    exact onDev_still (f := fun x => x.hostDieWrite d.val (devCtlSyncaddWrite d.val c.val v)) s fun _ => by simp
  all_goals first | exact Bool.noConfusion (show true = false from hm) | rfl | exact onDev_still s fun _ => by simp

theorem onDevice_still {f : Device → Device} {s t : State} (h : onDevice f s = .next t) (hf : (f s.dev).still = s.dev.still) :
    t.dev.still = s.dev.still := by
  obtain rfl := Host.Outcome.next.inj h
  exact hf

theorem ordinary_still {i : Instr} {s t : State} (h : ordinary i s = .next t) (hm : mayStore i = false) :
    t.dev.still = s.dev.still := by
  obtain ⟨-, run⟩ | ⟨u, -, held⟩ := ordinary_cases i s
  · obtain rfl := Host.Outcome.next.inj (run ▸ h)
    exact ordinaryEffect_still hm s
  · obtain rfl := Host.Outcome.next.inj (held ▸ h)
    simp

/-- A command that is none of those that store leaves memory: each by the `_still` lemma of its device function. -/
theorem exec_mem {c : Instr} {s t : State} (hm : mayStore c = false) (h : exec c s = .next t) : t.dev.core.mem = s.dev.core.mem := by
  have of_still : t.dev.still = s.dev.still → t.dev.core.mem = s.dev.core.mem := congrArg Still.mem
  cases c
  case powerGood presence probe =>
    obtain rfl := Host.Outcome.next.inj h
    exact devPowerGood_mem presence probe s.dev
  case hang w => exact of_still (Host.Outcome.next.inj h ▸ stHang_still w s)
  case shadowWordReady => exact of_still (Host.Outcome.next.inj h ▸ stShadowWordReady_still s)
  case mgtWatchdog err => exact of_still (Host.Outcome.next.inj h ▸ stMgtWatchdog_still err s)
  case purge die n => exact of_still (onDevice_still h (devPurge_still die n s.dev))
  all_goals first | exact Bool.noConfusion (show true = false from hm) | exact of_still (ordinary_still h hm) | exact of_still (onDevice_still h (by simp))

theorem readByte_fst_of_mem {d e : Device} (h : e.core.mem = d.core.mem) (a : Nat) : (e.readByte a).1 = (d.readByte a).1 := by
  simp only [Device.readByte, h]

/-- Settles O4, by the frame of every command (`exec_keeps`) and of the idle step. -/
theorem memoryStaysCanonical : Obligations.MemoryStaysCanonical :=
  ⟨fun _ _ hs h => (step_keeps h).memWf hs, fun _ _ hw h => (step_keeps h).watch hw⟩

/-- Settles O5, by the frame of every command that does not store. -/
theorem otherCommandsLeaveMemory : Obligations.OtherCommandsLeaveMemory :=
  fun _ _ _ hm h => ⟨exec_mem hm h, readByte_fst_of_mem (exec_mem hm h)⟩

/-- Settles O6, by the frame of every command but those of power. -/
theorem localTimeIsTouchedByPowerOnly : Obligations.LocalTimeIsTouchedByPowerOnly :=
  fun _ _ _ hp h => (exec_tame hp h).dev.ltc

end Sys2Proof.Machine
end

section
/-! The state after reset, and what a nanosecond moves (O2, O3). -/

namespace Sys2Proof.Machine

/-- Settles O3, by evaluating the state after reset. -/
theorem resetIsPowerOn : Obligations.ResetIsPowerOn := by
  have canonical : State.reset.memWf := ⟨rfl, fun _ h => absurd h (Option.some_ne_none _).symm⟩
  have clocks (die : Nat) : State.reset.dev.time die = 0 := by
    show 0 / 10 ^ 6 % 2 ^ 64 = 0
    rfl
  have retryRounds : State.reset.dev.reg (rteReg 8) = 1000 := by decide +kernel
  have retryGap : State.reset.dev.reg (rteReg 0xC) = 32 := by decide +kernel
  exact ⟨rfl, rfl, rfl, rfl, canonical, fun _ => rfl, fun _ => rfl, clocks, fun _ _ => rfl, fun _ => rfl, fun _ => rfl,
    retryRounds, retryGap, rfl⟩

/-- What the passing of time leaves of a device: its queues, completions, events, sync counters and what it has sent; and the nanoseconds
counted. -/
structure Log where
  queues : List (Nat × List Cmd)
  done   : List Done
  evq    : List Event
  sync   : List (Nat × Nat)
  out    : List Out
  now    : Nat

def Device.log (d : Device) : Log := ⟨d.core.queues, d.core.done, d.core.evq, d.core.sync, d.out, d.core.now⟩

@[simp] theorem Device.log_ite (c : Prop) [Decidable c] (a b : Device) : (if c then a else b).log = if c then a.log else b.log :=
  apply_ite Device.log c a b

@[simp] theorem foldl_log {α : Type} (f : Device → α → Device) (l : List α) (d : Device) (h : ∀ e x, (f e x).log = e.log) :
    (l.foldl f d).log = d.log := by
  induction l generalizing d with
  | nil => rfl
  | cons x l ih => exact (ih (f d x)).trans (h d x)

@[simp] theorem Device.setReg_log (d : Device) (k : Nat) (v : Word) : (d.setReg k v).log = d.log := by
  rfl

@[simp] theorem Device.setReg64_log (d : Device) (k n : Nat) : (d.setReg64 k n).log = d.log := by
  rfl

@[simp] theorem Device.drawn_log (d : Device) : d.drawn.log = d.log := by
  rfl

@[simp] theorem Device.countTime_log (d : Device) : d.countTime.log = d.log :=
  foldl_log _ _ _ fun _ _ => rfl

@[simp] theorem Device.struck_log (d : Device) : d.struck.log = d.log := by
  fun_cases Device.struck d with
  | case1 => rfl
  | case2 => rfl
  | case3 => rfl

@[simp] theorem Device.arrayTokens_log (d : Device) (die a n : Nat) : (d.arrayTokens die a n).log = d.log := by
  fun_cases Device.arrayTokens d die a n with
  | case1 => rfl
  | case2 _ ar e =>
    have loaded : e.log = d.log := by
      unfold e
      split <;> rfl
    refine (foldl_log _ _ _ fun x p => ?_).trans loaded
    rw [Device.log_ite]
    exact ite_self _

@[simp] theorem Device.allTokens_log (d : Device) : d.allTokens.log = d.log := by
  simp [Device.allTokens]

@[simp] theorem Device.tickArray_log (d : Device) (die a ns : Nat) : (d.tickArray die a ns).log = d.log := by
  fun_cases Device.tickArray d die a ns with
  | case1 ps e => exact (show e.log = d.log by simp only [e]; split <;> rfl)
  | case2 ps e => exact (show e.log = d.log by simp only [e]; split <;> rfl)

@[simp] theorem Device.tickMvp_log (d : Device) (die ns : Nat) : (d.tickMvp die ns).log = d.log := by
  fun_cases Device.tickMvp d die ns with
  | case1 => rfl
  | case2 => rfl
  | case3 => rfl

@[simp] theorem Device.tickStack_log (d : Device) (s ns : Nat) : (d.tickStack s ns).log = d.log := by
  simp [Device.tickStack]

@[simp] theorem Device.tickWaits_log (d was : Device) : (d.tickWaits was).log = d.log := by
  simp [Device.tickWaits]

@[simp] theorem Device.tickSupplies_log (d : Device) : d.tickSupplies.log = d.log := by
  simp [Device.tickSupplies, Device.moveSupply]

@[simp] theorem Device.flood_log (d : Device) (but : Nat) (body : List Byte) : (d.flood but body).log = d.log := by
  refine foldl_log _ _ _ fun e p => ?_
  rw [Device.log_ite]
  exact ite_self _

@[simp] theorem Device.tickLsa_log (d : Device) : d.tickLsa.log = d.log := by
  unfold Device.tickLsa
  split
  · exact Device.flood_log _ _ _
  · rfl

@[simp] theorem Device.armTimers_log (d : Device) : d.armTimers.log = d.log := by
  rfl

@[simp] theorem Device.tickNow_log (d : Device) : d.tickNow.log = { d.log with now := d.core.now + 1 } := by
  rfl

theorem Device.tick_log (d : Device) (h : d.powered = true) : d.tick.log = { d.log with now := d.core.now + 1 } := by
  have now : d.countTime.core.now = d.core.now := congrArg Log.now d.countTime_log
  have struck : d.countTime.struck.core.now = d.countTime.core.now := congrArg Log.now d.countTime.struck_log
  simp [Device.tick, h, now, struck]

theorem Device.tick_off (d : Device) (h : d.powered = false) : d.tick = d := by
  simp [Device.tick, h]

/-- What the crystal of a die gives in a nanosecond, in millionths: within 2 % of one unit. -/
def Device.crystal (d : Device) (die : Nat) : Nat := max 980000 (min 1020000 (Config.rate die d.core.now))

theorem Device.crystal_bounds (d : Device) (die : Nat) : 980000 ≤ d.crystal die ∧ d.crystal die ≤ 1020000 := by
  unfold Device.crystal
  omega

/-- One die's counter moves by what its crystal gives. -/
def Device.countDie (d : Device) (die : Nat) : Device :=
  { d with core.ltc := mset 0 d.core.ltc die (mget 0 d.core.ltc die + d.crystal die) }

theorem Device.countTime_eq (d : Device) : d.countTime = (List.range 4).foldl Device.countDie d := by
  rfl

theorem Device.countDie_ltc (d : Device) (die x : Nat) :
    mget 0 (d.countDie die).core.ltc x = if x = die then mget 0 d.core.ltc die + d.crystal die else mget 0 d.core.ltc x :=
  mget_mset 0 _ _ _ _

@[simp] theorem Device.countDie_crystal (d : Device) (die x : Nat) : (d.countDie die).crystal x = d.crystal x := by
  rfl

/-- Dies named once each count once. -/
theorem foldl_countDie_ltc (l : List Nat) (hl : l.Nodup) (d : Device) (x : Nat) :
    mget 0 (l.foldl Device.countDie d).core.ltc x = mget 0 d.core.ltc x + if x ∈ l then d.crystal x else 0 := by
  induction l generalizing d with
  | nil => simp
  | cons die l ih =>
    obtain ⟨hdie, hl⟩ := List.nodup_cons.mp hl
    rw [List.foldl_cons, ih hl, d.countDie_ltc]
    by_cases hx : x = die
    · simp [hx, hdie]
    · simp [hx]

theorem Device.tick_ltc (d : Device) (h : d.powered = true) (die : Nat) (hd : die < 4) :
    mget 0 d.tick.core.ltc die = mget 0 d.core.ltc die + d.crystal die := by
  have same : d.tick.still = d.countTime.still := by simp [Device.tick, h]
  have counted := foldl_countDie_ltc (List.range 4) List.nodup_range d die
  rw [if_pos (List.mem_range.mpr hd), ← d.countTime_eq] at counted
  rw [show d.tick.core.ltc = d.countTime.core.ltc from congrArg Still.ltc same, counted]

/-- Settles O2: the parts of an idle step but one leave the counters, and that one adds what each crystal gives. -/
theorem idleStepCountsOneNanosecond : Obligations.IdleStepCountsOneNanosecond := by
  intro s idle
  refine ⟨s.dev.tick, by simp [step, idle, State.withDev], s.dev.tick_mem, ?_⟩
  cases hp : s.dev.powered with
  | false =>
    rw [s.dev.tick_off hp]
    exact ⟨rfl, rfl, rfl, rfl, rfl, fun _ => rfl, nofun⟩
  | true =>
    have log := s.dev.tick_log hp
    refine ⟨congrArg Log.queues log, congrArg Log.done log, congrArg Log.evq log, congrArg Log.sync log, congrArg Log.out log, nofun,
      fun _ => ⟨congrArg Log.now log, fun die hd => ?_⟩⟩
    rw [s.dev.tick_ltc hp die hd]
    have within := s.dev.crystal_bounds die
    refine ⟨by omega, by omega, ?_⟩
    rw [← s.dev.tick_ltc hp die hd]
    rfl

end Sys2Proof.Machine
end

section
/-! A write read back: addresses by pages, bytes by canonical address, poison marks by units (O8). -/

namespace Sys2Proof.Machine

/-! Addresses: a canonical address keeps the place in its 4 KiB page, and pages of one view stay apart. -/

/-- The page of the canonical address of a page. -/
def canonPage (p : Nat) : Nat :=
  if p / 2 ^ 36 % 16 = 5 then 4 * 2 ^ 36 + (p % 2 ^ 15 * 512 + p / 2 ^ 15 % 16 * 32 + p / 2 ^ 19 % 32) * 8 + p / 2 ^ 24 % 8 else p % 2 ^ 40

theorem canonAddr_eq (a : Nat) : canonAddr a = canonPage (a / 4096) * 4096 + a % 4096 := by
  unfold canonAddr canonPage regionOf
  rw [show a / 4096 / 2 ^ 36 = a / 2 ^ 48 by omega]
  split
  · dsimp only
    rw [show a / 2 ^ 27 = a / 4096 / 2 ^ 15 by omega, show a / 2 ^ 31 = a / 4096 / 2 ^ 19 by omega,
      show a / 2 ^ 36 = a / 4096 / 2 ^ 24 by omega, show a % 2 ^ 27 / 4096 = a / 4096 % 2 ^ 15 by omega,
      show a % 2 ^ 27 % 4096 = a % 4096 by omega]
    omega
  · omega

/-- Two pages that one range of addresses may reach. -/
structure SameView (p q : Nat) : Prop where
  lt     : p < 2 ^ 40 ∧ q < 2 ^ 40
  region : q / 2 ^ 36 = p / 2 ^ 36
  bank   : p / 2 ^ 36 = 5 → q / 2 ^ 15 = p / 2 ^ 15

theorem canonPage_region {p : Nat} (hp : p < 2 ^ 40) : canonPage p / 2 ^ 36 = if p / 2 ^ 36 = 5 then 4 else p / 2 ^ 36 := by
  unfold canonPage
  split <;> split <;> omega

theorem canonPage_inj {p q r : Nat} (hq : SameView p q) (hr : SameView p r) (h : canonPage q = canonPage r) : q = r := by
  obtain ⟨⟨-, hq⟩, hqr, hqb⟩ := hq
  obtain ⟨⟨-, hr⟩, hrr, hrb⟩ := hr
  unfold canonPage at h
  split at h <;> split at h <;> omega

theorem unitBytes_cases (k : Nat) : unitBytes k = 32 ∨ unitBytes k = 64 := by
  unfold unitBytes
  split
  · exact .inr rfl
  · exact .inl rfl

/-- The region of a canonical address is that of its page. -/
theorem regionOf_canonAddr (a : Nat) : regionOf (canonAddr a) = canonPage (a / 4096) / 2 ^ 36 % 16 := by
  rw [canonAddr_eq]
  unfold regionOf
  omega

/-- Within one view the units have one size. -/
theorem unitBytes_view {a x : Nat} (h : SameView (a / 4096) (x / 4096)) : unitBytes (canonAddr x) = unitBytes (canonAddr a) := by
  unfold unitBytes
  rw [regionOf_canonAddr, regionOf_canonAddr, canonPage_region h.lt.1, canonPage_region h.lt.2, h.region]

theorem canonAddr_inj {a x y : Nat} (hx : SameView (a / 4096) (x / 4096)) (hy : SameView (a / 4096) (y / 4096))
    (h : canonAddr x = canonAddr y) : x = y := by
  rw [canonAddr_eq, canonAddr_eq] at h
  have page := canonPage_inj hx hy (by omega)
  omega

/-- A byte's place in its unit stays, of either size. -/
theorem canonAddr_unit {s : Nat} (hs : s = 32 ∨ s = 64) (b i : Nat) (hi : i < s) :
    canonAddr (b / s * s + i) = canonAddr b / s * s + i := by
  rw [canonAddr_eq, canonAddr_eq]
  obtain rfl | rfl := hs
  · rw [show (b / 32 * 32 + i) / 4096 = b / 4096 by omega]
    omega
  · rw [show (b / 64 * 64 + i) / 4096 = b / 4096 by omega]
    omega

/-- The key of a unit names its region and its place. -/
theorem poisonUnit_inj {k j : Nat} (h : poisonUnit k = poisonUnit j) : unitBytes k = unitBytes j ∧ k / unitBytes k = j / unitBytes k := by
  unfold poisonUnit at h
  unfold unitBytes
  have hk : regionOf k = regionOf j := by
    unfold regionOf at h ⊢
    split at h <;> split at h <;> omega
  rw [hk] at h ⊢
  refine ⟨rfl, ?_⟩
  split at h
  · simp_all
  · simp_all

theorem poisonUnit_congr {k j : Nat} (h : k / unitBytes k = j / unitBytes k) : poisonUnit k = poisonUnit j := by
  have hr : regionOf k = regionOf j := by
    obtain hu | hu := unitBytes_cases k <;> rw [hu] at h <;> unfold regionOf <;> omega
  unfold poisonUnit
  unfold unitBytes at h
  rw [hr] at h ⊢
  split at h <;> simp_all

/-! A range lies in one view. -/

theorem regionSize_le {cap : Nat} (h : cap ≤ 2 ^ 48) (r : Nat) : regionSize cap r ≤ 2 ^ 48 := by
  unfold regionSize
  split <;> omega

theorem Device.rangeOk_view {d : Device} {a n : Nat} (hcap : d.core.cap ≤ 2 ^ 48) (hok : d.rangeOk a n = true) {x : Nat}
    (hx : a ≤ x ∧ x < a + n ∨ x / 4096 = a / 4096) : SameView (a / 4096) (x / 4096) := by
  unfold Device.rangeOk at hok
  dsimp only at hok
  split at hok
  · cases hok
  · have hsize := regionSize_le hcap (regionOf a)
    split at hok
    · constructor <;> omega
    · split at hok
      · next hr =>
        unfold regionOf at hr
        simp only [Bool.and_eq_true, decide_eq_true_eq] at hok
        constructor <;> omega
      · next hr =>
        unfold regionOf at hr
        simp only [decide_eq_true_eq] at hok
        constructor <;> omega

/-! Bytes: what a run of bytes leaves at each canonical address. -/

@[simp] theorem length_rangeFrom (a n : Nat) : (rangeFrom a n).length = n := by
  induction n generalizing a with
  | zero => rfl
  | succ n ih => simp [rangeFrom, ih]

theorem mem_rangeFrom {a n x : Nat} : x ∈ rangeFrom a n ↔ a ≤ x ∧ x < a + n := by
  induction n generalizing a with
  | zero => simp [rangeFrom]
  | succ n ih =>
    rw [rangeFrom, List.mem_cons, ih]
    omega

theorem Core.pokeBytes_other (c : Core) (a : Nat) (l : List PByte) (k : Nat) (hk : k ∉ (rangeFrom a l.length).map canonAddr) :
    mget Memory.dflt (c.pokeBytes a l).mem k = mget Memory.dflt c.mem k := by
  induction l generalizing c a with
  | nil => rfl
  | cons b l ih =>
    simp only [List.length_cons, rangeFrom, List.map_cons, List.mem_cons, not_or] at hk
    exact (ih _ _ hk.2).trans (mget_mset_ne _ _ _ _ _ hk.1)

theorem Core.pokeBytes_read (c : Core) (a : Nat) (l : List PByte)
    (inj : ∀ x y, a ≤ x → x < a + l.length → a ≤ y → y < a + l.length → canonAddr x = canonAddr y → x = y) :
    (rangeFrom a l.length).map (fun x => mget Memory.dflt (c.pokeBytes a l).mem (canonAddr x)) = values l := by
  induction l generalizing c a with
  | nil => rfl
  | cons b l ih =>
    have apart : canonAddr a ∉ (rangeFrom (a + 1) l.length).map canonAddr := by
      intro hm
      obtain ⟨x, hx, he⟩ := List.mem_map.mp hm
      rw [mem_rangeFrom] at hx
      have := inj x a (by omega) (by simp; omega) (by omega) (by simp) he
      omega
    have first : mget Memory.dflt (c.pokeBytes a (b :: l)).mem (canonAddr a) = b.1 :=
      ((c.pokeByte a b.1).pokeBytes_other (a + 1) l _ apart).trans (mget_mset_self _ _ _ _)
    have rest := ih (c.pokeByte a b.1) (a + 1) fun x y hx hx' hy hy' =>
      inj x y (by omega) (by simp; omega) (by omega) (by simp; omega)
    simp only [List.length_cons, rangeFrom, List.map_cons, first, values]
    exact congrArg _ rest

theorem Core.pokeBytes_pois (c : Core) (a : Nat) (l : List PByte) : (c.pokeBytes a l).pois = c.pois := by
  rw [c.pokeBytes_regs a l]

theorem Core.pokeBytes_mem_congr {c e : Core} (h : c.mem = e.mem) (a : Nat) (l : List PByte) : (c.pokeBytes a l).mem = (e.pokeBytes a l).mem := by
  induction l generalizing c e a with
  | nil => exact h
  | cons b l ih => exact ih (congrArg (fun m => mset Memory.dflt m (canonAddr a) b.1) h) _

/-! Marks: what the units of a write leave of each mark. -/

theorem mem_sinsert {k j : Nat} {l : List Nat} : j ∈ sinsert k l ↔ j = k ∨ j ∈ l := by
  induction l with
  | nil => simp [sinsert]
  | cons i l ih =>
    simp only [sinsert]
    split
    · next h => simp [h]
    · split
      · simp
      · simp only [List.mem_cons, ih]
        tauto

/-- The bytes of a write that lie in a unit. -/
def unitPart (sz u a : Nat) (l : List PByte) : List PByte := (l.drop (u - a)).take (u + sz - max u a)

/-- Whether a write leaves a unit that it reaches marked, which was so before or not. -/
def MarkLeft (sz u a : Nat) (l : List PByte) (old : Prop) : Prop :=
  anyPoison (unitPart sz u a l) = true ∨ (old ∧ ¬(a ≤ u ∧ u + sz ≤ a + l.length))

/-- The marks once a write has passed a unit. -/
theorem Core.mem_markUnit (c : Core) (u a : Nat) (l : List PByte) (k : Nat) :
    k ∈ (c.markUnit u a l).pois ↔
      if k = poisonUnit (canonAddr u) then MarkLeft (unitBytes (canonAddr u)) u a l (k ∈ c.pois) else k ∈ c.pois := by
  unfold Core.markUnit MarkLeft unitPart
  dsimp only
  split
  · next h =>
    rw [mem_sinsert]
    split
    · next hk => simp [hk, h]
    · next hk => simp [hk]
  · next h =>
    split
    · next hc =>
      rw [List.mem_filter]
      split
      · next hk => simp only [h, hk, hc]; simp
      · next hk => simp [hk]
    · next hc => simp only [h, hc]; simp

/-- Units that are no unit of k leave its mark. -/
theorem Core.mem_markUnits_other (c : Core) (a : Nat) (l : List PByte) (sz k u n : Nat)
    (hsz : ∀ j, j < n → unitBytes (canonAddr (u + j * sz)) = sz) (hk : ∀ j, j < n → k ≠ poisonUnit (canonAddr (u + j * sz))) :
    k ∈ (c.markUnits a l u n).pois ↔ k ∈ c.pois := by
  induction n generalizing c u with
  | zero => rfl
  | succ n ih =>
    have next (j : Nat) : u + sz + j * sz = u + (j + 1) * sz := by rw [Nat.succ_mul]; omega
    have size : unitBytes (canonAddr u) = sz := by simpa using hsz 0 n.succ_pos
    have key : k ≠ poisonUnit (canonAddr u) := by simpa using hk 0 n.succ_pos
    rw [Core.markUnits, size, ih _ (u + sz) (fun j hj => next j ▸ hsz (j + 1) (by omega)) fun j hj => next j ▸ hk (j + 1) (by omega),
      c.mem_markUnit, if_neg key]

/-- Of units with marks of their own, one decides its mark. -/
theorem Core.mem_markUnits_at (c : Core) (a : Nat) (l : List PByte) (sz u n : Nat)
    (hsz : ∀ j, j < n → unitBytes (canonAddr (u + j * sz)) = sz)
    (inj : ∀ i j, i < n → j < n → poisonUnit (canonAddr (u + i * sz)) = poisonUnit (canonAddr (u + j * sz)) → i = j) (j : Nat) (hj : j < n) :
    poisonUnit (canonAddr (u + j * sz)) ∈ (c.markUnits a l u n).pois ↔
      MarkLeft sz (u + j * sz) a l (poisonUnit (canonAddr (u + j * sz)) ∈ c.pois) := by
  induction n generalizing c u j with
  | zero => omega
  | succ n ih =>
    have next (j : Nat) : u + sz + j * sz = u + (j + 1) * sz := by rw [Nat.succ_mul]; omega
    have size : unitBytes (canonAddr u) = sz := by simpa using hsz 0 n.succ_pos
    have sizes (i : Nat) (hi : i < n) : unitBytes (canonAddr (u + sz + i * sz)) = sz := next i ▸ hsz (i + 1) (by omega)
    rw [Core.markUnits, size]
    cases j with
    | zero =>
      have apart (i : Nat) (hi : i < n) : poisonUnit (canonAddr (u + 0 * sz)) ≠ poisonUnit (canonAddr (u + sz + i * sz)) := by
        rw [next]
        intro he
        have := inj 0 (i + 1) n.succ_pos (by omega) he
        omega
      rw [Core.mem_markUnits_other _ a l sz _ (u + sz) n sizes apart, Nat.zero_mul, Nat.add_zero, c.mem_markUnit, if_pos rfl, size]
    | succ j =>
      have later := ih (c.markUnit u a l) (u + sz) sizes
        (fun i k hi hk he => by
          rw [next, next] at he
          have := inj (i + 1) (k + 1) (by omega) (by omega) he
          omega) j (by omega)
      have apart : poisonUnit (canonAddr (u + (j + 1) * sz)) ≠ poisonUnit (canonAddr u) := by
        intro he
        have := inj (j + 1) 0 hj n.succ_pos (by simpa using he)
        omega
      rw [next] at later
      rw [later, c.mem_markUnit, if_neg apart]

/-! A write of the device. -/

@[simp] theorem Device.flawedIn_watched (d : Device) (rs qs : List (Nat × Nat)) : (d.watched rs).flawedIn qs = d.flawedIn qs := by
  simp [Device.flawedIn]

/-- A write that is not held and meets no bad symbol puts its bytes. -/
theorem Device.write_mem {d : Device} {a : Nat} {l : List PByte} (hheld : d.memHeld a = false) (hclean : d.flawedIn [(a, l.length)] = []) :
    (d.write a l).core.mem = (d.core.pokeBytes a l).mem := by
  simpa [Device.write, hheld, hclean] using Core.pokeBytes_mem_congr (d.watched_core_mem _) a l

/-- And passes the units it reaches. -/
theorem Device.write_pois {d : Device} {a : Nat} {l : List PByte} (hheld : d.memHeld a = false) (hclean : d.flawedIn [(a, l.length)] = []) :
    ∃ c : Core, c.pois = d.core.pois ∧ (d.write a l).core.pois = (c.markUnits a l (a / unitBytes (canonAddr a) * unitBytes (canonAddr a))
      ((a + l.length + unitBytes (canonAddr a) - 1) / unitBytes (canonAddr a) - a / unitBytes (canonAddr a))).pois := by
  refine ⟨(d.watched [(a, l.length)]).core.pokeBytes a l, by simp [Core.pokeBytes_pois], ?_⟩
  simp [Device.write, hheld, hclean]

theorem Device.readByte_marked (d : Device) (b : Nat) : (d.readByte b).2 = true ↔ poisonUnit (canonAddr b) ∈ d.core.pois := by
  simp [Device.readByte]

theorem Device.readByte_clean (d : Device) (b : Nat) : (d.readByte b).2 = false ↔ poisonUnit (canonAddr b) ∉ d.core.pois := by
  rw [← d.readByte_marked b, Bool.not_eq_true]

/-- A byte has the mark of its unit's first byte. -/
theorem poisonUnit_unit (b i : Nat) (hi : i < unitBytes (canonAddr b)) :
    poisonUnit (canonAddr (b / unitBytes (canonAddr b) * unitBytes (canonAddr b) + i)) = poisonUnit (canonAddr b) := by
  have hs := unitBytes_cases (canonAddr b)
  refine (poisonUnit_congr ?_).symm
  rw [canonAddr_unit hs b i hi]
  obtain h | h := hs <;> rw [h] at hi ⊢ <;> omega

section
variable {d : Device} {a : Nat} {l : List PByte} (hcap : d.core.cap ≤ 2 ^ 48) (hok : d.rangeOk a l.length = true)
include hcap hok

/-- Unit j of those that a write passes lies in the view of its range. -/
theorem unit_view {sz : Nat} (hsz : sz = 32 ∨ sz = 64) (j : Nat) (hj : j < (a + l.length + sz - 1) / sz - a / sz) :
    SameView (a / 4096) ((a / sz * sz + j * sz) / 4096) := by
  refine d.rangeOk_view hcap hok ?_
  obtain rfl | rfl := hsz <;> omega

/-- The units that a write passes have marks of their own. -/
theorem unit_inj {sz : Nat} (hsz : sz = unitBytes (canonAddr a)) (i j : Nat) (hi : i < (a + l.length + sz - 1) / sz - a / sz)
    (hj : j < (a + l.length + sz - 1) / sz - a / sz)
    (h : poisonUnit (canonAddr (a / sz * sz + i * sz)) = poisonUnit (canonAddr (a / sz * sz + j * sz))) : i = j := by
  have hs : sz = 32 ∨ sz = 64 := hsz ▸ unitBytes_cases _
  have vi := unit_view hcap hok hs i hi
  have vj := unit_view hcap hok hs j hj
  obtain ⟨-, place⟩ := poisonUnit_inj h
  rw [unitBytes_view vi, ← hsz] at place
  have first (k : Nat) : canonAddr (a / sz * sz + k * sz) = canonAddr (a / sz * sz + k * sz) / sz * sz := by
    have aligned : (a / sz * sz + k * sz) / sz * sz + 0 = a / sz * sz + k * sz := by rcases hs with rfl | rfl <;> omega
    have kept := canonAddr_unit hs (a / sz * sz + k * sz) 0 (by omega)
    rw [aligned] at kept
    exact kept
  have same := canonAddr_inj vi vj (by rw [first i, first j, place])
  rcases hs with rfl | rfl <;> omega

/-- The mark of a byte in unit j after the write. -/
theorem Device.write_marks (hheld : d.memHeld a = false) (hclean : d.flawedIn [(a, l.length)] = []) {sz : Nat}
    (hsz : sz = unitBytes (canonAddr a)) (j : Nat) (hj : j < (a + l.length + sz - 1) / sz - a / sz) :
    poisonUnit (canonAddr (a / sz * sz + j * sz)) ∈ (d.write a l).core.pois ↔
      MarkLeft sz (a / sz * sz + j * sz) a l (poisonUnit (canonAddr (a / sz * sz + j * sz)) ∈ d.core.pois) := by
  have hs : sz = 32 ∨ sz = 64 := hsz ▸ unitBytes_cases _
  obtain ⟨c, hc, hw⟩ := d.write_pois hheld hclean
  rw [hw, ← hc, ← hsz]
  exact c.mem_markUnits_at a l sz _ _ (fun i hi => (unitBytes_view (unit_view hcap hok hs i hi)).trans hsz.symm) (unit_inj hcap hok hsz) j hj

/-- A mark of no unit that the write passes stays. -/
theorem Device.write_marks_other (hheld : d.memHeld a = false) (hclean : d.flawedIn [(a, l.length)] = []) {sz : Nat}
    (hsz : sz = unitBytes (canonAddr a)) {k : Nat}
    (hk : ∀ j, j < (a + l.length + sz - 1) / sz - a / sz → k ≠ poisonUnit (canonAddr (a / sz * sz + j * sz))) :
    k ∈ (d.write a l).core.pois ↔ k ∈ d.core.pois := by
  have hs : sz = 32 ∨ sz = 64 := hsz ▸ unitBytes_cases _
  obtain ⟨c, hc, hw⟩ := d.write_pois hheld hclean
  rw [hw, ← hc, ← hsz]
  exact c.mem_markUnits_other a l sz k _ _ (fun i hi => (unitBytes_view (unit_view hcap hok hs i hi)).trans hsz.symm) hk

end

theorem mem_unitPart {sz u a i : Nat} {l : List PByte} {b : PByte} (h : l[i]? = some b) (hu : u ≤ a + i) (hi : a + i < u + sz) :
    b ∈ unitPart sz u a l := by
  refine List.mem_iff_getElem?.mpr ⟨i - (u - a), ?_⟩
  rw [unitPart, List.getElem?_take_of_lt (by omega), List.getElem?_drop, show u - a + (i - (u - a)) = i by omega, h]

theorem anyPoison_unitPart {l : List PByte} (h : anyPoison l = false) (sz u a : Nat) : anyPoison (unitPart sz u a l) = false := by
  simp only [anyPoison, List.any_eq_false] at h ⊢
  exact fun x hx => h x (List.mem_of_mem_drop (List.mem_of_mem_take hx))

theorem MarkLeft.of_clean {sz u a : Nat} {l : List PByte} {old : Prop} (hl : anyPoison l = false) (h : MarkLeft sz u a l old) :
    old ∧ ¬(a ≤ u ∧ u + sz ≤ a + l.length) := by
  obtain hp | h := h
  · rw [anyPoison_unitPart hl] at hp
    cases hp
  · exact h

section
variable {d : Device} {a : Nat} {l : List PByte} (hcap : d.core.cap ≤ 2 ^ 48) (hok : d.rangeOk a l.length = true)
  (hheld : d.memHeld a = false) (hclean : d.flawedIn [(a, l.length)] = [])
include hcap hok hheld hclean

theorem Device.write_reads_back : values ((d.write a l).readBytes a l.length) = values l := by
  have inj (x y : Nat) (hx : a ≤ x) (hx' : x < a + l.length) (hy : a ≤ y) (hy' : y < a + l.length) (h : canonAddr x = canonAddr y) : x = y :=
    canonAddr_inj (d.rangeOk_view hcap hok (.inl ⟨hx, hx'⟩)) (d.rangeOk_view hcap hok (.inl ⟨hy, hy'⟩)) h
  rw [← d.core.pokeBytes_read a l inj]
  simp [values, Device.readBytes, Device.readByte, d.write_mem hheld hclean]

end

/-- The unit of an address that the range reaches is one that the write passes. -/
theorem unit_of_reached {sz : Nat} (hsz : sz = 32 ∨ sz = 64) {a n x : Nat} (hx : a ≤ x) (hx' : x < a + n) :
    x / sz - a / sz < (a + n + sz - 1) / sz - a / sz ∧ a / sz * sz + (x / sz - a / sz) * sz = x / sz * sz := by
  rcases hsz with rfl | rfl <;> omega

/-- A mark is that of no unit passed, or of the unit with some number. -/
theorem passed_or_not (a n sz k : Nat) :
    (∀ j, j < (a + n + sz - 1) / sz - a / sz → k ≠ poisonUnit (canonAddr (a / sz * sz + j * sz))) ∨
      ∃ j, j < (a + n + sz - 1) / sz - a / sz ∧ k = poisonUnit (canonAddr (a / sz * sz + j * sz)) := by
  by_cases h : ∃ j, j < (a + n + sz - 1) / sz - a / sz ∧ k = poisonUnit (canonAddr (a / sz * sz + j * sz))
  · exact .inr h
  · exact .inl fun j hj he => h ⟨j, hj, he⟩

section
variable {d : Device} {a : Nat} {l : List PByte} (hcap : d.core.cap ≤ 2 ^ 48) (hok : d.rangeOk a l.length = true)
  (hheld : d.memHeld a = false) (hclean : d.flawedIn [(a, l.length)] = [])
include hcap hok hheld hclean

/-- The mark of an address that the range reaches, by its unit. -/
theorem Device.write_marks_reached {sz x : Nat} (hsz : sz = unitBytes (canonAddr a)) (hx : a ≤ x) (hx' : x < a + l.length) :
    poisonUnit (canonAddr x) ∈ (d.write a l).core.pois ↔ MarkLeft sz (x / sz * sz) a l (poisonUnit (canonAddr x) ∈ d.core.pois) := by
  have hs : sz = 32 ∨ sz = 64 := hsz ▸ unitBytes_cases _
  have size : sz = unitBytes (canonAddr x) := hsz.trans (unitBytes_view (d.rangeOk_view hcap hok (.inl ⟨hx, hx'⟩))).symm
  obtain ⟨inside, first⟩ := unit_of_reached hs hx hx'
  have key : poisonUnit (canonAddr (x / sz * sz)) = poisonUnit (canonAddr x) := by
    have := poisonUnit_unit x 0 (by rw [← size]; omega)
    rwa [← size] at this
  have marks := d.write_marks hcap hok hheld hclean hsz _ inside
  rwa [first, key] at marks

theorem Device.write_marks_poisoned {i : Nat} {b : Byte} (h : l[i]? = some (b, true)) : ((d.write a l).readByte (a + i)).2 = true := by
  have hi : i < l.length := (List.getElem?_eq_some_iff.mp h).1
  have hs := unitBytes_cases (canonAddr a)
  rw [Device.readByte_marked, d.write_marks_reached hcap hok hheld hclean rfl (by omega) (by omega)]
  refine .inl (List.any_eq_true.mpr ⟨(b, true), mem_unitPart h ?_ ?_, rfl⟩)
  · exact Nat.div_mul_le_self _ _
  · obtain h | h := hs <;> rw [h] <;> omega

theorem Device.write_clears_covered (hl : anyPoison l = false) {u i : Nat} (hu : u % unitBytes (canonAddr a) = 0) (hau : a ≤ u)
    (hend : u + unitBytes (canonAddr a) ≤ a + l.length) (hi : i < unitBytes (canonAddr a)) : ((d.write a l).readByte (u + i)).2 = false := by
  rw [Device.readByte_clean, d.write_marks_reached hcap hok hheld hclean rfl (by omega) (by omega)]
  intro hm
  refine (hm.of_clean hl).2 ?_
  obtain h | h := unitBytes_cases (canonAddr a) <;> rw [h] at hu hend hi ⊢ <;> omega

theorem Device.write_keeps_partial {b i : Nat} (hb : (d.readByte b).2 = true) (hi : i < unitBytes (canonAddr b))
    (hout : canonAddr (b / unitBytes (canonAddr b) * unitBytes (canonAddr b) + i) ∉ (rangeFrom a l.length).map canonAddr) :
    ((d.write a l).readByte b).2 = true := by
  rw [Device.readByte_marked] at hb ⊢
  obtain other | ⟨j, hj, key⟩ := passed_or_not a l.length (unitBytes (canonAddr a)) (poisonUnit (canonAddr b))
  · exact (d.write_marks_other hcap hok hheld hclean rfl other).mpr hb
  · have hs := unitBytes_cases (canonAddr a)
    obtain ⟨size, place⟩ := poisonUnit_inj key
    rw [unitBytes_view (unit_view hcap hok hs j hj)] at size
    rw [size] at hi hout place
    rw [canonAddr_unit hs b i hi, place, ← canonAddr_unit hs _ i hi] at hout
    rw [key, d.write_marks hcap hok hheld hclean rfl j hj, ← key]
    refine .inr ⟨hb, fun covered => hout (List.mem_map.mpr ⟨_, mem_rangeFrom.mpr ?_, rfl⟩)⟩
    rcases hs with h | h <;> rw [h] at covered hi ⊢ <;> omega

theorem Device.write_marks_nothing_clean (hl : anyPoison l = false) {b : Nat} (hb : (d.readByte b).2 = false) :
    ((d.write a l).readByte b).2 = false := by
  rw [Device.readByte_clean] at hb ⊢
  obtain other | ⟨j, hj, key⟩ := passed_or_not a l.length (unitBytes (canonAddr a)) (poisonUnit (canonAddr b))
  · exact fun hm => hb ((d.write_marks_other hcap hok hheld hclean rfl other).mp hm)
  · rw [key] at hb ⊢
    exact fun hm => hb (((d.write_marks hcap hok hheld hclean rfl j hj).mp hm).of_clean hl).1

end

/-! Bad symbols: a coder removes those of each word it meets, and a write those of each word it reaches. -/

theorem Device.spoil_flaws (d : Device) (key : Nat) (p : Bool) : (d.spoil key p).core.flaws = d.core.flaws := by
  show (d.core.pokeBytes _ _).flaws = _
  rw [Core.pokeBytes_regs]

theorem Device.meetCoder_flaws (step : Bool) (d : Device) (key : Nat) :
    (Device.meetCoder step d key).core.flaws = mset [] d.core.flaws key [] := by
  fun_cases Device.meetCoder step d key with
  | case1 => rfl
  | case2 _ _ _ _ e fixed =>
    have cleared : e.core.flaws = mset [] d.core.flaws key [] := rfl
    unfold fixed
    split <;> simp [cleared]
  | case3 _ _ _ _ e fixed =>
    have spoilt : (e.spoil key false).core.flaws = mset [] d.core.flaws key [] := e.spoil_flaws _ _
    unfold fixed
    split <;> simp [spoilt]
  | case4 _ _ _ _ _ e1 _ =>
    have spoilt : e1.core.flaws = mset [] d.core.flaws key [] := Device.spoil_flaws _ _ _
    clear_value e1
    simp [spoilt]
  | case5 _ _ _ _ _ _ e1 _ =>
    have spoilt : e1.core.flaws = mset [] d.core.flaws key [] := Device.spoil_flaws _ _ _
    clear_value e1
    rw [Device.post_core_flaws, Device.setReg_core_flaws, Device.count1_core_flaws, spoilt]

/-- The keys of the words with bad symbols. -/
def Device.flawKeys (d : Device) : List Nat := d.core.flaws.map Prod.fst

theorem mem_flawKeys_meetCoder {step : Bool} {d : Device} {key k : Nat} :
    k ∈ (Device.meetCoder step d key).flawKeys ↔ k ∈ d.flawKeys ∧ k ≠ key := by
  simp only [Device.flawKeys, Device.meetCoder_flaws, mset, if_true, List.mem_map, List.mem_filter, bne_iff_ne]
  constructor
  · rintro ⟨p, ⟨hp, hk⟩, rfl⟩
    exact ⟨⟨p, hp, rfl⟩, hk⟩
  · rintro ⟨⟨p, hp, rfl⟩, hk⟩
    exact ⟨p, ⟨hp, hk⟩, rfl⟩

theorem mem_flawKeys_foldl_meetCoder {step : Bool} {l : List Nat} {d : Device} {k : Nat} :
    k ∈ (l.foldl (Device.meetCoder step) d).flawKeys ↔ k ∈ d.flawKeys ∧ k ∉ l := by
  induction l generalizing d with
  | nil => simp
  | cons key l ih =>
    rw [List.foldl_cons, ih, mem_flawKeys_meetCoder, List.mem_cons]
    tauto

theorem mem_flawedIn {d : Device} {rs : List (Nat × Nat)} {k : Nat} :
    k ∈ d.flawedIn rs ↔ k ∈ d.flawKeys ∧ rs.any (reachesWord k) = true :=
  List.mem_filter

/-- Where no word with bad symbols that the ranges reach is left, none is flawed. -/
theorem Device.flawedIn_eq_nil {d e : Device} {rs : List (Nat × Nat)} (h : ∀ k ∈ e.flawKeys, k ∈ d.flawKeys ∧ k ∉ d.flawedIn rs) :
    e.flawedIn rs = [] :=
  List.eq_nil_iff_forall_not_mem.mpr fun k hk => by
    obtain ⟨key, reached⟩ := mem_flawedIn.mp hk
    obtain ⟨old, missed⟩ := h k key
    exact missed (mem_flawedIn.mpr ⟨old, reached⟩)

@[simp] theorem Device.flawKeys_watched (d : Device) (rs : List (Nat × Nat)) : (d.watched rs).flawKeys = d.flawKeys := by
  simp [Device.flawKeys]

theorem Device.coder_flawedIn (d : Device) (step : Bool) (rs : List (Nat × Nat)) : (d.coder step rs).flawedIn rs = [] :=
  flawedIn_eq_nil fun k hk => by
    simpa using mem_flawKeys_foldl_meetCoder.mp hk

theorem Device.write_flawedIn (d : Device) (a : Nat) (l : List PByte) (h : d.memHeld a = false) :
    (d.write a l).flawedIn [(a, l.length)] = [] :=
  flawedIn_eq_nil fun k hk => by
    simp only [Device.write, h, Bool.false_eq_true, if_false, Device.flawKeys, List.mem_map, List.mem_filter] at hk
    obtain ⟨p, ⟨hp, missed⟩, rfl⟩ := hk
    have met := (mem_flawKeys_foldl_meetCoder.mp (List.mem_map_of_mem hp)).1
    exact ⟨by simpa using met, by simpa using missed⟩

/-- Settles O8: a write puts its bytes at distinct canonical addresses, and decides the marks of the units it passes one by one. -/
theorem writesAreReadBack : Obligations.WritesAreReadBack := by
  refine ⟨?bytes, ?held, ?marks, Device.write_flawedIn, Device.coder_flawedIn⟩
  case bytes =>
    intro d a l hcap hok hheld hclean
    refine ⟨d.write_reads_back hcap hok hheld hclean, fun b hb => ?_⟩
    simp only [Device.readByte, d.write_mem hheld hclean]
    exact d.core.pokeBytes_other a l _ hb
  case held =>
    intro d a l h
    simp [Device.write, h]
  case marks =>
    intro d a l hcap hok hheld hclean
    exact ⟨fun _ _ => d.write_marks_poisoned hcap hok hheld hclean,
      fun hl _ _ => d.write_clears_covered hcap hok hheld hclean hl,
      fun _ _ => d.write_keeps_partial hcap hok hheld hclean,
      fun hl _ => d.write_marks_nothing_clean hcap hok hheld hclean hl⟩

end Sys2Proof.Machine
end

section
/-! O10: an arbiter's credits and its choice, what a place reports, and whose request a grant serves (R33 to R36, R229). -/

namespace Sys2Proof.Machine

/-! The choice among inputs: the first of those with the greatest key. -/

/-- One step of `bestInput`: a candidate takes the place of the best one so far when its key is greater. -/
def better (key : Nat → ArbIn → Option Int) (b : Option (Nat × Int)) (p : ArbIn × Nat) : Option (Nat × Int) :=
  match key p.2 p.1, b with
  | none, _ => b
  | some k, none => some (p.2, k)
  | some k, some (j, m) => if k > m then some (p.2, k) else some (j, m)

theorem bestInput_eq (key : Nat → ArbIn → Option Int) (ins : List ArbIn) :
    bestInput key ins = (ins.zipIdx.foldl (better key) none).map Prod.fst := by
  rfl

/-- That `b` is the best of the inputs: nothing where none has a key, else an input whose key is the greatest, and the first such. -/
def IsBest (key : Nat → ArbIn → Option Int) (ins : List ArbIn) : Option (Nat × Int) → Prop
  | none => ∀ i r, ins[i]? = some r → key i r = none
  | some (j, m) => (∃ q, ins[j]? = some q ∧ key j q = some m) ∧
      ∀ i r k, ins[i]? = some r → key i r = some k → k ≤ m ∧ (k = m → j ≤ i)

variable {key : Nat → ArbIn → Option Int} {ins : List ArbIn}

theorem getElem?_append_one {r x : ArbIn} {i : Nat} (h : (ins ++ [r])[i]? = some x) :
    ins[i]? = some x ∨ (i = ins.length ∧ x = r) := by
  rw [List.getElem?_append] at h
  split at h
  · exact .inl h
  · have := (List.getElem?_eq_some_iff.mp h).1
    obtain rfl : i = ins.length := by simp at this; omega
    exact .inr ⟨rfl, by simpa using h.symm⟩

theorem IsBest.better {b : Option (Nat × Int)} (h : IsBest key ins b) (r : ArbIn) :
    IsBest key (ins ++ [r]) (better key b (r, ins.length)) := by
  have last : (ins ++ [r])[ins.length]? = some r := by simp
  have before {i : Nat} {x : ArbIn} (hi : ins[i]? = some x) : i < ins.length := (List.getElem?_eq_some_iff.mp hi).1
  have kept {i : Nat} {x : ArbIn} (hi : ins[i]? = some x) : (ins ++ [r])[i]? = some x := by
    rw [List.getElem?_append_left (before hi), hi]
  cases hk : key ins.length r with
  | none =>
    simp only [Machine.better, hk]
    rcases b with _ | ⟨j, m⟩
    · intro i x hx
      obtain hx | ⟨rfl, rfl⟩ := getElem?_append_one hx
      exacts [h i x hx, hk]
    · obtain ⟨⟨q, hq, hm⟩, all⟩ := h
      refine ⟨⟨q, kept hq, hm⟩, fun i x k hx hxk => ?_⟩
      obtain hx | ⟨rfl, rfl⟩ := getElem?_append_one hx
      exacts [all i x k hx hxk, nomatch hk.symm.trans hxk]
  | some k =>
    rcases b with _ | ⟨j, m⟩ <;> simp only [Machine.better, hk]
    · refine ⟨⟨r, last, hk⟩, fun i x k' hx hxk => ?_⟩
      obtain hx | ⟨rfl, rfl⟩ := getElem?_append_one hx
      · cases (h i x hx).symm.trans hxk
      · cases hk.symm.trans hxk
        exact ⟨le_rfl, fun _ => le_rfl⟩
    · obtain ⟨⟨q, hq, hm⟩, all⟩ := h
      split
      next hlt =>
        refine ⟨⟨r, last, hk⟩, fun i x k' hx hxk => ?_⟩
        obtain hx | ⟨rfl, rfl⟩ := getElem?_append_one hx
        · have := (all i x k' hx hxk).1
          exact ⟨by omega, by omega⟩
        · cases hk.symm.trans hxk
          exact ⟨le_rfl, fun _ => le_rfl⟩
      next hle =>
        refine ⟨⟨q, kept hq, hm⟩, fun i x k' hx hxk => ?_⟩
        obtain hx | ⟨rfl, rfl⟩ := getElem?_append_one hx
        · exact all i x k' hx hxk
        · cases hk.symm.trans hxk
          exact ⟨by omega, fun _ => (before hq).le⟩

theorem isBest_foldl (key : Nat → ArbIn → Option Int) (ins : List ArbIn) : IsBest key ins (ins.zipIdx.foldl (better key) none) := by
  induction ins using List.reverseRecOn with
  | nil => simp [IsBest]
  | append_singleton ins r ih => simpa [List.zipIdx_append] using ih.better r

theorem bestInput_eq_none_iff : bestInput key ins = none ↔ ∀ i r, ins[i]? = some r → key i r = none := by
  have best := isBest_foldl key ins
  rw [bestInput_eq, Option.map_eq_none_iff]
  constructor
  · intro h
    rwa [h] at best
  · intro none
    match h : ins.zipIdx.foldl (better key) .none with
    | .none => rfl
    | some (j, m) =>
      rw [h] at best
      obtain ⟨⟨q, hq, hm⟩, -⟩ := best
      cases (none j q hq).symm.trans hm

theorem bestInput_some {g : Nat} (h : bestInput key ins = some g) :
    ∃ q m, ins[g]? = some q ∧ key g q = some m ∧ ∀ i r k, ins[i]? = some r → key i r = some k → k ≤ m ∧ (k = m → g ≤ i) := by
  have best := isBest_foldl key ins
  rw [bestInput_eq, Option.map_eq_some_iff] at h
  obtain ⟨⟨j, m⟩, hb, rfl⟩ := h
  rw [hb] at best
  obtain ⟨⟨q, hq, hm⟩, all⟩ := best
  exact ⟨q, m, hq, hm, all⟩

/-- Without an urgent request the largest credit wins. -/
theorem grantInput_of_calm {cr : List Int} (hne : ins ≠ []) (calm : ∀ r ∈ ins, r.urgent = none) :
    ∃ g, g < ins.length ∧ grantInput cr ins = some g ∧
      ∀ j, j < ins.length → cr.getD j 0 ≤ cr.getD g 0 ∧ (j < g → cr.getD j 0 < cr.getD g 0) := by
  have noUrgent : bestInput (fun _ r => r.urgent.map (fun a => (a : Int))) ins = none :=
    bestInput_eq_none_iff.mpr fun i r hr => by simp [calm r (List.mem_of_getElem? hr)]
  simp only [grantInput, noUrgent]
  match hg : bestInput (fun i _ => some (cr.getD i 0)) ins with
  | none =>
    have := bestInput_eq_none_iff.mp hg 0 (ins.head hne) (by rw [List.head_eq_getElem]; exact List.getElem?_eq_getElem _)
    cases this
  | some g =>
    obtain ⟨q, m, hq, hm, all⟩ := bestInput_some hg
    cases hm
    refine ⟨g, (List.getElem?_eq_some_iff.mp hq).1, rfl, fun j hj => ?_⟩
    obtain ⟨le, tie⟩ := all j ins[j] _ (List.getElem?_eq_getElem hj) rfl
    exact ⟨le, fun hlt => lt_of_le_of_ne le fun he => absurd (tie he) (by omega)⟩

/-- The oldest urgent request wins. -/
theorem grantInput_of_urgent {cr : List Int} {i age : Nat} {r : ArbIn} (hi : ins[i]? = some r) (hu : r.urgent = some age) :
    ∃ g q b, grantInput cr ins = some g ∧ ins[g]? = some q ∧ q.urgent = some b ∧ age ≤ b ∧ (age = b → g ≤ i) := by
  unfold grantInput
  match hg : bestInput (fun _ r => r.urgent.map (fun a => (a : Int))) ins with
  | none => simpa [hu] using bestInput_eq_none_iff.mp hg i r hi
  | some g =>
    obtain ⟨q, m, hq, hm, all⟩ := bestInput_some hg
    obtain ⟨b, hb, rfl⟩ : ∃ b : Nat, q.urgent = some b ∧ (b : Int) = m := by
      simpa [Option.bind_eq_some_iff] using hm
    obtain ⟨le, tie⟩ := all i r age hi (by rw [hu]; rfl)
    exact ⟨g, q, b, rfl, hq, hb, by omega, fun he => tie (by omega)⟩

/-! Credits. -/

theorem addCredits_length (cr : List Int) (ins : List ArbIn) : (addCredits cr ins).length = ins.length := by
  induction ins generalizing cr with
  | nil => simp [addCredits]
  | cons r rs ih => simp [addCredits, ih]

theorem addCredits_getD {cr : List Int} {i : Nat} {r : ArbIn} (h : ins[i]? = some r) :
    (addCredits cr ins).getD i 0 = if 0 < r.count then cr.getD i 0 + r.count else 0 := by
  induction ins generalizing cr i with
  | nil => simp at h
  | cons x xs ih =>
    match i with
    | 0 =>
      obtain rfl : x = r := by simpa using h
      cases cr <;> simp [addCredits]
    | i + 1 =>
      rw [addCredits, List.getD_cons_succ, ih (by simpa using h)]
      cases cr <;> simp

theorem arbTotal_eq_sum (ins : List ArbIn) : arbTotal ins = (ins.map ArbIn.count).sum := by
  rw [List.sum_eq_foldl, List.foldl_map, arbTotal]

theorem arbTotal_cons (r : ArbIn) : arbTotal (r :: ins) = r.count + arbTotal ins := by
  simp [arbTotal_eq_sum]

theorem addCredits_sum {cr : List Int} (hlen : cr.length = ins.length) (pending : ∀ r ∈ ins, 0 < r.count) :
    (addCredits cr ins).sum = cr.sum + arbTotal ins := by
  induction ins generalizing cr with
  | nil => simp_all [addCredits, arbTotal]
  | cons r rs ih =>
    match cr with
    | c :: cr =>
      have hr : 0 < r.count := pending r (by simp)
      have := ih (cr := cr) (by simpa using hlen) fun x hx => pending x (by simp [hx])
      simp only [addCredits, if_pos hr, List.sum_cons, List.headD_cons, List.tail_cons, this, arbTotal_cons]
      push_cast
      ring

theorem chargeCredits_sum {cr : List Int} {g : Nat} (hg : g < cr.length) : (chargeCredits cr ins g).sum = cr.sum - arbTotal ins := by
  rw [chargeCredits, List.sum_set', dif_pos hg]
  simp [List.getD_eq_getElem?_getD, hg]
  ring

/-! What a place reports (R33). -/

theorem atPath_of_values {α : Type} {dflt : α} {l : List (List Nat × α)} {p : List Nat} {v : α}
    (hv : ∀ x ∈ l, x.1 = p → x.2 = v) (hd : (∀ x ∈ l, x.1 ≠ p) → dflt = v) : atPath dflt l p = v := by
  unfold atPath
  cases h : l.find? (fun x => x.1 == p) with
  | none => exact hd fun x hx => by simpa using List.find?_eq_none.mp h x hx
  | some x => exact hv x (List.mem_of_find?_eq_some h) (by simpa using List.find?_some h)

theorem ArbTree.atPath_report (t : ArbTree) (p : List Nat) :
    atPath 0 t.report.counts p = if p ∈ t.places then t.told p else 0 := by
  have mem {x : List Nat × Nat} (hx : x ∈ t.report.counts) : x.1 ∈ t.places ∧ x.2 = t.told x.1 := by
    obtain ⟨q, hq, rfl⟩ := List.mem_map.mp (List.mem_filter.mp hx).1
    exact ⟨hq, rfl⟩
  apply atPath_of_values
  · rintro x hx rfl
    obtain ⟨place, told⟩ := mem hx
    rw [if_pos place, told]
  · intro unheard
    split
    next place =>
      by_contra told
      exact unheard (p, t.told p) (List.mem_filter.mpr ⟨List.mem_map_of_mem place, by simpa using Ne.symm told⟩) rfl
    next => rfl

/-! A grant on its way down changes credits only, and ends at a pending leaf. -/

theorem ArbTree.pending_iff {t : ArbTree} {p : List Nat} : t.pending p = true ↔ ∃ x ∈ t.leaves, x.path = p := by
  simp [ArbTree.pending]

theorem ArbTree.descend_leaves (n : Nat) (t : ArbTree) (p : List Nat) : (t.descend n p).1.leaves = t.leaves := by
  induction n generalizing t p with
  | zero => rfl
  | succ n ih =>
    unfold ArbTree.descend
    split
    next t' h => exact congrArg (fun x => x.1.leaves) h.symm
    next t' g h =>
      have same : t'.leaves = t.leaves := congrArg (fun x => x.1.leaves) h.symm
      split
      · exact same
      · rw [ih, same]

theorem ArbTree.descend_grants (n : Nat) (t : ArbTree) (p : List Nat) : (t.descend n p).1.grants = t.grants := by
  induction n generalizing t p with
  | zero => rfl
  | succ n ih =>
    unfold ArbTree.descend
    split
    next t' h => exact congrArg (fun x => x.1.grants) h.symm
    next t' g h =>
      have same : t'.grants = t.grants := congrArg (fun x => x.1.grants) h.symm
      split
      · exact same
      · rw [ih, same]

theorem ArbTree.descend_pending {n : Nat} {t : ArbTree} {p q : List Nat} (h : (t.descend n p).2 = some q) : t.pending q = true := by
  induction n generalizing t p with
  | zero => cases h
  | succ n ih =>
    unfold ArbTree.descend at h
    split at h
    next => cases h
    next t' g ht =>
      have same : t'.leaves = t.leaves := congrArg (fun x => x.1.leaves) ht.symm
      have pending (k : List Nat) : t'.pending k = t.pending k := congrArg (List.any · _) same
      split at h
      next met =>
        cases h
        rwa [← pending]
      next => rw [← pending, ih h]

section
variable (t : ArbTree) (late : Bool)

theorem ArbTree.grant_grants : (t.grant late).grants = t.grants + 1 := by
  unfold ArbTree.grant
  simp only
  split <;> exact congrArg (· + 1) (ArbTree.descend_grants 64 t.report [])

theorem ArbTree.grant_granted :
    (t.grant late).granted = if late then none else (t.report.descend 64 []).2 := by
  unfold ArbTree.grant
  simp only
  split
  next h => simp [h]
  next p h => simp [h]

theorem ArbTree.grant_leaves :
    (t.grant late).leaves = t.leaves.filter (fun x => (t.report.descend 64 []).2 ≠ some x.path) := by
  have stay : (t.report.descend 64 []).1.leaves = t.leaves := ArbTree.descend_leaves 64 t.report []
  unfold ArbTree.grant
  simp only
  split
  next h => simp [h, stay]
  next p h =>
    simp only [h, stay]
    refine List.filter_congr fun x _ => ?_
    simp [bne, Bool.beq_eq_decide_eq, eq_comm (a := p)]

end

/-- The leaf granted had its request pending and has it no more; with `late` none is granted. -/
theorem ArbTree.granted_of_grant {t : ArbTree} {late : Bool} {p : List Nat} (h : (t.grant late).granted = some p) :
    t.pending p = true ∧ (t.grant late).pending p = false := by
  rw [ArbTree.grant_granted] at h
  obtain ⟨-, h⟩ : late = false ∧ (t.report.descend 64 []).2 = some p := by simpa using h
  refine ⟨ArbTree.descend_pending (t := t.report) h, ?_⟩
  rw [← Bool.not_eq_true, ArbTree.pending_iff, ArbTree.grant_leaves]
  rintro ⟨x, hx, rfl⟩
  simp [h] at hx

theorem ArbTree.mem_leaves_of_grant {t : ArbTree} {late : Bool} {x : ArbLeaf} (h : x ∈ (t.grant late).leaves) : x ∈ t.leaves := by
  rw [ArbTree.grant_leaves] at h
  exact List.mem_of_mem_filter h

/-! Requests made and withdrawn before a grant (R229). -/

/-- Where a leaf of the updated tree comes from: it was pending and stays, or it is asked for. -/
def ArbTree.Stems (t : ArbTree) (asks : List LeafAsk) (gone : List (List Nat)) (x : ArbLeaf) : Prop :=
  (x ∈ t.leaves ∧ x.path ∉ gone) ∨ ∃ a ∈ asks, a.path = x.path ∧ x.chan = a.chan.map Fin.val

theorem ArbTree.stems_of_update {t : ArbTree} {asks : List LeafAsk} {gone : List (List Nat)} {x : ArbLeaf}
    (h : x ∈ (t.update asks gone).leaves) : t.Stems asks gone x := by
  suffices all : ∀ x ∈ (t.update asks gone).leaves, t.Stems asks gone x from all x h
  refine List.foldlRecOn (motive := fun l => ∀ x ∈ l, t.Stems asks gone x) _ _ (fun y hy => .inl (by simpa using hy)) fun l hl a ha y hy => ?_
  split at hy
  · exact hl y hy
  · obtain hy | hy := List.mem_append.mp hy
    · exact hl y hy
    · obtain rfl : y = _ := by simpa using hy
      exact .inr ⟨a, List.mem_of_mem_filter ha, rfl, rfl⟩

theorem Device.mem_leaves_quieten {d : Device} {t : ArbTree} {x : ArbLeaf} :
    x ∈ (d.quieten t).leaves ↔ x ∈ t.leaves ∧ ∀ n, x.chan = some n → d.waitsCredit (n / 32) (n % 32) = false := by
  rw [Device.quieten, List.mem_filter]
  cases x.chan <;> simp [Device.mayAsk]

/-- Settles O10: the credits and the choice from the equations of one arbiter, what is granted from the way of a grant down the tree, and
the silence of a channel without credit from `quieten`, which stands between the requests and the grant. -/
theorem arbiterGrantsByCredit : Obligations.ArbiterGrantsByCredit := by
  refine ⟨fun s tree asks gone late => ⟨_, rfl, ArbTree.grant_grants _ _, ?_, ?_, ?_, ?_⟩, ArbTree.atPath_report, ?_,
    fun cr ins i age r hi hu => grantInput_of_urgent hi hu, fun cr ins i r hi => addCredits_getD hi⟩
  · rintro rfl
    rw [ArbTree.grant_granted, if_pos rfl]
  · intro p hp
    obtain ⟨was, isNot⟩ := ArbTree.granted_of_grant hp
    obtain ⟨x, hx, rfl⟩ := ArbTree.pending_iff.mp was
    obtain ⟨mem, credit⟩ := Device.mem_leaves_quieten.mp hx
    refine ⟨isNot, ?_, x, mem, rfl, credit⟩
    obtain ⟨old, stays⟩ | ⟨a, ha, path, -⟩ := ArbTree.stems_of_update mem
    · exact .inr ⟨stays, ArbTree.pending_iff.mpr ⟨x, old, rfl⟩⟩
    · exact .inl (List.mem_map.mpr ⟨a, ha, path⟩)
  · intro x hx
    exact (Device.mem_leaves_quieten.mp (ArbTree.mem_leaves_of_grant hx)).2
  · intro a n ha hn waits quiet only
    have silent : ∀ x ∈ (s.dev.quieten ((mget {} s.dev.core.arb tree : ArbTree).update asks gone)).leaves, x.path ≠ a.path := by
      intro x hx path
      obtain ⟨mem, credit⟩ := Device.mem_leaves_quieten.mp hx
      obtain ⟨old, stays⟩ | ⟨b, hb, hpath, chan⟩ := ArbTree.stems_of_update mem
      · obtain out | free := quiet
        · exact stays (path ▸ out)
        · exact Bool.false_ne_true (free.symm.trans (ArbTree.pending_iff.mpr ⟨x, old, path⟩))
      · rw [only b hb (hpath.trans path)] at chan
        exact Bool.false_ne_true ((credit n chan).symm.trans waits)
    refine ⟨fun hg => ?_, ?_⟩
    · obtain ⟨x, hx, path⟩ := ArbTree.pending_iff.mp (ArbTree.granted_of_grant hg).1
      exact silent x hx path
    · rw [← Bool.not_eq_true, ArbTree.pending_iff]
      rintro ⟨x, hx, path⟩
      exact silent x (ArbTree.mem_leaves_of_grant hx) path
  · intro cr ins hne calm
    obtain ⟨g, hlt, hg, best⟩ := grantInput_of_calm (cr := addCredits cr ins) hne calm
    refine ⟨g, hg, fun hlen pending => ?_, best⟩
    rw [chargeCredits_sum (by rwa [addCredits_length]), addCredits_sum hlen pending]
    omega

end Sys2Proof.Machine
end

section
/-! O11: the supplies and their clamp, the thermal trip, cone reports, reads of local time and the grog test port (R26, R39, R71, R413,
R414, R456, R457). -/

namespace Sys2Proof.Machine

/-! Registers of a block differ when their offsets do. -/

@[simp] theorem regKey_inj_off (own blk x y : Nat) : regKey own blk x = regKey own blk y ↔ x = y := by
  simp [regKey]

@[simp] theorem coneReg_inj (die x y : Nat) : coneReg die x = coneReg die y ↔ x = y := regKey_inj_off die 13 x y
@[simp] theorem grgReg_inj (die x y : Nat) : grgReg die x = grgReg die y ↔ x = y := regKey_inj_off die 11 x y
@[simp] theorem pwrReg_inj (x y : Nat) : pwrReg x = pwrReg y ↔ x = y := regKey_inj_off 8 11 x y

/-! Fields of a word given by its value. -/

theorem fld_wd {n : Nat} (hn : n < 2 ^ 32) (hi lo : Nat) : fld (wd n) hi lo = n / 2 ^ lo % 2 ^ (hi + 1 - lo) := by
  rw [fld, wd, BitVec.toNat_ofNat, Nat.mod_eq_of_lt hn]

theorem fld_lt (w : Word) (hi lo : Nat) : fld w hi lo < 2 ^ (hi + 1 - lo) := Nat.mod_lt _ (Nat.two_pow_pos _)

theorem sext_lt (n : Nat) : -32768 ≤ sext 16 n ∧ sext 16 n < 32768 := by
  unfold sext
  split <;> omega

theorem sext_wrap {i : Int} (h : -32768 ≤ i ∧ i < 32768) : sext 16 (wrap 16 i) = i := by
  unfold sext wrap
  split <;> omega

/-! An ordinary access that stores nothing takes effect at once, unless it is the host's and one of the host's is held. -/

theorem State.heldBy_of_still {s : State} {o : Ordinary} {f : State → State} {passed : List Nat}
    (free : o.isHost = true → ∀ h ∈ s.dev.slip.held, h.what.isHost = false)
    (still : ∀ t : State, (f t).dev.still = t.dev.still) : s.heldBy o f passed = none := by
  have noneBefore : (if o.isHost then s.dev.slip.held.reverse.find? (fun h => h.what.isHost) else none) = none := by
    split
    next host => simpa [List.find?_eq_none] using free host
    next => rfl
  have watched : (f { s with dev := { s.dev with core.watch := some [] } }).dev.core.watch = some [] :=
    congrArg Still.watch (still _)
  rw [State.heldBy, noneBefore]
  simp only [State.waitsAt, watched]
  split <;> rfl

theorem ordinary_of_still {i : Instr} {s : State} (hm : mayStore i = false)
    (free : (s.dev.accessOf i).isHost = true → ∀ h ∈ s.dev.slip.held, h.what.isHost = false) :
    ordinary i s = .next (ordinaryEffect i s) := by
  rw [ordinary, State.heldBy_of_still free (ordinaryEffect_still hm)]

/-! The clamp and the supplies (R26). -/

theorem Device.reg_foldl_setReg {key : Nat → Nat} {val : Nat → Word} (hk : Function.Injective key) (l : List Nat) (d : Device) (j : Nat) :
    (l.foldl (fun d i => d.setReg (key i) (val i)) d).reg (key j) = if j ∈ l then val j else d.reg (key j) := by
  induction l generalizing d with
  | nil => simp
  | cons i l ih =>
    rw [List.foldl_cons, ih, Device.reg_setReg]
    by_cases hl : j ∈ l <;> by_cases hi : j = i <;> simp [hl, hi, hk.eq_iff]

theorem Device.reg_foldl_setReg_ne {key : Nat → Nat} {val : Nat → Word} {k : Nat} (l : List Nat) (d : Device) (hk : ∀ i ∈ l, k ≠ key i) :
    (l.foldl (fun d i => d.setReg (key i) (val i)) d).reg k = d.reg k := by
  induction l generalizing d with
  | nil => rfl
  | cons i l ih =>
    rw [List.foldl_cons, ih _ fun x hx => hk x (by simp [hx]), Device.reg_setReg, if_neg (hk i (by simp))]

theorem Device.vact_lt (d : Device) (die : Nat) : d.vact die < 1024 := fld_lt _ 9 0

@[simp] theorem Device.vact_setInput (d : Device) (mv ma die : Nat) : (d.setInput mv ma).vact die = d.vact die := by
  have ne (off : Nat) (h : off < 32) : pwrReg (0x20 + 4 * die) ≠ pwrReg off := by simp; omega
  simp only [Device.vact, Device.setInput, Device.reg_setReg, if_neg (ne 4 (by decide)), if_neg (ne 8 (by decide)),
    if_neg (ne 0xC (by decide))]

/-- The supplies' new settings under the clamp. -/
def Device.lowered (d : Device) : List Nat := (List.range 4).map (fun die => d.vact die - 5)

theorem Device.lowered_getD (d : Device) {die : Nat} (h : die < 4) (dflt : Nat) : d.lowered.getD die dflt = d.vact die - 5 := by
  simp [Device.lowered, List.getD_eq_getElem?_getD, h]

theorem devCurrentClamp_over {d : Device} {mv ma : Nat} (exceeds : overCurrent mv ma = true) :
    devCurrentClamp mv ma d = (List.range 4).foldl (fun e die => e.setReg (pwrReg (0x20 + 4 * die)) (wd (d.lowered.getD die 0)))
      { (if d.pwr.clamp.isNone then (d.setInput mv ma).post 0x0A04 uModule ((d.setInput mv ma).reg (pwrReg 0xC)) else d.setInput mv ma) with
        pwr.clamp := some d.lowered } := by
  rw [devCurrentClamp, if_pos exceeds]
  simp only [Device.vact_setInput, Device.lowered]
  rfl

theorem Device.vact_devCurrentClamp {d : Device} {mv ma die : Nat} (exceeds : overCurrent mv ma = true) (h : die < 4) :
    (devCurrentClamp mv ma d).vact die = d.vact die - 5 := by
  have small := d.vact_lt die
  have key : Function.Injective fun die => pwrReg (0x20 + 4 * die) := fun a b h => by simpa using h
  rw [devCurrentClamp_over exceeds, Device.vact, Device.reg_foldl_setReg key, if_pos (List.mem_range.mpr h), d.lowered_getD h,
    fld_wd (by omega)]
  omega

theorem Device.pwr_foldl_setReg (key : Nat → Nat) (val : Nat → Word) (l : List Nat) (d : Device) :
    (l.foldl (fun d i => d.setReg (key i) (val i)) d).pwr = d.pwr := by
  induction l generalizing d with
  | nil => rfl
  | cons i l ih => rw [List.foldl_cons, ih, Device.setReg_pwr]

theorem Device.evq_foldl_setReg (key : Nat → Nat) (val : Nat → Word) (l : List Nat) (d : Device) :
    (l.foldl (fun d i => d.setReg (key i) (val i)) d).core.evq = d.core.evq := by
  induction l generalizing d with
  | nil => rfl
  | cons i l ih => rw [List.foldl_cons, ih, Device.setReg_core_evq]

theorem Device.ceiling_devCurrentClamp {d : Device} {mv ma die : Nat} (exceeds : overCurrent mv ma = true) (h : die < 4) :
    (devCurrentClamp mv ma d).ceiling die = d.vact die - 5 := by
  rw [devCurrentClamp_over exceeds, Device.ceiling, Device.pwr_foldl_setReg]
  exact d.lowered_getD h _

theorem devCurrentClamp_evq {d : Device} {mv ma : Nat} (exceeds : overCurrent mv ma = true) :
    (devCurrentClamp mv ma d).core.evq = if d.pwr.clamp.isNone then
      ((d.setInput mv ma).post 0x0A04 uModule ((d.setInput mv ma).reg (pwrReg 0xC))).core.evq else d.core.evq := by
  rw [devCurrentClamp_over exceeds, Device.evq_foldl_setReg]
  split <;> rfl

theorem supplySetting_bounds (v : Nat) : 600 ≤ supplySetting v ∧ supplySetting v ≤ 800 ∧ supplySetting v % 5 = 0 := by
  unfold supplySetting
  omega

/-! The thermal trip (R456). -/

theorem Device.runs_of_held {d : Device} {die w : Nat} (hd : die < 4) (hw : w < 64) (held : mget false d.pwr.held die = true) :
    d.runs (64 * die + w) = false := by
  have slot : (64 * die + w) / 64 = die := by omega
  have own : 64 * die + w < 256 := by omega
  simp [Device.runs, slot, own, held]

theorem dieOfUnit_uDie {die : Nat} (h : die < 4) : dieOfUnit (uDie die) = die := by
  interval_cases die <;> rfl

theorem devThermTrip_hot {d : Device} {die : Nat} (hot : ∃ x ∈ d.coneTemps die, 1050 ≤ x) (free : mget false d.pwr.held die = false) :
    devThermTrip die d = (({ d with pwr.held := mset false d.pwr.held die true }).disarmSlots (dieSlot die)).post 0x0A03 (uDie die)
      (wd (fld (d.reg (coneReg die 0)) 15 0 * 2 ^ 16)) := by
  rw [devThermTrip, if_pos]
  simpa [free] using hot

theorem devThermTrip_evq {d : Device} {die : Nat} (hd : die < 4) (hot : ∃ x ∈ d.coneTemps die, 1050 ≤ x)
    (free : mget false d.pwr.held die = false) : (devThermTrip die d).core.evq = d.core.evq ++
      [Event.mk 0x0A03 (uDie die) (wd (fld (d.reg (coneReg die 0)) 15 0 * 2 ^ 16)) die (d.time die)] := by
  have at' : dieOfUnit (uDie die) = die := dieOfUnit_uDie hd
  rw [devThermTrip_hot hot free, Device.post, at']
  rfl

/-! Cone reports (R457). -/

theorem foldl_min_le (l : List Nat) (a : Nat) : l.foldl min a ≤ a ∧ ∀ x ∈ l, l.foldl min a ≤ x := by
  induction l generalizing a with
  | nil => simp
  | cons y l ih =>
    obtain ⟨start, each⟩ := ih (min a y)
    simp only [List.foldl_cons, List.mem_cons, forall_eq_or_imp]
    exact ⟨by omega, by omega, each⟩

theorem le_foldl_max (l : List Int) (a : Int) : a ≤ l.foldl max a ∧ ∀ x ∈ l, x ≤ l.foldl max a := by
  induction l generalizing a with
  | nil => simp
  | cons y l ih =>
    obtain ⟨start, each⟩ := ih (max a y)
    simp only [List.foldl_cons, List.mem_cons, forall_eq_or_imp]
    exact ⟨by omega, by omega, each⟩

theorem foldl_max_mem (l : List Int) (a : Int) : l.foldl max a = a ∨ l.foldl max a ∈ l := by
  induction l generalizing a with
  | nil => simp
  | cons y l ih =>
    rw [List.foldl_cons, List.mem_cons]
    obtain h | h := ih (max a y)
    · rw [h]
      omega
    · exact .inr (.inr h)

/-- Cone reports in the registers of a die: the lowest rate and the highest temperature of its cones. -/
theorem devConeReport_reg {d : Device} {die c : Nat} {rate temp : BitVec 16} {mv : BitVec 10} (hc : c < 16) :
    let t := devConeReport die c rate temp mv d
    t.reg (coneReg die (0x100 + 4 * c)) = wd (rate.toNat * 2 ^ 16 + temp.toNat) ∧ t.reg (coneReg die 4) = wd mv.toNat := by
  have ne0 : 0x100 + 4 * c ≠ 0 := by omega
  have ne4 : 0x100 + 4 * c ≠ 4 := by omega
  simp only [devConeReport, Device.reg_setReg, coneReg_inj, if_neg ne0, if_neg ne4]
  exact ⟨rfl, rfl⟩

/-- The registers of a die's cones, as reports leave them. -/
def Device.rates (d : Device) (die : Nat) : List Nat := (List.range 16).map (fun c => fld (d.reg (coneReg die (0x100 + 4 * c))) 31 16)

/-- The summary of the cones: lowest rate and highest temperature. -/
def Device.summarise (d : Device) (die : Nat) : Device :=
  d.setReg (coneReg die 0) (wd ((d.rates die).foldl min ((d.rates die).headD 0) * 2 ^ 16 +
    wrap 16 ((d.coneTemps die).foldl max ((d.coneTemps die).headD 0))))

theorem devConeReport_eq (die c : Nat) (rate temp : BitVec 16) (mv : BitVec 10) (d : Device) : devConeReport die c rate temp mv d =
    ((d.setReg (coneReg die (0x100 + 4 * c)) (wd (rate.toNat * 2 ^ 16 + temp.toNat))).setReg (coneReg die 4) (wd mv.toNat)).summarise die := rfl

section
variable (d : Device) (die : Nat)

theorem Device.rates_lowest : (d.rates die).foldl min ((d.rates die).headD 0) < 2 ^ 16 := by
  have first : (d.rates die).headD 0 = fld (d.reg (coneReg die 0x100)) 31 16 := rfl
  exact lt_of_le_of_lt (foldl_min_le _ _).1 (first ▸ fld_lt _ 31 16)

theorem Device.coneTemps_highest :
    -32768 ≤ (d.coneTemps die).foldl max ((d.coneTemps die).headD 0) ∧ (d.coneTemps die).foldl max ((d.coneTemps die).headD 0) < 32768 := by
  have first : (d.coneTemps die).headD 0 = sext 16 (fld (d.reg (coneReg die 0x100)) 15 0) := rfl
  obtain h | h := foldl_max_mem (d.coneTemps die) ((d.coneTemps die).headD 0)
  · rw [h, first]
    exact sext_lt _
  · obtain ⟨i, -, hi⟩ := List.mem_map.mp h
    exact hi ▸ sext_lt _

theorem Device.summarise_reg {off : Nat} (h : off ≠ 0) : (d.summarise die).reg (coneReg die off) = d.reg (coneReg die off) := by
  rw [Device.summarise, Device.reg_setReg, if_neg (by simpa using h)]

theorem Device.summarise_rate : fld ((d.summarise die).reg (coneReg die 0)) 31 16 = (d.rates die).foldl min ((d.rates die).headD 0) := by
  have low := d.rates_lowest die
  have := Int.emod_lt_of_pos ((d.coneTemps die).foldl max ((d.coneTemps die).headD 0)) (b := ((2 ^ 16 : Nat) : Int)) (by decide)
  rw [Device.summarise, Device.reg_setReg_self, fld_wd (by unfold wrap; omega)]
  unfold wrap
  omega

theorem Device.summarise_temp :
    sext 16 (fld ((d.summarise die).reg (coneReg die 0)) 15 0) = (d.coneTemps die).foldl max ((d.coneTemps die).headD 0) := by
  have low := d.rates_lowest die
  have := Int.emod_lt_of_pos ((d.coneTemps die).foldl max ((d.coneTemps die).headD 0)) (b := ((2 ^ 16 : Nat) : Int)) (by decide)
  have half : fld ((d.summarise die).reg (coneReg die 0)) 15 0 = wrap 16 ((d.coneTemps die).foldl max ((d.coneTemps die).headD 0)) := by
    rw [Device.summarise, Device.reg_setReg_self, fld_wd (by unfold wrap; omega)]
    unfold wrap
    omega
  rw [half, sext_wrap (d.coneTemps_highest die)]

/-- The summary bounds every cone. -/
theorem Device.summarise_bounds {i : Nat} (hi : i < 16) :
    fld ((d.summarise die).reg (coneReg die 0)) 31 16 ≤ fld ((d.summarise die).reg (coneReg die (0x100 + 4 * i))) 31 16 ∧
      sext 16 (fld ((d.summarise die).reg (coneReg die (0x100 + 4 * i))) 15 0) ≤ sext 16 (fld ((d.summarise die).reg (coneReg die 0)) 15 0) := by
  rw [d.summarise_rate, d.summarise_temp, d.summarise_reg die (by omega)]
  exact ⟨(foldl_min_le _ _).2 _ (List.mem_map.mpr ⟨i, List.mem_range.mpr hi, rfl⟩),
    (le_foldl_max _ _).2 _ (List.mem_map.mpr ⟨i, List.mem_range.mpr hi, rfl⟩)⟩

end

/-! Reads of local time (R39, R71, R413). -/

theorem Device.ctlView_ltc (d : Device) (die : Nat) : d.ctlView die 0xF000 = some (lo32 (d.time die)) := by
  rw [Device.ctlView, if_neg (by decide), if_neg (by decide), if_neg (by decide), if_neg (by decide), if_pos rfl]

theorem Device.readReg_ltc (d : Device) {die : Nat} (hd : die < 4) : d.readReg (dreg die 6 0xF000) = lo32 (d.time die) := by
  have row : ∃ r, findReg (dreg die 6 0xF000) = some r ∧ r.acc ≠ .wo := by
    interval_cases die <;> exact ⟨_, rfl, by decide⟩
  obtain ⟨r, found, readable⟩ := row
  have own : dreg die 6 0xF000 / 2 ^ 20 = die := by simp only [dreg, regKey]; omega
  have blk : dreg die 6 0xF000 / 2 ^ 16 % 16 = 6 := by simp only [dreg, regKey]; omega
  have off : dreg die 6 0xF000 % 2 ^ 16 = 0xF000 := by simp only [dreg, regKey]; omega
  have view : d.dieView die 6 0xF000 = some (lo32 (d.time die)) := d.ctlView_ltc die
  rw [Device.readReg, found]
  show (if r.acc = .wo then 0 else (if dreg die 6 0xF000 / 2 ^ 20 = 8 then d.modView (dreg die 6 0xF000 / 2 ^ 16 % 16) (dreg die 6 0xF000 % 2 ^ 16)
    else d.dieView (dreg die 6 0xF000 / 2 ^ 20) (dreg die 6 0xF000 / 2 ^ 16 % 16) (dreg die 6 0xF000 % 2 ^ 16)).getD (d.reg (dreg die 6 0xF000))) = _
  rw [if_neg readable, own, blk, off, if_neg (by omega), view, Option.getD_some]

theorem Device.readAccess_ltc (d : Device) {die : Nat} (hd : die < 4) (wide : Bool) :
    d.readAccess (dreg die 6 0xF000) (if wide then 8 else 4) = if wide then d.time die % 2 ^ 64 else d.time die % 2 ^ 32 := by
  have fits : regFits (dreg die 6 0xF000) (if wide then 8 else 4) = true := by
    interval_cases die <;> cases wide <;> decide
  have own : dreg die 6 0xF000 / 2 ^ 20 = die := by simp only [dreg, regKey]; omega
  have off : dreg die 6 0xF000 % 2 ^ 20 = regKey 0 6 0xF000 := by simp only [dreg, regKey]; omega
  cases wide with
  | true =>
    have fits : regFits (dreg die 6 0xF000) 8 = true := fits
    rw [if_pos rfl, if_pos rfl, Device.readAccess, fits, Bool.not_true, if_neg Bool.false_ne_true, if_neg (by decide),
      if_pos ⟨off, own.trans_lt hd⟩, own]
  | false =>
    have fits : regFits (dreg die 6 0xF000) 4 = true := fits
    rw [if_neg Bool.false_ne_true, if_neg Bool.false_ne_true, Device.readAccess, fits, Bool.not_true, if_neg Bool.false_ne_true,
      if_pos rfl, d.readReg_ltc hd, lo32, wd, BitVec.toNat_ofNat]

theorem toBytes_mod {n m : Nat} : toBytes n (m % 2 ^ (8 * n)) = toBytes n m := by
  induction n generalizing m with
  | zero => rfl
  | succ n ih =>
    have split : 2 ^ (8 * (n + 1)) = 256 * 2 ^ (8 * n) := by rw [Nat.mul_succ, pow_add]; ring
    have head : BitVec.ofNat 8 (m % 2 ^ (8 * (n + 1))) = BitVec.ofNat 8 m := by
      apply BitVec.eq_of_toNat_eq
      rw [split, BitVec.toNat_ofNat, BitVec.toNat_ofNat, Nat.mod_mul_right_mod]
    rw [toBytes, toBytes, head, split, Nat.mod_mul_right_div_self, ih]

/-- A read of CTL_LTC_LO takes effect at once: it stores nothing. -/
theorem exec_ctlLtcLoRead {s : State} {d : Fin 4} {r : LtcRead} (free : r.agent = .host → ∀ h ∈ s.dev.slip.held, h.what.isHost = false) :
    exec (.ctlLtcLoRead d r) s = .next (s.withDev (devCtlLtcLoRead d.val r.wide r.agent s.dev)) := by
  refine ordinary_of_still (i := .ctlLtcLoRead d r) rfl fun host => free ?_
  have fromAgent : (r.agent == Agent.host) = true := host
  exact eq_of_beq fromAgent

theorem devCtlLtcLoRead_device {d : Device} {die : Nat} (hd : die < 4) {ag : Agent} (ha : ag ≠ .host) (wide : Bool) :
    devCtlLtcLoRead die wide ag d = (if wide then d else d.setReg (dreg die 6 0xF004) (hi32 (d.time die))).emit
      (.regRead (dreg die 6 0xF000) (if wide then d.time die % 2 ^ 64 else d.time die % 2 ^ 32)) := by
  rw [← d.readAccess_ltc hd wide, devCtlLtcLoRead, if_neg fun h => ha h.1, if_neg ha]

theorem Device.hostOpen_setReg (d : Device) (k : Nat) (v : Word) : (d.setReg k v).hostOpen = d.hostOpen := rfl

theorem devCtlLtcLoRead_host {d : Device} (die : Nat) (wide : Bool) (h : d.hostOpen = true) :
    devCtlLtcLoRead die wide .host d = (if wide then d else d.setReg (dreg die 6 0xF004) (hi32 (d.time die))).bar0Read (if wide then 8 else 4)
      (d.readAccess (dreg die 6 0xF000) (if wide then 8 else 4)) := by
  have reached : ¬ (Agent.host = .host ∧ (!d.hostOpen) = true) := fun shut => by rw [h] at shut; cases shut.2
  rw [devCtlLtcLoRead, if_neg reached, if_pos rfl]

theorem Device.bar0Read_open {d : Device} (n v : Nat) (h : d.hostOpen = true) : d.bar0Read n v = d.emit (.hostRead (toBytes n v) false true) := by
  rw [Device.bar0Read, if_pos h]

theorem devCtlLtcLoRead_open {d : Device} {die : Nat} (hd : die < 4) (wide : Bool) (h : d.hostOpen = true) :
    devCtlLtcLoRead die wide .host d = (if wide then d else d.setReg (dreg die 6 0xF004) (hi32 (d.time die))).emit
      (.hostRead (toBytes (if wide then 8 else 4) (d.time die)) false true) := by
  have answers (w : Word) : (if wide then d else d.setReg (dreg die 6 0xF004) w).hostOpen = true := by
    cases wide
    · rw [if_neg Bool.false_ne_true, Device.hostOpen_setReg, h]
    · rw [if_pos rfl, h]
  have val : toBytes (if wide then 8 else 4) (if wide then d.time die % 2 ^ 64 else d.time die % 2 ^ 32) =
      toBytes (if wide then 8 else 4) (d.time die) := by
    cases wide
    · exact toBytes_mod (n := 4)
    · exact toBytes_mod (n := 8)
  rw [devCtlLtcLoRead_host die wide h, Device.bar0Read_open _ _ (answers _), d.readAccess_ltc hd, val]

theorem Device.emit_out (d : Device) (o : Out) : (d.emit o).out = d.out ++ [o] := rfl
theorem Device.aerLog_core (d : Device) (n : Nat) : (d.aerLog n).core = d.core := rfl
theorem Device.aerLog_out (d : Device) (n : Nat) : (d.aerLog n).out = d.out := rfl

theorem Device.barShutRead_core_out (d : Device) (n : Nat) : (d.barShutRead n).core = d.core ∧ (d.barShutRead n).out = d.out ++
    [if d.memSpace then .hostRead (List.replicate n 0xFF) false true else .hostRead [] false false] := by
  cases h : d.memSpace
  · rw [Device.barShutRead, if_neg (ne_true_of_eq_false h), if_neg Bool.false_ne_true, Device.emit_core, Device.emit_out, Device.aerLog_core,
      Device.aerLog_out]
    exact ⟨rfl, rfl⟩
  · rw [Device.barShutRead, if_pos h, if_pos rfl, Device.emit_core, Device.emit_out]
    exact ⟨rfl, rfl⟩

theorem devCtlLtcLoRead_shut {d : Device} {die : Nat} (wide : Bool) (h : d.hostOpen = false) :
    devCtlLtcLoRead die wide .host d = d.barShutRead (if wide then 8 else 4) := by
  simp [devCtlLtcLoRead, h]

/-! The grog test port (R71). -/

/-- The words of the port, as an evaluation gives them. -/
def Device.grogWords (d : Device) (die : Nat) : List Word :=
  let x := grog (d.reg (grgReg die 0)) (d.reg (grgReg die 4))
    (d.reg (grgReg die 0x10), d.reg (grgReg die 0x14), d.reg (grgReg die 0x18), d.reg (grgReg die 0x1C))
  [x.1, x.2.1, x.2.2.1, x.2.2.2]

theorem words_of_four (w : Word × Word × Word × Word) : (wordAt [w.1, w.2.1, w.2.2.1, w.2.2.2] 0, wordAt [w.1, w.2.1, w.2.2.1, w.2.2.2] 1,
    wordAt [w.1, w.2.1, w.2.2.1, w.2.2.2] 2, wordAt [w.1, w.2.1, w.2.2.1, w.2.2.2] 3) = w := rfl

/-- The words that a test port holds for a die are set. -/
def Device.setGrg (d : Device) (die : Nat) (l : List Word) : Device := { d with core.grg := mset [] d.core.grg die l }

@[simp] theorem Device.reg_setGrg (d : Device) (die : Nat) (l : List Word) (k : Nat) : (d.setGrg die l).reg k = d.reg k := by rfl

@[simp] theorem Device.mget_setGrg (d : Device) (die : Nat) (l : List Word) : mget [] (d.setGrg die l).core.grg die = l := mget_mset_self ..

theorem devGrgTestEvaluation_idle {d : Device} {die : Nat} (awake : d.dieInReset die = false) (idle : bit (d.reg (grgReg die 0xC)) 0 = false) :
    devGrgTestEvaluation die d = (d.setReg (grgReg die 0xC) 1).setGrg die (d.grogWords die) := by
  rw [devGrgTestEvaluation, if_neg (not_or.mpr ⟨ne_true_of_eq_false awake, ne_true_of_eq_false idle⟩)]
  rfl

theorem devGrgTestDone_busy {d : Device} {die : Nat} (busy : bit (d.reg (grgReg die 0xC)) 0 = true) :
    devGrgTestDone die d = (List.range 4).foldl (fun e n => e.setReg (grgReg die (0x30 + 4 * n)) (wordAt (mget [] d.core.grg die) n))
      ((d.setGrg die []).setReg (grgReg die 0xC) 0) := by
  rw [devGrgTestDone, if_pos busy]
  rfl

theorem devGrgTestDone_reg {d : Device} {die : Nat} (busy : bit (d.reg (grgReg die 0xC)) 0 = true) :
    (devGrgTestDone die d).reg (grgReg die 0xC) = 0 ∧
      ∀ n, n < 4 → (devGrgTestDone die d).reg (grgReg die (0x30 + 4 * n)) = wordAt (mget [] d.core.grg die) n := by
  rw [devGrgTestDone_busy busy]
  constructor
  · rw [Device.reg_foldl_setReg_ne _ _ fun i _ => by simp; omega, Device.reg_setReg_self]
  · intro n hn
    have key : Function.Injective fun n => grgReg die (0x30 + 4 * n) := fun a b h => by simpa using h
    rw [Device.reg_foldl_setReg (val := fun n => wordAt (mget [] d.core.grg die) n) key, if_pos (List.mem_range.mpr hn)]

/-- Settles O11: each command is its device function, whose registers are read back key by key; a cone report ends in the summary of all
cones, and reads of local time store nothing and so meet no busy bank. -/
theorem supplyTimeAndTestCommands : Obligations.SupplyTimeAndTestCommands := by
  refine ⟨⟨fun s mv ma exceeds => ⟨_, rfl, fun die hd => ⟨s.dev.vact_devCurrentClamp exceeds hd, s.dev.ceiling_devCurrentClamp exceeds hd⟩, ?_, ?_⟩,
    fun s mv ma within => ?_, fun s d hot free => ⟨_, rfl, ?_, ?_⟩, fun s d cool => ?_, fun s d c rate temp mv => ⟨_, rfl, ?_⟩,
    fun s d v => ⟨rfl, supplySetting_bounds _⟩⟩, fun s d ag ha => ?_, fun s d ag ha => ?_, fun s d wide free => ?_, fun s d awake idle => ?_⟩
  · intro h
    simp [devCurrentClamp_evq exceeds, h, Device.post, Device.setInput]
  · intro h
    rw [devCurrentClamp_evq exceeds, if_neg (by simpa using h)]
  · show Host.Outcome.next (s.withDev (devClampRelease mv ma s.dev)) = _
    rw [devClampRelease, within]
    rfl
  · intro w hw
    rw [devThermTrip_hot hot free]
    exact Device.runs_of_held d.isLt hw (show mget false (mset false s.dev.pwr.held d.val true) d.val = true from mget_mset_self ..)
  · exact devThermTrip_evq d.isLt hot free
  · show Host.Outcome.next (s.withDev (devThermRelease d.val s.dev)) = _
    rw [devThermRelease, if_pos (by simpa using cool)]
  · exact ⟨(devConeReport_reg c.isLt).1, (devConeReport_reg c.isLt).2, fun i hi => devConeReport_eq .. ▸ Device.summarise_bounds _ _ hi⟩
  · rw [exec_ctlLtcLoRead fun h => absurd h ha, devCtlLtcLoRead_device d.isLt ha]
    rfl
  · refine ⟨devCtlLtcLoRead d.val false ag s.dev, exec_ctlLtcLoRead fun h => absurd h ha, ?_⟩
    rw [devCtlLtcLoRead_device d.isLt ha, if_neg Bool.false_ne_true, if_neg Bool.false_ne_true]
    exact ⟨by rw [Device.reg_emit, Device.reg_setReg_self], by rw [Device.emit_out, Device.setReg_out]⟩
  · refine ⟨devCtlLtcLoRead d.val wide .host s.dev, exec_ctlLtcLoRead fun _ => free, fun isOpen => ?_, fun shut => ?_⟩
    · rw [devCtlLtcLoRead_open d.isLt wide isOpen]
      cases wide
      · rw [if_neg Bool.false_ne_true, if_neg Bool.false_ne_true, if_neg Bool.false_ne_true]
        exact ⟨by rw [Device.emit_out, Device.setReg_out], by rw [Device.reg_emit, Device.reg_setReg_self]⟩
      · rw [if_pos rfl, if_pos rfl, if_pos rfl]
        exact ⟨Device.emit_out .., by rw [Device.reg_emit]⟩
    · rw [devCtlLtcLoRead_shut wide shut]
      exact Device.barShutRead_core_out ..
  · have busy : (devGrgTestEvaluation d.val s.dev).reg (grgReg d.val 0xC) = 1 := by simp [devGrgTestEvaluation_idle awake idle]
    obtain ⟨ended, out⟩ := devGrgTestDone_reg (d := devGrgTestEvaluation d.val s.dev) (die := d.val) (by rw [busy]; rfl)
    rw [devGrgTestEvaluation_idle awake idle, Device.mget_setGrg, ← devGrgTestEvaluation_idle awake idle] at out
    refine ⟨_, _, rfl, busy, rfl, ended, ?_⟩
    exact (congrArg₂ Prod.mk (out 0 (by decide)) (congrArg₂ Prod.mk (out 1 (by decide)) (congrArg₂ Prod.mk (out 2 (by decide))
      (out 3 (by decide))))).trans (words_of_four _)

end Sys2Proof.Machine
end

section
/-! O20: control operations and branches (R196, R200, R201, R515). -/

namespace Sys2Proof.Machine

/-! The completion of a control operation. -/

/-- The completion word of a control operation. -/
def copWord (die status : Nat) : BitVec 64 :=
  BitVec.ofNat 64 (status * 2 ^ 60 + (if status = 0 then 0xFFFFFFFF else 2 ^ 46 + uCtl die % 2 ^ 32))

theorem copWord_done (die : Nat) : copWord die stDone = 0xFFFFFFFF := by
  rw [copWord, stDone, if_pos rfl, Nat.zero_mul, Nat.zero_add]
  rfl

/-- A control operation reports its completion word and takes the next command number. -/
def Device.copReport (d : Device) (die s index status : Nat) : Device :=
  { d with core.nextCid := d.core.nextCid + 1, core.done := d.core.done ++ [Done.mk die s index (copWord die status)] }

section
variable (d : Device) (die s index status : Nat) (r : List Word)

@[simp] theorem Device.copReport_done : (d.copReport die s index status).core.done =
    d.core.done ++ [Done.mk die s index (copWord die status)] := by rfl
@[simp] theorem Device.copReport_opens : (d.copReport die s index status).core.opens = d.core.opens := by rfl
@[simp] theorem Device.copReport_sync : (d.copReport die s index status).core.sync = d.core.sync := by rfl
@[simp] theorem Device.copReport_queues : (d.copReport die s index status).core.queues = d.core.queues := by rfl
@[simp] theorem Device.copReport_evq : (d.copReport die s index status).core.evq = d.core.evq := by rfl
@[simp] theorem Device.copReport_regs : (d.copReport die s index status).core.regs = d.core.regs := by rfl
@[simp] theorem Device.copReport_mem : (d.copReport die s index status).core.mem = d.core.mem := by rfl
@[simp] theorem Device.copReport_stream (e n : Nat) : (d.copReport die s index status).stream e n = d.stream e n := by rfl

/-- The command of a control operation, which has no parts and signals nothing. -/
def copOpen (fpol : Nat) : Open :=
  { die := die, stream := s, index := index, fpol := fpol, worst := status, nfail := if status = 0 then 0 else 1, first := uCtl die }

theorem copOpen_completion (fpol : Nat) : (copOpen die s index status fpol).completion = copWord die status := by
  unfold Open.completion copWord copOpen
  by_cases h : status = 0
  · simp [h]
  · simp [h, Nat.add_assoc]

/-- The completion word is reported, and FPOL halts a stream that is not halted yet. -/
theorem Device.copDone_eq : d.copDone die s index r status =
    if fpolNames (rFpol r) status && (d.stream die s).state != .halted then (d.copReport die s index status).haltStream die s 2 index
    else d.copReport die s index status := by
  have report : d.copReport die s index status = { d with
      core.nextCid := d.core.nextCid + 1
      core.done := d.core.done ++ [Done.mk die s index (copOpen die s index status (rFpol r)).completion] } := by
    rw [copOpen_completion]
    rfl
  rw [report]
  rfl

theorem Device.copDone_quiet (h : fpolNames (rFpol r) status = false) : d.copDone die s index r status = d.copReport die s index status := by
  rw [Device.copDone_eq, h]
  rfl

@[simp] theorem Device.copDone_done : (d.copDone die s index r status).core.done =
    d.core.done ++ [Done.mk die s index (copWord die status)] := by
  rw [Device.copDone_eq]
  split <;> simp
@[simp] theorem Device.copDone_opens : (d.copDone die s index r status).core.opens = d.core.opens := by
  rw [Device.copDone_eq]
  split <;> simp
@[simp] theorem Device.copDone_sync : (d.copDone die s index r status).core.sync = d.core.sync := by
  rw [Device.copDone_eq]
  split <;> simp
@[simp] theorem Device.copDone_queues : (d.copDone die s index r status).core.queues = d.core.queues := by
  rw [Device.copDone_eq]
  split <;> simp
@[simp] theorem Device.copDone_regs : (d.copDone die s index r status).core.regs = d.core.regs := by
  rw [Device.copDone_eq]
  split <;> simp
@[simp] theorem Device.copDone_mem : (d.copDone die s index r status).core.mem = d.core.mem := by
  rw [Device.copDone_eq]
  split <;> simp

/-! Halts, and a record that leaves its stream. -/

theorem Device.haltStream_stream_self (cause : Nat) : (d.haltStream die s cause index).stream die s =
    { d.stream die s with state := .halted, hcause := cause, hrec := index, rcd := none, met := false } := by
  rw [Device.haltStream, Device.stream_post, Device.stream_setStream_self]

theorem Device.haltStream_codes (cause : Nat) :
    (d.haltStream die s cause index).core.evq.map Event.code = d.core.evq.map Event.code ++ [0x0A06] := by
  simp [Device.haltStream, Device.post]

@[simp] theorem Device.leaveStream_core : (d.leaveStream die s r).core = d.core := by rfl

theorem Device.leaveStream_stream : (d.leaveStream die s r).stream die s = ((d.stream die s).past (d.ringSize die s) r).settle := by
  rw [Device.leaveStream, Device.stream_progress, Device.stream_setStream_self]

end

section
variable (st : Stream)

@[simp] theorem Stream.settle_head : st.settle.head = st.head := by unfold Stream.settle; split <;> rfl
@[simp] theorem Stream.settle_loops : st.settle.loops = st.loops := by unfold Stream.settle; split <;> rfl

theorem Stream.settle_of_run (h : st.state = .run) : st.settle.state ≠ .halted := by
  simp only [Stream.settle, h]
  split <;> decide

/-- A branch goes by OFFSET within the ring (R201). -/
theorem Stream.branch_head {size : Nat} (hs : 0 < size) (off : Int) :
    ((st.branch size off).head : Int) = ((st.head : Int) + off) % (size : Int) :=
  Int.toNat_of_nonneg (Int.emod_nonneg _ (by omega))

end

theorem Device.ringSize_pos (d : Device) (die s : Nat) : 0 < d.ringSize die s := Nat.two_pow_pos _

theorem fpolNames_done (fpol : Nat) : fpolNames fpol stDone = false := by
  simp [fpolNames, stDone, stFault, stNoresp]

theorem fpolNames_iff {fpol status : Nat} : fpolNames fpol status = true ↔
    (fpol = 1 ∧ status ≠ stDone) ∨ (fpol = 2 ∧ (status = stFault ∨ status = stNoresp)) := by
  simp [fpolNames, stDone]

/-! A control operation that lets the stream go on. -/

section
variable (e : Device) (die n : Nat) (r : List Word) (act : Device → Device) (status : Nat)

theorem Device.copStep_eq : e.copStep die n r act status = ((act e).leaveStream die n r).copDone die n (e.stream die n).head r status := rfl

@[simp] theorem Device.copStep_done : (e.copStep die n r act status).core.done =
    (act e).core.done ++ [Done.mk die n (e.stream die n).head (copWord die status)] := by simp [Device.copStep_eq]
@[simp] theorem Device.copStep_opens : (e.copStep die n r act status).core.opens = (act e).core.opens := by simp [Device.copStep_eq]
@[simp] theorem Device.copStep_sync : (e.copStep die n r act status).core.sync = (act e).core.sync := by simp [Device.copStep_eq]
@[simp] theorem Device.copStep_queues : (e.copStep die n r act status).core.queues = (act e).core.queues := by simp [Device.copStep_eq]
@[simp] theorem Device.copStep_regs : (e.copStep die n r act status).core.regs = (act e).core.regs := by simp [Device.copStep_eq]
@[simp] theorem Device.copStep_mem : (e.copStep die n r act status).core.mem = (act e).core.mem := by simp [Device.copStep_eq]

section
variable (h : fpolNames (rFpol r) status = false)
include h

theorem Device.copStep_evq_quiet : (e.copStep die n r act status).core.evq = (act e).core.evq := by
  rw [Device.copStep_eq, Device.copDone_quiet _ _ _ _ _ _ h, Device.copReport_evq, Device.leaveStream_core]

theorem Device.copStep_stream_quiet :
    (e.copStep die n r act status).stream die n = (((act e).stream die n).past ((act e).ringSize die n) r).settle := by
  rw [Device.copStep_eq, Device.copDone_quiet _ _ _ _ _ _ h, Device.copReport_stream, Device.leaveStream_stream]

end

theorem Device.sync_copStep (i c : Nat) : (e.copStep die n r act status).sync i c = (act e).sync i c :=
  congrArg (mget 0 · _) (e.copStep_sync die n r act status)

theorem Device.reg_copStep (k : Nat) : (e.copStep die n r act status).reg k = (act e).reg k :=
  congrArg (mget (regReset k) · k) (e.copStep_regs die n r act status)

/-- FPOL halts the stream that a control operation leaves. -/
theorem Device.copStep_halts (running : ((act e).stream die n).state = .run) (h : fpolNames (rFpol r) status = true) :
    e.copStep die n r act status =
      (((act e).leaveStream die n r).copReport die n (e.stream die n).head status).haltStream die n 2 (e.stream die n).head := by
  have goesOn : (((act e).leaveStream die n r).stream die n).state ≠ .halted := by
    rw [Device.leaveStream_stream]
    exact Stream.settle_of_run _ running
  rw [Device.copStep_eq, Device.copDone_eq, h, if_pos (by simpa using goesOn)]

end

/-! What the device functions do with a record that is ready. -/

section
variable {d : Device} {die n : Nat} {r : List Word}

theorem devWaitc_ready (h : d.copReady die n 1 = some r) : devWaitc die n d = d.copStep die n r id stDone := by
  rw [devWaitc, h]
theorem devSetc_ready (h : d.copReady die n 2 = some r) : devSetc die n d = d.copStep die n r
    (fun e => e.setSync (fld (rW r 3) 31 30) (fld (rW r 3) 23 16) (fld (rW r 3) 15 0)) (d.dieStatus (fld (rW r 3) 31 30)) := by
  rw [devSetc, h]
theorem devAddc_ready (h : d.copReady die n 3 = some r) : devAddc die n d = d.copStep die n r
    (fun e => e.addSync (fld (rW r 3) 31 30) (fld (rW r 3) 23 16) (fld (rW r 3) 15 0)) (d.dieStatus (fld (rW r 3) 31 30)) := by
  rw [devAddc, h]
theorem devJump_ready (h : d.copReady die n 5 = some r) : devJump die n d = d.copBranch die n r id := by
  rw [devJump, h]
theorem devLoop_ready (h : d.copReady die n 6 = some r) :
    devLoop die n d = d.copStep die n r (fun e => e.setLoopReg die n (fld (rW r 3) 1 0) (rW r 4)) stDone := by
  rw [devLoop, h]
theorem devHalt_ready (h : d.copReady die n 8 = some r) : devHalt die n d =
    ((d.leaveStream die n r).haltStream die n 1 (d.stream die n).head).copDone die n (d.stream die n).head r stDone := by
  rw [devHalt, h]
theorem devSetstep_ready (h : d.copReady die n 9 = some r) : devSetstep die n d = d.copStep die n r
    (fun e => if e.dieInReset (fld (rW r 3) 31 30) = true then e else e.setReg (dreg (fld (rW r 3) 31 30) 11 8) (rW r 4))
    (d.dieStatus (fld (rW r 3) 31 30)) := by
  rw [devSetstep, h]
theorem devBrs_ready (h : d.copReady die n 4 = some r) : devBrs die n d =
    if (d.summary die (fld (rW r 3) 31 26)).valid = false then d.haltStream die n 4 (d.stream die n).head
    else if brsMeets (fld (rW r 3) 24 23) (bit (rW r 3) 22) (d.summary die (fld (rW r 3) 31 26)).value (rW r 4) = true
    then d.copBranch die n r id else d.copStep die n r id stDone := by
  rw [devBrs, h]
  simp only [Bool.not_eq_true']
theorem devDecbr_ready (h : d.copReady die n 7 = some r) : devDecbr die n d =
    if ((d.stream die n).loops.getD (fld (rW r 3) 1 0) 0).toNat - 1 = 0 then
      d.copStep die n r (fun e => e.setLoopReg die n (fld (rW r 3) 1 0) 0) stDone
    else d.copBranch die n r (fun st => { st with
      loops := st.loops.set (fld (rW r 3) 1 0) (wd (((d.stream die n).loops.getD (fld (rW r 3) 1 0) 0).toNat - 1)) }) := by
  rw [devDecbr, h]

/-! Branches. -/

/-- A branch reports DONE, and its stream goes on at the target. -/
theorem Device.copBranch_stream (act : Stream → Stream) : ((d.copBranch die n r act).stream die n).head =
      ((act (d.stream die n)).branch (d.ringSize die n) (rOffset r)).head ∧
    ((d.copBranch die n r act).stream die n).loops = (act (d.stream die n)).loops := by
  rw [Device.copBranch, Device.copDone_quiet _ _ _ _ _ _ (fpolNames_done _), Device.copReport_stream, Device.stream_progress,
    Device.stream_setStream_self, Stream.settle_head, Stream.settle_loops]
  exact ⟨rfl, rfl⟩

theorem Device.copBranch_done (act : Stream → Stream) : (d.copBranch die n r act).core.done.length = d.core.done.length + 1 := by
  rw [Device.copBranch, Device.copDone_done, List.length_append]
  rfl

/-- The head of a stream after a branch of a stream that keeps its place. -/
theorem Device.copBranch_head (act : Stream → Stream) (stays : (act (d.stream die n)).head = (d.stream die n).head) :
    (((d.copBranch die n r act).stream die n).head : Int) = (((d.stream die n).head : Int) + rOffset r) % (d.ringSize die n : Int) := by
  rw [(Device.copBranch_stream act).1, Stream.branch_head _ (d.ringSize_pos die n), stays]

@[simp] theorem Device.setLoopReg_stream (k : Nat) (v : Word) : (d.setLoopReg die n k v).stream die n =
    { d.stream die n with loops := (d.stream die n).loops.set k v } := Device.stream_setStream_self ..

@[simp] theorem Device.setLoopReg_ringSize (k : Nat) (v : Word) : (d.setLoopReg die n k v).ringSize die n = d.ringSize die n := by rfl

end

theorem getD_set_self {l : List Word} {k : Nat} {v : Word} (h : k < l.length) : (l.set k v).getD k 0 = v := by
  simp [List.getD_eq_getElem?_getD, h]

/-- Settles O20: every control operation is `copStep` of its effect, or `copBranch`, and both end in one report, after which only FPOL
halts the stream. -/
theorem controlOperationsAndBranches : Obligations.ControlOperationsAndBranches := by
  refine ⟨⟨fun s d n r h => congrArg (Host.Outcome.next <| s.withDev ·) (devWaitc_ready h), fun s d n r h => ⟨_, rfl, devSetc_ready h, ?_, ?_⟩,
    fun s d n r h => ⟨_, rfl, devAddc_ready h, ?_, ?_⟩, fun s d n r h => congrArg (Host.Outcome.next <| s.withDev ·) (devLoop_ready h),
    fun s d n r h => ⟨_, rfl, ?_⟩, fun s d n r h => ⟨_, rfl, devSetstep_ready h, ?_, ?_, ?_⟩, ?_, fun _ _ => fpolNames_iff⟩,
    fun s d n r h => ⟨_, rfl, ?_⟩, fun s d n r h valid => ?_, fun s d n r h invalid => ?_, fun s d n r h inside => ⟨_, rfl, ?_⟩, ?_⟩
  · intro awake
    obtain ⟨own, others⟩ := s.dev.sync_setSync (fld (rW r 3) 31 30) (fld (rW r 3) 23 16) (fld (rW r 3) 15 0) awake
    simp only [devSetc_ready h, Device.sync_copStep]
    exact ⟨own.trans (fld_mod_width (rW r 3) 15 0), others⟩
  · intro asleep
    rw [devSetc_ready h, Device.copStep_sync, Device.setSync, if_pos asleep]
  · intro awake
    simp only [devAddc_ready h, Device.sync_copStep]
    exact s.dev.sync_setSync (fld (rW r 3) 31 30) (fld (rW r 3) 23 16) _ awake
  · intro asleep
    rw [devAddc_ready h, Device.copStep_sync, Device.addSync, Device.setSync, if_pos asleep]
  · rw [devHalt_ready h, Device.copDone_done, Device.copDone_quiet _ _ _ _ _ _ (fpolNames_done _), Device.copReport_stream,
      Device.haltStream_stream_self, Device.leaveStream_stream, Device.haltStream_core_done, Device.leaveStream_core, copWord_done]
    exact ⟨rfl, rfl, rfl, Stream.settle_head _, rfl⟩
  · intro awake
    simp only [devSetstep_ready h, Device.reg_copStep, if_neg (ne_true_of_eq_false awake)]
    exact ⟨Device.reg_setReg_self .., fun k hk => (Device.reg_setReg ..).trans (if_neg hk)⟩
  · intro asleep
    rw [devSetstep_ready h, Device.copStep_regs, if_pos asleep]
  · rw [devSetstep_ready h, Device.copStep_mem]
    split
    · rfl
    · rw [Device.setReg_core_mem]
  · intro e die n r act status running
    refine ⟨e.copStep_done .., e.copStep_opens .., e.copStep_sync .., e.copStep_queues .., fun quiet =>
      ⟨e.copStep_evq_quiet _ _ _ _ _ quiet, e.copStep_stream_quiet _ _ _ _ _ quiet⟩, fun named => ?_⟩
    rw [e.copStep_halts _ _ _ _ _ running named, Device.haltStream_codes, Device.haltStream_stream_self, Device.copReport_evq,
      Device.leaveStream_core, Device.copReport_stream, Device.leaveStream_stream]
    exact ⟨rfl, rfl, rfl, rfl, Stream.settle_head _⟩
  · rw [devJump_ready h]
    exact ⟨Device.copBranch_head id rfl, (Device.copBranch_stream id).2, Device.copBranch_done id⟩
  · refine congrArg (Host.Outcome.next <| s.withDev ·) ((devBrs_ready h).trans ?_)
    rw [valid, if_neg (by decide)]
  · refine congrArg (Host.Outcome.next <| s.withDev ·) ((devBrs_ready h).trans ?_)
    rw [invalid, if_pos rfl]
  · rw [devDecbr_ready h]
    split
    next last =>
      rw [Device.copStep_stream_quiet _ _ _ _ _ _ (fpolNames_done _), Stream.settle_loops, Stream.settle_head, Device.setLoopReg_stream,
        Device.setLoopReg_ringSize, last]
      refine ⟨?_, fun more => absurd last (by omega), fun _ => rfl⟩
      exact getD_set_self inside
    next more =>
      rw [(Device.copBranch_stream _).2]
      refine ⟨?_, fun _ => Device.copBranch_head _ rfl, fun last => absurd last (by omega)⟩
      exact getD_set_self inside
  · intro st size off hs
    have := st.branch_head hs off
    have := Int.emod_lt_of_pos ((st.head : Int) + off) (b := size) (by omega)
    omega

end Sys2Proof.Machine
end

section
/-! O34: near-bank parts, their issue and their steps (R274 to R290). -/

namespace Sys2Proof.Machine

/-! A refusal leaves every stack's run. -/

/-- Two devices whose stacks run the same parts. -/
def SameRuns (d e : Device) : Prop := ∀ k, (e.slipStack k).run = (d.slipStack k).run

theorem SameRuns.refl (d : Device) : SameRuns d d := fun _ => rfl
theorem SameRuns.trans {d e f : Device} (h : SameRuns d e) (g : SameRuns e f) : SameRuns d f := fun k => (g k).trans (h k)
theorem SameRuns.of_slip {d e : Device} (h : e.slip = d.slip) : SameRuns d e := fun k => by rw [Device.slipStack, h]; rfl

theorem SameRuns.fold {α : Type} {f : Device → α → Device} (h : ∀ d a, SameRuns d (f d a)) (l : List α) (d : Device) :
    SameRuns d (l.foldl f d) := by
  induction l generalizing d with
  | nil => exact .refl d
  | cons a l ih => exact (h d a).trans (ih _)

section
variable (d : Device)

theorem SameRuns.noteLast (q seq : Nat) : SameRuns d (d.noteLast q seq) := by
  unfold Device.noteLast
  iterate 8 refine iteInd (SameRuns d) (fun _ => rfl) ?_
  refine iteInd (SameRuns d) (fun k => ?_) ?_
  · show (mget {} (mset {} d.slip.byStack (q - 720) { d.slipStack (q - 720) with last := seq }) k : SlipStack).run = _
    rw [mget_mset]
    split
    next h => rw [h]
    next => rfl
  · exact iteInd (SameRuns d) (fun _ => rfl) (iteInd (SameRuns d) (fun _ => rfl) (fun _ => rfl))

theorem SameRuns.endQueued (q : Nat) (c : Cmd) : SameRuns d (d.endQueued q c stFault) := by
  have slip (e : Device) : (e.endUnrun q c stFault).slip = e.slip := by simp [Device.endUnrun]
  exact (SameRuns.noteLast d q c.seq).trans (.of_slip (slip _))

theorem SameRuns.pullAll (c : Cmd) : SameRuns d (d.pullAll c stFault) :=
  .fold (fun e _ => (SameRuns.of_slip (e.setQueue_slip _ _)).trans (.fold (fun e _ => .endQueued e _ _) _ _)) _ _

theorem SameRuns.refuse (q : Nat) (c : Cmd) (code unit : Nat) (data : Word) : SameRuns d (d.refuse q c code unit data) := by
  refine (SameRuns.of_slip (d.post_slip code unit data)).trans ?_
  unfold Device.refuse
  exact iteInd (SameRuns _) (.pullAll _ _) ((SameRuns.of_slip (Device.popCmd_slip _ _)).trans (.endQueued _ _ _))

end

/-! Issue (R274, R275). -/

/-- The part of a command that runs on a stack, with every member at its first step. -/
def Device.partOf (d : Device) (n : Nat) (c : Cmd) : SlipRun :=
  let o := (mget {} d.core.opens c.cid).die
  { cmd := c, D := d.descWords (sramDA (c.word 4)) 16, k0 := d.reg (dreg o 11 0), k1 := d.reg (dreg o 11 4),
    step := d.reg (dreg o 11 8), rank0 := rankBase c n, mems := (stackUnits c.target).map (fun u => (u, {})) }

theorem Device.partOf_mems (d : Device) (n : Nat) (c : Cmd) : (d.partOf n c).mems.map Prod.fst = stackUnits c.target := by
  simp [Device.partOf, Function.comp_def]

section
variable {d : Device} {n : Nat} {c : Cmd} {ops : List Nat}
  (head : d.ready (qSlp n) = some c) (named : sSop c ∈ ops) (idle : (d.slipStack n).run = none) (runs : d.runs (wStack n) = true)
include head named idle runs

theorem Device.slipIssue_issues (good : d.groupBad (qSlp n) c (fun _ c => slipBad d c) = none) :
    d.slipIssue n ops = (d.popCmd (qSlp n)).setSlipStack n { d.slipStack n with run := some (d.partOf n c) } := by
  have free : ¬ ((!ops.contains (sSop c)) = true ∨ (d.slipStack n).run.isSome = true ∨ (!d.runs (wStack n)) = true) := by
    simp [named, idle, runs]
  rw [Device.slipIssue, head]
  refine (if_neg free).trans ?_
  rw [good]
  rfl

theorem Device.slipIssue_refuses {q ev : Nat} (bad : d.groupBad (qSlp n) c (fun _ c => slipBad d c) = some (q, ev)) :
    d.slipIssue n ops = d.refuse (qSlp n) c ev (uStack (q - 720)) 0 := by
  have free : ¬ ((!ops.contains (sSop c)) = true ∨ (d.slipStack n).run.isSome = true ∨ (!d.runs (wStack n)) = true) := by
    simp [named, idle, runs]
  rw [Device.slipIssue, head]
  refine (if_neg free).trans ?_
  rw [bad]
  rfl

end

/-! Completion of a part: what it leaves, and what it depends on. -/

section
variable {d e : Device} (cid n status nfail first : Nat)

theorem Device.closeCmd_done (d : Device) (o : Open) :
    (d.closeCmd o).core.done = d.core.done ++ [{ die := o.die, stream := o.stream, index := o.index, word := o.completion }] := by
  have reported (e : Device) : (if o.sigen then e.signal o.sigDie o.ctr else e).core.done = e.core.done := by split <;> simp
  have halted (e : Device) (c : Prop) [Decidable c] : (if c then e.haltStream o.die o.stream 2 o.index else e).core.done = e.core.done := by
    split <;> simp
  exact (halted _ _).trans (reported _)

/-- Events are added behind those there. -/
def Appends (d e : Device) : Prop := ∃ l, e.core.evq = d.core.evq ++ l

theorem Appends.of_evq (h : e.core.evq = d.core.evq) : Appends d e := ⟨[], by rw [h, List.append_nil]⟩
theorem Appends.post (d : Device) (c u : Nat) (w : Word) : Appends d (d.post c u w) := ⟨_, rfl⟩
theorem Appends.trans {f : Device} (h : Appends d e) (g : Appends e f) : Appends d f := by
  obtain ⟨l, hl⟩ := h
  obtain ⟨m, hm⟩ := g
  exact ⟨l ++ m, by rw [hm, hl, List.append_assoc]⟩
theorem Appends.refl (d : Device) : Appends d d := .of_evq rfl

theorem Appends.haltStream (d : Device) (die s cause index : Nat) : Appends d (d.haltStream die s cause index) := ⟨_, rfl⟩

theorem Appends.closeCmd (d : Device) (o : Open) : Appends d (d.closeCmd o) := by
  have signalled (e : Device) : Appends e (if o.sigen then e.signal o.sigDie o.ctr else e) :=
    iteInd (Appends e) (.of_evq (by simp)) (.refl e)
  have reported : Appends d { d with
      core.done := d.core.done ++ [{ die := o.die, stream := o.stream, index := o.index, word := o.completion }] } := .of_evq rfl
  unfold Device.closeCmd
  exact (reported.trans (signalled _)).trans (iteInd (Appends _) (.haltStream ..) (.refl _))

theorem Appends.completePart (d : Device) : Appends d (d.completePart cid n status nfail first) := by
  unfold Device.completePart
  exact iteInd (Appends d) (.refl d) (iteInd (Appends d) (Appends.trans (.of_evq rfl) (.closeCmd _ _)) (.of_evq rfl))

/-- The command's entry after n of its parts have ended, and the word reported when they were the last. -/
theorem Device.completePart_opens_congr (h : d.core.opens = e.core.opens) :
    (d.completePart cid n status nfail first).core.opens = (e.completePart cid n status nfail first).core.opens := by
  unfold Device.completePart
  rw [h]
  simp only [apply_ite Device.core, apply_ite Core.opens, Device.closeCmd_core_opens, h]

theorem Device.completePart_done_congr (h : d.core.opens = e.core.opens) (h' : d.core.done = e.core.done) :
    (d.completePart cid n status nfail first).core.done = (e.completePart cid n status nfail first).core.done := by
  unfold Device.completePart
  rw [h]
  simp only [apply_ite Device.core, apply_ite Core.done, Device.closeCmd_done, h']

end

/-! A clean write. -/

theorem Core.markUnits_evq (c : Core) (a : Nat) (l : List PByte) (u n : Nat) : (c.markUnits a l u n).evq = c.evq := by
  rw [Core.markUnits_only]

theorem Core.pokeBytes_evq (c : Core) (a : Nat) (l : List PByte) : (c.pokeBytes a l).evq = c.evq := by
  rw [Core.pokeBytes_regs]

theorem Device.write_evq {d : Device} (clean : d.core.flaws = []) (a : Nat) (l : List PByte) : (d.write a l).core.evq = d.core.evq := by
  have noFlaw : d.flawedIn [(a, l.length)] = [] := by simp [Device.flawedIn, clean]
  cases h : d.memHeld a with
  | true => rw [Device.write, if_pos h]
  | false => simp [Device.write, h, noFlaw, Core.markUnits_evq, Core.pokeBytes_evq]

/-- A write depends on the memory it meets and on what is fenced. -/
theorem Device.write_mem_congr {d e : Device} (hd : d.core.flaws = []) (he : e.core.flaws = []) (mem : d.core.mem = e.core.mem)
    (fence : d.ras.fence = e.ras.fence) (a : Nat) (l : List PByte) : (d.write a l).core.mem = (e.write a l).core.mem := by
  have held : d.memHeld a = e.memHeld a := by simp only [Device.memHeld, Device.dieInReset, Device.modRuns, fence]
  cases h : d.memHeld a with
  | true => rw [Device.write, if_pos h, Device.write, if_pos (held ▸ h), mem]
  | false =>
    rw [Device.write_mem h (by simp [Device.flawedIn, hd]), Device.write_mem (held ▸ h) (by simp [Device.flawedIn, he])]
    exact Core.pokeBytes_mem_congr mem a l

/-! The end of a member (R283, R290). -/

/-- The stack after one of its members has ended, and ROW_POISONED at the end of the last one where a row was poisoned. -/
def Device.stackEnded (d : Device) (s : Nat) (r : SlipRun) : Device :=
  let ended := r.mems.all (fun p => p.2.done)
  let d := d.setSlipStack s (if ended then { run := none, last := r.cmd.seq } else { d.slipStack s with run := some r })
  match ended, r.firstPois with
  | true, some v => d.post 0x0410 (uBank s (v / 16) (v % 16)) 0
  | _, _ => d

section
variable (d : Device) (s u : Nat) (r : SlipRun) (m : SlipMem) (status cause : Nat)

theorem Device.stackEnded_cases : (d.stackEnded s r) =
      d.setSlipStack s (if r.mems.all (fun p => p.2.done) then { run := none, last := r.cmd.seq } else { d.slipStack s with run := some r }) ∨
    ∃ unit, d.stackEnded s r = (d.setSlipStack s (if r.mems.all (fun p => p.2.done) then { run := none, last := r.cmd.seq }
      else { d.slipStack s with run := some r })).post 0x0410 unit 0 := by
  unfold Device.stackEnded
  dsimp only
  split
  · exact .inr ⟨_, rfl⟩
  · exact .inl rfl

theorem Device.stackEnded_opens : (d.stackEnded s r).core.opens = d.core.opens := by
  obtain h | ⟨unit, h⟩ := d.stackEnded_cases s r <;> simp [h]
theorem Device.stackEnded_done : (d.stackEnded s r).core.done = d.core.done := by
  obtain h | ⟨unit, h⟩ := d.stackEnded_cases s r <;> simp [h]
theorem Device.stackEnded_regs : (d.stackEnded s r).core.regs = d.core.regs := by
  obtain h | ⟨unit, h⟩ := d.stackEnded_cases s r <;> simp [h]
theorem Device.stackEnded_mem : (d.stackEnded s r).core.mem = d.core.mem := by
  obtain h | ⟨unit, h⟩ := d.stackEnded_cases s r <;> simp [h]
theorem Device.stackEnded_pois : (d.stackEnded s r).core.pois = d.core.pois := by
  obtain h | ⟨unit, h⟩ := d.stackEnded_cases s r <;> simp [h]
theorem Appends.stackEnded : Appends d (d.stackEnded s r) := by
  obtain h | ⟨unit, h⟩ := d.stackEnded_cases s r <;> rw [h]
  · exact .of_evq (by simp)
  · exact Appends.trans (.of_evq (by simp)) (.post _ _ _ _)

/-- The stack runs the part on while some member has not ended. -/
theorem Device.stackEnded_run {x : SlipRun} (h : ((d.stackEnded s r).slipStack s).run = some x) : x = r := by
  have stack : (d.stackEnded s r).slipStack s =
      if r.mems.all (fun p => p.2.done) then { run := none, last := r.cmd.seq } else { d.slipStack s with run := some r } := by
    obtain e | ⟨unit, e⟩ := d.stackEnded_cases s r <;> rw [e]
    · exact Device.slipStack_setSlipStack_self ..
    · exact Device.slipStack_setSlipStack_self ..
  rw [stack] at h
  split at h
  · cases h
  · exact (Option.some.inj h).symm

/-! Members of a part, found by their units. -/

theorem SlipRun.setMem_rank (m : SlipMem) (v : Nat) : (r.setMem u m).rank v = r.rank v := by
  have units : (r.setMem u m).mems.map Prod.fst = r.mems.map Prod.fst := by
    simp only [SlipRun.setMem, List.map_map]
    exact List.map_congr_left fun p _ => by simp only [Function.comp_apply]; split <;> simp_all
  have count (l : List (Nat × SlipMem)) : (l.filter (fun p => decide (p.1 < v))).length = ((l.map Prod.fst).filter (fun k => decide (k < v))).length := by
    simp [List.filter_map, Function.comp_def]
  simp only [SlipRun.rank, count, units]
  rfl

theorem SlipRun.mem_setMem {m₀ : SlipMem} (h : r.mem u = some m₀) (v : Nat) : (r.setMem u m).mem v = if v = u then some m else r.mem v := by
  have units : (fun p : Nat × SlipMem => p.1 == v) ∘ (fun p => if p.1 = u then (u, m) else p) = fun p => p.1 == v := by
    funext p
    simp only [Function.comp_apply]
    split
    next hp => rw [hp]
    next => rfl
  simp only [SlipRun.mem, SlipRun.setMem, List.find?_map, units, Option.map_map]
  cases found : r.mems.find? (fun p => p.1 == v) with
  | none =>
    have other : v ≠ u := by
      rintro rfl
      simp [SlipRun.mem, found] at h
    rw [if_neg other]
    rfl
  | some p =>
    obtain rfl : p.1 = v := by simpa using List.find?_some found
    simp only [Option.map_some, Function.comp_apply]
    split <;> rfl

end

/-! A member's fault (R280, R290). -/

section
variable {d : Device} {n u : Nat} {r : SlipRun} {m : SlipMem} {cause : Nat}

/-- The device when a member's fault has been recorded and posted. -/
def Device.slipStruck (d : Device) (s u : Nat) (r : SlipRun) (m : SlipMem) (cause : Nat) : Device :=
  (d.setRecord (slpReg s 4) (wd (2 ^ 31 + cause * 2 ^ 28 + u / 16 * 2 ^ 23 + u % 16 * 2 ^ 19 + r.cmd.seq)) (wd m.j)).post 0x040F
    (uBank s (u / 16) (u % 16)) 0

theorem Device.slipFault_eq : d.slipFault n u r m cause =
    (((d.slipStruck n u r m cause).slipStatus r.cmd (r.rank u) m stFault cause).stackEnded n (r.setMem u { m with done := true })).completePart
      r.cmd.cid 1 stFault 1 (uBank n (u / 16) (u % 16)) := by
  rw [← r.setMem_rank u { m with done := true } u]
  rfl

theorem Device.slipStatus_off (h : sSten r.cmd = false) (d : Device) (rank status : Nat) : d.slipStatus r.cmd rank m status cause = d := by
  rw [Device.slipStatus, h]
  rfl

theorem Device.slipFault_mem (h : sSten r.cmd = false) : (d.slipFault n u r m cause).core.mem = d.core.mem := by
  rw [Device.slipFault_eq, Device.completePart_core_mem, Device.stackEnded_mem, Device.slipStatus_off h]
  simp [Device.slipStruck]

theorem Device.slipFault_pois (h : sSten r.cmd = false) : (d.slipFault n u r m cause).core.pois = d.core.pois := by
  rw [Device.slipFault_eq, Device.completePart_core_pois, Device.stackEnded_pois, Device.slipStatus_off h]
  simp [Device.slipStruck]

theorem Device.slipFault_record (h : sSten r.cmd = false) (free : bit (d.reg (slpReg n 4)) 31 = false) :
    (d.slipFault n u r m cause).reg (slpReg n 4) =
      wd (2 ^ 31 + cause * 2 ^ 28 + u / 16 * 2 ^ 23 + u % 16 * 2 ^ 19 + r.cmd.seq) := by
  have regs : (d.slipFault n u r m cause).core.regs = (d.slipStruck n u r m cause).core.regs := by
    rw [Device.slipFault_eq, Device.completePart_core_regs, Device.stackEnded_regs, Device.slipStatus_off h]
  have same : (d.slipFault n u r m cause).reg (slpReg n 4) = (d.slipStruck n u r m cause).reg (slpReg n 4) :=
    congrArg (mget (regReset (slpReg n 4)) · (slpReg n 4)) regs
  rw [same, Device.slipStruck, Device.reg_post, Device.setRecord, if_neg (ne_true_of_eq_false free), Device.reg_setReg,
    if_neg (Nat.ne_of_lt (Nat.lt_add_of_pos_right (by decide))), Device.reg_setReg_self]

section
variable (clean : d.core.flaws = [])
include clean

theorem Device.slipStruck_flaws : (d.slipStruck n u r m cause).core.flaws = [] := by
  simp [Device.slipStruck, clean]

/-- With STEN a fault writes the member's status record and no more. -/
theorem Device.slipFault_status (h : sSten r.cmd = true) : (d.slipFault n u r m cause).core.mem =
    (d.write (sramDA (r.cmd.word 5) + 32 * r.rank u) (Machine.clean (wordsToBytes (slipRecord r.cmd m stFault cause)))).core.mem := by
  rw [Device.slipFault_eq, Device.completePart_core_mem, Device.stackEnded_mem, Device.slipStatus, if_pos h]
  exact Device.write_mem_congr (Device.slipStruck_flaws clean) clean (by simp [Device.slipStruck]) (by simp [Device.slipStruck]) _ _

theorem Device.slipFault_events :
    ((d.slipFault n u r m cause).core.evq.map Event.code).take (d.core.evq.length + 1) = d.core.evq.map Event.code ++ [0x040F] := by
  have struck : (d.slipStruck n u r m cause).core.evq.map Event.code = d.core.evq.map Event.code ++ [0x040F] := by
    simp [Device.slipStruck, Device.post]
  have status (e : Device) (he : e.core.flaws = []) (rank : Nat) : Appends e (e.slipStatus r.cmd rank m stFault cause) := by
    unfold Device.slipStatus
    exact iteInd (Appends e) (.of_evq (Device.write_evq he _ _)) (.refl e)
  obtain ⟨l, hl⟩ := ((status _ (Device.slipStruck_flaws (n := n) (u := u) (r := r) (m := m) (cause := cause) clean) (r.rank u)).trans
    (.stackEnded _ n (r.setMem u { m with done := true }))).trans (.completePart r.cmd.cid 1 stFault 1 (uBank n (u / 16) (u % 16)) _)
  rw [Device.slipFault_eq, hl, List.map_append, struck, List.take_left' (by simp)]

end

theorem Device.slipFault_run (found : r.mem u = some m) {x : SlipRun} (h : ((d.slipFault n u r m cause).slipStack n).run = some x) :
    x.mem u = some { m with done := true } ∧ ∀ v, v ≠ u → x.mem v = r.mem v := by
  have slip (e : Device) (cid k status nfail first : Nat) : (e.completePart cid k status nfail first).slipStack n = e.slipStack n := by
    simp [Device.slipStack]
  rw [Device.slipFault_eq, slip] at h
  obtain rfl := Device.stackEnded_run _ _ _ h
  constructor
  · rw [SlipRun.mem_setMem _ _ _ found, if_pos rfl]
  · intro v hv
    rw [SlipRun.mem_setMem _ _ _ found, if_neg hv]

theorem Device.slipFault_part : (d.slipFault n u r m cause).core.opens =
      (d.completePart r.cmd.cid 1 stFault 1 (uBank n (u / 16) (u % 16))).core.opens ∧
    (d.slipFault n u r m cause).core.done = (d.completePart r.cmd.cid 1 stFault 1 (uBank n (u / 16) (u % 16))).core.done := by
  have status (e : Device) (rank : Nat) : (e.slipStatus r.cmd rank m stFault cause).core.opens = e.core.opens ∧
      (e.slipStatus r.cmd rank m stFault cause).core.done = e.core.done := by
    unfold Device.slipStatus
    split
    · exact ⟨Device.write_core_opens .., Device.write_core_done ..⟩
    · exact ⟨rfl, rfl⟩
  have opens : (((d.slipStruck n u r m cause).slipStatus r.cmd (r.rank u) m stFault cause).stackEnded n
      (r.setMem u { m with done := true })).core.opens = d.core.opens := by
    rw [Device.stackEnded_opens, (status _ _).1]
    simp [Device.slipStruck]
  have done : (((d.slipStruck n u r m cause).slipStatus r.cmd (r.rank u) m stFault cause).stackEnded n
      (r.setMem u { m with done := true })).core.done = d.core.done := by
    rw [Device.stackEnded_done, (status _ _).2]
    simp [Device.slipStruck]
  rw [Device.slipFault_eq]
  exact ⟨Device.completePart_opens_congr _ _ _ _ _ opens, Device.completePart_done_congr _ _ _ _ _ opens done⟩

end

/-! A step of a member (R276, R288). -/

section
variable {d : Device} {n u : Nat} {r : SlipRun} {m : SlipMem}

theorem Device.stepCoder_clean (clean : d.core.flaws = []) : d.stepCoder n u r m = (d, 0) := by
  have none (rs : List (Nat × Nat)) : d.flawedIn rs = [] := by simp [Device.flawedIn, clean]
  simp [Device.stepCoder, none]

section
variable (run : (d.slipStack n).run = some r) (found : r.mem u = some m) (going : m.done = false) (free : d.heldAt n u = false)
  (runs : d.runs (wStack n) = true)
include run found going free runs

theorem devNearBankStep_struck {cause : Fin 8} (named : cause = 1 ∨ cause = 3) :
    devNearBankStep n u (.fault cause) d = d.slipFault n u r m cause.val := by
  have steps : ¬ (m.done = true ∨ d.heldAt n u = true ∨ (!d.runs (wStack n)) = true) := by simp [going, free, runs]
  rw [devNearBankStep, run]
  dsimp only
  rw [found]
  exact (if_neg steps).trans (if_pos named)

section
variable {e : Device} {fixed : Nat} (coder : d.stepCoder n u r m = (e, fixed))
include coder

theorem devNearBankStep_ok {m' : SlipMem} {ws : List (Nat × List PByte)} {note : NumNote} {row : Option Bool}
    (step : slipStep e n u (r.rank u) r { m with cesym := m.cesym + fixed } = .ok m' ws note row) :
    devNearBankStep n u .done d = ((e.writes ws).note (mreg 1 0xE000) (uBank n (u / 16) (u % 16)) note).stepDone n u r
      { m with cesym := m.cesym + fixed } m' row := by
  have steps : ¬ (m.done = true ∨ d.heldAt n u = true ∨ (!d.runs (wStack n)) = true) := by simp [going, free, runs]
  rw [devNearBankStep, run]
  dsimp only
  rw [found]
  refine (if_neg steps).trans ?_
  rw [coder]
  dsimp only
  rw [step]

theorem devNearBankStep_segment (step : slipStep e n u (r.rank u) r { m with cesym := m.cesym + fixed } = .segment) :
    devNearBankStep n u .done d = e.slipFault n u r { m with cesym := m.cesym + fixed } 2 := by
  have steps : ¬ (m.done = true ∨ d.heldAt n u = true ∨ (!d.runs (wStack n)) = true) := by simp [going, free, runs]
  rw [devNearBankStep, run]
  dsimp only
  rw [found]
  refine (if_neg steps).trans ?_
  rw [coder]
  dsimp only
  rw [step]

end

/-- Every way of R280 in which a step faults its member. -/
theorem devNearBankStep_faults {o : StepOutcome} {k : Nat} (h : o = .fault 1 ∧ k = 1 ∨ o = .fault 3 ∧ k = 3 ∨
    o = .done ∧ d.core.flaws = [] ∧ k = 2 ∧ slipStep d n u (r.rank u) r m = .segment) :
    devNearBankStep n u o d = d.slipFault n u r m k := by
  obtain ⟨rfl, rfl⟩ | ⟨rfl, rfl⟩ | ⟨rfl, clean, rfl, segment⟩ := h
  · exact devNearBankStep_struck run found going free runs (.inl rfl)
  · exact devNearBankStep_struck run found going free runs (.inr rfl)
  · exact devNearBankStep_segment run found going free runs (Device.stepCoder_clean clean) segment

end

/-! The arithmetic of one step (R276 to R279). -/

variable (d n u r m)

/-- GATHER copies the row that a list entry names. -/
theorem gatherStep_copies {i : Nat} (entry : d.entry n u (r.off 0 + 4 * m.j) = (i, false)) (inside : i < (r.d 6).toNat) (row : i ≠ 0xFFFFFFFF)
    (clean : anyPoison (d.readBytes (bankDA n u (r.off 1 + i * (r.d 3).toNat)) (fld (r.d 5) 11 0)) = false) :
    gatherStep d n u r m = .ok { m with j := m.j + 1 } [(bankDA n u (r.off 2 + m.j * (r.d 4).toNat),
      Machine.clean (values (d.readBytes (bankDA n u (r.off 1 + i * (r.d 3).toNat)) (fld (r.d 5) 11 0))))] {} (some false) := by
  rw [gatherStep, entry]
  refine (if_neg row).trans ((if_neg (by omega)).trans ?_)
  dsimp only
  rw [clean]
  rfl

theorem gatherStep_pads {p : Bool} (entry : d.entry n u (r.off 0 + 4 * m.j) = (0xFFFFFFFF, p)) :
    gatherStep d n u r m = .ok { m with j := m.j + 1 } [] {} none := by
  rw [gatherStep, entry]
  exact if_pos rfl

/-! REDUCE: `b` is where the position's segment begins, `e` where it ends. -/

section
variable (rank b e : Nat) (unmarked : m.pois = false) (last : d.entry n u (r.off 7 + 4 * m.j) = (e, false))
  (first : m.j = 0 ∧ b = 0 ∨ 0 < m.j ∧ d.entry n u (r.off 7 + 4 * (m.j - 1)) = (b, false))
include first

theorem Device.segmentBegins : (if m.j = 0 then (0, false) else d.entry n u (r.off 7 + 4 * (m.j - 1))) = (b, false) := by
  obtain ⟨h, rfl⟩ | ⟨h, hb⟩ := first
  · rw [if_pos h]
  · rw [if_neg (by omega), hb]

include last

theorem reduceStep_below (h : e < b) : reduceStep d n u rank r m = .segment := by
  rw [reduceStep, last]
  dsimp only
  rw [Device.segmentBegins d n u r m b first]
  exact if_pos h

include unmarked

theorem reduceStep_empty (h : e = b) : reduceStep d n u rank r m = .ok { m with j := m.j + 1, acc := none }
    (reduceRow d n u rank r m true).1 (reduceRow d n u rank r m true).2.1 (some (reduceRow d n u rank r m true).2.2) := by
  rw [reduceStep, last]
  dsimp only
  rw [Device.segmentBegins d n u r m b first]
  refine (if_neg (by omega)).trans ((if_pos h).trans ?_)
  cases m
  cases unmarked
  rfl

/-- The member after it has added row i of weight w to its sum. -/
def SlipMem.added (m : SlipMem) (pos : Nat) (prods : List Val) : SlipMem :=
  { m with pos := pos + 1, acc := some (match m.acc with | none => prods | some l => (l.zip prods).map (fun x => x.1.add x.2)) }

theorem reduceStep_adds {pos i w : Nat} {f : Fmt} (more : b < e) (at' : pos = max m.pos b) (room : r.off 0 + 4 * pos + 4 ≤ bankBytes)
    (entry : d.entry n u (r.off 0 + 4 * pos) = (i, false)) (inside : i < (r.d 6).toNat) (row : i ≠ 0xFFFFFFFF)
    (fmt : slipFmt (fld (r.d 5) 31 28) = some f)
    (weight : bit (r.d 5) 22 = false ∧ w = 0x3F800000 ∨
      bit (r.d 5) 22 = true ∧ r.off 8 + 4 * pos + 4 ≤ bankBytes ∧ d.entry n u (r.off 8 + 4 * pos) = (w, false))
    (clean : (d.bankVals n u (r.off 1 + i * (r.d 3).toNat) f (fld (r.d 5) 9 0 + 1)).any Prod.snd = false) {m' : SlipMem}
    (next : m' = m.added pos ((d.bankVals n u (r.off 1 + i * (r.d 3).toNat) f (fld (r.d 5) 9 0 + 1)).map (fun x => (f32 (wd w)).mul x.1))) :
    reduceStep d n u rank r m = if pos + 1 = e then .ok { m' with j := m.j + 1, acc := none } (reduceRow d n u rank r m' false).1
        (reduceRow d n u rank r m' false).2.1 (some (reduceRow d n u rank r m' false).2.2)
      else .ok m' [] {} none := by
  have fits : ¬ (r.off 0 + 4 * pos + 4 > bankBytes ∨ bit (r.d 5) 22 = true ∧ r.off 8 + 4 * pos + 4 > bankBytes) := by
    obtain ⟨off, -⟩ | ⟨-, room', -⟩ := weight
    · simp [off]
      omega
    · omega
  have weighed : (if bit (r.d 5) 22 = true then d.entry n u (r.off 8 + 4 * pos) else (0x3F800000, false)) = (w, false) := by
    obtain ⟨off, rfl⟩ | ⟨on, -, hw⟩ := weight
    · rw [if_neg (ne_true_of_eq_false off)]
    · rw [if_pos on, hw]
  have padless : i ≠ padEntry := row
  subst at'
  rw [reduceStep, last]
  dsimp only
  rw [Device.segmentBegins d n u r m b first]
  refine (if_neg (by omega)).trans ((if_neg (by omega)).trans ((if_neg fits).trans ?_))
  dsimp only
  rw [entry, weighed, fmt]
  dsimp only [Option.getD_some]
  rw [if_neg padless, if_neg (show ¬ i ≥ (r.d 6).toNat by omega), clean]
  subst next
  cases m
  cases unmarked
  rfl

end

/-- REDUCE writes its scaled sums, added to the old row under ACC. -/
theorem reduceRow_scaled {rank : Nat} {f : Fmt} {old : List (Val × Bool)} {sums : List Val} {row : ConvRow}
    (fmt : slipFmt (fld (r.d 5) 27 24) = some f) (acc : m.acc = some sums)
    (was : old = if bit (r.d 5) 23 then d.bankVals n u (r.off 2 + m.j * (r.d 4).toNat) f (fld (r.d 5) 9 0 + 1)
      else List.replicate (fld (r.d 5) 9 0 + 1) (Val.zero, false))
    (conv : row = convRow f (fun c => (r.draw 5).rnd (sRmode r.cmd) ((r.elem0 + (rank * sCount r.cmd + m.j) * (r.d 13).toNat + c) % 2 ^ 48))
      (sNosat r.cmd) ((old.zip sums).map (fun x => (x.1.1.add ((f32 (r.d 9)).mul x.2), false)))) :
    reduceRow d n u rank r m false = ([(bankDA n u (r.off 2 + m.j * (r.d 4).toNat),
      mark (m.pois || old.any Prod.snd) (packElems f (row.codes.map Prod.fst)))], row.note, (m.pois || old.any Prod.snd)) := by
  rw [reduceRow, fmt, acc]
  dsimp only [Option.getD_some]
  rw [← was, List.map_map]
  subst conv
  rfl

/-- MOMENT without a weight writes one row each of m, v and d. -/
theorem momentStep_rows {rank : Nat} {gs ms vs : List (Val × Bool)} {out : List (Val × Val × Val)} {p : Bool}
    (fmt : slipFmt (fld (r.d 5) 31 28) = some .fp32) (noWeight : bit (r.d 5) 27 = false)
    (hg : gs = d.bankVals n u (r.off 0 + 1024 * m.j) .fp32 256) (hm : ms = d.bankVals n u (r.off 1 + 1024 * m.j) .fp32 256)
    (hv : vs = d.bankVals n u (r.off 2 + 1024 * m.j) .fp32 256) (hp : p = (gs.any Prod.snd || ms.any Prod.snd || vs.any Prod.snd))
    (hout : out = (gs.zip (ms.zip vs)).map (fun x => momentElem r x.1.1 x.2.1.1 x.2.2.1)) :
    ∃ note, momentStep d n u rank r m = .ok { m with j := m.j + 1 } [(bankDA n u (r.off 1 + 1024 * m.j), fp32Row p (out.map (fun x => x.1))),
      (bankDA n u (r.off 2 + 1024 * m.j), fp32Row p (out.map (fun x => x.2.1))),
      (bankDA n u (r.off 3 + 1024 * m.j), fp32Row p (out.map (fun x => x.2.2)))] note (some p) := by
  have bytes : Fmt.bytes .fp32 (256 * m.j) = 1024 * m.j := by
    rw [Fmt.bytes, show Fmt.width .fp32 = 32 from rfl]
    omega
  have plain : ¬ (Fmt.fp32 == Fmt.e5m2) = true := by decide
  have wide : 4 * (256 * m.j) = 1024 * m.j := by omega
  refine ⟨{ nonfin := gs.any (fun g => !g.2 && nonFinite g.1) }, ?_⟩
  rw [momentStep, fmt]
  dsimp only [Option.getD_some]
  rw [bytes, wide, if_neg plain, if_neg (ne_true_of_eq_false noWeight), if_neg (ne_true_of_eq_false noWeight)]
  rw [← hg, ← hm, ← hv]
  subst hp hout
  rw [momentGrad, if_neg plain, List.any_nil, Bool.or_false]
  rfl

end

/-- Each of the three commands issues the operations of its own code. -/
theorem slipOps {sop : Nat} {i : Fin 8 → Instr} (hi : (sop, i) ∈ [(1, Instr.gather), (2, .reduce), (3, .moment)]) {c : Cmd}
    (named : sSop c = sop) : ∃ ops, sSop c ∈ ops ∧ ∀ (s : State) (n : Fin 8), exec (i n) s = .next (s.withDev (s.dev.slipIssue n.val ops)) := by
  simp only [List.mem_cons, Prod.mk.injEq, List.not_mem_nil, or_false] at hi
  obtain ⟨rfl, rfl⟩ | ⟨rfl, rfl⟩ | ⟨rfl, rfl⟩ := hi
  · exact ⟨_, by simp [named], fun _ _ => rfl⟩
  · exact ⟨_, by simp [named], fun _ _ => rfl⟩
  · exact ⟨_, by simp [named], fun _ _ => rfl⟩

/-- Settles O34: an issue and a refusal from `slipIssue`, the faults from the way of a member's end through `slipFault`, and the arithmetic
of each operation from one step on entries that are read clean. -/
theorem nearBankPartsIssueAndStep : Obligations.NearBankPartsIssueAndStep := by
  refine ⟨⟨fun sop i hi s n c head named idle runs good => ?_, fun sop i hi s n c q ev head named idle runs bad => ?_⟩,
    fun s n u r m m' d fixed ws note row run found going free runs coder step => ?_, fun d n u r m clean => Device.stepCoder_clean clean,
    fun s n u r m o k run found going free runs noStatus how => ?_, fun s n u r m o k run found going free runs clean how => ?_,
    fun d n u r m i entry inside row clean => ?_, fun d n u r m p entry => gatherStep_pads d n u r m entry,
    fun d n u rank r m b e unmarked last first => ⟨?_, ?_, ?_⟩, ?_, ?_, ?_⟩
  · obtain ⟨ops, named, run⟩ := slipOps hi named
    refine ⟨_, run s n, ?_⟩
    rw [Device.slipIssue_issues head named idle runs good]
    refine ⟨rfl, s.dev.partOf n.val c, by rw [Device.slipStack_setSlipStack_self], rfl, rfl, Device.partOf_mems .., fun p hp => ?_, rfl⟩
    obtain ⟨u, -, rfl⟩ := List.mem_map.mp hp
    rfl
  · obtain ⟨ops, named, run⟩ := slipOps hi named
    refine ⟨_, run s n, ?_⟩
    rw [Device.slipIssue_refuses head named idle runs bad]
    exact ⟨rfl, Device.refuse_core_mem .., Device.refuse_core_pois .., Device.refuse_core_regs .., SameRuns.refuse s.dev _ _ _ _ _⟩
  · exact congrArg (Host.Outcome.next <| s.withDev ·) (devNearBankStep_ok run found going free runs coder step)
  · refine ⟨_, rfl, ?_⟩
    have faults := devNearBankStep_faults run found going free runs how
    rw [faults]
    exact ⟨Device.slipFault_mem noStatus, Device.slipFault_pois noStatus, Device.slipFault_record noStatus⟩
  · refine ⟨_, rfl, ?_⟩
    have faults := devNearBankStep_faults (o := o) (k := k) run found going free runs (by tauto)
    rw [faults]
    exact ⟨Device.slipFault_status clean, fun x hx => Device.slipFault_run found hx, Device.slipFault_events clean, Device.slipFault_part.2,
      Device.slipFault_part.1⟩
  · exact ⟨_, gatherStep_copies d n u r m entry inside row clean, rfl, rfl⟩
  · exact reduceStep_below d n u r m rank b e last first
  · exact reduceStep_empty d n u r m rank b e unmarked last first
  · intro pos i w f m' prods more at' room entry inside row fmt weight clean hprods next
    have adds := reduceStep_adds d n u r m rank b e unmarked last first more at' room entry inside row fmt weight clean (hprods ▸ next)
    exact ⟨fun goesOn => adds.trans (if_neg (by omega)), fun ends => adds.trans (if_pos ends)⟩
  · intro d n u rank r m f old sums row fmt acc _ was conv
    exact reduceRow_scaled d n u r m fmt acc was conv
  · intro d n u rank r m gs ms vs out p fmt noWeight hg hm hv hp hout
    exact momentStep_rows d n u r m fmt noWeight hg hm hv hp hout
  · rintro r g m v m1 v1 rfl rfl
    rfl

end Sys2Proof.Machine
end

section
/-! O35: QUANT, RDRV, DIGEST and PACK (R300 to R321). -/

namespace Sys2Proof.Machine

/-! Runs of writes on a device whose symbols are good. -/

section
variable {d e : Device}

theorem Device.write_flaws_clean (clean : d.core.flaws = []) (a : Nat) (l : List PByte) : (d.write a l).core.flaws = [] := by
  have noFlaw : d.flawedIn [(a, l.length)] = [] := by simp [Device.flawedIn, clean]
  cases h : d.memHeld a with
  | true => rw [Device.write, if_pos h, clean]
  | false => simp [Device.write, h, noFlaw, clean]

theorem Device.writes_flaws_clean (l : List (Nat × List PByte)) (clean : d.core.flaws = []) : (d.writes l).core.flaws = [] := by
  induction l generalizing d with
  | nil => exact clean
  | cons x l ih => exact ih (d.write_flaws_clean clean _ _)

end

/-! The end of a command (R20, R321). -/

section
variable (d : Device) (die : Nat) (c : Cmd) (status : Nat)

@[simp] theorem Device.trsDone_mem : (d.trsDone die c status).core.mem = d.core.mem := by simp [Device.trsDone]
@[simp] theorem Device.trsDone_pois : (d.trsDone die c status).core.pois = d.core.pois := by simp [Device.trsDone]
@[simp] theorem Device.trsDone_regs : (d.trsDone die c status).core.regs = d.core.regs := by simp [Device.trsDone]
theorem Device.trsDone_last : mget 0 (d.trsDone die c status).train.last die = c.seq := by
  simp [Device.trsDone]

theorem Device.trsDone_done {e : Device} (opens : d.core.opens = e.core.opens) (done : d.core.done = e.core.done) :
    (d.trsDone die c status).core.done = (e.finish c status).core.done :=
  Device.completePart_done_congr _ _ _ _ _ (by simpa using opens) (by simpa using done)

theorem Device.trsPoison_cases (p : Bool) : d.trsPoison die c p = d ∨ ∃ w, d.trsPoison die c p = d.post 0x0505 (uDie die) w := by
  cases p
  · exact .inl rfl
  · exact .inr ⟨_, rfl⟩

@[simp] theorem Device.trsPoison_mem (p : Bool) : (d.trsPoison die c p).core.mem = d.core.mem := by
  obtain h | ⟨w, h⟩ := d.trsPoison_cases die c p <;> simp [h]
@[simp] theorem Device.trsPoison_regs (p : Bool) : (d.trsPoison die c p).core.regs = d.core.regs := by
  obtain h | ⟨w, h⟩ := d.trsPoison_cases die c p <;> simp [h]
@[simp] theorem Device.trsPoison_opens (p : Bool) : (d.trsPoison die c p).core.opens = d.core.opens := by
  obtain h | ⟨w, h⟩ := d.trsPoison_cases die c p <;> simp [h]
@[simp] theorem Device.trsPoison_done (p : Bool) : (d.trsPoison die c p).core.done = d.core.done := by
  obtain h | ⟨w, h⟩ := d.trsPoison_cases die c p <;> simp [h]
@[simp] theorem Device.trsPoison_queues (p : Bool) : (d.trsPoison die c p).core.queues = d.core.queues := by
  obtain h | ⟨w, h⟩ := d.trsPoison_cases die c p <;> simp [h]

theorem Device.trsEnd_none (p : Bool) : d.trsEnd die c .none p stDone = (d.trsPoison die c p).trsDone die c (if p then stPoisoned else stDone) := by
  have worst : max stDone (if p = true then stPoisoned else stDone) = if p = true then stPoisoned else stDone := by
    cases p <;> rfl
  rw [← worst]
  rfl

/-- A command that has run whole: what it leaves and what it reports. -/
theorem Device.trsEnd_runs {e : Device} (p : Bool) (opens : d.core.opens = e.core.opens) (done : d.core.done = e.core.done) :
    (d.trsEnd die c .none p stDone).core.mem = d.core.mem ∧ (d.trsEnd die c .none p stDone).core.regs = d.core.regs ∧
      mget 0 (d.trsEnd die c .none p stDone).train.last die = c.seq ∧
      (d.trsEnd die c .none p stDone).core.done = (e.finish c (if p then stPoisoned else stDone)).core.done := by
  rw [d.trsEnd_none]
  exact ⟨by simp, by simp, Device.trsDone_last .., Device.trsDone_done _ _ _ _ (by simpa using opens) (by simpa using done)⟩

end

theorem Device.reg_of_regs {d e : Device} (h : d.core.regs = e.core.regs) (k : Nat) : d.reg k = e.reg k := congrArg (mget (regReset k) · k) h

/-! The head of a die's queue. -/

theorem Device.trsHead_mono {d : Device} {die : Nat} {c : Cmd} {few many : List Nat} (h : d.trsHead die few = some c) (sub : few ⊆ many) :
    d.trsHead die many = some c := by
  unfold Device.trsHead at h ⊢
  split at h
  · cases h
  · split at h
    next c' ready =>
      split at h
      next named =>
        cases h
        exact (if_neg ‹_›).trans (if_pos (by simpa using sub (by simpa using named)))
      next => cases h
    next => cases h

/-! Units of work. -/

section
variable (d : Device) (die n : Nat) (f : Nat → UnitOut)

theorem Device.progressN_fence (d : Device) (k n : Nat) : (d.progressN k n).ras.fence = d.ras.fence := rfl

theorem Device.runUnits_mem : (d.runUnits die n f).1.core.mem = (d.writes (((List.range n).map f).flatMap (·.ws))).core.mem := by
  simp [Device.runUnits]
theorem Device.runUnits_opens : (d.runUnits die n f).1.core.opens = d.core.opens := by simp [Device.runUnits]
theorem Device.runUnits_done : (d.runUnits die n f).1.core.done = d.core.done := by simp [Device.runUnits]
theorem Device.runUnits_fence : (d.runUnits die n f).1.ras.fence = d.ras.fence := by
  simp only [Device.runUnits, Device.progressN, Device.note_ras, Device.writes_ras]
theorem Device.runUnits_flaws (clean : d.core.flaws = []) : (d.runUnits die n f).1.core.flaws = [] := by
  simp [Device.runUnits, Device.writes_flaws_clean _ clean]

end

section
variable {d : Device} {die : Nat} {c : Cmd} (good : d.trsStops die c = none) (flaws : d.core.flaws = []) (watch : d.core.watch = none)
  {w : Nat → Word} (desc : w = wordAt (d.descWords (sramDA (c.word 4)) 16))
include good flaws watch

section
include desc

/-- QUANT: its blocks, then its header. -/
theorem devQuant_runs (head : d.trsHead die [1] = some c) {us : Device × Bool × Bool}
    (run : us = d.runUnits die (qBlocks w) (quantBlock d c w (d.draw die 3 (w 10)) (fld (d.reg (trsReg die 4)) 0 0)
      (lsExp (d.reg (trsReg die 0x10)) - elsExp (d.reg (trsReg die 0x10))))) :
    devQuant die .none d = (us.1.write (pairDA w 6) (clean (wordsToBytes (quantHeader w (d.reg (dreg die 11 8)) us.2.1)))).trsEnd die c .none
      us.2.2 stDone := by
  have head' := d.trsHead_mono head (many := [1, 0, 6, 7, 8, 9, 10, 11, 12, 13, 14, 15]) (by simp)
  fun_cases devQuant die .none d with
  | case1 h => cases head'.symm.trans h
  | case2 _ h _ h' =>
    cases head'.symm.trans h
    cases good.symm.trans h'
  | case3 _ h _ w' ls n flt epar e d' nonfin p ran out =>
    cases head'.symm.trans h
    obtain rfl : w = w' := desc
    have calm : e = d := d.coder_clean _ _ flaws watch
    clear_value e
    subst calm
    subst run
    have ran : e.runUnits die (qBlocks w') _ = (d', nonfin, p) := ran
    rw [ran]
    have written : out = d'.write (pairDA w' 6) (clean (wordsToBytes (quantHeader w' (e.reg (dreg die 11 8)) nonfin))) := if_pos rfl
    exact congrArg (fun x => x.trsEnd die c .none p stDone) written

theorem devRdrv_runs (head : d.trsHead die [3] = some c) :
    devRdrv die .none d = (d.runUnits die (fld (w 8) 23 0) (rdrvRecord d w)).1.trsEnd die c .none
      (d.runUnits die (fld (w 8) 23 0) (rdrvRecord d w)).2.2 stDone := by
  fun_cases devRdrv die .none d with
  | case1 h => cases head.symm.trans h
  | case2 _ h _ h' =>
    cases head.symm.trans h
    cases good.symm.trans h'
  | case3 _ h _ w' n flt e d' nonfin p ran =>
    cases head.symm.trans h
    have calm : e = d := d.fetch_clean _ _ flaws watch
    have units : flt.units n = fld (w 8) 23 0 := by rw [desc]; rfl
    rw [calm, units, ← show w = w' from desc] at ran
    rw [ran]
    rfl

end

/-- What DIGEST reads: each range of its list, and the list. -/
def Device.digestData (d : Device) (c : Cmd) : List (List PByte) :=
  ((d.rangeList (sramDA (c.word 4)) (cCount c)).take (cCount c)).map (fun e => d.readBytes e.da e.len)

theorem devDigest_runs (head : d.trsHead die [4] = some c) {v : Nat} {p : Bool}
    (crc : v = (d.digestData c).foldl (fun r l => crc64Run r (values l)) 0)
    (pois : p = ((d.digestData c).any anyPoison || anyPoison (d.readBytes (sramDA (c.word 4)) (16 * cCount c)))) :
    devDigest die .none d = (((d.progressN (wTrs die) (cCount c)).write (sramDA (c.word 6)) (mark p (toBytes 8 v))).setReg64 (trsReg die 0x20) v).trsEnd
      die c .none p stDone := by
  fun_cases devDigest die .none d with
  | case1 h => cases head.symm.trans h
  | case2 _ h _ h' =>
    cases head.symm.trans h
    cases good.symm.trans h'
  | case3 _ h _ n flt rl e data p' v' d' out =>
    cases head.symm.trans h
    have calm : e = d := d.coder_clean _ _ flaws watch
    clear_value e
    subst calm
    obtain rfl : p = p' := pois
    obtain rfl : v = v' := crc
    have written : out = (d'.write (sramDA (c.word 6)) (mark p' (toBytes 8 v'))).setReg64 (trsReg die 0x20) v' := if_pos rfl
    exact congrArg (fun x => x.trsEnd die c .none p' stDone) written

section
variable (desc : w = wordAt (d.descWords (sramDA (c.word 4)) 16)) (head : d.trsHead die [5] = some c)
include desc head

/-- PACK of a record that fits, of any kind: `first` is the part copied as it stands, `cs` the chunks that are packed behind it. -/
theorem devPack_runs {first body : List PByte} {cs : List (List Byte × Bool)} {w' : Nat → Word} {n : Nat} {p : Bool}
    (copied : first = if fld (w 5) 31 24 = 3 then Machine.clean (stepBody d die)
      else if fld (w 5) 31 24 = 2 then d.readBytes (sramDA (w 8)) 64 else [])
    (packed : cs = if fld (w 5) 31 24 = 3 then [] else packChunks d w) (count : n = if fld (w 5) 31 24 = 3 then 1 else cs.length)
    (words : w' = if fld (w 5) 31 24 = 3 then (fun k => if k = 4 ∨ k = 6 then 0 else w k) else w) (room : 32 + first.length ≤ (w 7).toNat)
    (fits : packFit (w 7).toNat (32 + first.length) 0 cs = (body, none)) (pois : p = (anyPoison first || cs.any (·.2))) :
    devPack die .none d = ((((d.write (pairDA w 2 + 32) (first ++ body)).progressN (wTrs die) n).write (pairDA w 2)
      (mark p (packHeader w' (d.reg (dreg die 11 8)) (32 + (first ++ body).length) (values (first ++ body))))).setReg (trsReg die 0x1C)
        (wd (32 + (first ++ body).length))).trsEnd die c .none p stDone := by
  have room' : ¬ 32 + first.length > (w 7).toNat := by omega
  have whole : cs.take n = cs := by
    rw [count, packed]
    split
    · rfl
    · exact List.take_length
  have read : (if fld (w 5) 31 24 = 3 then d else d.fetch (pairDA w 0) (packRead w)) = d := by
    split
    · rfl
    · exact d.fetch_clean _ _ flaws watch
  fun_cases devPack die .none d with
  | case1 h => cases head.symm.trans h
  | case2 _ h _ h' =>
    cases head.symm.trans h
    cases good.symm.trans h'
  | case3 _ h _ w₁ kind cap first₁ e cs₁ n₁ flt body₁ all stop fit =>
    cases head.symm.trans h
    obtain rfl : w = w₁ := desc
    obtain rfl : first = first₁ := copied
    have calm : e = d := read
    clear_value e
    subst calm
    obtain rfl : cs = cs₁ := packed
    obtain rfl : n = n₁ := count
    have fit : (if 32 + first₁.length > cap then ([], some 0) else packFit cap (32 + first₁.length) 0 (cs₁.take n₁)) = (body₁, some stop) := fit
    rw [if_neg room', whole] at fit
    cases fits.symm.trans fit
  | case4 _ h _ w₁ kind cap step first₁ e cs₁ n₁ flt body₁ all noFault rlen w₂ fit p₁ d₁ d₂ =>
    cases head.symm.trans h
    obtain rfl : w = w₁ := desc
    obtain rfl : first = first₁ := copied
    have calm : e = d := read
    clear_value e
    subst calm
    obtain rfl : cs = cs₁ := packed
    obtain rfl : n = n₁ := count
    obtain rfl : w' = w₂ := words
    have fit : (if 32 + first₁.length > cap then ([], some 0) else packFit cap (32 + first₁.length) 0 (cs₁.take n₁)) = (body₁, none) := fit
    rw [if_neg room', whole] at fit
    cases fits.symm.trans fit
    have taken : cs₁.take (if 32 + first₁.length > cap then 0 else min n₁ n₁) = cs₁ := by rw [if_neg room', min_self, whole]
    have marked : p = p₁ := pois.trans (congrArg (fun l => anyPoison first₁ || l.any (·.2)) taken.symm)
    have whole : all = first₁ ++ body := if_neg room'
    clear_value all p₁
    subst whole marked
    rfl
  | case5 _ h _ _ _ _ _ _ _ _ _ _ _ _ _ _ faulty => exact absurd rfl faulty

end

end

/-! Waits that are latched keep the commands of every queue. -/

theorem mget_map {α β : Type} (f : α → β) (a : α) (m : List (Nat × α)) (k : Nat) :
    mget (f a) (m.map (fun p => (p.1, f p.2))) k = f (mget a m k) := by
  induction m with
  | nil => rfl
  | cons p m ih =>
    simp only [List.map_cons, mget]
    split
    · rfl
    · exact ih

/-- The commands of a queue, by their numbers. -/
def Device.cids (d : Device) (q : Nat) : List Nat := (d.queue q).map Cmd.cid

section
variable (d : Device) (q : Nat)

theorem Device.cids_of_queues {d e : Device} (h : e.core.queues = d.core.queues) (q : Nat) : e.cids q = d.cids q := by
  simp only [Device.cids, Device.queue, h]

theorem Device.cids_latchWaits : d.latchWaits.cids q = d.cids q := by
  have heads : ∀ l : List Cmd, (d.latchHead l).map Cmd.cid = l.map Cmd.cid
    | [] => rfl
    | _ :: _ => rfl
  exact (congrArg (List.map Cmd.cid) (mget_map d.latchHead [] d.core.queues q)).trans (heads _)

theorem Device.cids_signalled (o : Open) : (if o.sigen then d.signal o.sigDie o.ctr else d).cids q = d.cids q := by
  split
  · exact d.cids_latchWaits q
  · rfl

theorem Device.cids_closeCmd (o : Open) : (d.closeCmd o).cids q = d.cids q := by
  have halted (e : Device) (c : Prop) [Decidable c] : (if c then e.haltStream o.die o.stream 2 o.index else e).cids q = e.cids q := by
    split <;> rfl
  exact (halted _ _).trans ((Device.cids_signalled _ q o).trans rfl)

theorem Device.cids_completePart (cid n status nfail first : Nat) : (d.completePart cid n status nfail first).cids q = d.cids q := by
  unfold Device.completePart
  exact iteInd (fun e : Device => e.cids q = d.cids q) rfl
    (iteInd (fun e : Device => e.cids q = d.cids q) ((Device.cids_closeCmd _ q _).trans rfl) rfl)

theorem Device.cids_popCmd_self : (d.popCmd q).cids q = (d.cids q).tail := by
  rw [Device.cids, Device.popCmd, Device.queue_setQueue_self, Device.cids, List.map_tail]

end

/-! A unit's fault (R321). -/

@[simp] theorem trsReg_inj (die x y : Nat) : trsReg die x = trsReg die y ↔ x = y := regKey_inj_off die 10 x y

section
variable (d : Device) (die : Nat) (c : Cmd) (cause index : Nat)

theorem Appends.trsDone (status : Nat) : Appends d (d.trsDone die c status) :=
  Appends.trans (.of_evq ((d.popCmd_core_evq (qTrs die)).trans rfl)) (.completePart c.cid 1 status (if status = 0 then 0 else 1) c.unit _)

theorem Device.trsDone_cids (status : Nat) : (d.trsDone die c status).cids (qTrs die) = (d.cids (qTrs die)).tail := by
  refine (Device.cids_completePart _ _ _ _ _ _ _).trans ?_
  exact (Device.cids_of_queues (d := d.popCmd (qTrs die)) rfl _).trans (d.cids_popCmd_self (qTrs die))

/-- The device when a fault has been recorded and posted. -/
def Device.trsStruck (d : Device) (die : Nat) (c : Cmd) (cause index : Nat) : Device :=
  ((d.setReg (trsReg die 0x28) (wd (2 ^ 31 + cause * 2 ^ 28 + cTop c * 2 ^ 24 + c.seq))).setReg (trsReg die 0x2C) (wd index)).post 0x0504
    (uDie die) (wd (2 ^ 31 + cause * 2 ^ 28 + cTop c * 2 ^ 24 + c.seq))

theorem Device.trsFault_eq : d.trsFault die c cause index = (d.trsStruck die c cause index).trsDone die c stFault := rfl

theorem Device.trsStruck_mem : (d.trsStruck die c cause index).core.mem = d.core.mem := by
  rw [Device.trsStruck, Device.post_core_mem, Device.setReg_core_mem, Device.setReg_core_mem]
theorem Device.trsStruck_opens : (d.trsStruck die c cause index).core.opens = d.core.opens := by
  rw [Device.trsStruck, Device.post_core_opens, Device.setReg_core_opens, Device.setReg_core_opens]
theorem Device.trsStruck_done : (d.trsStruck die c cause index).core.done = d.core.done := by
  rw [Device.trsStruck, Device.post_core_done, Device.setReg_core_done, Device.setReg_core_done]
theorem Device.trsStruck_queues : (d.trsStruck die c cause index).core.queues = d.core.queues := by
  rw [Device.trsStruck, Device.post_core_queues, Device.setReg_core_queues, Device.setReg_core_queues]
theorem Device.trsStruck_codes : (d.trsStruck die c cause index).core.evq.map Event.code = d.core.evq.map Event.code ++ [0x0504] := by
  rw [Device.trsStruck, Device.post, List.map_append, Device.setReg_core_evq, Device.setReg_core_evq]
  rfl

theorem Device.trsFault_record : (d.trsFault die c cause index).reg (trsReg die 0x28) = wd (2 ^ 31 + cause * 2 ^ 28 + cTop c * 2 ^ 24 + c.seq) ∧
    (d.trsFault die c cause index).reg (trsReg die 0x2C) = wd index := by
  have regs := (d.trsStruck die c cause index).trsDone_regs die c stFault
  have apart : trsReg die 0x28 ≠ trsReg die 0x2C := by simp
  rw [Device.trsFault_eq, Device.reg_of_regs regs, Device.reg_of_regs regs, Device.trsStruck, Device.reg_post, Device.reg_post,
    Device.reg_setReg_self, Device.reg_setReg, if_neg apart, Device.reg_setReg_self]
  exact ⟨rfl, rfl⟩

theorem Device.trsFault_mem : (d.trsFault die c cause index).core.mem = d.core.mem := by
  rw [Device.trsFault_eq, Device.trsDone_mem, Device.trsStruck_mem]

theorem Device.trsFault_done {e : Device} (opens : d.core.opens = e.core.opens) (done : d.core.done = e.core.done) :
    (d.trsFault die c cause index).core.done = (e.finish c stFault).core.done :=
  Device.trsDone_done _ _ _ _ ((d.trsStruck_opens die c cause index).trans opens) ((d.trsStruck_done die c cause index).trans done)

theorem Device.trsFault_cids : (d.trsFault die c cause index).cids (qTrs die) = (d.cids (qTrs die)).tail := by
  rw [Device.trsFault_eq, Device.trsDone_cids, Device.cids_of_queues (d.trsStruck_queues die c cause index)]

theorem Device.trsFault_events : ∃ l, (d.trsFault die c cause index).core.evq.map Event.code = d.core.evq.map Event.code ++ 0x0504 :: l := by
  obtain ⟨l, hl⟩ := Appends.trsDone (d.trsStruck die c cause index) die c stFault
  refine ⟨l.map Event.code, ?_⟩
  rw [Device.trsFault_eq, hl, List.map_append, Device.trsStruck_codes, List.append_assoc]
  rfl

end

/-! The obligation's clauses. -/

section
variable {d : Device} {die : Nat} {c : Cmd} (good : d.trsStops die c = none) (flaws : d.core.flaws = []) (watch : d.core.watch = none)
  {w : Nat → Word}
include good flaws watch

theorem devQuant_writes (desc : w = wordAt (d.descWords (sramDA (c.word 4)) 16)) (head : d.trsHead die [1] = some c) {us : List UnitOut}
    (units : us = (List.range (qBlocks w)).map (quantBlock d c w (d.draw die 3 (w 10)) (fld (d.reg (trsReg die 4)) 0 0)
      (lsExp (d.reg (trsReg die 0x10)) - elsExp (d.reg (trsReg die 0x10))))) :
    (devQuant die .none d).core.mem = ((d.writes (us.flatMap (·.ws))).write (pairDA w 6)
        (clean (wordsToBytes (quantHeader w (d.reg (dreg die 11 8)) (us.any (·.nonfin)))))).core.mem ∧
      (devQuant die .none d).core.done = (d.finish c (if us.any (·.pois) then stPoisoned else stDone)).core.done ∧
      mget 0 (devQuant die .none d).train.last die = c.seq := by
  obtain ⟨run, hrun⟩ : ∃ run, run = d.runUnits die (qBlocks w) (quantBlock d c w (d.draw die 3 (w 10)) (fld (d.reg (trsReg die 4)) 0 0)
      (lsExp (d.reg (trsReg die 0x10)) - elsExp (d.reg (trsReg die 0x10)))) := ⟨_, rfl⟩
  have nonfin : run.2.1 = us.any (·.nonfin) := by rw [hrun, units]; rfl
  have pois : run.2.2 = us.any (·.pois) := by rw [hrun, units]; rfl
  rw [devQuant_runs good flaws watch desc head hrun, nonfin, pois]
  obtain ⟨mem, -, last, done⟩ := Device.trsEnd_runs (run.1.write (pairDA w 6) (clean (wordsToBytes (quantHeader w (d.reg (dreg die 11 8))
    (us.any (·.nonfin)))))) die c (e := d) (us.any (·.pois)) (by rw [Device.write_core_opens, hrun, Device.runUnits_opens])
    (by rw [Device.write_core_done, hrun, Device.runUnits_done])
  refine ⟨mem.trans ?_, done, last⟩
  subst hrun units
  exact Device.write_mem_congr (Device.runUnits_flaws _ _ _ _ flaws) (Device.writes_flaws_clean _ flaws) (Device.runUnits_mem ..)
    ((Device.runUnits_fence ..).trans (by rw [Device.writes_ras])) _ _

theorem devRdrv_writes (desc : w = wordAt (d.descWords (sramDA (c.word 4)) 16)) (head : d.trsHead die [3] = some c) :
    mget 0 (devRdrv die .none d).train.last die = c.seq ∧
      (devRdrv die .none d).core.done = (d.finish c (if ((List.range (fld (w 8) 23 0)).map (rdrvRecord d w)).any (·.pois) then stPoisoned else stDone)).core.done ∧
      (devRdrv die .none d).core.mem = (d.writes (((List.range (fld (w 8) 23 0)).map (rdrvRecord d w)).flatMap (·.ws))).core.mem := by
  rw [devRdrv_runs good flaws watch desc head]
  obtain ⟨mem, -, last, done⟩ := Device.trsEnd_runs (d.runUnits die (fld (w 8) 23 0) (rdrvRecord d w)).1 die c (e := d)
    (d.runUnits die (fld (w 8) 23 0) (rdrvRecord d w)).2.2 (Device.runUnits_opens ..) (Device.runUnits_done ..)
  exact ⟨last, done, mem.trans (Device.runUnits_mem ..)⟩

theorem devDigest_writes (head : d.trsHead die [4] = some c) {v : Nat} {p : Bool}
    (crc : v = (d.digestData c).foldl (fun r l => crc64Run r (values l)) 0)
    (pois : p = ((d.digestData c).any anyPoison || anyPoison (d.readBytes (sramDA (c.word 4)) (16 * cCount c)))) :
    mget 0 (devDigest die .none d).train.last die = c.seq ∧
      (devDigest die .none d).core.mem = (d.write (sramDA (c.word 6)) (mark p (toBytes 8 v))).core.mem ∧
      (devDigest die .none d).core.done = (d.finish c (if p then stPoisoned else stDone)).core.done ∧
      (devDigest die .none d).reg (trsReg die 0x20) = lo32 v ∧ (devDigest die .none d).reg (trsReg die 0x24) = hi32 v := by
  obtain ⟨written, hwritten⟩ : ∃ e : Device, e = (d.progressN (wTrs die) (cCount c)).write (sramDA (c.word 6)) (mark p (toBytes 8 v)) := ⟨_, rfl⟩
  rw [devDigest_runs good flaws watch head crc pois, ← hwritten]
  obtain ⟨mem, regs, last, done⟩ := Device.trsEnd_runs (written.setReg64 (trsReg die 0x20) v) die c (e := d) p
    (by rw [Device.setReg64_core_opens, hwritten, Device.write_core_opens, Device.progressN_core_opens])
    (by rw [Device.setReg64_core_done, hwritten, Device.write_core_done, Device.progressN_core_done])
  have apart : trsReg die 0x20 ≠ trsReg die 0x20 + 4 := by omega
  have upper : trsReg die 0x24 = trsReg die 0x20 + 4 := by simp only [trsReg, dreg, regKey, Nat.add_assoc]
  refine ⟨last, mem.trans ?_, done, ?_, ?_⟩
  · rw [Device.setReg64_core_mem, hwritten]
    exact Device.write_mem_congr (by rw [Device.progressN_core_flaws, flaws]) flaws (Device.progressN_core_mem ..) rfl _ _
  · rw [Device.reg_of_regs regs, Device.setReg64, Device.reg_setReg, if_neg apart, Device.reg_setReg_self]
  · rw [Device.reg_of_regs regs, Device.setReg64, upper, Device.reg_setReg_self]

section
variable (desc : w = wordAt (d.descWords (sramDA (c.word 4)) 16)) (head : d.trsHead die [5] = some c)
include desc head

theorem devPack_writes {first body : List PByte} {cs : List (List Byte × Bool)} {w' : Nat → Word} {p : Bool}
    (copied : first = if fld (w 5) 31 24 = 3 then Machine.clean (stepBody d die)
      else if fld (w 5) 31 24 = 2 then d.readBytes (sramDA (w 8)) 64 else [])
    (packed : cs = if fld (w 5) 31 24 = 3 then [] else packChunks d w)
    (words : w' = if fld (w 5) 31 24 = 3 then (fun k => if k = 4 ∨ k = 6 then 0 else w k) else w) (room : 32 + first.length ≤ (w 7).toNat)
    (fits : packFit (w 7).toNat (32 + first.length) 0 cs = (body, none)) (pois : p = (anyPoison first || cs.any (·.2))) :
    mget 0 (devPack die .none d).train.last die = c.seq ∧
      (devPack die .none d).core.done = (d.finish c (if p then stPoisoned else stDone)).core.done ∧
      (devPack die .none d).core.mem = ((d.write (pairDA w 2 + 32) (first ++ body)).write (pairDA w 2) (mark p (packHeader w'
        (d.reg (dreg die 11 8)) (32 + (first ++ body).length) (values (first ++ body))))).core.mem ∧
      (devPack die .none d).reg (trsReg die 0x1C) = wd (32 + (first ++ body).length) := by
  obtain ⟨written, hwritten⟩ : ∃ e : Device, e = ((d.write (pairDA w 2 + 32) (first ++ body)).progressN (wTrs die)
      (if fld (w 5) 31 24 = 3 then 1 else cs.length)).write (pairDA w 2) (mark p (packHeader w' (d.reg (dreg die 11 8))
        (32 + (first ++ body).length) (values (first ++ body)))) := ⟨_, rfl⟩
  rw [devPack_runs good flaws watch desc head copied packed rfl words room fits pois, ← hwritten]
  obtain ⟨mem, regs, last, done⟩ := Device.trsEnd_runs (written.setReg (trsReg die 0x1C) (wd (32 + (first ++ body).length))) die c (e := d) p
    (by rw [Device.setReg_core_opens, hwritten, Device.write_core_opens, Device.progressN_core_opens, Device.write_core_opens])
    (by rw [Device.setReg_core_done, hwritten, Device.write_core_done, Device.progressN_core_done, Device.write_core_done])
  refine ⟨last, done, mem.trans ?_, ?_⟩
  · rw [Device.setReg_core_mem, hwritten]
    exact Device.write_mem_congr (by rw [Device.progressN_core_flaws, Device.write_flaws_clean flaws]) (Device.write_flaws_clean flaws _ _)
      (Device.progressN_core_mem ..) (Device.progressN_fence ..) _ _
  · rw [Device.reg_of_regs regs, Device.reg_setReg_self]

end

end

/-- What a faulted unit leaves: the record, the event, and the end of its command with FAULT. -/
theorem Device.trsEnd_faults {e : Device} {die cause i : Nat} {c : Cmd} {flt : UnitFault} {p : Bool}
    (h : flt = .feedError i ∧ cause = 3 ∨ flt = .unitCheck i ∧ cause = 4) :
    e.trsEnd die c flt p stDone = (e.trsPoison die c p).trsFault die c cause i := by
  obtain ⟨rfl, rfl⟩ | ⟨rfl, rfl⟩ := h <;> rfl

theorem Device.trsPoison_codes (d : Device) (die : Nat) (c : Cmd) (p : Bool) :
    (d.trsPoison die c p).core.evq.map Event.code = d.core.evq.map Event.code ++ if p = true then [0x0505] else [] := by
  cases p
  · exact (List.append_nil _).symm
  · simp [Device.trsPoison, Device.post]

/-! A command that breaks a rule is refused, whatever it is. -/

section
variable {d : Device} {die : Nat} {c : Cmd} {x : Nat × Nat} (bad : d.trsStops die c = some x)
include bad

theorem devQuant_refused (head : d.trsHead die [1] = some c) : devQuant die .none d = d.trsRefuse die c x := by
  have head := d.trsHead_mono head (many := [1, 0, 6, 7, 8, 9, 10, 11, 12, 13, 14, 15]) (by simp)
  fun_cases devQuant die .none d with
  | case1 h => cases head.symm.trans h
  | case2 _ h _ h' => cases head.symm.trans h; cases bad.symm.trans h'; rfl
  | case3 _ h h' => cases head.symm.trans h; cases bad.symm.trans h'

theorem devStepgate_refused (head : d.trsHead die [2] = some c) : devStepgate die .none d = d.trsRefuse die c x := by
  fun_cases devStepgate die .none d with
  | case1 h => cases head.symm.trans h
  | case2 _ h _ h' => cases head.symm.trans h; cases bad.symm.trans h'; rfl
  | case3 _ h h' => cases head.symm.trans h; cases bad.symm.trans h'
  | case4 _ h h' => cases head.symm.trans h; cases bad.symm.trans h'
  | case5 _ h h' => cases head.symm.trans h; cases bad.symm.trans h'

theorem devRdrv_refused (head : d.trsHead die [3] = some c) : devRdrv die .none d = d.trsRefuse die c x := by
  fun_cases devRdrv die .none d with
  | case1 h => cases head.symm.trans h
  | case2 _ h _ h' => cases head.symm.trans h; cases bad.symm.trans h'; rfl
  | case3 _ h h' => cases head.symm.trans h; cases bad.symm.trans h'

theorem devDigest_refused (head : d.trsHead die [4] = some c) : devDigest die .none d = d.trsRefuse die c x := by
  fun_cases devDigest die .none d with
  | case1 h => cases head.symm.trans h
  | case2 _ h _ h' => cases head.symm.trans h; cases bad.symm.trans h'; rfl
  | case3 _ h h' => cases head.symm.trans h; cases bad.symm.trans h'

theorem devPack_refused (head : d.trsHead die [5] = some c) : devPack die .none d = d.trsRefuse die c x := by
  fun_cases devPack die .none d with
  | case1 h => cases head.symm.trans h
  | case2 _ h _ h' => cases head.symm.trans h; cases bad.symm.trans h'; rfl
  | case3 _ h h' => cases head.symm.trans h; cases bad.symm.trans h'
  | case4 _ h h' => cases head.symm.trans h; cases bad.symm.trans h'
  | case5 _ h h' => cases head.symm.trans h; cases bad.symm.trans h'

end

/-- Each of the five commands at the head of a die's queue that breaks a rule is refused. -/
theorem trsRefuses {s : State} {d : Fin 4} {c : Cmd} {x : Nat × Nat} {top : Nat} {i : Instr}
    (hi : (top, i) ∈ [(1, Instr.quant d .none), (2, .stepgate d .none), (3, .rdrv d .none), (4, .digest d .none), (5, .pack d .none)])
    (head : s.dev.trsHead d.val [top] = some c) (bad : s.dev.trsStops d.val c = some x) (idle : s.dev.busyUnits = []) :
    exec i s = .next (s.withDev (s.dev.trsRefuse d.val c x)) := by
  have run {j : Instr} {f : Device → Device} (effect : ordinaryEffect j s = s.withDev (f s.dev)) (h : f s.dev = s.dev.trsRefuse d.val c x) :
      ordinary j s = .next (s.withDev (s.dev.trsRefuse d.val c x)) := by
    rw [ordinary_idle j s idle, effect, h]
  simp only [List.mem_cons, Prod.mk.injEq, List.not_mem_nil, or_false] at hi
  obtain ⟨rfl, rfl⟩ | ⟨rfl, rfl⟩ | ⟨rfl, rfl⟩ | ⟨rfl, rfl⟩ | ⟨rfl, rfl⟩ := hi
  · refine run (j := .quant d .none) (f := devQuant d.val .none) rfl ?_
    exact devQuant_refused bad head
  · refine run (j := .stepgate d .none) (f := devStepgate d.val .none) rfl ?_
    exact devStepgate_refused bad head
  · refine run (j := .rdrv d .none) (f := devRdrv d.val .none) rfl ?_
    exact devRdrv_refused bad head
  · refine run (j := .digest d .none) (f := devDigest d.val .none) rfl ?_
    exact devDigest_refused bad head
  · refine run (j := .pack d .none) (f := devPack d.val .none) rfl ?_
    exact devPack_refused bad head

/-- Settles O35: each command without a fault is its writes and then `trsEnd`, which reports it; a fault of a unit ends it through
`trsFault`, and a rule broken through `trsRefuse`. -/
theorem trainingEngineCommandsWrite : Obligations.TrainingEngineCommandsWrite := by
  refine ⟨?_, ?_, ?_, ?_, ?_, ?_, ?_⟩
  · intro s d c w us head good idle flaws watch desc units
    exact ⟨devQuant d.val .none s.dev, ordinary_idle (.quant d .none) s idle, devQuant_writes good flaws watch desc head units⟩
  · intro s d c w head good idle flaws watch desc
    exact ⟨devRdrv d.val .none s.dev, ordinary_idle (.rdrv d .none) s idle, devRdrv_writes good flaws watch desc head⟩
  · intro s d c v p head good idle flaws watch crc pois
    refine ⟨devDigest d.val .none s.dev, ordinary_idle (.digest d .none) s idle, devDigest_writes good flaws watch head ?_ ?_⟩
    · rw [Device.digestData, List.foldl_map, crc]
    · rw [Device.digestData, List.any_map, pois]
      rfl
  · intro s d c w first body p head good idle flaws watch desc kind copied room fits pois
    refine ⟨devPack d.val .none s.dev, ordinary_idle (.pack d .none) s idle, ?_⟩
    exact devPack_writes good flaws watch desc head (copied.trans (if_neg kind).symm) (if_neg kind).symm (if_neg kind).symm room fits pois
  · intro s d c w head good idle flaws watch desc kind room
    have plain (l : List Byte) : values (clean l) = l := by simp [values, clean, Function.comp_def]
    have unmarked (l : List Byte) : anyPoison (clean l) = false := by simp [anyPoison, clean]
    have size (l : List Byte) : (clean l ++ []).length = l.length := by simp [clean]
    obtain ⟨last, done, mem, len⟩ := devPack_writes good flaws watch desc head (p := false) (body := []) (if_pos kind).symm (if_pos kind).symm
      (if_pos kind).symm (by simpa [clean] using room) rfl (by rw [unmarked]; rfl)
    rw [size] at len mem
    rw [List.append_nil, plain] at mem
    exact ⟨devPack d.val .none s.dev, ordinary_idle (.pack d .none) s idle, last, len, done, mem⟩
  · intro e die i cause c flt p h
    rw [Device.trsEnd_faults h]
    obtain ⟨record, index⟩ := (e.trsPoison die c p).trsFault_record die c cause i
    refine ⟨record, index, (Device.trsFault_mem ..).trans (Device.trsPoison_mem ..), Device.trsFault_done _ _ _ _ _ (Device.trsPoison_opens ..)
      (Device.trsPoison_done ..), ?_, ?_⟩
    · exact (Device.trsFault_cids ..).trans (congrArg List.tail (Device.cids_of_queues (Device.trsPoison_queues ..) _))
    · obtain ⟨l, hl⟩ := (e.trsPoison die c p).trsFault_events die c cause i
      rw [hl, Device.trsPoison_codes, List.append_cons _ _ l]
      refine List.take_left' ?_
      cases p <;> simp
  · intro s d c x top i hi head bad idle
    exact ⟨_, trsRefuses hi head bad idle, rfl, Device.refuse_core_mem .., Device.refuse_core_pois .., Device.refuse_core_regs ..⟩

end Sys2Proof.Machine
end

section
/-! O37: MUPD, its issue and its lines (R301 to R303, R321). -/

namespace Sys2Proof.Machine

/-! A running MUPD. -/

/-- The run of a MUPD is set. -/
def Device.setMupd (d : Device) (r : Option MupdRun) : Device := { d with train.mupd := r }

@[simp] theorem Device.setMupd_core (d : Device) (r : Option MupdRun) : (d.setMupd r).core = d.core := by rfl
@[simp] theorem Device.setMupd_mupd (d : Device) (r : Option MupdRun) : (d.setMupd r).train.mupd = r := by rfl

section
variable (d : Device) (die : Nat) (r : PeerReq)

theorem Device.inject_core : (d.inject die r).core = d.core := by
  unfold Device.inject
  split <;> rfl

theorem Device.inject_train : (d.inject die r).train = d.train := by
  unfold Device.inject
  split <;> rfl

end

section
variable (d : Device) (r : MupdRun) (m : Nat)

/-- Members that all have lines are left as they are. -/
theorem Device.mupdEmpty_of_lines {mems : List (Nat × MupdMem)} (h : ∀ x ∈ mems, x.2.left ≠ 0) (run : d.train.mupd = some r) :
    d.mupdEmpty mems = d := by
  induction mems with
  | nil => rfl
  | cons x mems ih =>
    obtain ⟨m, x⟩ := x
    have more : x.left ≠ 0 := h (m, x) (by simp)
    rw [Device.mupdEmpty, run]
    dsimp only
    rw [if_neg more, ih fun y hy => h y (by simp [hy])]

/-- The lines that a member of a MUPD has to do. -/
def Device.mupdLines (d : Device) (c : Cmd) (m : Nat) : Nat :=
  linesOn m (pairDA (wordAt (d.descWords (sramDA (c.word 4)) 16)) 0) (mLines (wordAt (d.descWords (sramDA (c.word 4)) 16)))

/-- The run of a MUPD as it issues. -/
def Device.mupdOf (d : Device) (c : Cmd) : MupdRun :=
  { cmd := c, D := d.descWords (sramDA (c.word 4)) 16, mems := (mupdChans c).map (fun m => (m, { left := d.mupdLines c m })) }

theorem devMupd_issues {c : Cmd} (head : d.ready qMupd = some c) (idle : d.train.mupd = none) (runs : d.runs wMupd = true)
    (good : mupdBad d c = none) (lines : ∀ m ∈ mupdChans c, 0 < d.mupdLines c m) :
    devMupd d = (d.popCmd qMupd).setMupd (some (d.mupdOf c)) := by
  fun_cases devMupd d with
  | case1 h => cases head.symm.trans h
  | case2 _ h busy => simp [idle, runs] at busy
  | case3 _ h _ ev h' =>
    cases head.symm.trans h
    cases good.symm.trans h'
  | case4 _ h _ h' D w mems e =>
    cases head.symm.trans h
    refine Device.mupdEmpty_of_lines _ (d.mupdOf c) (fun x hx => ?_) rfl
    obtain ⟨m, hm, rfl⟩ := List.mem_map.mp hx
    exact Nat.ne_of_gt (lines m hm)

end

/-! One line (R302). -/

theorem length_flatMap_four {α : Type} {l : List α} {f : α → List PByte} (h : ∀ x ∈ l, (f x).length = 4) : (l.flatMap f).length = 4 * l.length := by
  induction l with
  | nil => rfl
  | cons x l ih =>
    rw [List.flatMap_cons, List.length_append, h x (by simp), ih fun y hy => h y (by simp [hy]), List.length_cons]
    omega

theorem toBytes_length (n v : Nat) : (toBytes n v).length = n := by
  induction n generalizing v with
  | zero => rfl
  | succ n ih => simp [toBytes, ih]

theorem mark_length (p : Bool) (l : List Byte) : (mark p l).length = l.length := by simp [mark]

theorem mupdLine_length (d : Device) (r : MupdRun) (line : Nat) : (mupdLine d r line).1.length = 64 ∧ (mupdLine d r line).2.1.length = 64 := by
  unfold mupdLine
  dsimp only
  constructor
  · rw [length_flatMap_four fun x _ => by rw [mark_length, toBytes_length], List.length_map, List.length_range]
  · rw [length_flatMap_four fun x _ => by rw [mark_length, toBytes_length], List.length_map, List.length_range]

/-! A line that is written (R303). -/

section
variable (d : Device) (r : MupdRun) (m line : Nat) (x : MupdMem)

/-- The device when a line, and its staging words where XEN is set, have been written. -/
def Device.mupdStored : Device :=
  if bit (r.cmd.word 3) 26
  then (d.write (pairDA (wordAt r.D) 0 + 64 * line) (mupdLine d r line).1).write (pairDA (wordAt r.D) 7 + 64 * line) (mupdLine d r line).2.1
  else d.write (pairDA (wordAt r.D) 0 + 64 * line) (mupdLine d r line).1

/-- What a line's arithmetic met is noted and the line counted. -/
def Device.mupdNoted (c : Cmd) (n : NumNote) (p : Bool) : Device :=
  if p then ((d.note (mreg 2 0xE000) (uMrd m) n).progress wMupd).post 0x0505 (uMrd m) (trsData c)
  else (d.note (mreg 2 0xE000) (uMrd m) n).progress wMupd

/-- The device after a line's write. -/
def Device.mupdWritten : Device :=
  (d.mupdStored r line).mupdNoted m r.cmd (mupdLine d r line).2.2 (anyPoison (mupdLine d r line).1 && !r.pois)

/-- A member after one more line. -/
def MupdMem.next (p : Bool) : MupdMem := { left := x.left - 1, pois := x.pois || p }

/-- The run after one more line of one member. -/
def MupdRun.next (p : Bool) : MupdRun :=
  { r with pois := r.pois || p, lines := sinsert line r.lines, asks := mset {} r.asks line {}
           mems := r.mems.map (fun q => if q.1 = m then (m, x.next p) else q) }

@[simp] theorem Device.mupdStored_opens : (d.mupdStored r line).core.opens = d.core.opens := by
  unfold Device.mupdStored
  split <;> simp

@[simp] theorem Device.mupdStored_done : (d.mupdStored r line).core.done = d.core.done := by
  unfold Device.mupdStored
  split <;> simp

@[simp] theorem Device.mupdNoted_mem (c : Cmd) (n : NumNote) (p : Bool) : (d.mupdNoted m c n p).core.mem = d.core.mem := by
  unfold Device.mupdNoted
  split <;> simp

@[simp] theorem Device.mupdNoted_opens (c : Cmd) (n : NumNote) (p : Bool) : (d.mupdNoted m c n p).core.opens = d.core.opens := by
  unfold Device.mupdNoted
  split <;> simp

@[simp] theorem Device.mupdNoted_done (c : Cmd) (n : NumNote) (p : Bool) : (d.mupdNoted m c n p).core.done = d.core.done := by
  unfold Device.mupdNoted
  split <;> simp

@[simp] theorem Device.mupdWritten_mem : (d.mupdWritten r m line).core.mem = (d.mupdStored r line).core.mem := Device.mupdNoted_mem ..
@[simp] theorem Device.mupdWritten_opens : (d.mupdWritten r m line).core.opens = d.core.opens := by simp [Device.mupdWritten]
@[simp] theorem Device.mupdWritten_done : (d.mupdWritten r m line).core.done = d.core.done := by simp [Device.mupdWritten]

end

/-- How a line ends: the unit has failed, the member is done, or it goes on. -/
def Device.mupdEnd (d : Device) (r : MupdRun) (m line : Nat) (x : MupdMem) (flt : UnitFault) : Device :=
  match flt with
  | .feedError _ => d.mupdFault r m line 3
  | .unitCheck _ => d.mupdFault r m line 4
  | .none => if x.left = 0 then d.mupdMember r m (if x.pois then stPoisoned else stDone) else d.setMupd (some r)

section
variable {d : Device} {r : MupdRun} {m line : Nat} {x : MupdMem}

section
variable (flaws : d.core.flaws = []) (watch : d.core.watch = none)
include flaws watch

theorem Device.mupdWrite_clean (flt : UnitFault) :
    d.mupdWrite r m line x flt = (d.mupdWritten r m line).mupdEnd (r.next m line x (anyPoison (mupdLine d r line).1)) m line
      (x.next (anyPoison (mupdLine d r line).1)) flt :=
  congrArg (fun e : Device => (e.mupdWritten r m line).mupdEnd (r.next m line x (anyPoison (mupdLine e r line).1)) m line
    (x.next (anyPoison (mupdLine e r line).1)) flt) (d.coder_clean _ _ flaws watch)

end

section
variable (run : d.train.mupd = some r) (found : r.mems.find? (fun p => p.1 == m) = some (m, x)) (inside : line < mLines (wordAt r.D))
  (own : t1Stack (pairDA (wordAt r.D) 0 + 64 * line) = m) (fresh : r.lines.contains line = false) (runs : d.runs wMupd = true)
include run found inside own fresh runs

omit run found in
/-- Nothing keeps the line from being updated. -/
theorem mupdLine_free (asked : (mget {} r.asks line : MupdAsk).need = []) :
    ¬ (line ≥ mLines (wordAt r.D) ∨ t1Stack (pairDA (wordAt r.D) 0 + 64 * line) ≠ m ∨ r.lines.contains line ∨ !d.runs wMupd ∨
      (mget {} r.asks line : MupdAsk).need ≠ []) := by
  rw [fresh, runs]
  rintro (h | h | h | h | h)
  · exact absurd inside (Nat.not_lt.mpr h)
  · exact h own
  · cases h
  · cases h
  · exact h asked

theorem devMasterLineUpdate_writes (flt : UnitFault) (near : regionOf (deltaDA (wordAt r.D) line) ≠ 0xE)
    (asked : (mget {} r.asks line : MupdAsk).need = []) :
    devMasterLineUpdate m line flt d = d.mupdWrite r m line x flt := by
  fun_cases devMasterLineUpdate m line flt d with
  | case1 h => cases run.symm.trans h
  | case2 _ h h' =>
    cases run.symm.trans h
    cases found.symm.trans h'
  | case3 _ h _ _ _ h' _ busy =>
    cases run.symm.trans h
    exact absurd busy (mupdLine_free inside own fresh runs asked)
  | case4 _ h w _ _ h' ask peer _ far =>
    cases run.symm.trans h
    have same : peer = false := beq_eq_false_iff_ne.mpr near
    rw [same] at far
    cases far
  | case5 _ h w _ _ h' =>
    cases run.symm.trans h
    cases found.symm.trans h'
    rfl

theorem devMasterLineUpdate_asks (flt : UnitFault) (far : regionOf (deltaDA (wordAt r.D) line) = 0xE) (asked : (mget {} r.asks line : MupdAsk) = {}) :
    devMasterLineUpdate m line flt d =
      (d.setMupd (some { r with asks := mset {} r.asks line { need := peerReads (deltaDA (wordAt r.D) line) 64 } })).mupdRead r.cmd.cid line m
        ((peerReads (deltaDA (wordAt r.D) line) 64).headD (0, 0)) := by
  fun_cases devMasterLineUpdate m line flt d with
  | case1 h => cases run.symm.trans h
  | case2 _ h h' =>
    cases run.symm.trans h
    cases found.symm.trans h'
  | case3 _ h _ _ _ h' _ busy =>
    cases run.symm.trans h
    exact absurd busy (mupdLine_free inside own fresh runs (congrArg MupdAsk.need asked))
  | case4 _ h w _ _ h' ask peer _ far =>
    cases run.symm.trans h
    rfl
  | case5 _ h w _ _ h' ask peer _ near =>
    cases run.symm.trans h
    have same : ask = {} := asked
    have same' : peer = true := beq_iff_eq.mpr far
    rw [same, same'] at near
    exact absurd rfl near

end

end

/-! How a member ends (R303), and what a unit's failure leaves (R321). -/

section
variable (d : Device) (r : MupdRun) (m status : Nat)

theorem Device.mupdMember_done {e : Device} (opens : d.core.opens = e.core.opens) (done : d.core.done = e.core.done) :
    (d.mupdMember r m status).core.done = (e.completePart r.cmd.cid 1 status (if status = 0 then 0 else 1) (uMrd m)).core.done :=
  Device.completePart_done_congr _ _ _ _ _ opens done

/-- The run without the member. -/
def MupdRun.without : MupdRun := { r with mems := r.mems.filter (fun p => p.1 != m) }

theorem Device.mupdMember_train : (d.mupdMember r m status).train.mupd = (if (r.without m).mems.isEmpty then none else some (r.without m)) ∧
    (d.mupdMember r m status).train.mlast = (if (r.without m).mems.isEmpty then r.cmd.seq else d.train.mlast) := by
  unfold Device.mupdMember
  rw [Device.completePart_train]
  exact ⟨rfl, rfl⟩

theorem MupdRun.mem_without {q : Nat × MupdMem} : q ∈ (r.without m).mems ↔ q ∈ r.mems ∧ q.1 ≠ m := by
  simp [MupdRun.without]

theorem MupdRun.mem_next_without {line : Nat} {x : MupdMem} {p : Bool} {q : Nat × MupdMem} :
    q ∈ ((r.next m line x p).without m).mems ↔ q ∈ r.mems ∧ q.1 ≠ m := by
  rw [MupdRun.mem_without]
  constructor
  · rintro ⟨hq, other⟩
    obtain ⟨q', hq', rfl⟩ := List.mem_map.mp hq
    by_cases own : q'.1 = m
    · rw [if_pos own] at other
      exact absurd rfl other
    · rw [if_neg own]
      exact ⟨hq', own⟩
  · rintro ⟨hq, other⟩
    exact ⟨List.mem_map.mpr ⟨q, hq, if_neg other⟩, other⟩

theorem Device.mupdStop_train : (d.mupdStop r).train.mupd = none := by
  unfold Device.mupdStop
  rw [Device.completePart_train]

theorem Device.mupdStop_reg (k : Nat) : (d.mupdStop r).reg k = d.reg k := by
  unfold Device.mupdStop
  rw [Device.reg_completePart]
  rfl

theorem Device.mupdFault_train (line cause : Nat) : (d.mupdFault r m line cause).train.mupd = none := Device.mupdStop_train ..

theorem Device.mupdFault_reg (line cause : Nat) : (d.mupdFault r m line cause).reg (mreg 2 0x10) = wd (2 ^ 31 + cause * 2 ^ 28 + r.cmd.seq) := by
  unfold Device.mupdFault
  dsimp only
  have apart : mreg 2 0x10 ≠ mreg 2 0x14 := by decide
  rw [Device.mupdStop_reg, Device.reg_post, Device.reg_setReg, if_neg apart, Device.reg_setReg_self]

end

/-- Settles O37: the issue sets the run of each member's lines; a line update is `mupdWrite` on the clean device, or asks for its deltas;
its end goes on, ends the member, or stops the whole command. -/
theorem masterUpdateRuns : Obligations.MasterUpdateRuns := by
  unfold Obligations.MasterUpdateRuns
  refine ⟨?_, ?_, ?_, ?_, mupdLine_length⟩
  · intro s c head idle runs good lines
    refine ⟨_, congrArg (fun t => Host.Outcome.next (s.withDev t)) (devMupd_issues _ head idle runs good lines), rfl, s.dev.mupdOf c, rfl, rfl, rfl,
      rfl, rfl, ?_⟩
    exact (List.map_map ..).trans (List.map_id _)
  · intro s m line r x run found inside own fresh runs more free flaws watch near asked
    have effect := ordinary_idle (.masterLineUpdate m line .none) s free
    have written := (devMasterLineUpdate_writes run found inside own fresh runs .none near asked).trans (Device.mupdWrite_clean flaws watch .none)
    have goesOn : (x.next (anyPoison (mupdLine s.dev r line).1)).left ≠ 0 := Nat.sub_ne_zero_of_lt more
    refine ⟨_, effect.trans (congrArg (fun t => Host.Outcome.next (s.withDev t)) (written.trans (if_neg goesOn))), ?_, _, rfl, ?_, rfl⟩
    · rw [Device.setMupd_core, Device.mupdWritten_mem]
      rfl
    · exact List.contains_iff_mem.mpr (mem_sinsert.mpr (.inl rfl))
  · intro s m line r x run found inside own fresh runs free far asked
    have effect := ordinary_idle (.masterLineUpdate m line .none) s free
    have asks := devMasterLineUpdate_asks run found inside own fresh runs .none far asked
    refine ⟨_, effect.trans (congrArg (fun t => Host.Outcome.next (s.withDev t)) asks), ?_, ?_,
      { r with asks := mset {} r.asks line { need := peerReads (deltaDA (wordAt r.D) line) 64 } }, ?_, rfl, rfl, mget_mset_self ..⟩
    · exact congrArg Core.mem (Device.inject_core ..)
    · exact congrArg Core.regs (Device.inject_core ..)
    · exact congrArg Train.mupd (Device.inject_train ..)
  · intro s m line st r x run found inside own fresh runs last free flaws watch near asked status
    have written := fun flt => (devMasterLineUpdate_writes run found inside own fresh runs flt near asked).trans (Device.mupdWrite_clean flaws watch flt)
    have effect := fun flt => ordinary_idle (.masterLineUpdate m line flt) s free
    refine ⟨?_, fun k => ⟨_, (effect _).trans (congrArg (fun t => Host.Outcome.next (s.withDev t)) (written (.unitCheck k))),
      Device.mupdFault_train .., Device.mupdFault_reg ..⟩⟩
    have ends : (x.next (anyPoison (mupdLine s.dev r line).1)).left = 0 := Nat.sub_eq_zero_of_le (Nat.le_of_eq last)
    have stands : (if (x.next (anyPoison (mupdLine s.dev r line).1)).pois then stPoisoned else stDone) = st := by
      simp [status, MupdMem.next]
    obtain ⟨member, mlast⟩ := Device.mupdMember_train (s.dev.mupdWritten r m line) (r.next m line x (anyPoison (mupdLine s.dev r line).1)) m st
    have left : ∀ q : Nat × MupdMem, q ∈ ((r.next m line x (anyPoison (mupdLine s.dev r line).1)).without m).mems ↔ q ∈ r.mems ∧ q.1 ≠ m.val :=
      fun q => r.mem_next_without m
    refine ⟨_, (effect _).trans (congrArg (fun t => Host.Outcome.next (s.withDev t)) ((written .none).trans (if_pos ends))), ?_, ?_, ?_⟩
    · rw [stands]
      exact Device.mupdMember_done _ _ _ _ (Device.mupdWritten_opens ..) (Device.mupdWritten_done ..)
    · rintro ⟨q, hq, other⟩
      rw [stands, member]
      refine ⟨_, if_neg ?_, fun q hq => ((left q).mp hq).2, fun q hq other => (left q).mpr ⟨hq, other⟩⟩
      exact fun empty => List.not_mem_nil (List.isEmpty_iff.mp empty ▸ (left q).mpr ⟨hq, other⟩)
    · intro all
      have empty : ((r.next m line x (anyPoison (mupdLine s.dev r line).1)).without m).mems.isEmpty = true :=
        List.isEmpty_iff.mpr (List.eq_nil_iff_forall_not_mem.mpr fun q hq => ((left q).mp hq).2 (all q ((left q).mp hq).1))
      rw [stands, member, mlast]
      exact ⟨if_pos empty, if_pos empty⟩

end Sys2Proof.Machine
end

section
/-! O59: register accesses (R31, R32), step aborts (R482) and service (R488, R490). -/

namespace Sys2Proof.Machine

/-! What a write does beside storing (R265, R289, R467, R480). -/

/-- What no write of a register changes beside registers: memory, queues, the banks in use and whether BAR0 is served. -/
structure Device.Beside (d e : Device) : Prop where
  mem : e.core.mem = d.core.mem
  queues : e.core.queues = d.core.queues
  slip : e.slip = d.slip
  hif : e.hif = d.hif
  fence : e.ras.fence = d.ras.fence

theorem Device.Beside.refl (d : Device) : d.Beside d := ⟨rfl, rfl, rfl, rfl, rfl⟩

theorem Device.Beside.cePost (d : Device) (l : List (Nat × Bool)) : d.Beside { d with core.cePost := l } := ⟨rfl, rfl, rfl, rfl, rfl⟩

theorem Device.Beside.ceTest {d e : Device} (h : d.Beside e) (cnt thr code unit : Nat) : d.Beside (e.ceTest cnt thr code unit) :=
  ⟨by simp [h.mem], by simp [h.queues], by simp [h.slip], by simp [h.hif], by simp [h.fence]⟩

theorem Device.Beside.setReg {d e : Device} (h : d.Beside e) (k : Nat) (v : Word) : d.Beside (e.setReg k v) :=
  ⟨by simp [h.mem], by simp [h.queues], by simp [h.slip], by simp [h.hif], by simp [h.fence]⟩

theorem Device.Beside.hostOpen {d e : Device} (h : d.Beside e) : e.hostOpen = d.hostOpen := by
  simp [Device.hostOpen, Device.memSpace, h.hif, h.fence]

theorem Device.Beside.busyUnits {d e : Device} (h : d.Beside e) : e.busyUnits = d.busyUnits := by
  simp [Device.busyUnits, h.slip]

section
variable (d : Device)

/-- The registers that the answer to a crossed threshold changes. -/
def serviceRegs : List Nat := [mreg 1 4, mreg 2 4, rasReg 0x40]

theorem Device.advise_reg {k : Nat} (n unit who : Nat) (other : k ≠ rasReg 0x40) : (d.advise n unit who).reg k = d.reg k := by
  unfold Device.advise
  rw [Device.reg_post, Device.reg_setReg]
  exact if_neg other

/-- The time of a crossed threshold is kept. -/
def Device.crossedNow (d : Device) (i : Nat) : Device := { d with core.crossed := mset none d.core.crossed i (some (d.time 0)) }

/-- Whether a threshold was crossed within the last 24 h. -/
def Device.crossedLately (d : Device) (i : Nat) : Bool :=
  match mget none d.core.crossed i with
  | some t => decide (d.time 0 ≤ t + 24 * 3600 * 10 ^ 9)
  | none => false

/-- The tiers that are scrubbed every hour are set. -/
def Device.setHourly (d : Device) (l : List Nat) : Device := { d with core.hourly := l }

/-- A tier is scrubbed every hour. -/
def Device.scrubHourly (d : Device) (tier : Nat) : Device :=
  (d.setReg (mreg (1 + tier) 4) (setFld (d.reg (mreg (1 + tier) 4)) 7 0 1)).setHourly (sinsert tier d.core.hourly)

/-- The tier whose threshold an event names. -/
def tierOfCe (code : Nat) : Nat := if code = 0x040D then 0 else 1

theorem tierOfCe_lt (code : Nat) : tierOfCe code < 2 := by
  unfold tierOfCe
  split <;> decide

theorem Device.answerCe_eq_ite (code unit : Nat) : d.answerCe code unit =
    if d.crossedLately (8 * tierOfCe code + unit / 2 ^ 23 % 32)
    then (d.crossedNow (8 * tierOfCe code + unit / 2 ^ 23 % 32)).advise (tierOfCe code) unit (unit / 2 ^ 23 % 32)
    else (d.crossedNow (8 * tierOfCe code + unit / 2 ^ 23 % 32)).scrubHourly (tierOfCe code) := rfl

theorem Device.setHourly_reg (l : List Nat) (k : Nat) : (d.setHourly l).reg k = d.reg k := rfl

theorem Device.setHourly_evq (l : List Nat) : (d.setHourly l).core.evq = d.core.evq := rfl

theorem Device.scrubHourly_evq (tier : Nat) : (d.scrubHourly tier).core.evq = d.core.evq := by
  rw [Device.scrubHourly, Device.setHourly_evq, Device.setReg_core_evq]

theorem Device.scrubHourly_reg (tier k : Nat) :
    (d.scrubHourly tier).reg k = if k = mreg (1 + tier) 4 then setFld (d.reg (mreg (1 + tier) 4)) 7 0 1 else d.reg k := by
  rw [Device.scrubHourly, Device.setHourly_reg, Device.reg_setReg]

theorem Device.answerCe_reg {k : Nat} (code unit : Nat) (other : k ∉ serviceRegs) : (d.answerCe code unit).reg k = d.reg k := by
  obtain ⟨notT1, notT2, notSvc⟩ : k ≠ mreg 1 4 ∧ k ≠ mreg 2 4 ∧ k ≠ rasReg 0x40 := by simpa [serviceRegs] using other
  have notTier : ∀ tier < 2, k ≠ mreg (1 + tier) 4
    | 0, _ => notT1
    | 1, _ => notT2
  rw [Device.answerCe_eq_ite]
  split
  · exact Device.advise_reg _ _ _ _ notSvc
  · rw [Device.scrubHourly_reg, if_neg (notTier _ (tierOfCe_lt code))]
    rfl

theorem Device.ceTest_reg {k : Nat} (cnt thr code unit : Nat) (other : k ∉ serviceRegs) : (d.ceTest cnt thr code unit).reg k = d.reg k := by
  fun_cases Device.ceTest d cnt thr code unit with
  | case1 => exact Device.answerCe_reg _ _ _ other
  | case2 => rfl

theorem Device.regAfter_reg {k own blk off : Nat} (v : Word) (other : own = 8 → blk = 1 ∨ blk = 2 → 0x1000 ≤ off → k ∉ serviceRegs) :
    (d.regAfter own blk off v).reg k = d.reg k := by
  fun_cases Device.regAfter d own blk off v with
  | case1 | case2 | case5 | case6 | case9 | case10 | case11 | case12 | case13 => rfl
  | case3 module _ _ _ inside =>
    exact Device.ceTest_reg _ _ _ _ _ (other (not_not.mp module) (.inl rfl) (by omega))
  | case4 module _ _ inside =>
    exact Device.ceTest_reg _ _ _ _ _ (other (not_not.mp module) (.inl rfl) (by omega))
  | case7 module _ _ _ inside =>
    exact Device.ceTest_reg _ _ _ _ _ (other (not_not.mp module) (.inr rfl) (by omega))
  | case8 module _ _ inside =>
    exact Device.ceTest_reg _ _ _ _ _ (other (not_not.mp module) (.inr rfl) (by omega))

theorem Device.regAfter_beside (own blk off : Nat) (v : Word) : d.Beside (d.regAfter own blk off v) := by
  fun_cases Device.regAfter d own blk off v with
  | case1 | case2 | case5 | case6 | case9 | case10 | case11 | case12 | case13 => exact ⟨rfl, rfl, rfl, rfl, rfl⟩
  | case3 | case7 => exact (Device.Beside.cePost d _).ceTest ..
  | case4 | case8 => exact (Device.Beside.refl d).ceTest ..

theorem Device.Beside.trans {d e f : Device} (h : d.Beside e) (h' : e.Beside f) : d.Beside f :=
  ⟨h'.mem.trans h.mem, h'.queues.trans h.queues, h'.slip.trans h.slip, h'.hif.trans h.hif, h'.fence.trans h.fence⟩

theorem Device.storeReg_beside (ag : Agent) (key : Nat) (v : Word) : d.Beside (d.storeReg ag key v) := by
  fun_cases Device.storeReg d ag key v with
  | case1 | case2 => exact .refl d
  | case3 => exact ((Device.Beside.refl d).setReg ..).trans (Device.regAfter_beside ..)

end

/-! What a register is written with (R31). -/

section
variable {own blk off : Nat} (hblk : blk < 16) (hoff : off < 0x10000)
include hblk hoff

theorem regKey_own : regKey own blk off / 2 ^ 20 = own := by
  unfold regKey
  omega

theorem regKey_blk : regKey own blk off / 2 ^ 16 % 16 = blk := by
  unfold regKey
  omega

omit hblk in
theorem regKey_off : regKey own blk off % 2 ^ 16 = off := by
  unfold regKey
  omega

omit hblk in
/-- The registers that the answer to a crossed threshold changes lie below those whose write may cross one. -/
theorem regKey_not_service (high : 0x1000 ≤ off) : regKey own blk off ∉ serviceRegs := by
  simp only [serviceRegs, rasReg, mreg, regKey, List.mem_cons, List.not_mem_nil, or_false]
  omega

theorem Device.storeReg_stores {d : Device} {ag : Agent} {r : RegRow} (v : Word) (found : findReg (regKey own blk off) = some r) (writes : r.w ≠ 0)
    (keeps : r.w1 = 0) (may : r.mgmt = true → ag = .mgmt) (free : d.regHeld own blk off = false) (writable : d.regWritable own blk off = true)
    (inside : ∀ x, regClamp own blk off x = x) :
    d.storeReg ag (regKey own blk off) v =
      (d.setReg (regKey own blk off) ((d.reg (regKey own blk off) &&& ~~~(wd r.w)) ||| (v &&& wd r.w))).regAfter own blk off v := by
  fun_cases Device.storeReg d ag (regKey own blk off) v with
  | case1 h => cases found.symm.trans h
  | case2 _ h own' blk' off' refused =>
    cases found.symm.trans h
    have allowed : ¬ ((r.w = 0 ∧ r.w1 = 0) ∨ (r.mgmt ∧ ag ≠ .mgmt) ∨ d.regHeld own' blk' off' ∨ !d.regWritable own' blk' off') := by
      rw [show own' = own from regKey_own hblk hoff, show blk' = blk from regKey_blk hblk hoff, show off' = off from regKey_off hoff, free,
        writable]
      rintro (⟨h, _⟩ | ⟨h, other⟩ | h | h)
      · exact writes h
      · exact other (may h)
      · cases h
      · cases h
    exact absurd refused allowed
  | case3 _ h own' blk' off' _ old new new' =>
    cases found.symm.trans h
    rw [show own' = own from regKey_own hblk hoff, show blk' = blk from regKey_blk hblk hoff, show off' = off from regKey_off hoff, keeps]
    have whole : new' &&& ~~~(v &&& wd 0) = new := by
      have same : new' = new := by
        refine (if_neg writes).trans ?_
        rw [show own' = own from regKey_own hblk hoff, show blk' = blk from regKey_blk hblk hoff, show off' = off from regKey_off hoff]
        exact inside new
      rw [same, show wd 0 = 0#32 from rfl, BitVec.and_zero, BitVec.not_zero, BitVec.and_allOnes]
    rw [whole]

end

/-! One access (R32). -/

section
variable {s : State} {d : Device} {ag : Agent} {off w : Nat} {v : BitVec 64} {p : Bool}

theorem exec_registerWrite (free : s.dev.busyUnits = []) : exec (.registerWrite ag off w v p) s = .next (stRegisterWrite ag off w v p s) :=
  ordinary_idle (.registerWrite ag off w v p) s free

theorem stRegisterWrite_keeps (h : ¬ (ag = .mgmt ∧ ((off = rasReg 4 ∧ w = 4 ∧ v.getLsbD 0) ∨ (off = rasReg 0 ∧ w = 8 ∧ v.getLsbD 32)))) :
    stRegisterWrite ag off w v p s = s.withDev (devRegisterWrite ag off w v p s.dev) := if_neg h

theorem not_shut_of_open (served : ag = .host → d.hostOpen = true) : ¬ (ag = .host ∧ !d.hostOpen) := by
  rintro ⟨host, shut⟩
  rw [served host] at shut
  cases shut

theorem devRegisterWrite_clean (served : ag = .host → d.hostOpen = true) :
    devRegisterWrite ag off w v false d =
      if !regFits off w then d else if w = 4 then d.writeReg ag off (lo32 v.toNat) else d.writeReg64 ag off v := by
  have clean : ¬ (ag = .host ∧ false = true) := fun h => by cases h.2
  exact (if_neg (not_shut_of_open served)).trans (if_neg clean)

theorem regFits_four (inside : off < 2 ^ 24) (aligned : off % 4 = 0) : regFits off 4 = true := by
  rw [regFits, decide_eq_true inside, aligned]
  rfl

theorem regFits_eight (inside : off < 2 ^ 24) (aligned : off % 8 = 0) : regFits off 8 = true := by
  rw [regFits, decide_eq_true inside, aligned]
  rfl

theorem devRegisterWrite_four (served : ag = .host → d.hostOpen = true) (inside : off < 2 ^ 24) (aligned : off % 4 = 0) :
    devRegisterWrite ag off 4 v false d = d.writeReg ag off (lo32 v.toNat) := by
  rw [devRegisterWrite_clean served, regFits_four inside aligned]
  rfl

theorem devRegisterWrite_eight (served : ag = .host → d.hostOpen = true) (inside : off < 2 ^ 24) (aligned : off % 8 = 0) :
    devRegisterWrite ag off 8 v false d = d.writeReg64 ag off v := by
  rw [devRegisterWrite_clean served, regFits_eight inside aligned]
  rfl

theorem devRegisterWrite_unfit (served : ag = .host → d.hostOpen = true) (unfit : regFits off w = false) :
    devRegisterWrite ag off w v false d = d := by
  rw [devRegisterWrite_clean served, unfit]
  rfl

theorem lo32_ofNat (v : Word) : lo32 (BitVec.ofNat 64 v.toNat).toNat = v := by
  have small : v.toNat < 2 ^ 64 := Nat.lt_trans v.isLt (by decide)
  rw [BitVec.toNat_ofNat, Nat.mod_eq_of_lt small]
  exact BitVec.ofNat_toNat _ v

theorem Device.writeReg_acts {e : Device} {v : Word} (acts : d.regAct ag off v = some e) : d.writeReg ag off v = e := by
  rw [Device.writeReg, acts, Option.getD_some]

theorem Device.writeReg_stores {v : Word} (stores : d.regAct ag off v = none) : d.writeReg ag off v = d.storeReg ag off v := by
  rw [Device.writeReg, stores, Option.getD_none]

/-- A write of RAS_DCTL acts on the snapshot alone (R469). -/
theorem Device.regAct_dctl (d : Device) (ag : Agent) (v : Word) : d.regAct ag (rasReg 4) v = some d := by
  obtain ⟨r, found⟩ : ∃ r, findReg (rasReg 4) = some r := ⟨_, rfl⟩
  rw [Device.regAct, found]
  exact congrArg some (ite_self d)

/-- No release where the register written only stores or is not four bytes of RAS_DCTL. -/
theorem not_release_four (h : ag = .mgmt → off = rasReg 4 → v.getLsbD 0 = false) :
    ¬ (ag = .mgmt ∧ ((off = rasReg 4 ∧ 4 = 4 ∧ v.getLsbD 0) ∨ (off = rasReg 0 ∧ 4 = 8 ∧ v.getLsbD 32))) := by
  rintro ⟨mgmt, ⟨dctl, _, set⟩ | ⟨_, wide, _⟩⟩
  · rw [h mgmt dctl] at set
    cases set
  · cases wide

theorem exec_registerWrite_four (free : s.dev.busyUnits = []) (served : ag = .host → s.dev.hostOpen = true) (inside : off < 2 ^ 24)
    (aligned : off % 4 = 0) (h : ag = .mgmt → off = rasReg 4 → v.getLsbD 0 = false) :
    exec (.registerWrite ag off 4 v false) s = .next (s.withDev (s.dev.writeReg ag off (lo32 v.toNat))) := by
  rw [exec_registerWrite free, stRegisterWrite_keeps (not_release_four h), devRegisterWrite_four served inside aligned]

theorem exec_registerWrite_unfit (free : s.dev.busyUnits = []) (served : ag = .host → s.dev.hostOpen = true) (unfit : regFits off w = false) :
    exec (.registerWrite ag off w v false) s = .next s := by
  have still : ¬ (ag = .mgmt ∧ ((off = rasReg 4 ∧ w = 4 ∧ v.getLsbD 0) ∨ (off = rasReg 0 ∧ w = 8 ∧ v.getLsbD 32))) := by
    rintro ⟨_, ⟨rfl, rfl, _⟩ | ⟨rfl, rfl, _⟩⟩
    · exact absurd (show regFits (rasReg 4) 4 = true from rfl) (Bool.eq_false_iff.mp unfit)
    · exact absurd (show regFits (rasReg 0) 8 = true from rfl) (Bool.eq_false_iff.mp unfit)
  rw [exec_registerWrite free, stRegisterWrite_keeps still, devRegisterWrite_unfit served unfit]
  rfl

theorem regFits_false (h : 2 ^ 24 ≤ off ∨ (w ≠ 4 ∧ w ≠ 8) ∨ off % w ≠ 0) : regFits off w = false := by
  rw [Bool.eq_false_iff, regFits, Ne, Bool.and_eq_true, Bool.and_eq_true, Bool.or_eq_true, decide_eq_true_iff, beq_iff_eq, beq_iff_eq, beq_iff_eq]
  omega

end

/-! Registers that act. -/

section
variable (d : Device) (die n : Nat)

theorem Device.dieAct_dmaCtl (hn : n < 32) : d.dieAct die 8 (0x1004 + 64 * n) 3 = some (devPurge die n (devDmaAbort die n d)) := by
  have place : 0x1000 ≤ 0x1004 + 64 * n ∧ 0x1004 + 64 * n < 0x1800 ∧ (0x1004 + 64 * n) % 64 = 4 := by omega
  have channel : (0x1004 + 64 * n - 0x1000) / 64 = n := by omega
  refine (if_pos place).trans ?_
  rw [channel]
  rfl

theorem findReg_dmaCtl : ∀ (die : Fin 4) (n : Fin 32), (findReg (dreg die.val 8 (0x1004 + 64 * n.val))).isSome = true := by decide

variable (chan : Fin 4) (ch : Fin 32)

theorem dmaCtl_inside : dreg chan.val 8 (0x1004 + 64 * ch.val) < 2 ^ 24 := by
  unfold dreg regKey
  omega

theorem dmaCtl_aligned : dreg chan.val 8 (0x1004 + 64 * ch.val) % 4 = 0 := by
  unfold dreg regKey
  omega

theorem dmaCtl_ne_dctl : dreg chan.val 8 (0x1004 + 64 * ch.val) ≠ rasReg 4 := by
  unfold rasReg mreg dreg regKey
  omega

/-- Both bits of DMA_CCTL act, the abort first (R238). -/
theorem Device.regAct_dmaCtl {d : Device} (held : d.regHeld chan.val 8 (0x1004 + 64 * ch.val) = false) :
    d.regAct .mgmt (dreg chan.val 8 (0x1004 + 64 * ch.val)) 3 = some (devPurge chan.val ch.val (devDmaAbort chan.val ch.val d)) := by
  obtain ⟨r, found⟩ := Option.isSome_iff_exists.mp (findReg_dmaCtl chan ch)
  have low : 0x1004 + 64 * ch.val < 0x10000 := by omega
  have notModule : ¬ chan.val = 8 := by omega
  have open_ : ¬ ((r.mgmt = true ∧ Agent.mgmt ≠ .mgmt) ∨ d.regHeld chan.val 8 (0x1004 + 64 * ch.val) = true) := by
    rw [held]
    simp
  rw [Device.regAct, found]
  dsimp only
  rw [dreg, regKey_own (by decide) low, regKey_blk (by decide) low, regKey_off low, if_neg notModule, Device.dieAct_dmaCtl _ _ _ ch.isLt,
    Option.map_some, if_neg open_]

end

section
variable {d : Device} {ag : Agent} {off : Nat}

/-- A register of `mgmt` alone takes no write of another agent. -/
theorem Device.writeReg_closed {r : RegRow} (v : Word) (found : findReg off = some r) (mgmt : r.mgmt = true) (other : ag ≠ .mgmt) :
    d.writeReg ag off v = d := by
  have stored : d.storeReg ag off v = d := by
    fun_cases Device.storeReg d ag off v with
    | case1 | case2 => rfl
    | case3 _ h own blk o open_ =>
      cases found.symm.trans h
      exact absurd (.inr (.inl ⟨mgmt, other⟩)) open_
  have acted : ∀ e, d.regAct ag off v = some e → e = d := by
    rw [Device.regAct, found]
    intro e he
    obtain ⟨e', _, rfl⟩ := Option.map_eq_some_iff.mp he
    exact if_pos (.inl ⟨mgmt, other⟩)
  cases h : d.regAct ag off v with
  | none => rw [Device.writeReg_stores h, stored]
  | some e => rw [Device.writeReg_acts h, acted e h]

/-- The two halves of an access that only store, in order. -/
theorem Device.writeReg64_stores (v : BitVec 64) (table : off ≠ rteReg 0x18) (allot : ∀ die, die < 4 → off / 2 ^ 16 ≠ dreg die 9 0 / 2 ^ 16)
    (stores : ∀ (d : Device) (v : Word), d.regAct ag off v = none ∧ d.regAct ag (off + 4) v = none) :
    d.writeReg64 ag off v = (d.storeReg ag off (lo32 v.toNat)).storeReg ag (off + 4) (hi32 v.toNat) := by
  have place : ¬ (off / 2 ^ 20 < 4 ∧ off / 2 ^ 16 % 16 = 9) := by
    rintro ⟨die, block⟩
    refine allot (off / 2 ^ 20) die ?_
    unfold dreg regKey
    omega
  have notAllot : ∀ a b : Allotment, (if off / 2 ^ 20 < 4 ∧ off / 2 ^ 16 % 16 = 9 then (allotAt (off % 2 ^ 16), allotAt (off % 2 ^ 16 + 4))
      else (none, none)) ≠ (some a, some b) := by
    intro a b
    rw [if_neg place]
    exact fun h => by cases h
  fun_cases Device.writeReg64 d ag off v with
  | case1 at_ => exact absurd at_ table
  | case2 at_ => exact absurd at_ table
  | case3 _ _ _ _ named => exact absurd named (notAllot _ _)
  | case4 _ _ _ _ _ _ named => exact absurd named (notAllot _ _)
  | case5 lo hi own _ d₁ d₂ d₃ _ =>
    have first : d₁ = d.storeReg ag off lo := if_pos (by rw [(stores _ _).1]; rfl)
    have second : d₂ = d₁.storeReg ag (off + 4) hi := if_pos (by rw [(stores _ _).2]; rfl)
    have third : d₃ = d₂ := congrArg (Option.getD · d₂) (stores d₂ lo).1
    rw [(stores d₃ hi).2, Option.getD_none, third, second, first]

end

/-! Registers that reads through coders and writes leave alone (R265, R289). -/

/-- Every register outside the blocks of the two tiers and of service is the same. -/
def Device.KeepsRegs (d e : Device) : Prop := ∀ k, k / 2 ^ 16 ∉ [0x81, 0x82, 0x8A] → e.reg k = d.reg k

namespace Device.KeepsRegs

variable {d e f : Device}

theorem refl (d : Device) : d.KeepsRegs d := fun _ _ => rfl

theorem trans (h : d.KeepsRegs e) (h' : e.KeepsRegs f) : d.KeepsRegs f := fun k hk => (h' k hk).trans (h k hk)

theorem of_regs (h : e.core.regs = d.core.regs) : d.KeepsRegs e := fun k _ => Device.reg_of_regs h k

theorem fold {α : Type} {f : Device → α → Device} (h : ∀ (d : Device) (a : α), d.KeepsRegs (f d a)) (l : List α) (d : Device) : d.KeepsRegs (l.foldl f d) := by
  induction l generalizing d with
  | nil => exact refl d
  | cons a l ih => exact (h d a).trans (ih _)

theorem setReg {k : Nat} (hk : k / 2 ^ 16 ∈ [0x81, 0x82, 0x8A]) (v : Word) : d.KeepsRegs (d.setReg k v) := by
  intro j hj
  rw [Device.reg_setReg, if_neg]
  rintro rfl
  exact hj hk

theorem ceTest (cnt thr code unit : Nat) : d.KeepsRegs (d.ceTest cnt thr code unit) := by
  intro k hk
  refine Device.ceTest_reg d cnt thr code unit fun service => hk ?_
  have blocks : ∀ j ∈ serviceRegs, j / 2 ^ 16 ∈ [0x81, 0x82, 0x8A] := by decide
  exact blocks k service

theorem ceCount {cnt : Nat} (hk : cnt / 2 ^ 16 ∈ [0x81, 0x82, 0x8A]) (thr code unit : Nat) : d.KeepsRegs (d.ceCount cnt thr code unit) :=
  (setReg hk _).trans (ceTest _ _ _ _)

theorem setReg64 {k : Nat} (hk : k / 2 ^ 16 ∈ [0x81, 0x82, 0x8A]) (hk' : (k + 4) / 2 ^ 16 ∈ [0x81, 0x82, 0x8A]) (n : Nat) :
    d.KeepsRegs (d.setReg64 k n) := (setReg hk _).trans (setReg hk' _)

theorem post (code unit : Nat) (w : Word) : d.KeepsRegs (d.post code unit w) := of_regs rfl

theorem spoil (key : Nat) (p : Bool) : d.KeepsRegs (d.spoil key p) := of_regs (by
  rw [Device.spoil]
  dsimp only
  rw [Core.pokeBytes_regs])

theorem watched (rs : List (Nat × Nat)) : d.KeepsRegs (d.watched rs) := of_regs (by simp)

theorem slpReg_block {s off : Nat} (hs : s < 8) (hoff : off < 0x100) : slpReg s off / 2 ^ 16 ∈ [0x81, 0x82, 0x8A] := by
  have block : slpReg s off / 2 ^ 16 = 0x81 := by
    unfold slpReg mreg regKey
    omega
  rw [block]
  decide

theorem mrdReg_block {m off : Nat} (hm : m < 8) (hoff : off < 0x40) : mrdReg m off / 2 ^ 16 ∈ [0x81, 0x82, 0x8A] := by
  have block : mrdReg m off / 2 ^ 16 = 0x82 := by
    unfold mrdReg mreg regKey
    omega
  rw [block]
  decide

theorem meetCoder (step : Bool) (key : Nat) : d.KeepsRegs (Device.meetCoder step d key) := by
  have stack : t1Stack (32 * key) < 8 := Nat.mod_lt _ (by decide)
  have slp := fun off (h : off < 0x100) => slpReg_block stack h
  have mrd := fun off (h : off < 0x40) => mrdReg_block stack h
  have hi : mrdReg (t1Stack (32 * key)) 0x18 + 4 = mrdReg (t1Stack (32 * key)) 0x1C := rfl
  unfold Device.meetCoder
  dsimp only
  refine (of_regs (e := { d with core.flaws := mset [] d.core.flaws key [] }) rfl).trans ?_
  generalize { d with core.flaws := mset [] d.core.flaws key [] } = e
  split
  · exact refl e
  · split
    · exact (setReg (mrd 0x10 (by decide)) _).trans (ceCount (mrd 4 (by decide)) _ _ _)
    · exact ceCount (slp 0xC (by decide)) _ _ _
  · refine (spoil key false).trans ?_
    split
    · exact (setReg (mrd 0x10 (by decide)) _).trans (ceCount (mrd 4 (by decide)) _ _ _)
    · exact ceCount (slp 0xC (by decide)) _ _ _
  · refine (spoil key true).trans ?_
    split
    · exact (setReg (mrd 8 (by decide)) _).trans ((setReg64 (mrd 0x18 (by decide)) (hi ▸ mrd 0x1C (by decide)) _).trans (post _ _ _))
    · exact (setReg (slp 0x10 (by decide)) _).trans ((setReg (slp 0x18 (by decide)) _).trans (post _ _ _))

theorem write (a : Nat) (l : List PByte) : d.KeepsRegs (d.write a l) := by
  unfold Device.write
  split
  · exact refl d
  · dsimp only
    refine (watched [(a, l.length)]).trans ?_
    generalize d.watched [(a, l.length)] = e
    refine (fold (fun d key => meetCoder (d := d) false key) ((e.flawedIn [(a, l.length)]).filter (fun k => !coversWord k a l.length)) e).trans ?_
    generalize List.foldl (Device.meetCoder false) e _ = f
    refine of_regs ?_
    dsimp only
    rw [Core.markUnits_only, Core.pokeBytes_regs]

theorem leaveOpen (a n : Nat) : d.KeepsRegs (d.leaveOpen a n) := by
  unfold Device.leaveOpen
  dsimp only
  refine (watched [(a, n)]).trans ?_
  generalize d.watched [(a, n)] = e
  refine of_regs ?_
  dsimp only
  rw [Core.markUnits_only, Core.pokeBytes_regs]

end Device.KeepsRegs

/-! Step aborts (R404, R482). -/

theorem MemFrame.leaveOpen (d : Device) (a n : Nat) : MemFrame d (d.leaveOpen a n) := by
  unfold Device.leaveOpen
  dsimp only
  refine (MemFrame.watched d [(a, n)]).trans ?_
  generalize d.watched [(a, n)] = e
  rw [Core.markUnits_only, Core.pokeBytes_regs]
  rfl

theorem MemFrame.leaveAllOpen (d : Device) (l : List (Nat × Nat)) : MemFrame d (d.leaveAllOpen l) := by
  unfold Device.leaveAllOpen
  exact MemFrame.fold _ (fun d x => MemFrame.leaveOpen d x.1 x.2) l d

theorem MemFrame.outputOpen (d : Device) (r : ColRun) : MemFrame d (d.outputOpen r) := by
  unfold Device.outputOpen
  exact .leaveAllOpen d _

theorem MemFrame.writeResult (d : Device) (r : ColRun) (dec : ColDecision) (abort : Bool) : MemFrame d (d.writeResult r dec abort) := by
  unfold Device.writeResult
  split
  · exact .write _ _ _
  · exact .refl d

section
variable (d : Device)

theorem Device.KeepsRegs.leaveAllOpen (l : List (Nat × Nat)) : d.KeepsRegs (d.leaveAllOpen l) := by
  induction l generalizing d with
  | nil => exact .refl d
  | cons x l ih => exact (Device.KeepsRegs.leaveOpen x.1 x.2).trans (ih _)

theorem Device.KeepsRegs.outputOpen (r : ColRun) : d.KeepsRegs (d.outputOpen r) := by
  unfold Device.outputOpen
  exact .leaveAllOpen d _

theorem Device.KeepsRegs.writeResult (r : ColRun) (dec : ColDecision) (abort : Bool) : d.KeepsRegs (d.writeResult r dec abort) := by
  unfold Device.writeResult
  split
  · exact .write _ _
  · exact .refl d

/-- How an abort ends one open collective: its output is left open, its result record written and its command completed. -/
def Device.endAborted (d : Device) (faulted : Option Nat) (x : Nat × ColRun) : Device :=
  if faulted = some x.1 then (d.outputOpen x.2).colDone x.1 x.2 stFault
  else ((d.outputOpen x.2).writeResult x.2 (x.2.dec.getD {}) true).colDone x.1 x.2 stAborted

theorem Device.colDone_regs (die : Nat) (r : ColRun) (status : Nat) : (d.colDone die r status).core.regs = d.core.regs := by simp [Device.colDone]
theorem Device.colDone_fab (die : Nat) (r : ColRun) (status : Nat) : (d.colDone die r status).fab = d.fab := by simp [Device.colDone]
theorem Device.colDone_run (die : Nat) (r : ColRun) (status x : Nat) :
    ((d.colDone die r status).colOf x).run = if x = die then none else (d.colOf x).run := by
  have col : ∀ e : Device, (e.finish r.cmd status).colOf x = e.colOf x := fun e => by
    simp [Device.colOf]
  rw [Device.colDone, col, Device.colOf_setCol]
  split <;> rfl

theorem Device.KeepsRegs.endAborted (faulted : Option Nat) (x : Nat × ColRun) : d.KeepsRegs (d.endAborted faulted x) := by
  unfold Device.endAborted
  split
  · exact (Device.KeepsRegs.outputOpen d x.2).trans (.of_regs (Device.colDone_regs ..))
  · exact (Device.KeepsRegs.outputOpen d x.2).trans ((Device.KeepsRegs.writeResult _ _ _ _).trans (.of_regs (Device.colDone_regs ..)))

theorem Device.endAborted_fab (faulted : Option Nat) (x : Nat × ColRun) : (d.endAborted faulted x).fab = d.fab := by
  unfold Device.endAborted
  split
  · exact (Device.colDone_fab ..).trans (MemFrame.outputOpen d x.2).fab
  · exact (Device.colDone_fab ..).trans ((MemFrame.outputOpen d x.2).trans (.writeResult ..)).fab

end

section
variable (d : Device) (step : Word) (try_ cause origin : Nat)

/-- The collectives of a step that are open, each with its die. -/
def Device.opensOf (d : Device) (step try_ : Nat) : List (Nat × ColRun) :=
  (List.range 4).filterMap (fun die => (d.openCol die step try_).map (fun r => (die, r)))

/-- Every die's mark of an abort. -/
def Device.abortMarked : Device :=
  (List.range 4).foldl (fun d die => d.markAborted step try_ cause origin die) { d with fab.aborted := [] }

/-- The events of an abort. -/
def Device.abortPosted (opens : List (Nat × ColRun)) : Device :=
  (List.range 4).foldl (fun d die =>
    let seq := match opens.find? (fun x => x.1 == die) with | some x => x.2.cmd.seq | none => 0
    if cause = 1 then d.post 0x0701 (uDie die) (wd (fld step 15 0 * 2 ^ 16 + origin))
    else d.post 0x0702 (uDie die) (wd (fld step 15 0 * 2 ^ 16 + cause * 2 ^ 12 + seq))) d

/-- The packets of an abort, where they go out with it. -/
def Device.abortSent (send : Bool) (opens : List (Nat × ColRun)) : Device :=
  if send then opens.foldl (fun d x => d.sendAborts (some x.1) x.2 cause origin) d else d

theorem Device.abortStep_open (send : Bool) (faulted : Option Nat) (free : d.colHeld step.toNat try_ = false) :
    d.abortStep send step try_ cause origin faulted =
      ((d.opensOf step.toNat try_).foldl (Device.endAborted · faulted)
        ((d.abortMarked step try_ cause origin).abortSent cause origin send (d.opensOf step.toNat try_))).abortPosted step cause origin
        (d.opensOf step.toNat try_) :=
  if_neg (Bool.eq_false_iff.mp free)

/-- Posting changes neither registers, ports nor collectives. -/
theorem Device.abortPosted_same (opens : List (Nat × ColRun)) : (d.abortPosted step cause origin opens).core.regs = d.core.regs ∧
    (d.abortPosted step cause origin opens).fab = d.fab ∧ (d.abortPosted step cause origin opens).col = d.col := by
  unfold Device.abortPosted
  generalize List.range 4 = l
  induction l generalizing d with
  | nil => exact ⟨rfl, rfl, rfl⟩
  | cons die l ih =>
    rw [List.foldl_cons]
    obtain ⟨regs, fab, col⟩ := ih _
    rw [regs, fab, col]
    by_cases lost : cause = 1
    · simp only [if_pos lost]
      exact ⟨rfl, rfl, rfl⟩
    · simp only [if_neg lost]
      exact ⟨rfl, rfl, rfl⟩

theorem Device.sendAbort_regs (by_ : Option Nat) (gens : List (Nat × Nat)) (axis dir : Nat) (k : Packet) :
    (d.sendAbort by_ gens axis dir k).core.regs = d.core.regs := by
  unfold Device.sendAbort
  dsimp only
  split
  · rfl
  · split <;> rfl

theorem Device.sendAbort_col (by_ : Option Nat) (gens : List (Nat × Nat)) (axis dir : Nat) (k : Packet) :
    (d.sendAbort by_ gens axis dir k).col = d.col := by
  unfold Device.sendAbort
  dsimp only
  split
  · rfl
  · split <;> rfl

theorem Device.sendAborts_regs (by_ : Option Nat) (r : ColRun) : (d.sendAborts by_ r cause origin).core.regs = d.core.regs := by
  unfold Device.sendAborts
  split
  · rfl
  · exact (Device.sendAbort_regs ..).trans (Device.sendAbort_regs ..)

theorem Device.abortSent_regs (send : Bool) (opens : List (Nat × ColRun)) : (d.abortSent cause origin send opens).core.regs = d.core.regs := by
  unfold Device.abortSent
  split
  · induction opens generalizing d with
    | nil => rfl
    | cons x l ih => exact (ih _).trans (Device.sendAborts_regs ..)
  · rfl

theorem Device.reg_markAborted (die k : Nat) : (d.markAborted step try_ cause origin die).reg k =
    if k = colReg die 0x10 then wd (2 ^ 31 + cause * 2 ^ 28 + try_ * 2 ^ 16 + fld step 15 0) else d.reg k :=
  (Device.reg_of_regs (congrArg Core.regs (Device.setCol_core ..)) k).trans (Device.reg_setReg ..)

theorem Device.reg_foldl_markAborted (l : List Nat) (k : Nat) : (l.foldl (fun d die => d.markAborted step try_ cause origin die) d).reg k =
    if k ∈ l.map (colReg · 0x10) then wd (2 ^ 31 + cause * 2 ^ 28 + try_ * 2 ^ 16 + fld step 15 0) else d.reg k := by
  induction l generalizing d with
  | nil => rfl
  | cons die l ih =>
    rw [List.foldl_cons, ih, Device.reg_markAborted, List.map_cons]
    by_cases here : k = colReg die 0x10
    · rw [if_pos here, ite_self, if_pos (List.mem_cons.mpr (.inl here))]
    · rw [if_neg here]
      exact if_congr (List.mem_cons.trans (or_iff_right here)).symm rfl rfl

/-- The registers that an abort writes: each die's mark, and no other outside the blocks of memory's tiers and of service. -/
theorem Device.abortStep_reg (send : Bool) (faulted : Option Nat) (free : d.colHeld step.toNat try_ = false) {k : Nat}
    (apart : k / 2 ^ 16 ∉ [0x81, 0x82, 0x8A]) : (d.abortStep send step try_ cause origin faulted).reg k =
    if k ∈ (List.range 4).map (colReg · 0x10) then wd (2 ^ 31 + cause * 2 ^ 28 + try_ * 2 ^ 16 + fld step 15 0) else d.reg k := by
  rw [Device.abortStep_open _ _ _ _ _ _ _ free]
  refine (Device.reg_of_regs (Device.abortPosted_same ..).1 k).trans ?_
  refine (Device.KeepsRegs.fold (fun d x => Device.KeepsRegs.endAborted d faulted x) _ _ k apart).trans ?_
  refine (Device.reg_of_regs (Device.abortSent_regs ..) k).trans ?_
  exact Device.reg_foldl_markAborted ..

end

section
variable (d : Device) (step : Word) (try_ cause origin : Nat) (faulted : Option Nat)

theorem Device.endAborted_run (x : Nat × ColRun) (die : Nat) :
    ((d.endAborted faulted x).colOf die).run = if die = x.1 then none else (d.colOf die).run := by
  unfold Device.endAborted
  split
  · rw [Device.colDone_run, Device.colOf, (MemFrame.outputOpen d x.2).col]
    rfl
  · rw [Device.colDone_run, Device.colOf, ((MemFrame.outputOpen d x.2).trans (.writeResult ..)).col]
    rfl

theorem Device.run_foldl_endAborted (l : List (Nat × ColRun)) (die : Nat) (h : die ∈ l.map Prod.fst ∨ (d.colOf die).run = none) :
    ((l.foldl (Device.endAborted · faulted) d).colOf die).run = none := by
  induction l generalizing d with
  | nil => simpa using h
  | cons x l ih =>
    refine ih _ ?_
    rw [Device.endAborted_run]
    by_cases here : die = x.1
    · exact .inr (if_pos here)
    · rw [if_neg here]
      simpa [here] using h

theorem Device.mem_opensOf {die : Nat} {r : ColRun} (hdie : die < 4) {try_ step : Nat} (h : d.openCol die step try_ = some r) :
    die ∈ (d.opensOf step try_).map Prod.fst :=
  List.mem_map.mpr ⟨(die, r), List.mem_filterMap.mpr ⟨die, List.mem_range.mpr hdie, by rw [h, Option.map_some]⟩, rfl⟩

/-- An abort ends each open collective of its step (R404). -/
theorem Device.abortStep_run (send : Bool) (free : d.colHeld step.toNat try_ = false) {die : Nat} {r : ColRun} (hdie : die < 4)
    (h : d.openCol die step.toNat try_ = some r) : ((d.abortStep send step try_ cause origin faulted).colOf die).run = none := by
  rw [Device.abortStep_open _ _ _ _ _ _ _ free]
  refine (congrArg (fun c : List (Nat × Col) => (mget ({} : Col) c die).run) (Device.abortPosted_same ..).2.2).trans ?_
  exact Device.run_foldl_endAborted _ _ _ _ (.inl (d.mem_opensOf hdie h))

theorem Device.fab_foldl_endAborted (l : List (Nat × ColRun)) : (l.foldl (Device.endAborted · faulted) d).fab = d.fab := by
  induction l generalizing d with
  | nil => rfl
  | cons x l ih => exact (ih _).trans (Device.endAborted_fab ..)

theorem Device.markAborted_fab (die : Nat) : (d.markAborted step try_ cause origin die).fab = d.fab :=
  (Device.setCol_fab ..).trans (Device.setReg_fab ..)

theorem Device.fab_foldl_markAborted (l : List Nat) : (l.foldl (fun d die => d.markAborted step try_ cause origin die) d).fab = d.fab := by
  induction l generalizing d with
  | nil => rfl
  | cons die l ih => exact (ih _).trans (Device.markAborted_fab ..)

/-- An abort whose packets go out otherwise leaves every port as it was. -/
theorem Device.abortStep_port (free : d.colHeld step.toNat try_ = false) (p : Nat) :
    (d.abortStep false step try_ cause origin faulted).port p = d.port p := by
  rw [Device.abortStep_open _ _ _ _ _ _ _ free]
  have marked := Device.fab_foldl_markAborted { d with fab.aborted := [] } step try_ cause origin (List.range 4)
  have ended : ∀ e : Device, (((d.opensOf step.toNat try_).foldl (Device.endAborted · faulted) e).abortPosted step cause origin
      (d.opensOf step.toNat try_)).fab = e.fab := fun e => (Device.abortPosted_same ..).2.1.trans (Device.fab_foldl_endAborted ..)
  have fab := (ended ((d.abortMarked step try_ cause origin).abortSent cause origin false (d.opensOf step.toNat try_))).trans marked
  have port := congrArg (fun f : Fab => mget ({} : Port) f.ports p) fab
  exact port

end

/-! Packets on every axis (R482). -/

/-- Two devices choose the same port of each trunk, and what waits at a port of the first waits at that of the second. -/
structure Device.SameTrunks (d e : Device) : Prop where
  state : ∀ p, (e.port p).state = (d.port p).state
  cred : ∀ p, (e.port p).cred = (d.port p).cred
  rte : ∀ off, off < 0x10000 → e.reg (rteReg off) = d.reg (rteReg off)
  waits : ∀ p g, g ∈ (d.port p).txq → g ∈ (e.port p).txq

namespace Device.SameTrunks

variable {d e f : Device}

theorem refl (d : Device) : d.SameTrunks d := ⟨fun _ => rfl, fun _ => rfl, fun _ _ => rfl, fun _ _ h => h⟩

theorem trans (h : d.SameTrunks e) (h' : e.SameTrunks f) : d.SameTrunks f :=
  ⟨fun p => (h'.state p).trans (h.state p), fun p => (h'.cred p).trans (h.cred p), fun off hoff => (h'.rte off hoff).trans (h.rte off hoff),
    fun p g hg => h'.waits p g (h.waits p g hg)⟩

theorem mostCredit (h : d.SameTrunks e) (cls : Nat) (l : List Nat) : e.mostCredit cls l = d.mostCredit cls l := by
  induction l with
  | nil => rfl
  | cons p l ih =>
    simp only [Device.mostCredit, ih, Device.credits, h.cred]
    cases d.mostCredit cls l <;> rfl

theorem trunkPort (h : d.SameTrunks e) (axis dir cls : Nat) : e.trunkPort axis dir cls = d.trunkPort axis dir cls := by
  have place : ∀ p : Nat, (if p < 8 then 0x30 else 0x34) < 0x10000 := fun p => by split <;> decide
  simp only [Device.trunkPort, h.mostCredit, Device.trunk, h.rte _ (place _), h.state]

theorem queueAt (d : Device) (p : Nat) (k : Packet) : d.SameTrunks (d.queueAt p k) := by
  have at_ : ∀ q, (d.queueAt p k).port q = if q = p then { d.port p with txq := (d.port p).txq ++ [k] } else d.port q := fun q => Device.port_setPort ..
  refine ⟨fun q => ?_, fun q => ?_, fun _ _ => rfl, fun q g hg => ?_⟩
  all_goals
    rw [at_]
    split
  · next here => rw [here]
  · rfl
  · next here => rw [here]
  · rfl
  · next here =>
    subst here
    exact List.mem_append_left _ hg
  · exact hg

theorem noteAborted (d : Device) (l : List (Nat × Nat)) : d.SameTrunks { d with fab.aborted := l } :=
  ⟨fun _ => rfl, fun _ => rfl, fun _ _ => rfl, fun _ _ h => h⟩

theorem sendAbort (d : Device) (axis dir : Nat) (k : Packet) : d.SameTrunks (d.sendAbort none [] axis dir k) := by
  unfold Device.sendAbort
  dsimp only
  split
  · exact noteAborted d _
  · exact (noteAborted d _).trans (queueAt _ _ _)

/-- An abort's packet waits at the port of its trunk that has the most credit. -/
theorem sendAbort_waits (d : Device) {axis dir : Nat} {k : Packet} {p : Nat} (port : d.trunkPort axis dir (hdrClass (k.w 0)) = some p) :
    ∃ w, { k with h := k.h.set 7 w } ∈ ((d.sendAbort none [] axis dir k).port p).txq := by
  have port' := ((noteAborted d (d.fab.aborted ++ [(axis, dir)])).trunkPort axis dir (hdrClass (k.w 0))).trans port
  unfold Device.sendAbort
  dsimp only
  rw [port']
  refine ⟨wd ((([] : List (Nat × Nat)).lookup p).getD (d.port p).peer.gen * 2 ^ 24), ?_⟩
  dsimp only
  rw [Device.queueAt, Device.port_setPort_self]
  exact List.mem_append_right _ (List.mem_singleton.mpr rfl)

end Device.SameTrunks

section
variable (d : Device) (dir try_ cid : Nat) (step : Word) (cause origin : Nat)

theorem Device.abortPacket_class : hdrClass ((d.abortPacket dir try_ cid step cause origin).w 0) = 5 := by
  have all : ∀ p : Bool, hdrClass (setBit (mkH0 5 2 0 0 p) 25 true) = 5 := by decide
  exact all _

theorem Device.abortPacket_head (hdir : dir < 2) (htry : try_ < 2 ^ 8) (w : Word) :
    Packet.pt { d.abortPacket dir try_ cid step cause origin with h := (d.abortPacket dir try_ cid step cause origin).h.set 7 w } = 5 ∧
    colKind { d.abortPacket dir try_ cid step cause origin with h := (d.abortPacket dir try_ cid step cause origin).h.set 7 w } = 4 := by
  have all : ∀ p : Bool, fld (setBit (mkH0 5 2 0 0 p) 25 true) 31 28 = 5 := by decide
  have length : (clean (wordsToBytes [wd (cause * 2 ^ 28 + origin), step, wd try_, 0, 0, 0, 0, 0])).length = 32 := by
    simp [clean, wordsToBytes, toBytes_length]
  refine ⟨all _, ?_⟩
  have kind : fld (wd (4 * 2 ^ 28 + dir * 2 ^ 26 + try_ * 2 ^ 16 + 32)) 31 28 = 4 := by
    rw [fld_wd (by omega)]
    omega
  rw [← length] at kind
  exact kind

/-- The packets of an abort on one axis. -/
def Device.sendAxis (d : Device) (k : Nat) : Device :=
  (d.sendAbort none [] k 0 (d.abortPacket 0 try_ 0 step 4 d.selfMod)).sendAbort none [] k 1 (d.abortPacket 1 try_ 0 step 4 d.selfMod)

theorem Device.SameTrunks.sendAxis (k : Nat) : d.SameTrunks (d.sendAxis try_ step k) :=
  (Device.SameTrunks.sendAbort ..).trans (Device.SameTrunks.sendAbort ..)

theorem Device.SameTrunks.sendAxes (l : List Nat) : d.SameTrunks (l.foldl (fun d k => d.sendAxis try_ step k) d) := by
  induction l generalizing d with
  | nil => exact .refl d
  | cons k l ih => exact (Device.SameTrunks.sendAxis d try_ step k).trans (ih _)

theorem Device.sendAxes_same (l : List Nat) : (l.foldl (fun d k => d.sendAxis try_ step k) d).core.regs = d.core.regs ∧
    (l.foldl (fun d k => d.sendAxis try_ step k) d).col = d.col := by
  induction l generalizing d with
  | nil => exact ⟨rfl, rfl⟩
  | cons k l ih =>
    obtain ⟨regs, col⟩ := ih (d.sendAxis try_ step k)
    exact ⟨regs.trans ((Device.sendAbort_regs ..).trans (Device.sendAbort_regs ..)), col.trans ((Device.sendAbort_col ..).trans (Device.sendAbort_col ..))⟩

theorem Device.sendAxis_waits {k q : Nat} (hdir : dir < 2) (htry : try_ < 2 ^ 8) (port : d.trunkPort k dir 5 = some q) :
    ∃ g ∈ ((d.sendAxis try_ step k).port q).txq, g.pt = 5 ∧ colKind g = 4 := by
  obtain rfl | rfl : dir = 0 ∨ dir = 1 := by omega
  · have port' : d.trunkPort k 0 (hdrClass ((d.abortPacket 0 try_ 0 step 4 d.selfMod).w 0)) = some q := by
      rw [Device.abortPacket_class, port]
    obtain ⟨w, waits⟩ := Device.SameTrunks.sendAbort_waits d port'
    exact ⟨_, (Device.SameTrunks.sendAbort _ k 1 _).waits q _ waits, d.abortPacket_head 0 try_ 0 step 4 d.selfMod hdir htry w⟩
  · have first := Device.SameTrunks.sendAbort d k 0 (d.abortPacket 0 try_ 0 step 4 d.selfMod)
    have port' : (d.sendAbort none [] k 0 (d.abortPacket 0 try_ 0 step 4 d.selfMod)).trunkPort k 1
        (hdrClass ((d.abortPacket 1 try_ 0 step 4 d.selfMod).w 0)) = some q := by
      rw [Device.abortPacket_class, first.trunkPort, port]
    obtain ⟨w, waits⟩ := Device.SameTrunks.sendAbort_waits _ port'
    exact ⟨_, waits, d.abortPacket_head 1 try_ 0 step 4 d.selfMod hdir htry w⟩

theorem Device.sendAxes_waits {l : List Nat} {k q : Nat} (hk : k ∈ l) (hdir : dir < 2) (htry : try_ < 2 ^ 8) (port : d.trunkPort k dir 5 = some q) :
    ∃ g ∈ ((l.foldl (fun d k => d.sendAxis try_ step k) d).port q).txq, g.pt = 5 ∧ colKind g = 4 := by
  obtain ⟨before, after, rfl⟩ := List.append_of_mem hk
  rw [List.foldl_append, List.foldl_cons]
  have port' := ((Device.SameTrunks.sendAxes d try_ step before).trunkPort k dir 5).trans port
  obtain ⟨g, waits, head⟩ := Device.sendAxis_waits _ dir try_ step hdir htry port'
  exact ⟨g, (Device.SameTrunks.sendAxes _ try_ step after).waits q g waits, head⟩

theorem colReg_block (x : Nat) : colReg x 0x10 / 2 ^ 16 ∉ [0x81, 0x82, 0x8A] := by
  simp only [colReg, dreg, regKey, List.mem_cons, List.not_mem_nil, or_false]
  omega

theorem rteReg_block {off : Nat} (hoff : off < 0x10000) : rteReg off / 2 ^ 16 = 0x84 := by
  unfold rteReg mreg regKey
  omega

theorem Device.SameTrunks.abortStep (faulted : Option Nat) (free : d.colHeld step.toNat try_ = false) :
    d.SameTrunks (d.abortStep false step try_ cause origin faulted) := by
  have port := d.abortStep_port step try_ cause origin faulted free
  refine ⟨fun p => by rw [port], fun p => by rw [port], fun off hoff => ?_, fun p g hg => by rwa [port]⟩
  have block := rteReg_block hoff
  have apart : rteReg off / 2 ^ 16 ∉ [0x81, 0x82, 0x8A] := by
    rw [block]
    decide
  have unmarked : rteReg off ∉ (List.range 4).map (colReg · 0x10) := by
    intro marked
    obtain ⟨x, hx, here⟩ := List.mem_map.mp marked
    have die := List.mem_range.mp hx
    rw [← here] at block
    unfold colReg dreg regKey at block
    omega
  rw [Device.abortStep_reg _ _ _ _ _ _ _ free apart, if_neg unmarked]

/-- An abort of a step that is not marked: its marks and ends, then its packets on each valid axis. -/
theorem devStepAbort_open (free : d.colHeld (d.reg (rasReg 0x50)).toNat try_ = false) : devStepAbort try_ d =
    ((rangeFrom 1 5).filter (fun k => bit (d.reg (rteReg (0x40 + 4 * k))) 31)).foldl (fun e k => e.sendAxis try_ (d.reg (rasReg 0x50)) k)
      (d.abortStep false (d.reg (rasReg 0x50)) try_ 4 d.selfMod none) :=
  if_neg (Bool.eq_false_iff.mp free)

end

/-! Service (R488, R490). -/

theorem setBit_true (w : Word) (k : Nat) : setBit w k true = w ||| wd (2 ^ k) := by
  have one : wd (2 ^ k) = BitVec.twoPow 32 k := BitVec.eq_of_toNat_eq (by simp [wd])
  have width : k + 1 - k = 1 := by omega
  have digit : fld w k k = (w.getLsbD k).toNat := by
    rw [fld, width, BitVec.getLsbD, Nat.testBit_eq_decide_div_mod_eq]
    rcases Nat.mod_two_eq_zero_or_one (w.toNat / 2 ^ k) with h | h <;> simp [h]
  rw [setBit, setFld, digit, width, one]
  cases h : w.getLsbD k with
  | false =>
    have apart : w &&& BitVec.twoPow 32 k = 0 := by rw [BitVec.and_twoPow, h]; rfl
    rw [← BitVec.add_eq_or_of_and_eq_zero _ _ apart]
    apply BitVec.eq_of_toNat_eq
    simp
  | true =>
    have set : w ||| BitVec.twoPow 32 k = w := by
      apply BitVec.eq_of_getLsbD_eq
      intro i hi
      rw [BitVec.getLsbD_or, BitVec.getLsbD_twoPow]
      by_cases here : k = i
      · rw [← here, h, Bool.true_or]
      · simp [here]
    have large : 2 ^ k ≤ w.toNat := Nat.ge_two_pow_of_testBit h
    rw [set]
    apply BitVec.eq_of_toNat_eq
    simp [Nat.sub_add_cancel large]

section
variable (d : Device)

theorem Device.advise_svc (k unit who : Nat) : (d.advise k unit who).reg (rasReg 0x40) = setBit (d.reg (rasReg 0x40)) k true := by
  unfold Device.advise
  exact (Device.reg_post ..).trans (Device.reg_setReg_self ..)

theorem Device.advise_mem (k unit who : Nat) : (d.advise k unit who).core.mem = d.core.mem := by
  unfold Device.advise
  exact (Device.post_core_mem ..).trans (Device.setReg_core_mem ..)

theorem Device.advise_evq (k unit who : Nat) : (d.advise k unit who).core.evq = d.core.evq ++
    [{ code := 0x0A0B, unit := unit, data := wd ((k + 1) * 2 ^ 28 + who), die := dieOfUnit unit, time := d.time (dieOfUnit unit) }] := rfl

/-- One bit of SVCSET. -/
def Device.adviseOf (who : Nat) (d : Device) (k : Nat) : Device :=
  d.advise k (if k = 0 then uStack (who % 8) else if k = 1 then uMrd (who % 8) else uModule) (if k = 2 then who % 512 else who % 8)

theorem Device.advises_mem (who : Nat) (l : List Nat) : (l.foldl (Device.adviseOf who) d).core.mem = d.core.mem := by
  induction l generalizing d with
  | nil => rfl
  | cons k l ih => exact (ih _).trans (Device.advise_mem ..)

theorem Device.advises_svc (who : Nat) (l : List Nat) :
    (l.foldl (Device.adviseOf who) d).reg (rasReg 0x40) = l.foldl (fun w k => setBit w k true) (d.reg (rasReg 0x40)) := by
  induction l generalizing d with
  | nil => rfl
  | cons k l ih => exact (ih _).trans (congrArg (l.foldl (fun w k => setBit w k true)) (Device.advise_svc ..))

theorem Device.advises_codes (who : Nat) (l : List Nat) :
    (l.foldl (Device.adviseOf who) d).core.evq.map Event.code = d.core.evq.map Event.code ++ List.replicate l.length 0x0A0B := by
  induction l generalizing d with
  | nil => simp
  | cons k l ih =>
    rw [List.foldl_cons, ih, Device.adviseOf, Device.advise_evq, List.map_append, List.append_assoc, List.length_cons, List.replicate_succ]
    rfl

theorem Device.advises_evq_mono (who : Nat) (l : List Nat) {v : Event} (h : v ∈ d.core.evq) : v ∈ (l.foldl (Device.adviseOf who) d).core.evq := by
  induction l generalizing d with
  | nil => exact h
  | cons k l ih => exact ih _ (List.mem_append_left _ h)

theorem Device.advises_event (who : Nat) {l : List Nat} {k : Nat} (hk : k ∈ l) : ∃ v ∈ (l.foldl (Device.adviseOf who) d).core.evq, v.code = 0x0A0B ∧
    v.unit = (if k = 0 then uStack (who % 8) else if k = 1 then uMrd (who % 8) else uModule) ∧
    v.data = wd ((k + 1) * 2 ^ 28 + (if k = 2 then who % 512 else who % 8)) := by
  obtain ⟨before, after, rfl⟩ := List.append_of_mem hk
  rw [List.foldl_append, List.foldl_cons]
  exact ⟨_, Device.advises_evq_mono _ who after (List.mem_append_right _ (List.mem_singleton.mpr rfl)), rfl, rfl, rfl⟩

theorem foldl_setBit_or (l : List Nat) (w a : Word) :
    l.foldl (fun w k => setBit w k true) (w ||| a) = w ||| l.foldl (fun w k => w ||| wd (2 ^ k)) a := by
  induction l generalizing a with
  | nil => rfl
  | cons k l ih =>
    rw [List.foldl_cons, List.foldl_cons, setBit_true, BitVec.or_assoc, ih]

/-- The bits that a mask sets. -/
theorem foldl_setBit_mask (m : BitVec 3) (w : Word) :
    ((List.range 3).filter m.toNat.testBit).foldl (fun w k => setBit w k true) w = w ||| wd m.toNat := by
  have all : ∀ m : BitVec 3, ((List.range 3).filter m.toNat.testBit).foldl (fun w k => w ||| wd (2 ^ k)) (0 : Word) = wd m.toNat := by decide
  have sets := foldl_setBit_or ((List.range 3).filter m.toNat.testBit) w 0
  have none_ : w ||| 0 = w := BitVec.or_zero
  rwa [all, none_] at sets

end

/-! Thresholds (R488). -/

section
variable (d : Device) {tier n code unit : Nat} (htier : tier < 2) (hn : n < 8) (hunit : unit = if tier = 0 then uStack n else uMrd n)
  (hcode : code = if tier = 0 then 0x040D else 0x040A)
include htier hn hunit hcode

theorem Device.answerCe_of : d.answerCe code unit = if d.crossedLately (8 * tier + n) then (d.crossedNow (8 * tier + n)).advise tier unit n
    else (d.crossedNow (8 * tier + n)).scrubHourly tier := by
  have named : tierOfCe code = tier := by
    obtain rfl | rfl : tier = 0 ∨ tier = 1 := by omega
    · rw [hcode]
      rfl
    · rw [hcode]
      rfl
  have stack : unit / 2 ^ 23 % 32 = n := by
    rw [hunit]
    unfold uStack uMrd uidOf
    split <;> omega
  rw [Device.answerCe_eq_ite, named, stack]

theorem Device.answerCe_crossed : mget none (d.answerCe code unit).core.crossed (8 * tier + n) = some (d.time 0) := by
  rw [d.answerCe_of htier hn hunit hcode]
  have crossed : mget none (d.crossedNow (8 * tier + n)).core.crossed (8 * tier + n) = some (d.time 0) :=
    mget_mset_self none d.core.crossed (8 * tier + n) (some (d.time 0))
  split
  · exact crossed
  · exact crossed

theorem Device.answerCe_first (h : ∀ b, mget none d.core.crossed (8 * tier + n) = some b → b + 24 * 3600 * 10 ^ 9 < d.time 0) :
    fld ((d.answerCe code unit).reg (mreg (1 + tier) 4)) 7 0 = 1 ∧ (d.answerCe code unit).core.evq = d.core.evq := by
  have first : ¬ d.crossedLately (8 * tier + n) = true := by
    unfold Device.crossedLately
    split
    · next b seen => simpa using h b seen
    · exact Bool.false_ne_true
  rw [d.answerCe_of htier hn hunit hcode, if_neg first]
  refine ⟨?_, ?_⟩
  · rw [Device.scrubHourly_reg, if_pos rfl, fld_setFld_self _ _ _ _ (by decide) (by decide)]
    rfl
  · rw [Device.scrubHourly_evq]
    rfl

theorem Device.answerCe_again {b : Nat} (h : mget none d.core.crossed (8 * tier + n) = some b) (lately : d.time 0 ≤ b + 24 * 3600 * 10 ^ 9) :
    bit ((d.answerCe code unit).reg (rasReg 0x40)) tier = true ∧ ∃ v : Event, (d.answerCe code unit).core.evq = d.core.evq ++ [v] ∧
      v.code = 0x0A0B ∧ v.unit = unit ∧ v.data = wd ((tier + 1) * 2 ^ 28 + n) := by
  have again : d.crossedLately (8 * tier + n) = true := by
    unfold Device.crossedLately
    rw [h]
    exact decide_eq_true lately
  rw [d.answerCe_of htier hn hunit hcode, if_pos again]
  refine ⟨?_, _, Device.advise_evq .., rfl, rfl, rfl⟩
  rw [Device.advise_svc, bit_setBit_self _ _ _ (Nat.lt_trans htier (by decide))]

end

/-- Settles O59: a register that does not act is stored by `storeReg_stores`; the DMA's and RAS's registers act by `regAct`; an abort's marks,
ends and packets are `abortStep_reg`, `abortStep_run` and `sendAxes_waits`; service is `advise`, once for each bit or threshold. -/
theorem registerWritesAndStepAborts : Obligations.RegisterWritesAndStepAborts := by
  unfold Obligations.RegisterWritesAndStepAborts
  refine ⟨?_, ?_, ?_, ?_, ?_, ?_, ?_, ?_, ?_, ?_, ?_, ?_, ?_⟩
  · intro s ag own blk off v r hown hblk hoff aligned found free stores writes keeps may served held writable inside
    have notDctl : ag = .mgmt → regKey own blk off = rasReg 4 → (BitVec.ofNat 64 v.toNat).getLsbD 0 = false := by
      intro _ dctl
      rw [dctl, Device.regAct_dctl] at stores
      cases stores
    have small : regKey own blk off < 2 ^ 24 := by
      unfold regKey
      omega
    have fit : regKey own blk off % 4 = 0 := by
      unfold regKey
      omega
    refine ⟨_, exec_registerWrite_four free served small fit notDctl, ?_⟩
    rw [lo32_ofNat, Device.writeReg_stores stores, Device.storeReg_stores hblk hoff v found writes keeps may held writable inside]
    have beside := ((Device.Beside.refl s.dev).setReg (regKey own blk off) ((s.dev.reg (regKey own blk off) &&& ~~~(wd r.w)) ||| (v &&& wd r.w))).trans
      (Device.regAfter_beside _ own blk off v)
    refine ⟨?_, fun k other svc => ?_, beside.mem, beside.queues⟩
    · rw [Device.regAfter_reg _ _ fun _ _ high => regKey_not_service hoff high, Device.reg_setReg_self]
    · rw [Device.regAfter_reg _ _ fun module counters _ => svc ⟨module, counters⟩, Device.reg_setReg, if_neg other]
  · intro s ag off v r found mgmt other served free
    by_cases fit : off < 2 ^ 24 ∧ off % 4 = 0
    · rw [exec_registerWrite_four free served fit.1 fit.2 fun h => absurd h other, Device.writeReg_closed _ found mgmt other]
      rfl
    · exact exec_registerWrite_unfit free served (regFits_false (by omega))
  · intro s ag key v t free acts aligned inside served keeps
    have notDctl : ag = .mgmt → key = rasReg 4 → (BitVec.ofNat 64 v.toNat).getLsbD 0 = false := by
      intro mgmt dctl
      have clear := keeps mgmt dctl
      rw [BitVec.getLsbD_ofNat, Nat.testBit_zero]
      simpa [bit] using clear
    rw [exec_registerWrite_four free served inside aligned notDctl, lo32_ofNat, Device.writeReg_acts acts]
  · intro s v release free
    have effect : stRegisterWrite .mgmt (rasReg 4) 4 v false s = stRelease [] [] [] (s.withDev (devRegisterWrite .mgmt (rasReg 4) 4 v false s.dev)) :=
      if_pos ⟨rfl, .inl ⟨rfl, rfl, release⟩⟩
    rw [exec_registerWrite free, effect, devRegisterWrite_four (fun h => by cases h) (by decide) (by decide), Device.writeReg_acts (Device.regAct_dctl ..)]
    exact (ordinary_idle (.release [] [] []) s free).symm
  · intro s d n t free held abort
    cases abort
    rw [exec_registerWrite_four free (fun h => by cases h) (dmaCtl_inside d n) (dmaCtl_aligned d n) (fun _ h => absurd h (dmaCtl_ne_dctl d n)),
      show lo32 (3 : BitVec 64).toNat = 3 from rfl,
      Device.writeReg_acts (Device.regAct_dmaCtl d n held)]
    rfl
  · intro s ag off width v free served unfit
    have misfit := regFits_false unfit
    refine ⟨exec_registerWrite_unfit free served misfit, ?_⟩
    rw [Device.readAccess, misfit]
    rfl
  · intro d off inside aligned notTime
    have notLtc : ¬ (off % 2 ^ 20 = regKey 0 6 0xF000 ∧ off / 2 ^ 20 < 4) := by
      rintro ⟨time, die⟩
      refine notTime (off / 2 ^ 20) die ?_
      unfold dreg
      unfold regKey at time ⊢
      omega
    have fit : ¬ (!regFits off 8) = true := by
      rw [regFits_eight inside aligned]
      exact Bool.false_ne_true
    have wide : ¬ 8 = 4 := by decide
    have halves : d.readAccess off 8 = join (d.readReg off) (d.readReg (off + 4)) :=
      (if_neg fit).trans ((if_neg wide).trans (if_neg notLtc))
    rw [halves, join, Nat.mul_comm]
  · intro s t ag off v free inside aligned served table allot stores first
    have low : lo32 (BitVec.ofNat 64 (v.toNat % 2 ^ 32)).toNat = lo32 v.toNat := by
      apply BitVec.eq_of_toNat_eq
      simp [lo32, wd]
    have high : lo32 (BitVec.ofNat 64 (v.toNat / 2 ^ 32)).toNat = hi32 v.toNat := by
      apply BitVec.eq_of_toNat_eq
      simp [lo32, hi32, wd]
    have notDctl : off ≠ rasReg 4 := by
      unfold rasReg mreg regKey
      omega
    have notLow : off + 4 ≠ rasReg 4 := by
      intro dctl
      have acts := (stores s.dev 0).2
      rw [dctl, Device.regAct_dctl] at acts
      cases acts
    have stored := (exec_registerWrite_four free served inside (by omega) fun _ h => absurd h notDctl).symm.trans first
    rw [low, Device.writeReg_stores (stores _ _).1] at stored
    cases stored
    have beside := Device.storeReg_beside s.dev ag off (lo32 v.toNat)
    have free' : (s.withDev (s.dev.storeReg ag off (lo32 v.toNat))).dev.busyUnits = [] := beside.busyUnits.trans free
    have served' : ag = .host → (s.withDev (s.dev.storeReg ag off (lo32 v.toNat))).dev.hostOpen = true := fun h => beside.hostOpen.trans (served h)
    have still : ¬ (ag = .mgmt ∧ ((off = rasReg 4 ∧ 8 = 4 ∧ v.getLsbD 0) ∨ (off = rasReg 0 ∧ 8 = 8 ∧ v.getLsbD 32))) := by
      rintro ⟨_, ⟨_, narrow, _⟩ | ⟨rfl, _, _⟩⟩
      · cases narrow
      · exact notLow rfl
    rw [exec_registerWrite free, stRegisterWrite_keeps still, devRegisterWrite_eight served inside aligned, Device.writeReg64_stores v table allot stores,
      exec_registerWrite_four free' served' (by omega) (by omega) fun _ h => absurd h notLow, high, Device.writeReg_stores (stores _ _).2]
    rfl
  · intro s off w v served free
    rw [exec_registerWrite free, stRegisterWrite_keeps fun h => by cases h.1]
    exact congrArg (fun t => Host.Outcome.next (s.withDev t)) ((if_neg (not_shut_of_open fun _ => served)).trans (if_pos ⟨rfl, rfl⟩))
  · intro s try_ free
    have aborted := devStepAbort_open s.dev try_.toNat free
    refine ⟨devStepAbort try_.toNat s.dev, rfl, fun x hx => ?_, fun x r hx open_ => ?_, fun k dir q low high hdir valid port => ?_⟩
    all_goals rw [aborted]
    · rw [Device.reg_of_regs (Device.sendAxes_same ..).1, Device.abortStep_reg _ _ _ _ _ _ _ free (colReg_block x),
        if_pos (List.mem_map.mpr ⟨x, List.mem_range.mpr hx, rfl⟩)]
    · rw [Device.colOf, (Device.sendAxes_same ..).2]
      exact Device.abortStep_run _ _ _ _ _ _ _ free hx open_
    · have same := Device.SameTrunks.abortStep s.dev _ _ 4 s.dev.selfMod none free
      refine Device.sendAxes_waits _ dir try_.toNat _ (List.mem_filter.mpr ⟨mem_rangeFrom.mpr ⟨low, ?_⟩, valid⟩) hdir try_.isLt
        ((same.trunkPort k dir 5).trans port)
      omega
  · intro s try_ held
    exact congrArg (fun t => Host.Outcome.next (s.withDev t)) (if_pos held)
  · intro s m who
    refine ⟨devSvcset m.toNat who s.dev, rfl, (Device.advises_svc ..).trans (foldl_setBit_mask ..), Device.advises_mem .., Device.advises_codes ..,
      fun k hk set => ?_⟩
    exact Device.advises_event _ who (List.mem_filter.mpr ⟨List.mem_range.mpr hk, set⟩)
  · intro d tier n code unit htier hn hunit hcode
    exact ⟨d.answerCe_crossed htier hn hunit hcode, d.answerCe_first htier hn hunit hcode, fun b => d.answerCe_again htier hn hunit hcode⟩

end Sys2Proof.Machine
end

section
/-! O41: ports change state (R361 to R364); a link lost for good aborts the collectives that need it (R404), and an abort is marked. -/

namespace Sys2Proof.Machine

/-- A collective of two members on axis 1. -/
def ringOfTwo : ColRun := { D := [0, 0, 0, 0, 0, 0, 0x02800000], n := 2 }

/-- Port 0, the one port of axis 1 upwards, has retrained in vain three times while die 0's collective needs it; port 1, downwards, is
up. -/
def linkLost : State :=
  { dev := { core.armed := [(.training 0 0, 0)], core.ltc := [(0, 250000000000)], core.regs := [(rteReg 0x30, 0x32)]
             fab.ports := [(0, { state := 4, tries := 3 }), (1, { state := 3 })], col := [(0, { run := some ringOfTwo })] } }

theorem linkLost_times_out : (linkLost.dev.port 0).state = 4 ∧ 3 ≤ (linkLost.dev.port 0).tries ∧
    linkLost.dev.expired (.training 0 (linkLost.dev.port 0).attempt) 250000 = true := by decide +kernel

/-- The device when the port has gone to TRAIN, before the engine looks at its trunks. -/
def linkLostDown : Device := linkLost.dev.linkDown 0

theorem linkLostDown_open : linkLostDown.openCols = [(0, ringOfTwo)] ∧ linkLostDown.trunkLost ringOfTwo = true ∧
    linkLostDown.colHeld ringOfTwo.step.toNat ringOfTwo.try_ = false := by decide +kernel

section
variable {d : Device}

/-- A port that gives up a retraining goes to TRAIN, and the engine looks at its trunks (R364, R404). -/
theorem devTrainingAttemptTimeout_givesUp {p : Nat} (retrain : (d.port p).state = 4) (tried : 3 ≤ (d.port p).tries)
    (expired : d.expired (.training p (d.port p).attempt) 250000 = true) : devTrainingAttemptTimeout p d = (d.linkDown p).colLinkCheck := by
  have waits : ¬ (((d.port p).state ≠ 1 ∧ (d.port p).state ≠ 4) ∨ !d.expired (.training p (d.port p).attempt) 250000) := by
    rw [retrain, expired]
    decide
  have notTraining : ¬ (d.port p).state = 1 := by
    rw [retrain]
    decide
  exact (if_neg waits).trans ((if_neg notTraining).trans (if_pos tried))

/-- The one open collective is aborted where it has lost a trunk. -/
theorem Device.colLinkCheck_one {x : Nat × ColRun} (one : d.openCols = [x]) (lost : d.trunkLost x.2 = true) :
    d.colLinkCheck = d.stepAbort x.2.step x.2.try_ 2 d.selfMod none := by
  rw [Device.colLinkCheck, one, List.foldl_cons, List.foldl_nil, if_pos lost]

theorem exec_trainingAttemptTimeout_dev {s : State} {p : Fin 16} {t : Device} (run : exec (.trainingAttemptTimeout p) s = .next (s.withDev t)) :
    devTrainingAttemptTimeout p.val s.dev = t :=
  congrArg State.dev (Host.Outcome.next.inj run)

/-- A port that gives up a retraining marks each die of a collective that it takes its trunk from. -/
theorem devTrainingAttemptTimeout_marks {p : Nat} {x : Nat × ColRun} (retrain : (d.port p).state = 4) (tried : 3 ≤ (d.port p).tries)
    (expired : d.expired (.training p (d.port p).attempt) 250000 = true) (one : (d.linkDown p).openCols = [x])
    (lost : (d.linkDown p).trunkLost x.2 = true) (free : (d.linkDown p).colHeld x.2.step.toNat x.2.try_ = false) :
    (devTrainingAttemptTimeout p d).reg (colReg 0 0x10) = wd (2 ^ 31 + 2 * 2 ^ 28 + x.2.try_ * 2 ^ 16 + fld x.2.step 15 0) := by
  rw [devTrainingAttemptTimeout_givesUp retrain tried expired, Device.colLinkCheck_one one lost, Device.stepAbort,
    Device.abortStep_reg _ _ _ _ _ _ _ free (colReg_block 0), if_pos (by decide)]

end

/-- Refutes O41: by its clause no register changes where the last attempt of a retraining runs out; but a link that an open collective needs is
lost with it, and the abort of that collective sets the mark of each die. -/
theorem not_portsChangeState : ¬ Obligations.PortsChangeState := by
  unfold Obligations.PortsChangeState
  rintro ⟨-, -, -, -, -, -, -, givesUp, -⟩
  obtain ⟨retrain, tried, expired⟩ := linkLost_times_out
  obtain ⟨one, lost, free⟩ := linkLostDown_open
  obtain ⟨t, run, -, -, -, -, regs, -⟩ := givesUp linkLost 0 retrain tried expired
  have marked := devTrainingAttemptTimeout_marks retrain tried expired one lost free
  have kept := Device.reg_of_regs regs (colReg 0 0x10)
  rw [← exec_trainingAttemptTimeout_dev run] at kept
  have unmarked : linkLost.dev.reg (colReg 0 0x10) = 0 := by decide +kernel
  exact absurd ((marked.symm.trans kept).trans unmarked) (by decide)

end Sys2Proof.Machine
end

section
/-! O9: the value of a code converts back to that code (R41 to R44, R51 to R53). -/

namespace Sys2Proof.Machine

/-- A value that lies on the grid is rounded to itself in every mode. -/
@[simp] theorem roundGrid_self (r : Rnd) (m : Nat) (g : Int) : roundGrid r m g g = m := by
  simp [roundGrid]

namespace Fmt
variable {f : Fmt} {code : Nat}

theorem width_pos (f : Fmt) : 0 < f.width := by cases f <;> decide

section
variable {r : Rnd} {nosat s : Bool} {e : Int}

/-- A value that a format holds is neither rounded nor clamped: its magnitude code counts the steps of the grid below it. -/
theorem convert_of_grid {m : Nat} (zero : m = 0 → e = f.emin) (grid : m ≠ 0 → f.grid m e = e)
    (inRange : (e - f.emin).toNat * 2 ^ f.mbits + m ≤ f.maxCode) :
    f.convert r nosat (.fin s m e) =
      { code := f.withSign s ((e - f.emin).toNat * 2 ^ f.mbits + m), counted := false, blkNan := false } := by
  by_cases none : m = 0
  · rw [zero none, none]
    simp [convert]
  · refine (if_neg none).trans ?_
    rw [grid none, roundGrid_self]
    exact if_neg (Nat.not_lt.mpr inRange)

end

/-! INT8 and INT4 (R43): two's complement, one unit of the grid from each code to the next. -/

section
variable (int : f.isInt = true)
include int

theorem decode_int (code : Nat) : f.decode code = .fin (sext f.width code < 0) (sext f.width code).natAbs f.emin := by
  cases f with
  | int8 => rfl
  | int4 => rfl
  | _ => cases int

theorem maxCode_int : f.maxCode = 2 ^ (f.width - 1) - 1 := by revert int; cases f <;> decide

theorem grid_int (m : Nat) : f.grid m f.emin = f.emin := if_pos int

/-- The sign and the magnitude of a code give the code again. -/
theorem withSign_sext (small : code < 2 ^ f.width) : f.withSign (sext f.width code < 0) (sext f.width code).natAbs = code := by
  have width := Nat.two_pow_pred_mul_two f.width_pos
  rw [withSign, if_pos int, sext, Nat.mod_eq_of_lt small]
  generalize 2 ^ f.width = n at *
  split
  · simp
  · have distance : ((code : Int) - (n : Int)).natAbs = n - code := by omega
    rw [distance, if_pos (by simpa using small), Nat.mod_eq_of_lt (by omega)]
    omega

theorem natAbs_sext_le (small : code < 2 ^ f.width) (inside : code ≠ 2 ^ (f.width - 1)) : (sext f.width code).natAbs ≤ f.maxCode := by
  have width := Nat.two_pow_pred_mul_two f.width_pos
  rw [maxCode_int int, sext, Nat.mod_eq_of_lt small]
  split <;> omega

theorem convert_decode_int {r : Rnd} {nosat : Bool} (small : code < 2 ^ f.width) (inside : code ≠ 2 ^ (f.width - 1)) :
    f.convert r nosat (f.decode code) = { code := code, counted := false, blkNan := false } := by
  have steps : (f.emin - f.emin).toNat * 2 ^ f.mbits + (sext f.width code).natAbs = (sext f.width code).natAbs := by simp
  rw [decode_int int, convert_of_grid (fun _ => rfl) (fun _ => grid_int int _) (steps.trans_le (natAbs_sext_le int small inside)), steps,
    withSign_sext int small]

end

/-! Floating formats (R41, R42): a code is its sign, its exponent field and its mantissa field. -/

/-- The mantissa field. -/
def mant (f : Fmt) (code : Nat) : Nat := code % 2 ^ f.mbits

/-- The exponent field. -/
def expo (f : Fmt) (code : Nat) : Nat := code / 2 ^ f.mbits % 2 ^ f.ebits

/-- The sign bit. -/
def sign (f : Fmt) (code : Nat) : Bool := code / 2 ^ (f.width - 1) % 2 == 1

/-- The significand: the mantissa field, with a leading bit where the exponent field is not 0. -/
def signif (f : Fmt) (code : Nat) : Nat := if f.expo code = 0 then f.mant code else 2 ^ f.mbits + f.mant code

theorem mant_lt (f : Fmt) (code : Nat) : f.mant code < 2 ^ f.mbits := Nat.mod_lt _ (Nat.two_pow_pos _)

theorem expo_eq_zero_of_signif (zero : f.signif code = 0) : f.expo code = 0 := by
  by_contra high
  rw [signif, if_neg high] at zero
  exact absurd (Nat.add_eq_zero_iff.mp zero).1 (Nat.two_pow_pos _).ne'

/-- The significand lies on the grid of its own magnitude: it has its leading bit, or the grid is the smallest. -/
theorem grid_signif (float : f.isInt = false) (nonzero : f.signif code ≠ 0) :
    f.grid (f.signif code) (f.emin + (f.expo code - 1 : Nat)) = f.emin + (f.expo code - 1 : Nat) := by
  have mant := f.mant_lt code
  rw [grid, float, if_neg Bool.false_ne_true]
  by_cases zero : f.expo code = 0
  · have short : Nat.log2 (f.signif code) < f.mbits := by
      rw [Nat.log2_lt nonzero, signif, if_pos zero]
      exact mant
    rw [zero]
    omega
  · have leading : Nat.log2 (f.signif code) = f.mbits := by
      rw [Nat.log2_eq_iff nonzero, signif, if_neg zero, pow_succ]
      omega
    rw [leading]
    omega

/-- The steps below the grid of a code, with its significand, are its magnitude. -/
theorem steps_signif : (f.expo code - 1) * 2 ^ f.mbits + f.signif code = f.expo code * 2 ^ f.mbits + f.mant code := by
  rw [signif]
  split
  next zero => simp [zero]
  next high =>
    obtain ⟨e, he⟩ := Nat.exists_eq_succ_of_ne_zero high
    rw [he, Nat.succ_mul, Nat.succ_sub_one]
    omega

theorem maxCode_ieee (ieee : f.ieee = true) : f.maxCode + 1 = (2 ^ f.ebits - 1) * 2 ^ f.mbits := by
  revert ieee; cases f <;> decide

theorem maxCode_full (float : f.isInt = false) (notScale : f ≠ .e8m0) (full : f.ieee = false) (notE4m3 : f ≠ .e4m3) :
    f.maxCode + 1 = 2 ^ f.ebits * 2 ^ f.mbits := by
  revert float notScale full notE4m3; cases f <;> decide

section
variable (float : f.isInt = false) (notScale : f ≠ .e8m0)
include float notScale

theorem width_float : f.width - 1 = f.mbits + f.ebits := by revert float notScale; cases f <;> decide

theorem emin_float : f.emin = 1 - f.bias - f.mbits := by revert float notScale; cases f <;> decide

/-- Without its sign a code is its exponent field above its mantissa field. -/
theorem magnitude_fields : code % 2 ^ (f.width - 1) = f.expo code * 2 ^ f.mbits + f.mant code := by
  rw [width_float float notScale, pow_add, Nat.mod_mul, Nat.add_comm, Nat.mul_comm, expo, mant]

theorem withSign_sign (small : code < 2 ^ f.width) : f.withSign (f.sign code) (f.expo code * 2 ^ f.mbits + f.mant code) = code := by
  have width := Nat.two_pow_pred_mul_two f.width_pos
  have parts := Nat.mod_add_div code (2 ^ (f.width - 1))
  have bit : code / 2 ^ (f.width - 1) < 2 := Nat.div_lt_of_lt_mul (width.symm ▸ small)
  rw [← magnitude_fields float notScale, withSign, float, sign, Nat.mod_eq_of_lt bit]
  generalize code / 2 ^ (f.width - 1) = b at *
  obtain rfl | rfl : b = 0 ∨ b = 1 := by omega
  all_goals simpa using parts

theorem decode_float (code : Nat) : f.decode code =
    if f.ieee && f.expo code == 2 ^ f.ebits - 1 then (if f.mant code = 0 then .inf (f.sign code) else .nan)
    else if f == .e4m3 && f.expo code == 15 && f.mant code == 7 then .nan
    else if f.expo code = 0 then .fin (f.sign code) (f.mant code) f.emin
    else .fin (f.sign code) (2 ^ f.mbits + f.mant code) (f.expo code - f.bias - f.mbits) := by
  unfold decode
  split
  · cases float
  · cases float
  · exact absurd rfl notScale
  · rfl

/-- The code of no infinity or NaN lies above that of the largest finite value. -/
theorem magnitude_le_maxCode (finite : (f.decode code).isFinite = true) : f.expo code * 2 ^ f.mbits + f.mant code ≤ f.maxCode := by
  have mant := f.mant_lt code
  have expo : f.expo code < 2 ^ f.ebits := Nat.mod_lt _ (Nat.two_pow_pos _)
  have below {n : Nat} (h : f.expo code < n) : f.expo code * 2 ^ f.mbits + f.mant code < n * 2 ^ f.mbits :=
    calc _ < (f.expo code + 1) * 2 ^ f.mbits := by rw [Nat.succ_mul]; omega
      _ ≤ n * 2 ^ f.mbits := Nat.mul_le_mul_right _ h
  rw [decode_float float notScale] at finite
  by_cases ieee : f.ieee = true
  · have notTop : f.expo code ≠ 2 ^ f.ebits - 1 := by
      intro top
      simp only [ieee, top, beq_self_eq_true, Bool.and_self, if_true] at finite
      split at finite <;> cases finite
    exact Nat.lt_succ_iff.mp ((below (by omega)).trans_eq (maxCode_ieee ieee).symm)
  · have full := Bool.not_eq_true _ ▸ ieee
    by_cases e4m3 : f = .e4m3
    · subst e4m3
      have notNan : ¬ (Fmt.expo .e4m3 code = 15 ∧ Fmt.mant .e4m3 code = 7) := by
        rintro ⟨top, last⟩
        rw [top, last] at finite
        cases finite
      simp only [mbits, ebits, maxCode] at mant expo ⊢
      omega
    · exact Nat.lt_succ_iff.mp ((below expo).trans_eq (maxCode_full float notScale full e4m3).symm)

/-- A finite code's value: its significand, in steps of the grid that its exponent field names. -/
theorem decode_finite (finite : (f.decode code).isFinite = true) :
    f.decode code = .fin (f.sign code) (f.signif code) (f.emin + (f.expo code - 1 : Nat)) := by
  rw [decode_float float notScale] at finite ⊢
  split at finite
  · split at finite <;> cases finite
  next notTop =>
    split at finite
    · cases finite
    next notNan =>
      rw [if_neg notTop, if_neg notNan, signif]
      by_cases zero : f.expo code = 0
      · simp [zero]
      · rw [if_neg zero, if_neg zero, emin_float float notScale]
        congr 1
        omega

theorem convert_decode_float {r : Rnd} {nosat : Bool} (small : code < 2 ^ f.width) (finite : (f.decode code).isFinite = true) :
    f.convert r nosat (f.decode code) = { code := code, counted := false, blkNan := false } := by
  have steps : (f.emin + (f.expo code - 1 : Nat) - f.emin).toNat * 2 ^ f.mbits + f.signif code =
      f.expo code * 2 ^ f.mbits + f.mant code := by
    rw [add_sub_cancel_left, Int.toNat_natCast, steps_signif]
  rw [decode_finite float notScale finite,
    convert_of_grid (fun zero => by simp [expo_eq_zero_of_signif zero]) (grid_signif float)
      (steps.trans_le (magnitude_le_maxCode float notScale finite)),
    steps, withSign_sign float notScale small]

end

end Fmt

/-- Settles O9: an integer code is its own count of units, and a floating one its own count of grid steps, which no rounding moves. -/
theorem conversionKeepsCodes : Obligations.ConversionKeepsCodes := by
  unfold Obligations.ConversionKeepsCodes
  intro f r nosat code notScale small finite notInt8 notInt4
  cases int : f.isInt with
  | true =>
    refine Fmt.convert_decode_int int small fun least => ?_
    cases f with
    | int8 => exact notInt8 ⟨rfl, least⟩
    | int4 => exact notInt4 ⟨rfl, least⟩
    | _ => cases int
  | false => exact Fmt.convert_decode_float int notScale small finite

end Sys2Proof.Machine
end

section
/-! O15: drains, their issue, their row segments, and how they end (R70, R128, R131, R139 to R143). -/

namespace Sys2Proof.Machine

/-! Issue (R70, R140). -/

/-- A drain that enters its queue takes its descriptor as SRAM holds it. -/
theorem Device.enqueue_drain {d : Device} {c : Cmd} {x : Dest} (op : c.op = 6) (small : x.q < 512) (live : d.fenced x.slot = false) :
    ∃ k, (d.enqueue c x).queue x.q = d.queue x.q ++ [k] ∧ k.w = c.w ∧ k.desc = d.readBytes (sramDA (c.word 5)) 128 ∧
      k.ord = d.core.nextOrd := by
  have notStash : ¬ (516 ≤ x.q ∧ x.q < 520) := by omega
  rw [Device.enqueue, live, if_neg Bool.false_ne_true, if_neg notStash]
  exact ⟨_, Device.queue_setQueue_self .., rfl, if_pos ⟨op, small⟩, rfl⟩

theorem devDrain_issues {die a p : Nat} {d : Device} {c : Cmd} (head : d.ready (qDrn die a p) = some c) (op : c.op = 6)
    (runs : d.runs (wPair die a) = true) (settled : d.tilePend die a (tileOf c) = none)
    (good : d.groupBad (qDrn die a p) c d.partDrainBad = none) :
    ∃ r, devDrain die a p d = (d.popCmd (qDrn die a p)).setDrains die a p (d.drains die a p ++ [r]) ∧ r.cmd = c ∧ r.row = 0 ∧
      r.pois = false ∧ r.draw = d.draw die 0 (wordAt (bytesToWords 32 (values c.desc)) 17) := by
  have goes : ¬ (c.op ≠ 6 ∨ !d.runs (wPair die a) ∨ (d.tilePend die a (tileOf c)).isSome) := by simp [op, runs, settled]
  rw [devDrain, head]
  dsimp only
  rw [if_neg goes, good]
  exact ⟨_, rfl, rfl, rfl, rfl, rfl⟩

/-! Quarters of accumulator rows. -/

/-- A quarter read where a quarter has been changed: the change, or what it was. -/
theorem Device.quart_setQuart_map (d : Device) (die a slot q slot' q' : Nat) (g : Quarter → Quarter) :
    (d.setQuart die a slot q (g (d.quart die a slot q))).quart die a slot' q' =
      if quartIx die a slot' q' = quartIx die a slot q then g (d.quart die a slot' q') else d.quart die a slot' q' := by
  rw [Device.quart, Device.setQuart, mget_mset]
  split
  next same => rw [Device.quart, Device.quart, same]
  next => rfl

/-- Devices that differ in the quarters of accumulator rows alone. -/
def Device.QuartsOnly (d e : Device) : Prop := ∃ m, e = { d with kiln.quarts := m }

theorem Device.QuartsOnly.refl (d : Device) : d.QuartsOnly d := ⟨_, rfl⟩

theorem Device.QuartsOnly.setQuart {d e : Device} (h : d.QuartsOnly e) (die a slot q : Nat) (v : Quarter) :
    d.QuartsOnly (e.setQuart die a slot q v) := by
  obtain ⟨m, rfl⟩ := h
  exact ⟨_, rfl⟩

section
variable {d e : Device} (h : d.QuartsOnly e)
include h

theorem Device.QuartsOnly.core : e.core = d.core := by
  obtain ⟨m, rfl⟩ := h
  rfl

theorem Device.QuartsOnly.tile (die a t : Nat) : e.tile die a t = d.tile die a t := by
  obtain ⟨m, rfl⟩ := h
  rfl

theorem Device.QuartsOnly.drains (die a p : Nat) : e.drains die a p = d.drains die a p := by
  obtain ⟨m, rfl⟩ := h
  rfl

theorem Device.QuartsOnly.accCnt (die a : Nat) : e.accCnt die a = d.accCnt die a := by
  obtain ⟨m, rfl⟩ := h
  rfl

end

/-- What each step of a run of steps keeps, and the step at one element brings about, holds at the end. -/
theorem foldl_brings {α β : Type} {f : β → α → β} {P Q : β → Prop} {l : List α} {x : α} (found : x ∈ l) {b : β} (start : P b)
    (keeps : ∀ b y, P b → P (f b y)) (stays : ∀ b y, P b → Q b → Q (f b y)) (brings : ∀ b, P b → Q (f b x)) : Q (l.foldl f b) := by
  induction l generalizing b with
  | nil => cases found
  | cons y l ih =>
    by_cases rest : x ∈ l
    · exact ih rest (keeps b y start)
    · obtain rfl : x = y := by simpa [rest] using found
      exact (List.foldlRecOn l f (motive := fun b => P b ∧ Q b) ⟨keeps b x start, brings b start⟩
        fun b h y _ => ⟨keeps b y h.1, stays b y h.1 h.2⟩).2

section
variable (d : Device) (die a t l q0 nq : Nat)

theorem Device.cleanRow_quartsOnly : d.QuartsOnly (d.cleanRow die a t l q0 nq) :=
  List.foldlRecOn _ _ (.refl d) fun _ h _ _ => h.setQuart ..

theorem Device.poisonRow_quartsOnly : d.QuartsOnly (d.poisonRow die a t l q0 nq) := by
  refine List.foldlRecOn _ _ (.refl d) fun e h q _ => ?_
  dsimp only
  split
  · exact h.setQuart ..
  · exact h

/-- Cleaning touches dirty marks alone. -/
theorem Device.cleanRow_undirtied (slot q : Nat) :
    { (d.cleanRow die a t l q0 nq).quart die a slot q with dirty := false } = { d.quart die a slot q with dirty := false } := by
  refine List.foldlRecOn (motive := fun e : Device => ({ e.quart die a slot q with dirty := false } : Quarter) =
    { d.quart die a slot q with dirty := false }) _ _ rfl fun e h q' _ => ?_
  rw [← h, e.quart_setQuart_map die a _ q' slot q (fun x => { x with dirty := false })]
  split <;> rfl

/-- The quarters that a clean read covers are dirty no more (R128). -/
theorem Device.cleanRow_dirty {q : Nat} (covered : q ∈ rangeFrom q0 nq) :
    ((d.cleanRow die a t l q0 nq).quart die a ((d.tile die a t).slot l) q).dirty = false := by
  refine foldl_brings (P := d.QuartsOnly) (Q := fun e => (e.quart die a ((d.tile die a t).slot l) q).dirty = false) covered (.refl d)
    (fun e y h => h.setQuart ..) (fun e y _ h => ?_) fun e h => ?_
  · rw [e.quart_setQuart_map die a _ y _ q (fun x => { x with dirty := false })]
    split
    · rfl
    · exact h
  · rw [h.tile, Device.quart_setQuart_self]

/-- The resident quarters of a row that reads uncorrectable are poisoned (R139). -/
theorem Device.poisonRow_pois {q : Nat} (covered : q ∈ rangeFrom q0 nq)
    (resident : (d.quart die a ((d.tile die a t).slot l) q).holds (d.tile die a t) l = some l) :
    ((d.poisonRow die a t l q0 nq).quart die a ((d.tile die a t).slot l) q).pois = true := by
  have keeps {e : Device} {r : Option Nat} (y : Nat) (same : (e.quart die a ((d.tile die a t).slot l) q).lrow = r) :
      ((e.setQuart die a ((d.tile die a t).slot l) y { e.quart die a ((d.tile die a t).slot l) y with pois := true }).quart
        die a ((d.tile die a t).slot l) q).lrow = r := by
    rw [e.quart_setQuart_map die a _ y _ q (fun x => { x with pois := true })]
    split <;> exact same
  refine foldl_brings (P := fun e => d.QuartsOnly e ∧
      (e.quart die a ((d.tile die a t).slot l) q).lrow = (d.quart die a ((d.tile die a t).slot l) q).lrow)
    (Q := fun e => (e.quart die a ((d.tile die a t).slot l) q).pois = true) covered ⟨.refl d, rfl⟩ ?_ ?_ ?_
  · rintro e y ⟨h, same⟩
    dsimp only
    rw [h.tile]
    split
    · exact ⟨h.setQuart .., keeps y same⟩
    · exact ⟨h, same⟩
  · rintro e y ⟨h, -⟩ poisoned
    dsimp only
    rw [h.tile]
    split
    · rw [e.quart_setQuart_map die a _ y _ q (fun x => { x with pois := true })]
      split
      · rfl
      · exact poisoned
    · exact poisoned
  · rintro e ⟨h, same⟩
    have held : (e.quart die a ((d.tile die a t).slot l) q).holds (d.tile die a t) l = some l := by
      rw [Quarter.holds, same]
      exact resident
    dsimp only
    rw [h.tile, if_pos held, Device.quart_setQuart_self]

end

/-! One row segment (R141). -/

/-- What the coder's answer does before a row is read (R139). -/
def Device.answerEcc (d : Device) (die a t l q0 nq : Nat) : EccOutcome → Device
  | .clean => d
  | .corrected => d.count1 (dreg die 2 (0x1008 + 0x200 * a))
  | .uncorrectable => (d.poisonRow die a t l q0 nq).count1 (dreg die 2 (0x1008 + 0x200 * a) + 4)

theorem Device.answerEcc_pois (d : Device) (die a t l q0 nq : Nat) {q : Nat} (covered : q ∈ rangeFrom q0 nq)
    (resident : (d.quart die a ((d.tile die a t).slot l) q).holds (d.tile die a t) l = some l) :
    ((d.answerEcc die a t l q0 nq .uncorrectable).quart die a ((d.tile die a t).slot l) q).pois = true := by
  rw [Device.answerEcc, Device.quart, Device.count1_kiln]
  exact Device.poisonRow_pois _ _ _ _ _ _ _ covered resident

/-- The quarters that a drain's columns cover: how many there are from the first. -/
def DrainF.quarters (f : DrainF) : Nat := (f.col0 + f.ncol - 1) / 64 - f.col0 / 64 + 1

/-- The quarters that a drain reads of its next row, each with whether it was a ring miss. -/
def Device.rowRead (d : Device) (die a : Nat) (run : DRun) : List (Quarter × Bool) :=
  (rangeFrom ((drainF run.desc).col0 / 64) (drainF run.desc).quarters).map
    (d.drainQuarter die a (tileOf run.cmd) (drow0 run.cmd + run.row))

/-- The elements of that row, from a tile of format `fm`. -/
def Device.rowElems (d : Device) (die a : Nat) (run : DRun) (fm : Fmt) : List DElem :=
  (List.range (drainF run.desc).ncol).map (fun j => drainElem d run.desc (drainF run.desc) run.row j
    (quarterVal fm ((d.rowRead die a run).map Prod.fst) ((drainF run.desc).col0 / 64) ((drainF run.desc).col0 + j)))

/-- The device once the writes of a row are made and, under WAITSEQ 1, the quarters read are clean. -/
def Device.rowWritten (d : Device) (die a : Nat) (run : DRun) (ws : List (Nat × List PByte)) : Device :=
  if bit (run.cmd.word 3) 20 then
    (d.writes ws).cleanRow die a (tileOf run.cmd) (drow0 run.cmd + run.row) ((drainF run.desc).col0 / 64) (drainF run.desc).quarters
  else d.writes ws

theorem DrainF.mem_quarters {f : DrainF} {q : Nat} (low : f.col0 / 64 ≤ q) (high : q ≤ (f.col0 + f.ncol - 1) / 64) :
    q ∈ rangeFrom (f.col0 / 64) f.quarters := by
  rw [mem_rangeFrom, DrainF.quarters]
  omega

section
variable (d : Device) (die a : Nat) (run : DRun) (ws : List (Nat × List PByte))

theorem Device.rowWritten_quartsOnly : (d.writes ws).QuartsOnly (d.rowWritten die a run ws) := by
  unfold Device.rowWritten
  split
  · exact Device.cleanRow_quartsOnly ..
  · exact .refl _

/-- Writes of memory leave the accumulators. -/
@[simp] theorem Device.quart_writes (slot q : Nat) : (d.writes ws).quart die a slot q = d.quart die a slot q := by
  simp [Device.quart]

theorem Device.rowWritten_undirtied (slot q : Nat) :
    { (d.rowWritten die a run ws).quart die a slot q with dirty := false } = { d.quart die a slot q with dirty := false } := by
  unfold Device.rowWritten
  split
  · rw [Device.cleanRow_undirtied, Device.quart_writes]
  · rw [Device.quart_writes]

theorem Device.rowWritten_pois (slot q : Nat) : ((d.rowWritten die a run ws).quart die a slot q).pois = (d.quart die a slot q).pois := by
  have same := congrArg Quarter.pois (d.rowWritten_undirtied die a run ws slot q)
  exact same

theorem Device.rowWritten_dirty (waits : bit (run.cmd.word 3) 20 = true) {q : Nat}
    (covered : q ∈ rangeFrom ((drainF run.desc).col0 / 64) (drainF run.desc).quarters) :
    ((d.rowWritten die a run ws).quart die a ((d.tile die a (tileOf run.cmd)).slot (drow0 run.cmd + run.row)) q).dirty = false := by
  rw [Device.rowWritten, if_pos waits, ← d.tile_writes ws]
  exact Device.cleanRow_dirty _ _ _ _ _ _ _ covered

theorem Device.rowWritten_quarts (free : bit (run.cmd.word 3) 20 = false) :
    (d.rowWritten die a run ws).kiln.quarts = d.kiln.quarts := by
  rw [Device.rowWritten, if_neg (ne_true_of_eq_false free), Device.writes_kiln]

end

/-- A drain holds no row that it has read (R128). -/
theorem drainHolds_read {c : Cmd} {done t l q : Nat} {seq : Option Nat} (read : l < drow0 c + done) :
    drainHolds c done t l q seq = false := by
  have past : decide (fld (c.word 4) 16 0 + done ≤ l ∧ l < fld (c.word 4) 16 0 + fld (c.word 6) 15 0 + 1) = false :=
    decide_eq_false fun h => absurd h.1 (Nat.not_le.mpr read)
  rw [drainHolds, past, Bool.and_false, Bool.false_and]

section
variable (w : List Word) (f : DrainF) (run : DRun) (es : List DElem)

theorem segment_row : (segment w f run es).2.1.row = run.row + 1 := rfl
theorem segment_cmd : (segment w f run es).2.1.cmd = run.cmd := rfl
theorem segment_pois : (segment w f run es).2.1.pois = (run.pois || es.any (·.p)) := rfl

end

/-- An event posted where a condition holds. -/
def Device.postIf (d : Device) (b : Bool) (code unit : Nat) (data : Word) : Device := if b then d.post code unit data else d

section
variable (d : Device) (b : Bool) (code unit : Nat) (data : Word)

@[simp] theorem Device.postIf_kiln : (d.postIf b code unit data).kiln = d.kiln := by cases b <;> rfl
@[simp] theorem Device.postIf_mem : (d.postIf b code unit data).core.mem = d.core.mem := by cases b <;> rfl
@[simp] theorem Device.postIf_pois : (d.postIf b code unit data).core.pois = d.core.pois := by cases b <;> rfl
@[simp] theorem Device.postIf_queues : (d.postIf b code unit data).core.queues = d.core.queues := by cases b <;> rfl

end

/-- A row is counted and reported, and its run `before` goes on as `after`. -/
def Device.countRow (d : Device) (die a p k : Nat) (before after : DRun) (miss : Bool) (note : NumNote) : Device :=
  let cnt := d.accCnt die a
  let d := (d.setAccCnt die a { cnt with drows := cnt.drows + 1, turns := cnt.turns + 1 }).progress (wPair die a)
  let d := (d.note (dreg die 3 0xE000) (uArray die a) note).postIf (after.pois && !before.pois) 0x0205 (uArray die a)
    (wd (p * 2 ^ 12 + before.cmd.seq))
  let d := d.postIf (miss && !before.miss) 0x0207 (uArray die a) (wd (p * 2 ^ 12 + before.cmd.seq))
  d.setDrains die a p ((d.drains die a p).set k { after with miss := before.miss || miss, served := cnt.turns + 1 })

section
variable (d : Device) (die a p : Nat)

@[simp] theorem Device.setDrains_core (l : List DRun) : (d.setDrains die a p l).core = d.core := rfl
@[simp] theorem Device.setDrains_quarts (l : List DRun) : (d.setDrains die a p l).kiln.quarts = d.kiln.quarts := rfl
@[simp] theorem Device.setDrains_cnts (l : List DRun) : (d.setDrains die a p l).kiln.cnts = d.kiln.cnts := rfl
@[simp] theorem Device.setAccCnt_core (v : AccCnt) : (d.setAccCnt die a v).core = d.core := rfl
@[simp] theorem Device.setAccCnt_quarts (v : AccCnt) : (d.setAccCnt die a v).kiln.quarts = d.kiln.quarts := rfl
@[simp] theorem Device.setAccCnt_drains (v : AccCnt) : (d.setAccCnt die a v).kiln.drains = d.kiln.drains := rfl

variable (k : Nat) (before after : DRun) (miss : Bool) (note : NumNote)

@[simp] theorem Device.countRow_mem : (d.countRow die a p k before after miss note).core.mem = d.core.mem := by
  simp [Device.countRow]
@[simp] theorem Device.countRow_pois : (d.countRow die a p k before after miss note).core.pois = d.core.pois := by
  simp [Device.countRow]
@[simp] theorem Device.countRow_queues : (d.countRow die a p k before after miss note).core.queues = d.core.queues := by
  simp [Device.countRow]
@[simp] theorem Device.countRow_quarts : (d.countRow die a p k before after miss note).kiln.quarts = d.kiln.quarts := by
  simp [Device.countRow]
@[simp] theorem Device.countRow_quart (slot q : Nat) :
    (d.countRow die a p k before after miss note).quart die a slot q = d.quart die a slot q := by
  simp [Device.quart]
theorem Device.countRow_drows : ((d.countRow die a p k before after miss note).accCnt die a).drows = (d.accCnt die a).drows + 1 := by
  simp [Device.countRow, Device.accCnt, Device.setAccCnt]
theorem Device.countRow_run {run : DRun} (found : (d.drains die a p)[k]? = some run) :
    ((d.countRow die a p k before after miss note).drains die a p)[k]? =
      some { after with miss := before.miss || miss, served := (d.accCnt die a).turns + 1 } := by
  obtain ⟨short, -⟩ := List.getElem?_eq_some_iff.mp found
  rw [Device.countRow, Device.drains_setDrains_self, List.getElem?_set_self]
  simpa [Device.drains] using short

end

section
variable {d : Device} {die a p k : Nat} {run : DRun} (found : (d.drains die a p)[k]? = some run)
include found

theorem devDrainRowSegment_reads {ecc : EccOutcome} (runs : d.runs (wPair die a) = true) (turn : d.drainTurn die a run = true) {x : Device}
    (coder : d.answerEcc die a (tileOf run.cmd) (drow0 run.cmd + run.row) ((drainF run.desc).col0 / 64) (drainF run.desc).quarters ecc = x)
    {es : List DElem} (elems : x.rowElems die a run (d.tile die a (tileOf run.cmd)).fmt = es) :
    devDrainRowSegment die a p k ecc d = (x.rowWritten die a run (segment run.desc (drainF run.desc) run es).1).countRow die a p k run
      (segment run.desc (drainF run.desc) run es).2.1 ((x.rowRead die a run).any (·.2)) (segment run.desc (drainF run.desc) run es).2.2 := by
  have reads : ¬ (!d.runs (wPair die a) ∨ !d.drainTurn die a run) := by simp [runs, turn]
  subst coder elems
  rw [devDrainRowSegment, found]
  refine (if_neg reads).trans ?_
  cases ecc <;> rfl

theorem devDrainRowSegment_waits {ecc : EccOutcome} (turn : d.drainTurn die a run = false) : devDrainRowSegment die a p k ecc d = d := by
  have waits : !d.runs (wPair die a) ∨ !d.drainTurn die a run := by simp [turn]
  rw [devDrainRowSegment, found]
  exact if_pos waits

end

/-! How a drain ends (R142, R143). -/

theorem Device.setRecord_free {d : Device} {k : Nat} {lo hi : Word} (free : bit (d.reg k) 31 = false) :
    (d.setRecord k lo hi).reg k = lo ∧ (d.setRecord k lo hi).reg (k + 4) = hi := by
  rw [Device.setRecord, if_neg (ne_true_of_eq_false free)]
  exact ⟨by simp [Device.reg_setReg], by simp⟩

theorem Device.setRecord_held {d : Device} {k : Nat} {lo hi : Word} (held : bit (d.reg k) 31 = true) : d.setRecord k lo hi = d :=
  if_pos held

/-- Word 0 of the fault record of a drain. -/
def drainRecord (p cause seq : Nat) : Word := wd (2 ^ 31 + cause * 2 ^ 28 + p * 2 ^ 26 + seq * 2 ^ 12)

/-- A drain that faults leaves its partition, recorded and reported (R143). -/
def Device.drainStruck (d : Device) (die a p k cause : Nat) (run : DRun) : Device :=
  ((d.setDrains die a p ((d.drains die a p).eraseIdx k)).setRecord (dreg die 3 (0x1010 + 0x100 * a + 8 * p)) (drainRecord p cause run.cmd.seq)
    (wd ((drow0 run.cmd + run.row - run.buf.length) % 2 ^ 17))).post 0x0206 (uArray die a) (drainRecord p cause run.cmd.seq)

section
variable (d : Device) (die a p k cause : Nat) (run : DRun)

theorem Device.drainStruck_codes : (d.drainStruck die a p k cause run).core.evq.map Event.code = d.core.evq.map Event.code ++ [0x0206] := by
  rw [Device.drainStruck, Device.post, List.map_append, Device.setRecord_core_evq]
  rfl

theorem Device.drainStruck_drains : (d.drainStruck die a p k cause run).drains die a p = (d.drains die a p).eraseIdx k := by
  rw [Device.drainStruck, Device.drains_post, Device.drains, Device.setRecord_kiln]
  exact Device.drains_setDrains_self ..

theorem Device.drainStruck_mem : (d.drainStruck die a p k cause run).core.mem = d.core.mem := by simp [Device.drainStruck]

theorem Device.drainStruck_quarts : (d.drainStruck die a p k cause run).kiln.quarts = d.kiln.quarts := by simp [Device.drainStruck]

variable {rec : Nat} (place : rec = dreg die 3 (0x1010 + 0x100 * a + 8 * p))
include place

theorem Device.drainStruck_free (free : bit (d.reg rec) 31 = false) :
    (d.drainStruck die a p k cause run).reg rec = drainRecord p cause run.cmd.seq ∧
      (d.drainStruck die a p k cause run).reg (rec + 4) = wd ((drow0 run.cmd + run.row - run.buf.length) % 2 ^ 17) := by
  rw [Device.drainStruck, Device.reg_post, Device.reg_post, ← place]
  exact Device.setRecord_free free

theorem Device.drainStruck_held (held : bit (d.reg rec) 31 = true) (j : Nat) : (d.drainStruck die a p k cause run).reg j = d.reg j := by
  rw [Device.drainStruck, Device.reg_post, ← place, Device.setRecord_held (d := d.setDrains ..) held]
  rfl

end

section
variable {d : Device} {die a p k : Nat} {run : DRun} (found : (d.drains die a p)[k]? = some run)
include found

theorem devDrainComplete_ends (runs : d.runs (wPair die a) = true) (whole : drowsOf run.cmd ≤ run.row) :
    devDrainComplete die a p k d = (d.setDrains die a p ((d.drains die a p).eraseIdx k)).finish run.cmd
      (if run.pois || run.miss then stPoisoned else stDone) := by
  have ends : ¬ (!d.runs (wPair die a) ∨ run.row < drowsOf run.cmd) := by simp [runs, whole]
  rw [devDrainComplete, found]
  exact if_neg ends

theorem devDrainFault_ends {cause : Nat} (runs : d.runs (wPair die a) = true) (named : cause = 2 ∨ cause = 3) :
    devDrainFault die a p k cause d = (d.drainStruck die a p k cause run).finish run.cmd stFault := by
  have ends : ¬ (!d.runs (wPair die a) ∨ (cause ≠ 2 ∧ cause ≠ 3)) := by
    simp [runs]
    omega
  rw [devDrainFault, found]
  exact if_neg ends

end

theorem next_withDev {s : State} {d e : Device} (same : d = e) :
    (.next (s.withDev d) : Host.Outcome State Fault Refusal) = .next (s.withDev e) := by
  rw [same]

/-- Settles O15: a row segment is what the coder answers, the writes of `segment`, the cleaning under WAITSEQ 1 and then the count, each of
which leaves what the clauses say; an issue, a completion and a fault are the branch that their hypotheses name. -/
theorem drainsIssueAndRun : Obligations.DrainsIssueAndRun := by
  unfold Obligations.DrainsIssueAndRun
  refine ⟨⟨?_, ?_⟩, ?_, ?_, ?_, ?_, ?_⟩
  · intro d c x op small live
    exact Device.enqueue_drain op small live
  · intro s d a p c head op runs settled good
    obtain ⟨r, issued, rfl, row, pois, draw⟩ := devDrain_issues head op runs settled good
    refine ⟨_, rfl, r, ?_, rfl, rfl, row, pois, draw, ?_⟩
    · rw [issued, Device.drains_setDrains_self]
    · rw [issued, Device.setDrains_core]
  · rintro s d a p k run f l t es found runs turn rfl rfl rfl elems
    have same : s.dev.rowElems d.val a.val run (s.dev.tile d.val a.val (tileOf run.cmd)).fmt = es := by
      rw [elems]
      simp only [Device.rowElems, Device.rowRead, List.map_map]
      rfl
    have reads := devDrainRowSegment_reads found runs turn (ecc := .clean) (x := s.dev) rfl same
    have row := segment_row run.desc (drainF run.desc) run es
    have cmd := segment_cmd run.desc (drainF run.desc) run es
    have pois := segment_pois run.desc (drainF run.desc) run es
    generalize segment run.desc (drainF run.desc) run es = seg at *
    have only := s.dev.rowWritten_quartsOnly d.val a.val run seg.1
    have goesOn := found
    rw [← s.dev.drains_writes seg.1, ← only.drains] at goesOn
    refine ⟨_, next_withDev reads, _, ?_, ?_, Device.countRow_run _ _ _ _ _ _ _ _ _ goesOn, row, cmd, rfl, pois, fun q seq => ?_, ?_, ?_, ?_,
      ?_, ?_⟩
    · rw [Device.countRow_mem, only.core]
    · rw [Device.countRow_pois, only.core]
    · refine drainHolds_read ?_
      dsimp only
      rw [row, cmd]
      omega
    · intro waits q low high
      rw [Device.countRow_quart]
      exact Device.rowWritten_dirty _ _ _ _ _ waits (DrainF.mem_quarters low high)
    · intro slot q
      rw [Device.countRow_quart]
      exact Device.rowWritten_undirtied ..
    · intro free
      rw [Device.countRow_quarts, Device.rowWritten_quarts _ _ _ _ _ free]
    · rw [Device.countRow_drows, only.accCnt, Device.accCnt, Device.writes_kiln, Device.accCnt]
    · rw [Device.countRow_queues, only.core, Device.writes_core_queues]
  · rintro s d a p k run f l t q found runs turn rfl rfl rfl low high resident
    have reads := devDrainRowSegment_reads found runs turn (ecc := .uncorrectable) rfl rfl
    refine ⟨_, next_withDev reads, ?_⟩
    rw [Device.countRow_quart, Device.rowWritten_pois]
    exact Device.answerEcc_pois _ _ _ _ _ _ _ (DrainF.mem_quarters low high) resident
  · intro s d a p k ecc run found turn
    exact next_withDev (devDrainRowSegment_waits found turn)
  · intro s d a p k run found runs whole
    exact next_withDev (devDrainComplete_ends found runs whole)
  · intro s d a p k cause run found runs named rec place
    have kept := s.dev.drainStruck_held d.val a.val p.val k cause.val run place
    exact ⟨_, next_withDev (devDrainFault_ends found runs named), Device.drainStruck_codes .., Device.drainStruck_drains ..,
      Device.drainStruck_mem .., Device.drainStruck_quarts .., s.dev.drainStruck_free d.val a.val p.val k cause.val run place,
      fun held => ⟨kept held _, kept held _⟩⟩

end Sys2Proof.Machine
end

section
/-! O16: MVMULs, their issue, their completion and their faults (R102 to R105). -/

namespace Sys2Proof.Machine

section
variable (d : Device) (b : Bool) (code unit : Nat) (data : Word)

@[simp] theorem Device.postIf_regs : (d.postIf b code unit data).core.regs = d.core.regs := by cases b <;> rfl
@[simp] theorem Device.postIf_mvp : (d.postIf b code unit data).mvp = d.mvp := by cases b <;> rfl
theorem Device.postIf_codes :
    (d.postIf b code unit data).core.evq.map Event.code = d.core.evq.map Event.code ++ if b then [code] else [] := by
  cases b <;> simp [Device.postIf, Device.post]

end

/-- What a note of conversions changes of registers: its two words. -/
theorem Device.note_reg (d : Device) {k j : Nat} (unit : Nat) (n : NumNote) (low : j ≠ k) (high : j ≠ k + 4) :
    (d.note k unit n).reg j = d.reg j := by
  unfold Device.note
  dsimp only
  split <;> split <;> simp only [Device.reg_post, Device.reg_setReg, if_neg low, if_neg high]

theorem Device.KeepsRegs.writes (d : Device) (l : List (Nat × List PByte)) : d.KeepsRegs (d.writes l) := by
  induction l generalizing d with
  | nil => exact .refl d
  | cons x l ih => exact (Device.KeepsRegs.write x.1 x.2).trans (ih _)

theorem devMvmul_issues {die : Nat} {d : Device} {c : Cmd} (head : d.ready (qMvp die) = some c) (op : c.op = 8)
    (runs : d.runs (wMvp die) = true) (idle : (d.mvpOf die).run = none) (good : mvmulBad d c = none) :
    ∃ draw, devMvmul die d = (d.popCmd (qMvp die)).setMvp die
      { d.mvpOf die with run := some { c with desc := d.readBytes (sramDA (c.word 5)) 64 }, draw := draw } := by
  have goes : ¬ (c.op ≠ 8 ∨ !d.runs (wMvp die) ∨ (d.mvpOf die).run.isSome) := by simp [op, runs, idle]
  rw [devMvmul, head]
  dsimp only
  rw [if_neg goes, good]
  exact ⟨_, rfl⟩

/-- The device once the columns of Y below `n1` are written, noted and counted (R103). -/
def Device.mvWritten (d : Device) (die : Nat) (c : Cmd) (n1 : Nat) : Device :=
  ((d.writes (mvOutput d (d.mvpOf die) c n1).1).note (dreg die 4 0xE000) (uDie die) (mvOutput d (d.mvpOf die) c n1).2.1).progressN
    (wMvp die) n1

/-- The matrix-vector path once its instruction has ended. -/
def Mvp.ended (mv : Mvp) (c : Cmd) : Mvp := { mv with run := none, last := c.seq }

section
variable (d : Device) (die : Nat) (c : Cmd) (n1 : Nat)

@[simp] theorem Device.mvWritten_mem :
    (d.mvWritten die c n1).core.mem = (d.writes (mvOutput d (d.mvpOf die) c n1).1).core.mem := by simp [Device.mvWritten]
@[simp] theorem Device.mvWritten_pois :
    (d.mvWritten die c n1).core.pois = (d.writes (mvOutput d (d.mvpOf die) c n1).1).core.pois := by simp [Device.mvWritten]

/-- Conversions are noted in two registers, and the coders count in the blocks of the tiers. -/
theorem Device.mvWritten_reg {k : Nat} (away : k / 2 ^ 16 ∉ [0x81, 0x82, 0x8A]) (low : k ≠ dreg die 4 0xE000)
    (high : k ≠ dreg die 4 0xE000 + 4) :
    (d.mvWritten die c n1).reg k = d.reg k := by
  rw [Device.mvWritten, Device.reg_progressN, Device.note_reg _ _ _ low high]
  exact Device.KeepsRegs.writes d _ k away

/-- The fault record of the matrix-vector path is apart from what its conversions and the coders write. -/
theorem Device.mvWritten_record {off : Nat} (inside : off < 0xE000) :
    (d.mvWritten die c n1).reg (dreg die 4 off) = d.reg (dreg die 4 off) := by
  refine d.mvWritten_reg die c n1 ?_ ?_ ?_
  · simp only [dreg, regKey, List.mem_cons, List.not_mem_nil, or_false]
    omega
  · simp only [dreg, regKey]
    omega
  · simp only [dreg, regKey]
    omega

end

/-- An MVMUL that has faulted with the columns of Y below `n1` written: recorded and reported (R105). -/
def Device.mvStruck (d : Device) (die : Nat) (c : Cmd) (n1 cause : Nat) (p : Bool) : Device :=
  (((d.mvWritten die c n1).setRecord (dreg die 4 8) (wd (2 ^ 31 + cause * 2 ^ 28 + c.seq * 2 ^ 12)) (wd (n1 % 65536))).postIf p
    evOperandPoison (uDie die) 0).post 0x0204 (uDie die) 0

section
variable (d : Device) (die : Nat) (c : Cmd) (n1 cause : Nat) (p : Bool)

@[simp] theorem Device.mvStruck_mem : (d.mvStruck die c n1 cause p).core.mem = (d.mvWritten die c n1).core.mem := by simp [Device.mvStruck]

theorem Device.mvStruck_record (free : bit (d.reg (dreg die 4 8)) 31 = false) :
    (d.mvStruck die c n1 cause p).reg (dreg die 4 8) = wd (2 ^ 31 + cause * 2 ^ 28 + c.seq * 2 ^ 12) ∧
      (d.mvStruck die c n1 cause p).reg (dreg die 4 8 + 4) = wd (n1 % 65536) := by
  rw [← d.mvWritten_record die c n1 (by decide)] at free
  rw [Device.mvStruck, Device.reg_post, Device.reg_post, Device.reg_of_regs (Device.postIf_regs ..), Device.reg_of_regs (Device.postIf_regs ..)]
  exact Device.setRecord_free free

/-- The path of the die once its instruction has left it and completed. -/
theorem Device.mvpOf_ended (mv : Mvp) (status : Nat) : ((d.setMvp die (mv.ended c)).finish c status).mvpOf die = mv.ended c := by
  rw [Device.mvpOf, Device.finish_mvp]
  exact Device.mvpOf_setMvp_self ..

end

section
variable {die : Nat} {d : Device} {c : Cmd} (run : (d.mvpOf die).run = some c) (runs : d.runs (wMvp die) = true)
include run runs

theorem devMvmulComplete_ends : ∃ p, devMvmulComplete die d =
    (((d.mvWritten die c (mvN c)).postIf p evOperandPoison (uDie die) 0).setMvp die ((d.mvpOf die).ended c)).finish c
      (if p then stPoisoned else stDone) := by
  have goes : ¬ (!d.runs (wMvp die)) = true := by simp [runs]
  rw [devMvmulComplete, run]
  exact ⟨_, if_neg goes⟩

theorem devMvpFault_ends {cause nidx : Nat} (least : 2 ≤ cause) (most : cause ≤ 4) (inside : nidx < mvN c) : ∃ p, devMvpFault die cause nidx d =
    ((d.mvStruck die c (if (mvY c).scaled then nidx / 32 * 32 else nidx) cause p).setMvp die ((d.mvpOf die).ended c)).finish c stFault := by
  have goes : ¬ (!d.runs (wMvp die) ∨ cause < 2 ∨ cause > 4 ∨ nidx ≥ mvN c) := by
    simp [runs]
    omega
  rw [devMvpFault, run]
  exact ⟨_, if_neg goes⟩

end

/-- Settles O16: an issue, a completion and a fault are the branch that their hypotheses name; the columns written are those of
`mvOutput`, and the fault record lies apart from all that the writes touch. -/
theorem mvmulIssuesAndCompletes : Obligations.MvmulIssuesAndCompletes := by
  unfold Obligations.MvmulIssuesAndCompletes
  refine ⟨?_, ?_, ?_⟩
  · intro s d c head op runs idle good
    obtain ⟨draw, issued⟩ := devMvmul_issues head op runs idle good
    exact ⟨_, next_withDev issued, { c with desc := s.dev.readBytes (sramDA (c.word 5)) 64 }, by rw [Device.mvpOf_setMvp_self], rfl, rfl, rfl,
      Device.setMvp_core ..⟩
  · intro s d c run runs
    obtain ⟨p, ended⟩ := devMvmulComplete_ends run runs
    refine ⟨_, next_withDev ended, ?_, ?_, by simp, by simp⟩
    · rw [Device.mvpOf_ended, Mvp.ended]
    · rw [Device.mvpOf_ended, Mvp.ended]
  · intro s d cause nidx c run runs least most inside
    obtain ⟨p, ended⟩ := devMvpFault_ends run runs least most inside
    refine ⟨_, next_withDev ended, ?_, by simp, fun free => ?_⟩
    · rw [Device.mvpOf_ended, Mvp.ended]
    · rw [Device.reg_finish, Device.reg_finish]
      exact s.dev.mvStruck_record d.val c _ cause.val p free

end Sys2Proof.Machine
end

section
/-! O12: array instructions issue from the head of their queue, and late heads are warned of (R78 to R91, R112, R151, R256). -/

namespace Sys2Proof.Machine

/-! Partitions. -/

theorem Device.part_setPart (d : Device) (die a p q : Nat) (v : Part) :
    (d.setPart die a p v).part die a q = if q = p then v else d.part die a q := by
  simp only [Device.part, Device.setPart, partIx, mget_mset, Nat.add_left_cancel_iff]

/-- A run of steps, each of which changes one partition by `f`. -/
theorem Device.part_foldl {die a : Nat} {step : Device → Nat → Device} {f : Nat → Part → Part}
    (changes : ∀ d p q, (step d p).part die a q = if q = p then f p (d.part die a p) else d.part die a q) (d : Device) {l : List Nat}
    (nodup : l.Nodup) (q : Nat) : (l.foldl step d).part die a q = if q ∈ l then f q (d.part die a q) else d.part die a q := by
  induction l generalizing d with
  | nil => rfl
  | cons p l ih =>
    obtain ⟨new, nodup⟩ := List.nodup_cons.mp nodup
    rw [List.foldl_cons, ih _ nodup, changes]
    by_cases same : q = p
    · subst same
      simp [new]
    · simp [same]

/-! Issue (R78, R79, R84, R91). -/

section
variable {die a p : Nat} {d : Device} {c : Cmd}

theorem devKload_issues (head : d.ready (qArr die a p) = some c) (op : c.op = 1) (runs : d.runs (wPair die a) = true)
    (settled : (d.part die a p).pend = false) (free : (d.arr die a).load = none) (unheld : d.cmdHeld die a c = false)
    (good : d.groupBad (qArr die a p) c d.partKloadBad = none) :
    devKload die a p d =
      ((d.popCmd (qArr die a p)).setArr die a { d.arr die a with load := some { part := p, cmd := c, tag := !(d.part die a p).atag } }).setPart
        die a p { d.part die a p with bound := some (!(d.part die a p).atag), svalid := false } := by
  have goes : ¬ (c.op ≠ 1 ∨ !d.runs (wPair die a) ∨ (d.part die a p).pend ∨ (d.arr die a).load.isSome ∨ d.cmdHeld die a c) := by
    simp [op, runs, settled, free, unheld]
  rw [devKload, head]
  dsimp only
  rw [if_neg goes, good]

theorem devStream_issues {op : Nat} {tag : Bool} (head : d.ready (qArr die a p) = some c) (named : c.op = op)
    (runs : d.runs (wPair die a) = true) (unheld : d.cmdHeld die a c = false) (bound : (d.part die a p).bound = some tag)
    (loaded : (d.part die a p).loaded tag = true) (whole : (d.part die a p).faulted ≠ some tag)
    (entered : ∀ r ∈ (d.part die a p).runs, r.ent ≥ mrows r.cmd) (settled : d.tilePend die a (tileOf c) = none)
    (good : d.groupBad (qArr die a p) c d.partStreamBad = none)
    (source : (d.turn die a).isSource a = true → (d.turn die a).canAccept = true)
    (receiver : (d.turn die a).isReceiver a = true → (d.turn die a).canTake = true) :
    devStream op die a p d = ((d.popCmd (qArr die a p)).setTurn die a ((d.turn die a).letIn a)).setPart die a p
      { d.part die a p with runs := (d.part die a p).runs ++
          [newRun op (d.turn die a) a c tag ((d.part die a p).plane tag).fmt (d.descWords (sramDA (c.word 5)) 16)] } := by
  have ready : (d.part die a p).boundReady = true := by rw [Part.boundReady, bound]; exact loaded
  have behind : (d.part die a p).runs.any (fun r => decide (r.ent < mrows r.cmd)) = false := by
    simpa [List.any_eq_false] using entered
  have goes : ¬ (c.op ≠ op ∨ !d.runs (wPair die a) ∨ d.cmdHeld die a c ∨ !(d.part die a p).boundReady ∨
      (d.part die a p).runs.any (fun r => decide (r.ent < mrows r.cmd)) ∨ (d.tilePend die a (tileOf c)).isSome) := by
    simp [named, runs, unheld, ready, behind, settled]
  have served : ¬ (((d.turn die a).isSource a && !(d.turn die a).canAccept) ||
      ((d.turn die a).isReceiver a && !(d.turn die a).canTake)) = true := by
    simpa using ⟨source, receiver⟩
  rw [devStream, head]
  dsimp only
  rw [if_neg goes, bound, if_neg (by simpa using whole), good]
  exact if_neg served

/-- The array of a KCFG that issues, and its partitions with nothing left but the SEQ of their last instruction (R91). -/
def Device.configured (d : Device) (die a : Nat) (c : Cmd) : Device :=
  (List.range 4).foldl (fun d p => d.setPart die a p { last := if p = 0 then c.seq else (d.part die a p).last })
    ((d.popCmd (qArr die a 0)).setArr die a { d.arr die a with pmode := fld (c.word 3) 1 0 })

theorem Device.configured_arr : (d.configured die a c).arr die a = { d.arr die a with pmode := fld (c.word 3) 1 0 } :=
  List.foldlRecOn (motive := fun e : Device => e.arr die a = { d.arr die a with pmode := fld (c.word 3) 1 0 }) _ _
    (Device.arr_setArr_self ..) fun _ h _ _ => h

theorem Device.configured_part (inside : p < 4) :
    (d.configured die a c).part die a p = { last := if p = 0 then c.seq else (d.part die a p).last } := by
  rw [Device.configured, Device.part_foldl (f := fun p x => { last := if p = 0 then c.seq else x.last })
    (fun d p q => d.part_setPart die a p q _) _ List.nodup_range, if_pos (List.mem_range.mpr inside), Device.part_setArr, Device.part_popCmd]

theorem Device.configured_core : (d.configured die a c).core = (d.popCmd (qArr die a 0)).core :=
  List.foldlRecOn (motive := fun e : Device => e.core = (d.popCmd (qArr die a 0)).core) _ _ rfl fun _ h _ _ => h

theorem devKcfg_issues (head : d.ready (qArr die a 0) = some c) (op : c.op = 4) (runs : d.runs (wPair die a) = true)
    (unheld : d.cmdHeld die a c = false) (free : (d.arr die a).load = none)
    (idle : ∀ p, p < 4 → (d.part die a p).pend = false ∧ (d.part die a p).runs = [] ∧ ∀ x ∈ d.queue (qArr die a p), c.ord ≤ x.ord)
    (good : d.groupBad (qArr die a 0) c (kcfgBad d) = none) : devKcfg die a d = (d.configured die a c).finish c stDone := by
  have quiet : (List.range 4).any (fun p => (d.part die a p).pend || !(d.part die a p).runs.isEmpty ||
      (d.queue (qArr die a p)).any (fun x => decide (x.ord < c.ord))) = false := by
    rw [List.any_eq_false]
    intro p inside
    obtain ⟨settled, none, later⟩ := idle p (List.mem_range.mp inside)
    simpa [settled, none] using later
  have goes : ¬ (c.op ≠ 4 ∨ !d.runs (wPair die a) ∨ ((d.arr die a).load.isSome || (List.range 4).any (fun p => (d.part die a p).pend ||
      !(d.part die a p).runs.isEmpty || (d.queue (qArr die a p)).any (fun x => decide (x.ord < c.ord)))) ∨ d.cmdHeld die a c) := by
    rw [quiet]
    simp [op, runs, unheld, free]
  rw [devKcfg, head]
  dsimp only
  rw [if_neg goes, good]
  rfl

end

theorem kcfgBad_none {d : Device} {q : Nat} {c : Cmd} : kcfgBad d q c = none ↔
    w012Reserved c true = false ∧ partShare c = false ∧ fld (c.word 3) 31 2 = 0 ∧ c.word 4 = 0 ∧ c.word 5 = 0 ∧ c.word 6 = 0 ∧
      c.word 7 = 0 ∧ fld (c.word 3) 1 0 ≠ 3 ∧ (((d.turnFor (qDie q) (qArray q) c).turn (qDie q) (qArray q)).en = true → fld (c.word 3) 1 0 = 0) := by
  simp only [kcfgBad, firstBad, ite_eq_right_iff, reduceCtorEq, imp_false, Bool.not_eq_true, Bool.or_eq_false_iff, bne_eq_false_iff_eq,
    beq_eq_false_iff_ne, Bool.and_eq_false_imp, and_assoc]

/-! Late heads (R88, R89, R256). -/

theorem Device.overdue_iff {d : Device} {die : Nat} {c : Cmd} : d.overdue die c = true ↔ fld (c.word 2) 31 16 ≠ 0 ∧ c.late = false ∧
    ∃ n, d.core.armed.lookup (.late die c.ord) = some n ∧ n + 64 * fld (c.word 2) 31 16 ≤ d.time die := by
  unfold Device.overdue Cmd.due Device.expired Timer.die
  cases d.core.armed.lookup (.late die c.ord) <;> simp [and_assoc]

theorem Device.markLate_cons {d : Device} {n : Nat} {c : Cmd} {q : List Cmd} (front : d.queue n = c :: q) :
    d.markLate n = d.setQueue n ({ c with late := true } :: q) := by
  rw [Device.markLate, front]

section
variable {d : Device} {die : Fin 4} {a : Fin 16} {p : Fin 4} {c : Cmd} {q : List Cmd} (front : d.queue (qArr die.val a.val p.val) = c :: q)
include front

theorem devLatePrefetch_part (late : d.overdue die.val c = true) (unmasked : bit (d.reg (dreg die.val 1 0)) a.val = false) :
    devLatePrefetch (.part die a p) d = (d.setQueue (qArr die.val a.val p.val) ({ c with late := true } :: q)).post evLate
      (uArray die.val a.val) (lateData d die.val a.val p.val c) := by
  simp only [devLatePrefetch, front]
  rw [if_pos (by simp [late, unmasked]), Device.markLate_cons front]

theorem devLatePrefetch_part_quiet (quiet : d.overdue die.val c = false ∨ bit (d.reg (dreg die.val 1 0)) a.val = true) :
    devLatePrefetch (.part die a p) d = d := by
  simp only [devLatePrefetch, front]
  refine if_neg ?_
  rcases quiet with quiet | quiet <;> simp [quiet]

end

theorem devLatePrefetch_queue {d : Device} {n : Nat} {c : Cmd} {q : List Cmd} (front : d.queue n = c :: q)
    (late : d.overdue (queueDie n) c = true) (other : 256 ≤ n) (noSegment : n < 728 ∨ 733 ≤ n) :
    devLatePrefetch (.queue n) d = (d.setQueue n ({ c with late := true } :: q)).post evLate c.unit 0 := by
  have named : 256 ≤ n ∧ ¬ (728 ≤ n ∧ n < 733) := by omega
  simp only [devLatePrefetch, front]
  rw [if_pos (by rw [late, decide_eq_true named]; rfl), Device.markLate_cons front]

/-- A segment once its RAISEs of one command are marked as late. -/
def Seg.warned (s : Seg) (cid : Nat) : Seg := { s with cur := s.cur.map (TierRun.markLate cid), runs := s.runs.map (TierRun.markLate cid) }

theorem lateRaises_warned (s : Seg) (cid : Nat) : lateRaises (s.warned cid) = (lateRaises s).map (TierRun.markLate cid) := by
  cases h : s.cur <;> simp [lateRaises, Seg.warned, h]

/-- A RAISE that was warned of is due no more. -/
theorem TierRun.markLate_due {r : TierRun} {cid : Nat} (same : (r.markLate cid).cmd.cid = cid) : (r.markLate cid).cmd.due = false := by
  unfold TierRun.markLate at same ⊢
  split
  next => exact Bool.and_false _
  next other =>
    rw [if_neg other] at same
    exact absurd same other

theorem devLatePrefetch_seg {d : Device} {g : Fin 5} {r : TierRun}
    (late : (lateRaises (d.seg g.val)).find? (fun r => tTop r.cmd == 2 && d.overdue 0 r.cmd) = some r) :
    devLatePrefetch (.seg g) d = (d.setSeg g.val ((d.seg g.val).warned r.cmd.cid)).post evLate (segOwner g.val) (lateRaise d g.val r false) := by
  rw [devLatePrefetch, Device.lateSeg, late]
  rfl

/-- Settles O12: an issue and a warning are the branch that their hypotheses name; a KCFG runs over the four partitions, and a RAISE that was
warned of is marked. -/
theorem arrayInstructionsIssueOrWarn : Obligations.ArrayInstructionsIssueOrWarn := by
  unfold Obligations.ArrayInstructionsIssueOrWarn
  refine ⟨⟨?_, ?_, ?_, ?_⟩, ?_, ?_, ?_, ?_, ?_⟩
  · intro s d a p c head op runs settled free unheld good
    exact next_withDev (devKload_issues head op runs settled free unheld good)
  · rintro op i named s d a p c tag head opOf runs unheld bound loaded whole entered settled good source receiver
    have issued := devStream_issues head opOf runs unheld bound loaded whole entered settled good source receiver
    obtain ⟨rfl, rfl⟩ | ⟨rfl, rfl⟩ := named <;> exact next_withDev issued
  · intro s d a c head op runs unheld free idle good
    refine ⟨_, next_withDev (devKcfg_issues head op runs unheld free idle good), Device.configured_arr, fun p => Device.configured_part,
      rfl, rfl, rfl, rfl, ?_, ?_⟩
    · rw [Device.configured_core, Device.popCmd_core_regs]
    · rw [Device.configured_core, Device.popCmd_core_mem]
  · exact fun d q c => kcfgBad_none
  · intro s die a p c q front late unmasked
    exact next_withDev (devLatePrefetch_part front late unmasked)
  · intro s die a p c q front quiet
    exact next_withDev (devLatePrefetch_part_quiet front quiet)
  · intro s g r late
    refine ⟨_, next_withDev (devLatePrefetch_seg late), by simp [Device.post], fun x found same => ?_⟩
    rw [Device.seg, Device.post_tier, ← Device.seg, Device.seg_setSeg_self, lateRaises_warned] at found
    obtain ⟨y, -, rfl⟩ := List.mem_map.mp found
    exact TierRun.markLate_due same
  · intro s n c q front late other noSegment
    exact next_withDev (devLatePrefetch_queue front late other noSegment)
  · exact fun d die c => Device.overdue_iff

end Sys2Proof.Machine
end

section
/-! O13: planes load and swap, rows enter and are added, a partition faults (R75 to R96, R125, R129, R130, R145, R156). -/

namespace Sys2Proof.Machine

/-- Progress of a slot where a condition holds. -/
def Device.progressIf (d : Device) (b : Prop) [Decidable b] (w : Nat) : Device := if b then d.progress w else d

section
variable (d : Device) (b : Prop) [Decidable b] (w : Nat)

@[simp] theorem Device.progressIf_core : (d.progressIf b w).core = d.core := by unfold Device.progressIf; split <;> rfl
@[simp] theorem Device.progressIf_kiln : (d.progressIf b w).kiln = d.kiln := by unfold Device.progressIf; split <;> rfl

end

/-! Tokens (R77, R78). -/

/-- A partition's rows have gone on by n columns. -/
def Part.advanced (x : Part) (n : Nat) : Part := { x with rows := x.rows.map (fun r => { r with left := min 256 (r.left + n) }) }

def Device.advancePart (die a n : Nat) (d : Device) (p : Nat) : Device :=
  if (d.part die a p).rows.isEmpty then d else d.setPart die a p ((d.part die a p).advanced n)

theorem Device.advancePart_core (die a n : Nat) (d : Device) (p : Nat) : (d.advancePart die a n p).core = d.core := by
  unfold Device.advancePart
  split <;> rfl

theorem Device.advancePart_arr (die a n : Nat) (d : Device) (p : Nat) : (d.advancePart die a n p).arr die a = d.arr die a := by
  unfold Device.advancePart
  split <;> rfl

theorem Device.advancePart_part (die a n : Nat) (d : Device) (p q : Nat) :
    (d.advancePart die a n p).part die a q = if q = p then (d.part die a p).advanced n else d.part die a q := by
  unfold Device.advancePart
  split
  next empty =>
    have none : (d.part die a p).advanced n = d.part die a p := by
      rw [Part.advanced, List.isEmpty_iff.mp empty, List.map_nil, ← List.isEmpty_iff.mp empty]
    rw [none]
    split
    next same => rw [same]
    next => rfl
  next => exact d.part_setPart die a p q _

section
variable {d : Device} {die a n : Nat} {l : Load} (found : (d.arr die a).load = some l) (runs : d.runs (wPair die a) = true) (passed : 0 < n)
include found runs passed

theorem Device.arrayTokens_reads : d.arrayTokens die a n =
    (List.range 4).foldl (Device.advancePart die a n) (d.setArr die a { d.arr die a with load := some (d.loadMore l (256 * n)) }) := by
  have passes : ¬ (n = 0 ∨ !d.runs (wPair die a)) := by
    simp [runs]
    omega
  rw [Device.arrayTokens, if_neg passes]
  dsimp only
  rw [found]
  rfl

theorem Device.arrayTokens_core : (d.arrayTokens die a n).core = d.core := by
  rw [Device.arrayTokens_reads found runs passed]
  exact List.foldlRecOn (motive := fun e : Device => e.core = d.core) _ _ rfl fun e h p _ => (e.advancePart_core die a n p).trans h

theorem Device.arrayTokens_load : ((d.arrayTokens die a n).arr die a).load = some (d.loadMore l (256 * n)) := by
  rw [Device.arrayTokens_reads found runs passed]
  refine List.foldlRecOn (motive := fun e : Device => (e.arr die a).load = some (d.loadMore l (256 * n))) _ _ ?_ fun e h p _ => ?_
  · rw [Device.arr_setArr_self]
  · rw [Device.advancePart_arr, h]

theorem Device.arrayTokens_part {p : Nat} (inside : p < 4) : (d.arrayTokens die a n).part die a p = (d.part die a p).advanced n := by
  rw [Device.arrayTokens_reads found runs passed, Device.part_foldl (f := fun _ x => x.advanced n) (Device.advancePart_part die a n) _
    List.nodup_range, if_pos (List.mem_range.mpr inside), Device.part_setArr]

end

/-! The end of a load, and swaps (R78, R81, R96). -/

/-- A partition whose load has ended: its shadow plane is filled and every free column swaps. -/
def Part.filled (x : Part) (l : Load) (w : Nat) : Part :=
  ({ x with shadow := loadPlane l, svalid := true, pend := true, swapped := 0, last := l.cmd.seq } : Part).swapTo w (x.freeCols w)

section
variable {x : Part} {l : Load} {w : Nat}

theorem Part.filled_last : (x.filled l w).last = l.cmd.seq := by
  unfold Part.filled Part.swapTo
  split <;> rfl

theorem Part.filled_swaps (partly : x.freeCols w < w) : x.filled l w =
    { x with shadow := loadPlane l, svalid := true, pend := true, swapped := x.freeCols w, last := l.cmd.seq } := by
  rw [Part.filled, Part.swapTo, if_neg (Nat.not_le.mpr partly), Nat.max_eq_right (Nat.zero_le _)]

theorem Part.filled_done (all : w ≤ x.freeCols w) : x.filled l w =
    ({ x with shadow := loadPlane l, svalid := true, pend := true, swapped := 0, last := l.cmd.seq } : Part).swapDone :=
  if_pos all

end

/-- Columns below the least number of columns that old-tagged rows have left, and below W. -/
theorem lt_foldl_min {l : List Nat} {w j : Nat} : j < l.foldl min w ↔ j < w ∧ ∀ x ∈ l, j < x := by
  induction l generalizing w with
  | nil => simp
  | cons x l ih => simp [ih, and_assoc]

theorem Part.lt_freeCols {x : Part} {w j : Nat} : j < x.freeCols w ↔ j < w ∧ (∀ r ∈ x.runs, r.tag = x.atag → mrows r.cmd ≤ r.ent) ∧
    ∀ r ∈ x.rows, r.tag = x.atag → j < r.left := by
  unfold Part.freeCols
  split
  next enters =>
    obtain ⟨r, issued, old⟩ := List.any_eq_true.mp enters
    simp only [Bool.and_eq_true, beq_iff_eq, decide_eq_true_eq] at old
    refine iff_of_false (Nat.not_lt_zero j) fun h => ?_
    exact absurd (h.2.1 r issued old.1) (Nat.not_le.mpr old.2)
  next entered =>
    have whole : ∀ r ∈ x.runs, r.tag = x.atag → mrows r.cmd ≤ r.ent := by simpa using entered
    rw [lt_foldl_min, and_iff_right whole]
    simp only [List.forall_mem_map, List.mem_filter, and_imp, beq_iff_eq]

section
variable {d : Device} {die a : Nat}

theorem devLoadComplete_waits {l : Load} (found : (d.arr die a).load = some l) (unread : l.got.length < (loadAddrs l.cmd).length) :
    devLoadComplete die a d = d := by
  have waits : !d.runs (wPair die a) ∨ !l.isRead := by simp [Load.isRead, unread]
  rw [devLoadComplete, found]
  exact if_pos waits

/-- The device once a load has ended: its path is free and its plane in place. -/
def Device.loaded (d : Device) (die a : Nat) (l : Load) : Device :=
  (((d.setArr die a { d.arr die a with load := none, loadcnt := ((d.arr die a).loadcnt + 1) % 2 ^ 32 }).setPart die a l.part
    ((d.part die a l.part).filled l (widthOf (d.arr die a).pmode))).progress (wPair die a)).postIf ((loadPlane l).pois.any id) evOperandPoison
      (uArray die a) 0

theorem devLoadComplete_ends {l : Load} (found : (d.arr die a).load = some l) (runs : d.runs (wPair die a) = true)
    (read : (loadAddrs l.cmd).length ≤ l.got.length) :
    devLoadComplete die a d = (d.loaded die a l).finish l.cmd (if (loadPlane l).pois.any id then stPoisoned else stDone) := by
  have ends : ¬ (!d.runs (wPair die a) ∨ !l.isRead) := by simp [runs, Load.isRead, read]
  rw [devLoadComplete, found]
  exact if_neg ends

theorem Device.loaded_part (l : Load) :
    (d.loaded die a l).part die a l.part = (d.part die a l.part).filled l (widthOf (d.arr die a).pmode) := by
  rw [Device.loaded, Device.part, Device.postIf_kiln]
  exact Device.part_setPart_self ..

theorem Device.loaded_arr (l : Load) : (d.loaded die a l).arr die a =
    { d.arr die a with load := none, loadcnt := ((d.arr die a).loadcnt + 1) % 2 ^ 32 } := by
  rw [Device.loaded, Device.arr, Device.postIf_kiln]
  exact Device.arr_setArr_self ..

theorem devColumnSwap_swaps {p : Nat} (runs : d.runs (wPair die a) = true) (pend : (d.part die a p).pend = true)
    (valid : (d.part die a p).svalid = true) (free : (d.part die a p).swapped < (d.part die a p).freeCols (widthOf (d.arr die a).pmode)) :
    devColumnSwap die a p (d.part die a p).swapped d = d.setPart die a p
      (if widthOf (d.arr die a).pmode ≤ (d.part die a p).swapped + 1 then (d.part die a p).swapDone
       else { d.part die a p with swapped := (d.part die a p).swapped + 1 }) := by
  have swaps : ¬ (!d.runs (wPair die a) ∨ !(d.part die a p).pend ∨ !(d.part die a p).svalid ∨
      (d.part die a p).swapped ≠ (d.part die a p).swapped ∨
      (d.part die a p).freeCols (widthOf (d.arr die a).pmode) ≤ (d.part die a p).swapped) := by
    simp [runs, pend, valid, free]
  refine (if_neg swaps).trans ?_
  rw [Part.swapTo, Nat.max_eq_right (Nat.le_succ _)]

theorem devColumnSwap_waits {p col : Nat}
    (waits : col ≠ (d.part die a p).swapped ∨ (d.part die a p).freeCols (widthOf (d.arr die a).pmode) ≤ col) :
    devColumnSwap die a p col d = d :=
  if_pos (.inr (.inr (.inr waits)))

end

/-! Rows enter (R77, R125, R130, R156). -/

section
variable {d : Device} {die a p : Nat}

/-- The row that enters, what it leaves of the turn, its partition, and what is reported. -/
theorem Device.enterOne_enters {run : Run} (found : (d.part die a p).entering = some run) : ∃ (t : Turn) (row : InRow) (x : Bool),
    (row.ord, row.row, row.tag) = (run.cmd.ord, run.ent, run.tag) ∧
    d.enterOne die a p = (((((d.setArr die a { d.arr die a with rowcnt := (d.arr die a).rowcnt + 1 }).setTurn die a t).setPart die a p
      { (d.part die a p).setRun { run with ent := run.ent + 1, pois := run.pois || x } with rows := (d.part die a p).rows ++ [row] }).progress
        (wPair die a)).progressIf (t.wcnt ≠ (d.turn die a).wcnt) (wPair die a)).postIf (x && !run.pois) evOperandPoison (uArray die a) 0 := by
  rw [Part.entering] at found
  rw [Device.enterOne]
  dsimp only
  rw [found]
  exact ⟨_, _, _, rfl, rfl⟩

theorem Device.enterOne_none (none : (d.part die a p).entering = none) : d.enterOne die a p = d := by
  rw [Part.entering] at none
  rw [Device.enterOne]
  dsimp only
  rw [none]

/-- What the entry of a row leaves alone. -/
theorem Device.enterOne_frame : (d.enterOne die a p).core.mem = d.core.mem ∧ (d.enterOne die a p).core.regs = d.core.regs ∧
    (d.enterOne die a p).core.queues = d.core.queues ∧ (d.enterOne die a p).kiln.quarts = d.kiln.quarts := by
  cases found : (d.part die a p).entering with
  | none =>
    rw [Device.enterOne_none found]
    exact ⟨rfl, rfl, rfl, rfl⟩
  | some run =>
    obtain ⟨t, row, x, -, entered⟩ := Device.enterOne_enters found
    rw [entered]
    simp only [Device.postIf_mem, Device.postIf_regs, Device.postIf_queues, Device.postIf_kiln, Device.progressIf_core, Device.progressIf_kiln]
    exact ⟨rfl, rfl, rfl, rfl⟩

theorem Device.enterOne_rows {run : Run} (found : (d.part die a p).entering = some run) :
    ((d.enterOne die a p).part die a p).rows.map (fun r => (r.ord, r.row, r.tag)) =
      (d.part die a p).rows.map (fun r => (r.ord, r.row, r.tag)) ++ [(run.cmd.ord, run.ent, run.tag)] := by
  obtain ⟨t, row, x, names, entered⟩ := Device.enterOne_enters found
  rw [entered, Device.part, Device.postIf_kiln, Device.progressIf_kiln, ← Device.part, Device.part_progress, Device.part_setPart_self,
    List.map_append, ← names]
  rfl

theorem Device.enterOne_rowcnt {run : Run} (found : (d.part die a p).entering = some run) :
    ((d.enterOne die a p).arr die a).rowcnt = (d.arr die a).rowcnt + 1 := by
  obtain ⟨t, row, x, -, entered⟩ := Device.enterOne_enters found
  rw [entered, Device.arr, Device.postIf_kiln, Device.progressIf_kiln, ← Device.arr, Device.arr_progress, Device.arr_setPart]
  exact congrArg Arr.rowcnt (Device.arr_setArr_self ..)

/-- The rows of one token: two in dual-row mode (R125). -/
def Device.entered (d : Device) (die a p : Nat) (run : Run) : Device :=
  if run.perToken = 2 then (d.enterOne die a p).enterOne die a p else d.enterOne die a p

theorem Device.entered_frame {run : Run} : (d.entered die a p run).core.mem = d.core.mem ∧ (d.entered die a p run).core.regs = d.core.regs ∧
    (d.entered die a p run).core.queues = d.core.queues ∧ (d.entered die a p run).kiln.quarts = d.kiln.quarts := by
  unfold Device.entered
  split
  · obtain ⟨mem, regs, queues, quarts⟩ := d.enterOne_frame (die := die) (a := a) (p := p)
    rw [← mem, ← regs, ← queues, ← quarts]
    exact Device.enterOne_frame
  · exact Device.enterOne_frame

theorem devRowEntry_enters {hit : List (Fin 256)} {run : Run} (runs : d.runs (wPair die a) = true)
    (found : (d.part die a p).entering = some run) (free : d.holdsRow die a p = false) :
    devRowEntry die a p hit d = (d.setTurn die a ((d.turn die a).struck run (hit.map Fin.val))).entered die a p run := by
  have enters : ¬ (!d.runs (wPair die a) ∨ d.holdsRow die a p) := by simp [runs, free]
  rw [devRowEntry, found]
  exact if_neg enters

theorem devRowEntry_waits {hit : List (Fin 256)} (held : d.holdsRow die a p = true) : devRowEntry die a p hit d = d := by
  unfold devRowEntry
  split
  next => rfl
  next => exact if_pos (.inr held)

end

@[simp] theorem Turn.win_setWin_self (t : Turn) (i : Nat) (w : Win) : (t.setWin i w).win i = w := by
  unfold Turn.win Turn.setWin
  split <;> rfl

/-- An element that the turn buffer reads uncorrectable is marked as poisoned, its code unchanged (R156). -/
theorem Turn.struck_elem {t : Turn} {run : Run} {w q i r : Nat} (take : run.take = some (w, q))
    (place : r = 768 * (run.ent / 256) + 256 * q + i) (inside : run.ent % 256 < (mget [] (t.win w).rows r).length) :
    ((t.struck run [i]).win w).elem q run.ent i = (((t.win w).elem q run.ent i).1, true) := by
  subst place
  rw [Turn.struck, take]
  dsimp only
  rw [Turn.win_setWin_self, List.foldl_cons, List.foldl_nil, Win.elem, mget_mset_self, List.getD_eq_getElem?_getD, List.getElem?_set_self inside]
  rfl

/-! Rows are added (R129, R145). -/

/-- A partition once its oldest row has been added for `run`; with its last row the instruction leaves. -/
def Part.added (x : Part) (run : Run) (rest : List InRow) (miss : Bool) : Part :=
  if run.added + 1 = mrows run.cmd then
    { x with rows := rest, runs := x.runs.filter (fun y => y.cmd.ord != run.cmd.ord), last := run.cmd.seq }
  else { x.setRun { run with added := run.added + 1, miss := run.miss || miss } with rows := rest }

section
variable {x : Part} {run : Run} {rest : List InRow} {miss : Bool}

theorem Part.added_last (whole : run.added + 1 = mrows run.cmd) : x.added run rest miss =
    { x with rows := rest, runs := x.runs.filter (fun y => y.cmd.ord != run.cmd.ord), last := run.cmd.seq } := if_pos whole

theorem Part.added_more (more : run.added + 1 ≠ mrows run.cmd) : x.added run rest miss =
    { x.setRun { run with added := run.added + 1, miss := run.miss || miss } with rows := rest } := if_neg more

theorem Part.added_rows : (x.added run rest miss).rows = rest := by
  unfold Part.added
  split <;> rfl

end

/-- The device `d` once a row has been added there, with a ring miss or without. -/
def Device.rowAdded (d : Device) (die a p : Nat) (x : Part) (run : Run) (rest : List InRow) (miss : Bool) : Device :=
  (d.postIf (miss && !run.miss) 0x0207 (uArray die a) (wd (p * 2 ^ 12 + run.cmd.seq))).setPart die a p (x.added run rest miss)

theorem Device.rowAdded_quarts (d : Device) (die a p : Nat) (x : Part) (run : Run) (rest : List InRow) (miss : Bool) :
    (d.rowAdded die a p x run rest miss).kiln.quarts = d.kiln.quarts := by
  simp only [Device.rowAdded, Device.setPart, Device.postIf_kiln]

section
variable {d : Device} {die a p : Nat} {r : InRow} {rest : List InRow} {run : Run} (oldest : (d.part die a p).rows = r :: rest)
include oldest

theorem devAccumulatorAdd_adds {fixed ce : Nat} {x : Device × Bool} (runs : d.runs (wPair die a) = true)
    (found : (d.part die a p).runOf r.ord = some run)
    (free : ∀ q ∈ rowQuarters (d.arr die a).pmode p (fmtOf run.pfmt), d.held die a p (tileOf run.cmd) (arow0 run.cmd + r.row) q = false)
    (reached : r.sums.length ≤ r.left + 1) (place : ce = dreg die 2 (0x1008 + 0x200 * a))
    (sums : x = (d.setReg ce (wd (satAdd32 (d.reg ce).toNat fixed))).addRow die a p (tileOf run.cmd) (arow0 run.cmd + r.row) run.cmd r
      (rowQuarters (d.arr die a).pmode p (fmtOf run.pfmt))) :
    devAccumulatorAdd die a p fixed d = if run.added + 1 = mrows run.cmd then
        (x.1.rowAdded die a p (d.part die a p) run rest x.2).finish run.cmd (if run.pois || (run.miss || x.2) then stPoisoned else stDone)
      else x.1.rowAdded die a p (d.part die a p) run rest x.2 := by
  have unheld : d.rowWaits die a p = false := by
    rw [Device.rowWaits, oldest]
    dsimp only
    rw [found]
    exact List.any_eq_false.mpr fun q inside => ne_true_of_eq_false (free q inside)
  have adds : ¬ (!d.runs (wPair die a) ∨ !r.reached ∨ d.rowWaits die a p) := by simp [runs, InRow.reached, reached, unheld]
  subst place
  rw [devAccumulatorAdd, oldest]
  dsimp only
  rw [found]
  refine (if_neg adds).trans ?_
  rw [← sums, Device.rowAdded]
  split
  next whole => rw [Part.added_last whole]; rfl
  next more => rw [Part.added_more more]; rfl

theorem devAccumulatorAdd_waits {fixed : Nat} (waits : d.rowWaits die a p = true ∨ r.left + 1 < r.sums.length) :
    devAccumulatorAdd die a p fixed d = d := by
  rw [devAccumulatorAdd, oldest]
  dsimp only
  split
  next => rfl
  next =>
    refine if_pos (.inr ?_)
    rcases waits with held | short
    · exact .inr held
    · exact .inl (by simp [InRow.reached, short])

end

end Sys2Proof.Machine
end

section
/-! O13: a partition fault, what it marks and what it records (R93, R95, R145). -/

namespace Sys2Proof.Machine

/-! Writes of poisoned bytes. -/

/-- A unit that a write of poisoned bytes reaches is left marked. -/
theorem MarkLeft.of_poisoned {sz u a i : Nat} {l : List PByte} {old : Prop} (poisoned : ∀ b ∈ l, b.2 = true) (inside : i < l.length)
    (low : u ≤ a + i) (high : a + i < u + sz) : MarkLeft sz u a l old :=
  .inl (List.any_eq_true.mpr ⟨l[i], mem_unitPart (List.getElem?_eq_getElem inside) low high, poisoned _ (List.getElem_mem inside)⟩)

theorem Core.markUnits_keeps {a : Nat} {l : List PByte} (poisoned : ∀ b ∈ l, b.2 = true) {k : Nat} (n : Nat) (c : Core) (u : Nat)
    (marked : k ∈ c.pois) : k ∈ (c.markUnits a l u n).pois := by
  induction n generalizing c u with
  | zero => exact marked
  | succ n ih =>
    refine ih _ _ ((c.mem_markUnit u a l k).mpr ?_)
    split
    · by_cases covered : a ≤ u ∧ u + unitBytes (canonAddr u) ≤ a + l.length
      · have size := unitBytes_cases (canonAddr u)
        exact .of_poisoned poisoned (i := u - a) (by omega) (by omega) (by omega)
      · exact .inr ⟨marked, covered⟩
    · exact marked

theorem rangeFrom_eq_range' (a n : Nat) : rangeFrom a n = List.range' a n := by
  induction n generalizing a with
  | zero => rfl
  | succ n ih => rw [rangeFrom, ih, List.range'_succ]

/-- A write that stores what memory holds changes no byte. -/
theorem Core.pokeBytes_same (c : Core) (a : Nat) (l : List PByte)
    (same : ∀ i b, l[i]? = some b → b.1 = mget Memory.dflt c.mem (canonAddr (a + i))) (k : Nat) :
    mget Memory.dflt (c.pokeBytes a l).mem k = mget Memory.dflt c.mem k := by
  induction l generalizing c a with
  | nil => rfl
  | cons b l ih =>
    have first (j : Nat) : mget Memory.dflt (c.pokeByte a b.1).mem j = mget Memory.dflt c.mem j := by
      rw [Core.pokeByte, mget_mset]
      split
      next here => rw [here, same 0 b rfl, Nat.add_zero]
      next => rfl
    refine (ih _ _ fun i y found => ?_).trans (first k)
    rw [first, Nat.add_right_comm]
    exact same (i + 1) y found

/-! SRAM: addresses are their own keys, and marks go by 32 bytes (R28, R513). -/

section
variable {x : Nat} (sram : x < 2 ^ 50)
include sram

theorem regionOf_sram : regionOf x < 4 := by
  unfold regionOf
  omega

theorem canonAddr_sram : canonAddr x = x := by
  have region := regionOf_sram sram
  rw [canonAddr, if_neg (by omega)]
  omega

theorem unitBytes_sram : unitBytes x = 32 := by
  have region := regionOf_sram sram
  exact if_neg (by omega)

theorem poisonUnit_sram : poisonUnit x = x / 32 := by
  have region := regionOf_sram sram
  exact if_neg (by omega)

end

/-- Poisoned bytes written to SRAM read as poisoned. -/
theorem Device.write_poisons_sram {d : Device} {a : Nat} {l : List PByte} (held : d.memHeld a = false) (clean : d.core.flaws = [])
    (sram : a + l.length ≤ 2 ^ 50) (poisoned : ∀ b ∈ l, b.2 = true) {i : Nat} (inside : i < l.length) :
    ((d.write a l).readByte (a + i)).2 = true := by
  have noFlaw : d.flawedIn [(a, l.length)] = [] := by simp [Device.flawedIn, clean]
  obtain ⟨c, -, marks⟩ := Device.write_pois held noFlaw
  have low (j : Nat) (passed : j < (a + l.length + 32 - 1) / 32 - a / 32) : a / 32 * 32 + j * 32 < 2 ^ 50 := by omega
  obtain ⟨passed, first⟩ := unit_of_reached (sz := 32) (.inl rfl) (a := a) (n := l.length) (x := a + i) (by omega) (by omega)
  have unit : poisonUnit (canonAddr (a + i)) = poisonUnit (canonAddr (a / 32 * 32 + ((a + i) / 32 - a / 32) * 32)) := by
    rw [first, canonAddr_sram (by omega), canonAddr_sram (by omega), poisonUnit_sram (by omega), poisonUnit_sram (by omega)]
    omega
  rw [Device.readByte_marked, unit, marks, canonAddr_sram (x := a) (by omega), unitBytes_sram (x := a) (by omega)]
  refine (c.mem_markUnits_at a l 32 _ _ (fun j hj => ?_) (fun j k hj hk same => ?_) _ passed).mpr
    (.of_poisoned poisoned inside (by omega) (by omega))
  · rw [canonAddr_sram (low j hj), unitBytes_sram (low j hj)]
  · rw [canonAddr_sram (low j hj), canonAddr_sram (low k hk), poisonUnit_sram (low j hj), poisonUnit_sram (low k hk)] at same
    omega

/-! Destination rows marked where they live (R93). -/

theorem Device.write_regs_clean {d : Device} (clean : d.core.flaws = []) (a : Nat) (l : List PByte) : (d.write a l).core.regs = d.core.regs := by
  have noFlaw : d.flawedIn [(a, l.length)] = [] := by simp [Device.flawedIn, clean]
  cases h : d.memHeld a with
  | true => rw [Device.write, if_pos h]
  | false =>
    have marks (c : Core) (u n : Nat) : (c.markUnits a l u n).regs = c.regs := by rw [Core.markUnits_only]
    have pokes (c : Core) : (c.pokeBytes a l).regs = c.regs := by rw [Core.pokeBytes_regs]
    simp [Device.write, h, noFlaw, marks, pokes]

/-- A device once quarters of accumulator rows have been marked as poisoned, in their slots or in their backing. -/
structure Device.Blighted (die a : Nat) (d e : Device) : Prop where
  quart  : ∀ slot q, e.quart die a slot q = d.quart die a slot q ∨ e.quart die a slot q = { d.quart die a slot q with pois := true }
  values : ∀ b, (e.readByte b).1 = (d.readByte b).1
  marks  : ∀ k ∈ d.core.pois, k ∈ e.core.pois
  regs   : e.core.regs = d.core.regs
  evq    : e.core.evq = d.core.evq
  flaws  : e.core.flaws = d.core.flaws
  kiln   : e.kiln = { d.kiln with quarts := e.kiln.quarts }
  ras    : e.ras = d.ras

namespace Device.Blighted
variable {die a : Nat} {d e f : Device}

theorem refl (d : Device) : Blighted die a d d :=
  ⟨fun _ _ => .inl rfl, fun _ => rfl, fun _ h => h, rfl, rfl, rfl, rfl, rfl⟩

theorem lrow (h : Blighted die a d e) (slot q : Nat) : (e.quart die a slot q).lrow = (d.quart die a slot q).lrow := by
  rcases h.quart slot q with same | same <;> rw [same]

theorem pois (h : Blighted die a d e) {slot q : Nat} (poisoned : (d.quart die a slot q).pois = true) : (e.quart die a slot q).pois = true := by
  rcases h.quart slot q with same | same <;> rw [same]
  exact poisoned

theorem poisoned (h : Blighted die a d e) {slot q : Nat} (poisoned : (e.quart die a slot q).pois = true) :
    e.quart die a slot q = { d.quart die a slot q with pois := true } := by
  rcases h.quart slot q with same | same
  · rw [same] at poisoned ⊢
    rw [← poisoned]
  · exact same

theorem marked (h : Blighted die a d e) {b : Nat} (m : (d.readByte b).2 = true) : (e.readByte b).2 = true := by
  rw [Device.readByte_marked] at m ⊢
  exact h.marks _ m

theorem tile (h : Blighted die a d e) (t : Nat) : e.tile die a t = d.tile die a t := by
  rw [Device.tile, h.kiln]
  rfl

theorem turn (h : Blighted die a d e) : e.turn die a = d.turn die a := by
  rw [Device.turn, h.kiln]
  rfl

theorem memHeld (h : Blighted die a d e) (b : Nat) : e.memHeld b = d.memHeld b := by
  unfold Device.memHeld Device.dieInReset Device.modRuns
  rw [h.ras]

theorem trans (h : Blighted die a d e) (g : Blighted die a e f) : Blighted die a d f where
  quart slot q := by
    rcases g.quart slot q with same | same
    · rw [same]
      exact h.quart slot q
    · rw [same]
      rcases h.quart slot q with before | before <;> exact .inr (by rw [before])
  values b := (g.values b).trans (h.values b)
  marks k m := g.marks k (h.marks k m)
  regs := g.regs.trans h.regs
  evq := g.evq.trans h.evq
  flaws := g.flaws.trans h.flaws
  kiln := by
    rw [g.kiln, h.kiln]
  ras := g.ras.trans h.ras

theorem setQuart (slot q : Nat) : Blighted die a d (d.setQuart die a slot q { d.quart die a slot q with pois := true }) where
  quart slot' q' := by
    rw [d.quart_setQuart_map die a slot q slot' q' (fun x => { x with pois := true })]
    split
    · exact .inr rfl
    · exact .inl rfl
  values _ := rfl
  marks _ m := m
  regs := rfl
  evq := rfl
  flaws := rfl
  kiln := rfl
  ras := rfl

/-- Memory is written with what it holds, all of it poisoned. -/
theorem write (clean : d.core.flaws = []) (b n : Nat) : Blighted die a d (d.write b (mark true (Machine.values (d.readBytes b n)))) where
  quart slot q := .inl (by simp [Device.quart])
  values x := by
    cases held : d.memHeld b with
    | true => rw [Device.write, if_pos held]
    | false =>
      simp only [Device.readByte, Device.write_mem held (show d.flawedIn _ = [] by simp [Device.flawedIn, clean])]
      refine Core.pokeBytes_same _ _ _ (fun i y found => ?_) _
      simp only [mark, Machine.values, Device.readBytes, List.map_map, List.getElem?_map, Option.map_eq_some_iff] at found
      obtain ⟨z, place, rfl⟩ := found
      rw [rangeFrom_eq_range', List.getElem?_eq_some_iff] at place
      obtain ⟨inside, rfl⟩ := place
      rw [List.getElem_range', Nat.one_mul]
      rfl
  marks k m := by
    cases held : d.memHeld b with
    | true => rwa [Device.write, if_pos held]
    | false =>
      obtain ⟨c, same, marks⟩ := Device.write_pois held (show d.flawedIn _ = [] by simp [Device.flawedIn, clean])
      rw [marks]
      exact Core.markUnits_keeps (by simp [mark]) _ c _ (same ▸ m)
  regs := Device.write_regs_clean clean _ _
  evq := Device.write_evq clean _ _
  flaws := (Device.write_flaws_clean clean _ _).trans clean.symm
  kiln := by rw [Device.write_kiln]
  ras := Device.write_ras ..

theorem poisonQuarter (clean : d.core.flaws = []) (t l q : Nat) : Blighted die a d (d.poisonQuarter die a t l q) := by
  unfold Device.poisonQuarter
  dsimp only
  split
  · exact setQuart _ _
  · split
    · exact write clean _ _
    · exact refl d

end Device.Blighted

/-- Quarters `x.2` of logical rows `x.1` of a tile marked one after the other. -/
def Device.poisonQuarters (d : Device) (die a t : Nat) (l : List (Nat × Nat)) : Device := l.foldl (fun d x => d.poisonQuarter die a t x.1 x.2) d

theorem Device.poisonQuarters_product (d : Device) (die a t : Nat) (ls qs : List Nat) :
    ls.foldl (fun d l => qs.foldl (fun d q => d.poisonQuarter die a t l q) d) d = d.poisonQuarters die a t (ls ×ˢ qs) := by
  simp only [Device.poisonQuarters, SProd.sprod, List.product, List.foldl_flatMap, List.foldl_map]

section
variable {d : Device} {die a t : Nat} {ls : List (Nat × Nat)} (clean : d.core.flaws = [])
include clean

theorem Device.Blighted.step {e : Device} (h : Blighted die a d e) (x : Nat × Nat) : Blighted die a e (e.poisonQuarter die a t x.1 x.2) :=
  .poisonQuarter (h.flaws.trans clean) ..

theorem Device.poisonQuarters_blighted : Blighted die a d (d.poisonQuarters die a t ls) :=
  List.foldlRecOn ls _ (.refl d) fun _ h x _ => h.trans (h.step clean x)

/-- What marking one quarter brings about stays through the others. -/
theorem Device.poisonQuarters_brings {x : Nat × Nat} (found : x ∈ ls) {Q : Device → Prop}
    (stays : ∀ e f, Blighted die a e f → Q e → Q f) (brings : ∀ e, Blighted die a d e → Q (e.poisonQuarter die a t x.1 x.2)) :
    Q (d.poisonQuarters die a t ls) :=
  foldl_brings (P := Blighted die a d) found (.refl d) (fun _ y h => h.trans (h.step clean y))
    (fun e y h => stays e _ (h.step clean y)) brings

/-- A resident quarter is marked in its slot. -/
theorem Device.poisonQuarters_resident {l q : Nat} (found : (l, q) ∈ ls)
    (resident : (d.quart die a ((d.tile die a t).slot l) q).holds (d.tile die a t) l = some l) :
    (d.poisonQuarters die a t ls).quart die a ((d.tile die a t).slot l) q =
      { d.quart die a ((d.tile die a t).slot l) q with pois := true } := by
  refine (Device.poisonQuarters_blighted clean).poisoned (Device.poisonQuarters_brings clean found
    (Q := fun e => (e.quart die a ((d.tile die a t).slot l) q).pois = true) (fun _ _ h => h.pois) fun e h => ?_)
  rw [Quarter.holds, ← h.lrow, ← Quarter.holds] at resident
  rw [Device.poisonQuarter]
  dsimp only
  rw [h.tile, if_pos resident, Device.quart_setQuart_self]

/-- A quarter that lives elsewhere is marked in its backing, where that is SRAM. -/
theorem Device.poisonQuarters_backing {l q : Nat} (found : (l, q) ∈ ls)
    (elsewhere : (d.quart die a ((d.tile die a t).slot l) q).holds (d.tile die a t) l ≠ some l) (backed : (d.tile die a t).bken = true)
    (held : d.memHeld ((d.tile die a t).backing l q) = false)
    (sram : (d.tile die a t).backing l q + (d.tile die a t).rowBytes / 4 ≤ 2 ^ 50) {i : Nat} (inside : i < (d.tile die a t).rowBytes / 4) :
    ((d.poisonQuarters die a t ls).readByte ((d.tile die a t).backing l q + i)).2 = true := by
  refine Device.poisonQuarters_brings clean found (Q := fun e => (e.readByte ((d.tile die a t).backing l q + i)).2 = true)
    (fun _ _ h => h.marked) fun e h => ?_
  rw [Quarter.holds, ← h.lrow, ← Quarter.holds] at elsewhere
  rw [Device.poisonQuarter]
  dsimp only
  rw [h.tile, if_neg elsewhere, if_pos backed]
  have length : (mark true (values (e.readBytes ((d.tile die a t).backing l q) ((d.tile die a t).rowBytes / 4)))).length =
      (d.tile die a t).rowBytes / 4 := by simp [mark, values, Device.readBytes]
  refine Device.write_poisons_sram ((h.memHeld _).trans held) (h.flaws.trans clean) ?_ (by simp [mark]) ?_
  · rw [length]
    exact sram
  · rw [length]
    exact inside

end

/-- The quarters of the rows of an array lie within four rows of slots. -/
theorem rowQuarters_lt {pmode p q : Nat} {f : Fmt} (inside : q ∈ rowQuarters pmode p f) (part : p < 4) : q < 16 := by
  obtain ⟨-, below⟩ := mem_rangeFrom.mp inside
  have width : widthOf pmode ≤ 256 := Nat.div_le_self _ _
  have active : activeCols pmode f ≤ widthOf pmode := by
    unfold activeCols
    split <;> omega
  have start : p * widthOf pmode ≤ 3 * 256 := Nat.mul_le_mul (by omega) width
  omega

/-- A quarter of a row that a command names is backed by SRAM addresses (R107, R127). -/
theorem Tile.backing_sram (t : Tile) {l q : Nat} (row : l < 2 ^ 18) (quarter : q < 16) : t.backing l q + t.rowBytes / 4 ≤ 2 ^ 50 := by
  have base : sramDA t.bkaddr < 3 * 2 ^ 48 + 2 ^ 28 := by
    have view := fld_lt t.bkaddr 31 30
    have place := fld_lt t.bkaddr 27 0
    unfold sramDA
    omega
  unfold Tile.backing Tile.rowBytes
  split <;> omega

theorem mem_rows_lt {c : Cmd} {l : Nat} (named : l ∈ rangeFrom (arow0 c) (mrows c)) : l < 2 ^ 18 := by
  obtain ⟨-, below⟩ := mem_rangeFrom.mp named
  have first := fld_lt (c.word 4) 16 0
  have rows := fld_lt (c.word 3) 15 0
  unfold arow0 mrows at below
  omega

/-! The end of the instruction (R93, R95, R145). -/

/-- A partition once `run`, its oldest instruction, is abandoned. -/
def Part.struck (x : Part) (run : Run) (rest : List Run) : Part :=
  { x with runs := rest, rows := x.rows.filter (fun r => r.ord != run.cmd.ord), faulted := if run.gone then x.faulted else some run.tag
           last := run.cmd.seq }

/-- The pair's turn once `run` is abandoned, and the partition `x` it leaves. -/
def Device.abandoned (d : Device) (die a p : Nat) (run : Run) (x : Part) : Device :=
  ((d.progressIf (((d.turn die a).afterFault run).wcnt ≠ (d.turn die a).wcnt) (wPair die a)).setTurn die a
    ((d.turn die a).afterFault run)).setPart die a p x

section
variable (d : Device) (die a p : Nat) (run : Run) (x : Part)

theorem Device.abandoned_core : (d.abandoned die a p run x).core = d.core := Device.progressIf_core ..

theorem Device.abandoned_quart (slot q : Nat) : (d.abandoned die a p run x).quart die a slot q = d.quart die a slot q := by
  simp only [Device.quart, Device.abandoned, Device.setPart, Device.setTurn, Device.progressIf_kiln]

theorem Device.abandoned_part : (d.abandoned die a p run x).part die a p = x := Device.part_setPart_self ..

end

/-- Word 0 of the fault record of a partition (R114). -/
def partRecord (p cause seq : Nat) : Word := wd (2 ^ 31 + cause * 2 ^ 28 + p * 2 ^ 26 + seq * 2 ^ 12)

/-- One error counted where a condition holds. -/
def Device.countIf (d : Device) (b : Prop) [Decidable b] (k : Nat) : Device := if b then d.count1 k else d

/-- The fault of a partition recorded, counted where it is of cause ACC_ERROR, and reported (R95, R145). -/
def Device.faultNoted (d : Device) (die a p cause : Nat) (run : Run) : Device :=
  ((d.setRecord (dreg die 1 (0x1020 + 0x100 * a + 8 * p)) (partRecord p cause run.cmd.seq) (wd (run.added % 65536))).countIf (cause = 4)
    (dreg die 2 (0x100C + 0x200 * a))).post 0x0201 (uArray die a) (partRecord p cause run.cmd.seq)

section
variable (d : Device) (b : Prop) [Decidable b] (k : Nat)

@[simp] theorem Device.countIf_kiln : (d.countIf b k).kiln = d.kiln := by unfold Device.countIf; split <;> rfl
@[simp] theorem Device.countIf_mem : (d.countIf b k).core.mem = d.core.mem := by unfold Device.countIf; split <;> rfl
@[simp] theorem Device.countIf_pois : (d.countIf b k).core.pois = d.core.pois := by unfold Device.countIf; split <;> rfl
@[simp] theorem Device.countIf_evq : (d.countIf b k).core.evq = d.core.evq := by unfold Device.countIf; split <;> rfl

theorem Device.countIf_reg (j : Nat) : (d.countIf b k).reg j =
    if j = k then (if b then wd (satAdd32 (d.reg k).toNat 1) else d.reg k) else d.reg j := by
  unfold Device.countIf
  split
  · exact Device.reg_setReg ..
  · split
    next same => rw [same]
    next => rfl

end

theorem Device.setRecord_reg_ne (d : Device) {k j : Nat} (lo hi : Word) (low : j ≠ k) (high : j ≠ k + 4) :
    (d.setRecord k lo hi).reg j = d.reg j := by
  unfold Device.setRecord
  split
  · rfl
  · rw [Device.reg_setReg, Device.reg_setReg, if_neg high, if_neg low]

/-- The count of uncorrectable errors of an array lies apart from its partitions' fault records. -/
theorem dreg_count_ne_record (die a : Nat) {p : Nat} (part : p < 4) :
    dreg die 2 (0x100C + 0x200 * a) ≠ dreg die 1 (0x1020 + 0x100 * a + 8 * p) ∧
      dreg die 2 (0x100C + 0x200 * a) ≠ dreg die 1 (0x1020 + 0x100 * a + 8 * p) + 4 := by
  unfold dreg regKey
  omega

section
variable (d : Device) (die a p cause : Nat) (run : Run)

theorem Device.faultNoted_kiln : (d.faultNoted die a p cause run).kiln = d.kiln := by simp [Device.faultNoted]

theorem Device.faultNoted_readByte (b : Nat) : (d.faultNoted die a p cause run).readByte b = d.readByte b := by
  simp [Device.faultNoted, Device.readByte]

theorem Device.faultNoted_codes :
    (d.faultNoted die a p cause run).core.evq.map Event.code = d.core.evq.map Event.code ++ [0x0201] := by
  rw [Device.faultNoted, Device.post, List.map_append, Device.countIf_evq, Device.setRecord_core_evq]
  rfl

theorem Device.faultNoted_count {p : Nat} (part : p < 4) : (d.faultNoted die a p cause run).reg (dreg die 2 (0x100C + 0x200 * a)) =
    if cause = 4 then wd (satAdd32 (d.reg (dreg die 2 (0x100C + 0x200 * a))).toNat 1) else d.reg (dreg die 2 (0x100C + 0x200 * a)) := by
  obtain ⟨low, high⟩ := dreg_count_ne_record die a part
  rw [Device.faultNoted, Device.reg_post, Device.countIf_reg, if_pos rfl, Device.setRecord_reg_ne _ _ _ low high]

theorem Device.faultNoted_reg {k : Nat} (other : k ≠ dreg die 2 (0x100C + 0x200 * a)) : (d.faultNoted die a p cause run).reg k =
    (d.setRecord (dreg die 1 (0x1020 + 0x100 * a + 8 * p)) (partRecord p cause run.cmd.seq) (wd (run.added % 65536))).reg k := by
  rw [Device.faultNoted, Device.reg_post, Device.countIf_reg, if_neg other]

end

/-- A device after a partition fault, before the instruction completes. -/
def Device.partStruck (d : Device) (die a p cause : Nat) (run : Run) (rest : List Run) : Device :=
  ((d.poisonQuarters die a (tileOf run.cmd)
    (rangeFrom (arow0 run.cmd) (mrows run.cmd) ×ˢ rowQuarters (d.arr die a).pmode p (fmtOf run.pfmt))).abandoned die a p run
      ((d.part die a p).struck run rest)).faultNoted die a p cause run

theorem devPartitionFault_ends {d : Device} {die a p cause : Nat} {run : Run} {rest : List Run} (oldest : (d.part die a p).runs = run :: rest)
    (runs : d.runs (wPair die a) = true) (least : 1 ≤ cause) (most : cause ≤ 4) :
    devPartitionFault die a p cause d = (d.partStruck die a p cause run rest).finish run.cmd stFault := by
  have ends : ¬ (!d.runs (wPair die a) ∨ cause = 0 ∨ cause > 4) := by
    simp [runs]
    omega
  rw [devPartitionFault, oldest]
  dsimp only
  rw [if_neg ends, Device.poisonQuarters_product]
  rfl

section
variable {d : Device} (clean : d.core.flaws = []) (die a p cause : Nat) (run : Run) (rest : List Run)

theorem Device.partStruck_part : (d.partStruck die a p cause run rest).part die a p = (d.part die a p).struck run rest := by
  rw [Device.partStruck, Device.part, Device.faultNoted_kiln]
  exact Device.abandoned_part ..

include clean

theorem Device.partStruck_codes :
    (d.partStruck die a p cause run rest).core.evq.map Event.code = d.core.evq.map Event.code ++ [0x0201] := by
  rw [Device.partStruck, Device.faultNoted_codes, Device.abandoned_core, (Device.poisonQuarters_blighted clean).evq]

theorem Device.partStruck_values (b : Nat) : ((d.partStruck die a p cause run rest).readByte b).1 = (d.readByte b).1 := by
  have same := (Device.poisonQuarters_blighted (die := die) (a := a) (t := tileOf run.cmd)
    (ls := rangeFrom (arow0 run.cmd) (mrows run.cmd) ×ˢ rowQuarters (d.arr die a).pmode p (fmtOf run.pfmt)) clean).values b
  rw [Device.partStruck, Device.faultNoted_readByte, Device.readByte, Device.abandoned_core]
  exact same

/-- The quarters of a destination row: one in its slot is marked there, one in a backing of SRAM is marked there (R93). -/
theorem Device.partStruck_rows {p : Nat} (part : p < 4) {l q : Nat} (row : l ∈ rangeFrom (arow0 run.cmd) (mrows run.cmd))
    (own : q ∈ rowQuarters (d.arr die a).pmode p (fmtOf run.pfmt)) {tl : Tile} (named : tl = d.tile die a (tileOf run.cmd)) :
    ((d.quart die a (tl.slot l) q).holds tl l = some l →
      (d.partStruck die a p cause run rest).quart die a (tl.slot l) q = { d.quart die a (tl.slot l) q with pois := true }) ∧
    ((d.quart die a (tl.slot l) q).holds tl l ≠ some l → tl.bken = true → d.memHeld (tl.backing l q) = false →
      ∀ i, i < tl.rowBytes / 4 → ((d.partStruck die a p cause run rest).readByte (tl.backing l q + i)).2 = true) := by
  have found : (l, q) ∈ rangeFrom (arow0 run.cmd) (mrows run.cmd) ×ˢ rowQuarters (d.arr die a).pmode p (fmtOf run.pfmt) :=
    List.pair_mem_product.mpr ⟨row, own⟩
  have sram := tl.backing_sram (mem_rows_lt row) (rowQuarters_lt own part)
  subst named
  refine ⟨fun resident => ?_, fun elsewhere backed held i inside => ?_⟩
  · rw [Device.partStruck, Device.quart, Device.faultNoted_kiln, ← Device.quart, Device.abandoned_quart]
    exact Device.poisonQuarters_resident clean found resident
  · rw [Device.partStruck, Device.faultNoted_readByte, Device.readByte, Device.abandoned_core]
    exact Device.poisonQuarters_backing clean found elsewhere backed held sram inside

/-- The registers: the record, kept where it holds a fault already, and the count of cause ACC_ERROR; no other. -/
theorem Device.partStruck_regs {p : Nat} (part : p < 4) {rec ue : Nat} (record : rec = dreg die 1 (0x1020 + 0x100 * a + 8 * p))
    (count : ue = dreg die 2 (0x100C + 0x200 * a)) :
    (bit (d.reg rec) 31 = false → (d.partStruck die a p cause run rest).reg rec = partRecord p cause run.cmd.seq ∧
      (d.partStruck die a p cause run rest).reg (rec + 4) = wd (run.added % 65536)) ∧
    (bit (d.reg rec) 31 = true → (d.partStruck die a p cause run rest).reg rec = d.reg rec ∧
      (d.partStruck die a p cause run rest).reg (rec + 4) = d.reg (rec + 4)) ∧
    (d.partStruck die a p cause run rest).reg ue = (if cause = 4 then wd (satAdd32 (d.reg ue).toNat 1) else d.reg ue) ∧
    ∀ k, k ≠ rec → k ≠ rec + 4 → k ≠ ue → (d.partStruck die a p cause run rest).reg k = d.reg k := by
  obtain ⟨low, high⟩ := dreg_count_ne_record die a part
  rw [← record, ← count] at low high
  unfold Device.partStruck
  generalize before : Device.abandoned _ die a p run _ = e
  have same (k : Nat) : e.reg k = d.reg k := by
    refine Device.reg_of_regs ?_ k
    rw [← before, Device.abandoned_core, (Device.poisonQuarters_blighted clean).regs]
  have noted {k : Nat} (other : k ≠ ue) : (e.faultNoted die a p cause run).reg k =
      (e.setRecord rec (partRecord p cause run.cmd.seq) (wd (run.added % 65536))).reg k := by
    subst record count
    exact Device.faultNoted_reg _ _ _ _ _ _ other
  have counted := Device.faultNoted_count e die a cause run part
  rw [← count] at counted
  simp only [noted low.symm, noted high.symm, counted, ← same]
  refine ⟨Device.setRecord_free, fun held => ?_, trivial, fun k first second other => ?_⟩
  · rw [Device.setRecord_held held]
    exact ⟨rfl, rfl⟩
  · rw [noted other, Device.setRecord_reg_ne _ _ _ first second]

end

/-- Settles O13: a load, a swap, an entry, an add and a fault are the branch that their hypotheses name; the quarters of a faulted instruction are
marked one after the other, each mark kept by those that follow. -/
theorem arraysLoadRunAndFault : Obligations.ArraysLoadRunAndFault := by
  unfold Obligations.ArraysLoadRunAndFault
  refine ⟨⟨?_, ?_, ?_, ?_, ?_, ?_⟩, ⟨?_, ?_, ?_, ?_, ?_⟩, ?_⟩
  · intro e die a n l found runs passed
    exact ⟨Device.arrayTokens_core found runs passed, Device.arrayTokens_load found runs passed,
      fun p inside => congrArg Part.rows (Device.arrayTokens_part found runs passed inside)⟩
  · intro s d a l found unread
    exact next_withDev (devLoadComplete_waits found unread)
  · intro s d a l found runs read
    refine ⟨_, next_withDev (devLoadComplete_ends found runs read), Device.postIf_codes .., Device.loaded_arr l, Device.postIf_mem ..,
      Device.postIf_regs .., ?_, fun partly => ?_, fun all => ?_⟩
    · rw [Device.loaded_part, Part.filled_last]
    · rw [Device.loaded_part, Part.filled_swaps partly]
      exact ⟨rfl, rfl, rfl, rfl, rfl⟩
    · rw [Device.loaded_part, Part.filled_done all]
      exact ⟨rfl, rfl, rfl, rfl⟩
  · intro s d a p runs pend valid free
    exact next_withDev (devColumnSwap_swaps runs pend valid free)
  · intro s d a p col waits
    exact next_withDev (devColumnSwap_waits waits)
  · exact fun x w j => Part.lt_freeCols
  · intro s d a p hit run runs found free
    obtain ⟨mem, regs, queues, quarts⟩ := Device.entered_frame (die := d.val) (a := a.val) (p := p.val) (run := run)
      (d := s.dev.setTurn d.val a.val ((s.dev.turn d.val a.val).struck run (hit.map Fin.val)))
    refine ⟨_, _, next_withDev (devRowEntry_enters runs found free), rfl, mem, regs, queues, quarts, fun one => ?_, fun two => if_pos two⟩
    have single : ¬ run.perToken = 2 := by omega
    rw [Device.entered, if_neg single]
    exact ⟨rfl, Device.enterOne_rows found, Device.enterOne_rowcnt found⟩
  · intro s d a p hit held
    exact next_withDev (devRowEntry_waits held)
  · intro t run w q i r take place inside
    rw [Turn.struck_elem take place inside]
    exact ⟨rfl, rfl⟩
  · intro s d a p r rest run runs oldest found free reached fixed ce x place sums
    refine ⟨_, next_withDev (devAccumulatorAdd_adds oldest runs found free reached place sums), ?_, Device.rowAdded_quarts ..,
      Device.postIf_mem .., Device.postIf_pois .., Device.postIf_regs .., Device.postIf_codes .., fun more => ?_, fun whole => ?_⟩
    · rw [Device.rowAdded, Device.part_setPart_self, Part.added_rows]
    · rw [Device.rowAdded, Device.part_setPart_self, Part.added_more more]
    · rw [Device.rowAdded, Device.part_setPart_self, Part.added_last whole]
      exact ⟨rfl, rfl⟩
  · intro s d a p fixed r rest oldest waits
    exact next_withDev (devAccumulatorAdd_waits oldest waits)
  · intro s d a p cause run rest clean oldest runs least most rec ue tl record count named
    obtain ⟨free, held, counted, others⟩ := Device.partStruck_regs clean d.val a.val cause.val run rest p.isLt record count
    have part := s.dev.partStruck_part d.val a.val p.val cause.val run rest
    refine ⟨_, next_withDev (devPartitionFault_ends oldest runs least most), Device.partStruck_codes clean .., ?_, ?_, ?_, ?_,
      fun l q row own => ?_, Device.partStruck_values clean _ _ _ _ _ _, free, held, counted, others⟩
    · rw [part, Part.struck]
    · rw [part, Part.struck]
    · rw [part, Part.struck]
    · rw [part, Part.struck]
    · obtain ⟨resident, backed⟩ := Device.partStruck_rows clean d.val a.val cause.val run rest p.isLt row own named
      exact ⟨resident, fun elsewhere bken _ unheld => backed elsewhere bken unheld⟩

end Sys2Proof.Machine
end

section
/-! O14: a tile's configuration and a pair's turn take effect once nothing issued needs the old ones (R121, R151). -/

namespace Sys2Proof.Machine

/-- A sparse map with the entries of some keys left out. -/
theorem mget_filter {α : Type} (dflt : α) (keep : Nat → Bool) (m : List (Nat × α)) (k : Nat) :
    mget dflt (m.filter fun x => keep x.1) k = if keep k then mget dflt m k else dflt := by
  induction m with
  | nil => simp [mget]
  | cons x m ih =>
    by_cases here : x.1 = k
    · subst here
      cases kept : keep x.1 <;> simp [mget, kept, ih]
    · cases kept : keep x.1 <;> simp [mget, kept, here, ih]

/-! Tile commits (R121). -/

/-- The rows that a commit of `v` empties: those of the new tile, or those that a tile now disabled had. -/
def Tile.emptied (old v : Tile) : Tile := if v.en then v else { old with tslots := if old.en then old.tslots else 0 }

theorem Tile.emptied_enabled {old v : Tile} (en : v.en = true) : old.emptied v = v := if_pos en

theorem Tile.emptied_disabled {old v : Tile} (dis : v.en = false) :
    old.emptied v = { old with tslots := if old.en then old.tslots else 0 } := if_neg (by simp [dis])

/-- A tile that was disabled already has no row to empty. -/
theorem Tile.disabled_slots (old : Tile) (slot : Nat) :
    (old.tbase ≤ slot ∧ slot < old.tbase + (if old.en then old.tslots else 0)) ↔
      old.en = true ∧ old.tbase ≤ slot ∧ slot < old.tbase + old.tslots := by
  cases old.en <;> simp

/-- The quarters of the slots of `rows` at +0, unpoisoned, clean and without SEQ. -/
def Device.emptySlots (d : Device) (die a : Nat) (rows : Tile) : Device :=
  { d with kiln.quarts := d.kiln.quarts.filter fun x =>
      x.1 < quartIx die a rows.tbase 0 || quartIx die a (rows.tbase + rows.tslots) 0 ≤ x.1 }

theorem Device.emptySlots_quart (d : Device) (die a : Nat) (rows : Tile) (slot : Nat) {q : Nat} (quarter : q < 4) :
    (d.emptySlots die a rows).quart die a slot q =
      if rows.tbase ≤ slot ∧ slot < rows.tbase + rows.tslots then {} else d.quart die a slot q := by
  have kept : (quartIx die a slot q < quartIx die a rows.tbase 0 ∨ quartIx die a (rows.tbase + rows.tslots) 0 ≤ quartIx die a slot q) ↔
      ¬ (rows.tbase ≤ slot ∧ slot < rows.tbase + rows.tslots) := by
    unfold quartIx
    omega
  have read := mget_filter ({} : Quarter)
    (fun k => k < quartIx die a rows.tbase 0 || quartIx die a (rows.tbase + rows.tslots) 0 ≤ k) d.kiln.quarts (quartIx die a slot q)
  simp only [Bool.or_eq_true, decide_eq_true_eq, kept, ite_not] at read
  exact read

section
variable {d : Device} {die a t : Nat} {v : Tile}

theorem Device.applyTile_accepted (good : d.tileBad die a t v = 0) :
    d.applyTile die a t v = (d.emptySlots die a ((d.tile die a t).emptied v)).setTile die a t v := if_pos good

theorem Device.applyTile_refused (bad : d.tileBad die a t v ≠ 0) :
    d.applyTile die a t v = (d.setReg (dreg die 2 (0x1004 + 0x200 * a)) (wd (2 ^ 31 + d.tileBad die a t v * 2 ^ 28 + t * 2 ^ 24))).post 0x0208
      (uArray die a) (wd (2 ^ 31 + d.tileBad die a t v * 2 ^ 28 + t * 2 ^ 24)) := if_neg bad

theorem Device.applyTile_quart (good : d.tileBad die a t v = 0) {slot q : Nat} (quarter : q < 4) {rows : Tile}
    (empties : (d.tile die a t).emptied v = rows) : (d.applyTile die a t v).quart die a slot q =
      if rows.tbase ≤ slot ∧ slot < rows.tbase + rows.tslots then {} else d.quart die a slot q := by
  rw [Device.applyTile_accepted good, empties]
  exact d.emptySlots_quart die a rows slot quarter

/-- Stated for any register: to see it of a named one, the kernel would search the table of reset values. -/
theorem Device.tileIdle_setReg (k : Nat) (w : Word) : (d.setReg k w).tileIdle die a t = d.tileIdle die a t := rfl

theorem devTileCommit_idle {lo : Word} (idle : d.tileIdle die a t = true) :
    devTileCommit die a t lo d =
      ((d.setReg (dreg die 2 (0x1100 + 0x200 * a + 0x10 * t)) (lo &&& 0xF1FFFFFF)).setTilePend die a t none).applyTile die a t
        ((d.setReg (dreg die 2 (0x1100 + 0x200 * a + 0x10 * t)) (lo &&& 0xF1FFFFFF)).stagedTile die a t (lo &&& 0xF1FFFFFF)) :=
  if_pos ((Device.tileIdle_setReg ..).trans idle)

theorem devTileCommit_busy {lo : Word} (busy : d.tileIdle die a t = false) :
    devTileCommit die a t lo d =
      (d.setReg (dreg die 2 (0x1100 + 0x200 * a + 0x10 * t)) (lo &&& 0xF1FFFFFF)).setTilePend die a t
        (some ((d.setReg (dreg die 2 (0x1100 + 0x200 * a + 0x10 * t)) (lo &&& 0xF1FFFFFF)).stagedTile die a t (lo &&& 0xF1FFFFFF))) :=
  if_neg (Bool.eq_false_iff.mp ((Device.tileIdle_setReg ..).trans busy))

theorem devPendingCommit_idle (pending : d.tilePend die a t = some v) (idle : d.tileIdle die a t = true) :
    devPendingCommit die a t d = (d.setTilePend die a t none).applyTile die a t v := by
  rw [devPendingCommit, pending]
  exact if_pos idle

end

/-! The pair turn (R151). -/

section
variable {d : Device} {die pr o : Nat} {v : Word}

theorem devTurnTakeEffect_takes (pending : (d.turn die (2 * pr)).pend = some (v, o)) (runs : d.runs (wPair die (2 * pr)) = true)
    (idle : d.pairIdle die pr o = true) : devTurnTakeEffect die pr d = d.setTurn die (2 * pr) (d.turnWritten die pr v) := by
  rw [devTurnTakeEffect]
  simp [pending, runs, idle]

theorem Device.turnWritten_en : (d.turnWritten die pr v).en = true ↔
    bit v 31 = true ∧ (d.arr die (2 * pr)).pmode = 0 ∧ (d.arr die (2 * pr + 1)).pmode = 0 := by
  cases request : bit v 31 <;> simp [Device.turnWritten, request]

theorem Device.turnWritten_terr : (d.turnWritten die pr v).terr = true ↔
    bit v 31 = true ∧ ¬((d.arr die (2 * pr)).pmode = 0 ∧ (d.arr die (2 * pr + 1)).pmode = 0) := by
  simp [Device.turnWritten, ← not_and_or]

end

/-- Settles O14: each command is the branch that its hypotheses name; an accepted commit drops the kept quarters whose index lies within the
emptied slots, and the turn that takes effect is the one the pending word spells. -/
theorem tileAndTurnConfiguration : Obligations.TileAndTurnConfiguration := by
  unfold Obligations.TileAndTurnConfiguration
  refine ⟨?_, ?_, ?_, ?_, ?_, ?_, ?_⟩
  · intro s d a t lo idle
    exact next_withDev (devTileCommit_idle idle)
  · intro s d a t lo busy
    exact next_withDev (devTileCommit_busy busy)
  · intro s d a t v pending idle
    exact next_withDev (devPendingCommit_idle pending idle)
  · intro e die a t v good
    refine ⟨?_, ?_, fun en slot q _ quarter => Device.applyTile_quart good quarter (Tile.emptied_enabled en), fun dis slot q _ quarter => ?_⟩
    · rw [Device.applyTile_accepted good, Device.tile_setTile_self]
    · rw [Device.applyTile_accepted good]
      rfl
    · simp only [Device.applyTile_quart good quarter (Tile.emptied_disabled dis), Tile.disabled_slots]
  · intro e die a t v bad
    rw [Device.applyTile_refused bad]
    exact ⟨(Device.post_kiln ..).trans (Device.setReg_kiln ..), (Device.reg_post ..).trans (Device.reg_setReg_self ..)⟩
  · intro s d pr v
    exact ⟨_, rfl, congrArg Turn.pend (Device.turn_setTurn_self ..), rfl⟩
  · intro s d pr v o pending runs idle
    refine ⟨_, next_withDev (devTurnTakeEffect_takes pending runs idle), rfl, ?_⟩
    rw [Device.turn_setTurn_self]
    exact ⟨rfl, rfl, rfl, Device.turnWritten_en, Device.turnWritten_terr⟩

end Sys2Proof.Machine
end

section
/-! The stash of a die: what its commands read and leave, and the branch that each takes (R164 to R176). -/

namespace Sys2Proof.Machine

/-! The stash after an update of the device. -/

theorem Device.stash_of_sts {d e : Device} (same : e.sts = d.sts) (die : Nat) : e.stash die = d.stash die :=
  congrArg (fun m => mget ({} : Stash) m die) same

section
variable (d : Device) (die : Nat)

@[simp] theorem Device.stash_popCmd (q : Nat) : (d.popCmd q).stash die = d.stash die := Device.stash_of_sts (d.popCmd_sts q) die
@[simp] theorem Device.stash_progress (w : Nat) : (d.progress w).stash die = d.stash die := Device.stash_of_sts (d.progress_sts w) die
@[simp] theorem Device.stash_finish (c : Cmd) (status : Nat) : (d.finish c status).stash die = d.stash die :=
  Device.stash_of_sts (d.finish_sts c status) die
@[simp] theorem Device.stash_post (code unit : Nat) (w : Word) : (d.post code unit w).stash die = d.stash die :=
  Device.stash_of_sts (d.post_sts code unit w) die
@[simp] theorem Device.stash_writes (l : List (Nat × List PByte)) : (d.writes l).stash die = d.stash die :=
  Device.stash_of_sts (d.writes_sts l) die
@[simp] theorem Device.stash_setReg (k : Nat) (w : Word) : (d.setReg k w).stash die = d.stash die :=
  Device.stash_of_sts (d.setReg_sts k w) die

/-! The head of the queue. -/

variable {d die}

/-- A queue whose head is ready has it in front. -/
theorem Device.ready_queue {q : Nat} {c : Cmd} (head : d.ready q = some c) : ∃ l, d.queue q = c :: l := by
  cases waiting : d.queue q with
  | nil => simp [Device.ready, waiting] at head
  | cons x l =>
    obtain ⟨_, rfl⟩ : d.cmdMet x = true ∧ x = c := by simpa [Device.ready, waiting] using head
    exact ⟨l, rfl⟩

theorem Device.stashHead_eq_some {op : Nat} {c : Cmd} : d.stashHead die op = some c ↔
    d.runs (wSts die) = true ∧ (d.stash die).run = none ∧ d.ready (qSts die) = some c ∧ c.op = op := by
  unfold Device.stashHead
  cases d.ready (qSts die) with
  | none => simp
  | some x =>
    suffices x.op = op ∧ x = c ↔ x = c ∧ c.op = op by simpa [and_assoc] using fun _ _ => this
    constructor
    · rintro ⟨named, rfl⟩
      exact ⟨rfl, named⟩
    · rintro ⟨rfl, named⟩
      exact ⟨named, rfl⟩

/-- A head of one kind is a head of no other. -/
theorem Device.stashHead_other {op op' : Nat} {c : Cmd} (head : d.stashHead die op = some c) (other : op' ≠ op) :
    d.stashHead die op' = none := by
  obtain ⟨_, _, ready, named⟩ := Device.stashHead_eq_some.mp head
  refine Option.eq_none_iff_forall_ne_some.mpr fun x head' => ?_
  obtain ⟨_, _, ready', named'⟩ := Device.stashHead_eq_some.mp head'
  obtain rfl : c = x := Option.some.inj (ready.symm.trans ready')
  exact other (named'.symm.trans named)

variable (d die)

/-! The release of a reservation (R170). -/

/-- What a die's reservation is once the head of its queue has been looked at. -/
def Device.resvLeft (d : Device) (die : Nat) : Nat := if (d.queue (qSts die)).head?.map Cmd.op = some 0xD then 0 else (d.stash die).resv

theorem Device.lbndHead_eq : d.lbndHead die = d ∧ d.resvLeft die = (d.stash die).resv ∨
    d.lbndHead die = d.setStash die { d.stash die with resv := 0 } ∧ d.resvLeft die = 0 := by
  unfold Device.lbndHead Device.resvLeft
  cases d.queue (qSts die) with
  | nil => exact .inl ⟨rfl, by simp⟩
  | cons c l => by_cases bound : c.op = 0xD <;> simp [bound, Device.setStash, Device.stash]

theorem Device.stash_lbndHead : (d.lbndHead die).stash die = { d.stash die with resv := d.resvLeft die } := by
  obtain ⟨same, left⟩ | ⟨freed, left⟩ := d.lbndHead_eq die
  · rw [same, left]
  · rw [freed, left, Device.stash_setStash_self]

@[simp] theorem Device.lbndHead_core : (d.lbndHead die).core = d.core := by
  obtain ⟨same, _⟩ | ⟨freed, _⟩ := d.lbndHead_eq die
  · rw [same]
  · rw [freed, Device.setStash_core]

@[simp] theorem Device.queue_lbndHead (q : Nat) : (d.lbndHead die).queue q = d.queue q :=
  congrArg (fun x : Core => mget [] x.queues q) (d.lbndHead_core die)

theorem Device.resvLeft_cons {c : Cmd} {l : List Cmd} (queue : d.queue (qSts die) = c :: l) :
    d.resvLeft die = if c.op = 0xD then 0 else (d.stash die).resv := by
  simp [Device.resvLeft, queue]

/-! A command leaves the queue, and one ends. -/

theorem Device.stashIssue_queue : (d.stashIssue die).queue (qSts die) = (d.queue (qSts die)).tail := by
  simp [Device.stashIssue, Device.popCmd]

theorem Device.stash_stashIssue : ∃ resv, (d.stashIssue die).stash die = { d.stash die with stopped := false, resv := resv } := by
  simp [Device.stashIssue, Device.stash_lbndHead]

theorem Device.stash_stashDone (c : Cmd) (status : Nat) :
    (d.stashDone die c status).stash die = { d.stash die with run := none, last := c.seq } := by
  simp [Device.stashDone]

@[simp] theorem Device.stashDone_mem (c : Cmd) (status : Nat) : (d.stashDone die c status).core.mem = d.core.mem := by
  simp [Device.stashDone]

@[simp] theorem Device.stashDone_regs (c : Cmd) (status : Nat) : (d.stashDone die c status).core.regs = d.core.regs := by
  simp [Device.stashDone]

theorem Stash.free_obj (s : Stash) (h : Nat) : (s.free h).obj h = none := mget_mset_self none s.objs h none

/-! An LBND that finds its frames (R170). -/

/-- The device once an LBND has reserved what it needs and has completed. -/
def Device.reserved (d : Device) (die : Nat) (c : Cmd) : Device :=
  (((((d.lbndHead die).popCmd (qSts die)).setStash die { (d.lbndHead die).stash die with
    resv := (c.word 4).toNat, layer := fld (c.word 3) 31 20, stopped := false }).lbndHead die).stashDone die c stDone)

theorem Device.stash_reserved (c : Cmd) : (d.reserved die c).stash die = { d.stash die with
    resv := if (d.queue (qSts die)).tail.head?.map Cmd.op = some 0xD then 0 else (c.word 4).toNat
    layer := fld (c.word 3) 31 20, stopped := false, run := none, last := c.seq } := by
  simp [Device.reserved, Device.stash_stashDone, Device.stash_lbndHead, Device.resvLeft, Device.popCmd]

@[simp] theorem Device.reserved_mem (c : Cmd) : (d.reserved die c).core.mem = d.core.mem := by simp [Device.reserved]
@[simp] theorem Device.reserved_regs (c : Cmd) : (d.reserved die c).core.regs = d.core.regs := by simp [Device.reserved]

/-- With an LBND in front, every frame in no object is available. -/
theorem Device.stashAvail_lbndHead {c : Cmd} (head : d.ready (qSts die) = some c) (named : c.op = 0xD) :
    (d.lbndHead die).stashAvail die = (d.stsN die).1 + (d.stsN die).2.1 + (d.stsN die).2.2 - (d.stash die).used := by
  obtain ⟨l, queue⟩ := Device.ready_queue head
  have freed : d.resvLeft die = 0 := by rw [d.resvLeft_cons die queue, if_pos named]
  have regs (k : Nat) : (d.lbndHead die).reg k = d.reg k := Device.reg_of_regs (congrArg Core.regs (d.lbndHead_core die)) k
  simp [Device.stashAvail, Device.stsN, regs, Device.stash_lbndHead, freed, Stash.used]

/-! The head of the queue evaluated (R165, R166, R170, R171). -/

section
variable {d die} {c : Cmd}

/-- A PUT at the head that is not stopped is evaluated. -/
theorem devPut_head (head : d.stashHead die 0xA = some c) (going : (d.stash die).stopped = false) : devPut die d = d.evalPut die c := by
  simp [devPut, head, going]

/-- So is an LBND. -/
theorem devLbnd_head (head : d.stashHead die 0xD = some c) (going : (d.stash die).stopped = false) : devLbnd die d = d.evalLbnd die c := by
  simp [devLbnd, head, going]

theorem devPut_fits (head : d.stashHead die 0xA = some c) (going : (d.stash die).stopped = false) (good : d.stashHeadBad die c = none)
    (fits : tilesOf (c.word 4).toNat ≤ (d.stash die).resv + d.stashAvail die) :
    devPut die d = ((d.setStash die { (d.stash die) with
      objs := mset none (d.stash die).objs (fld (c.word 3) 31 20)
        (some (StashObj.mk (fld (c.word 3) 18 17) (fld (c.word 3) 16 13) (c.word 4).toNat (d.stash die).nextAge []))
      run := some c
      resv := (d.stash die).resv - min (d.stash die).resv (tilesOf (c.word 4).toNat)
      nextAge := (d.stash die).nextAge + 1 }).stashIssue die).putStep die := by
  rw [devPut_head head going, Device.evalPut, good]
  exact if_neg (Nat.not_lt.mpr fits)

/-- A PUT that is short stops, by as many frames as it lacks. -/
theorem devPut_short (head : d.stashHead die 0xA = some c) (going : (d.stash die).stopped = false) (good : d.stashHeadBad die c = none)
    (short : (d.stash die).resv + d.stashAvail die < tilesOf (c.word 4).toNat) :
    devPut die d = d.stashStop die (d.stash die).layer true (tilesOf (c.word 4).toNat - (d.stash die).resv - d.stashAvail die) := by
  rw [devPut_head head going, Device.evalPut, good]
  exact if_pos short

theorem devPut_stopped (stopped : (d.stash die).stopped = true) : devPut die d = d := by
  rw [devPut]
  split
  · rfl
  · exact if_pos stopped

theorem devGet_issues (head : d.stashHead die 0xB = some c) (good : d.stashHeadBad die c = none) :
    devGet die d = (d.setStash die { d.stash die with run := some c }).stashIssue die := by
  simp [devGet, head, good]

theorem devDrop_drops (head : d.stashHead die 0xC = some c) (good : d.stashHeadBad die c = none) :
    devDrop die d = ((d.setStash die ((d.stash die).free (fld (c.word 3) 31 20))).stashIssue die).stashDone die c stDone := by
  simp [devDrop, head, good]

theorem devLbnd_fits (head : d.stashHead die 0xD = some c) (going : (d.stash die).stopped = false) (good : d.stashHeadBad die c = none)
    (fits : (c.word 4).toNat ≤ (d.lbndHead die).stashAvail die) : devLbnd die d = d.reserved die c := by
  rw [devLbnd_head head going, Device.evalLbnd, good]
  refine (if_neg (Nat.not_lt.mpr fits)).trans ?_
  simp only [Device.reserved, Device.stash_popCmd]

end

/-! The end of a PUT and of a GET (R166, R168). -/

/-- The device once a GET has written an object's tiles, and has freed them where RELEASE is set. -/
def Device.gotten (d : Device) (die : Nat) (c : Cmd) (o : StashObj) : Device :=
  if bit (c.word 3) 19 then
    (d.writes (d.getTiles die (sramDA (c.word 5)) o)).setStash die ((d.stash die).free (fld (c.word 3) 31 20))
  else d.writes (d.getTiles die (sramDA (c.word 5)) o)

theorem Device.gotten_mem (c : Cmd) (o : StashObj) :
    (d.gotten die c o).core.mem = (d.writes (d.getTiles die (sramDA (c.word 5)) o)).core.mem := by
  rw [Device.gotten]
  split <;> simp

theorem Device.gotten_obj {c : Cmd} {o : StashObj} (found : (d.stash die).obj (fld (c.word 3) 31 20) = some o) :
    ((d.gotten die c o).stash die).obj (fld (c.word 3) 31 20) = if bit (c.word 3) 19 then none else some o := by
  rw [Device.gotten]
  split <;> simp [Stash.free_obj, found]

section
variable {d die} {c : Cmd} {o : StashObj} (run : (d.stash die).run = some c) (found : (d.stash die).obj (fld (c.word 3) 31 20) = some o)
  (runs : d.runs (wSts die) = true)
include run found runs

theorem devStashCommandComplete_put (named : c.op = 0xA) (placed : tilesOf o.len ≤ o.tiles.length) :
    devStashCommandComplete die d = d.stashDone die c stDone := by
  have whole : ¬ o.tiles.length < tilesOf o.len := Nat.not_lt.mpr placed
  simp [devStashCommandComplete, run, found, runs, named, whole]

theorem devStashCommandComplete_get (named : c.op = 0xB) (clean : d.core.flaws = []) (untried : d.core.watch = none) :
    devStashCommandComplete die d = (d.gotten die c o).stashDone die c stDone := by
  simp only [devStashCommandComplete, run, found, runs, named, Device.coder_clean _ _ _ clean untried, Device.gotten, Device.stash_writes]
  rfl

end

end

end Sys2Proof.Machine
end

section
/-! O17: stash commands that run, and their ends (R165, R166, R168, R170). -/

namespace Sys2Proof.Machine

/-- Settles O17: each command at the head is the branch that its hypotheses name; what an issue, a reservation and an end leave in the
stash is read off once for each. -/
theorem stashCommandsRunAndComplete : Obligations.StashCommandsRunAndComplete := by
  unfold Obligations.StashCommandsRunAndComplete
  refine ⟨⟨?_, ?_, ?_, ?_, ?_, ?_⟩, ?_⟩
  · intro s d c head going good fits
    exact next_withDev (devPut_fits head going good fits)
  · intro s d c head good
    exact next_withDev (devGet_issues head good)
  · intro s d c head good
    exact ⟨next_withDev (devDrop_drops head good), Stash.free_obj ..⟩
  · intro s d c head going good fits
    refine ⟨_, next_withDev (devLbnd_fits head going good fits), ?_⟩
    simp [Device.stash_reserved]
  · intro d die
    obtain ⟨resv, issued⟩ := d.stash_stashIssue die
    exact ⟨d.stashIssue_queue die, by rw [issued], by rw [issued], by rw [issued]⟩
  · intro d die c l queue
    rw [Device.stash_lbndHead]
    exact d.resvLeft_cons die queue
  · intro s d c o idle run found runs
    refine ⟨fun named placed => ?_, fun named clean untried => ?_⟩
    · exact (ordinary_idle _ s idle).trans (next_withDev (devStashCommandComplete_put run found runs named placed))
    · refine ⟨_, (ordinary_idle _ s idle).trans (next_withDev (devStashCommandComplete_get run found runs named clean untried)), ?_⟩
      rw [Device.stash_stashDone, Device.stashDone_mem]
      exact ⟨rfl, rfl, s.dev.gotten_mem d.val c o, s.dev.gotten_obj d.val found⟩

end Sys2Proof.Machine
end

section
/-! O18: stash commands that stop and are resumed, tiles that move down a tier, and allotments (R167, R171 to R173, R175). -/

namespace Sys2Proof.Machine

section
variable (d : Device) (die : Nat)

/-! A command that stops (R171). -/

theorem Device.stash_stashStop (layer : Nat) (putStop : Bool) (short : Nat) :
    (d.stashStop die layer putStop short).stash die = { d.stash die with stopped := true } := by
  simp [Device.stashStop]

theorem Device.stashStop_queues (layer : Nat) (putStop : Bool) (short : Nat) :
    (d.stashStop die layer putStop short).core.queues = d.core.queues := by
  simp [Device.stashStop]

theorem Device.stashStop_codes (layer : Nat) (putStop : Bool) (short : Nat) :
    (d.stashStop die layer putStop short).core.evq.map Event.code = d.core.evq.map Event.code ++ [0x0403] := by
  simp [Device.stashStop, Device.post]

/-! The host lets a stopped command be evaluated again (R172). -/

/-- The device once the stop of a stash is lifted. -/
def Device.resumed (d : Device) (die : Nat) : Device := d.setStash die { d.stash die with stopped := false }

theorem Device.resumed_stash (k : Nat) : ((d.resumed die).stash k).objs = (d.stash k).objs ∧ ((d.resumed die).stash k).run = (d.stash k).run ∧
    ((d.resumed die).stash k).resv = (d.stash k).resv := by
  rw [Device.resumed, Device.stash_setStash]
  split
  next same => simp [same]
  next => simp

theorem Device.stashHead_resumed (op : Nat) : (d.resumed die).stashHead die op = d.stashHead die op := by
  obtain ⟨_, run, _⟩ := d.resumed_stash die die
  rw [Device.stashHead, run]
  rfl

/-- No refusal depends on what a stash has stopped. -/
theorem Device.stashHeadBad_resumed (c : Cmd) : (d.resumed die).stashHeadBad die c = d.stashHeadBad die c := by
  have parts : (d.resumed die).partStashBad = d.partStashBad := by
    funext q x
    obtain ⟨objs, run, _⟩ := d.resumed_stash die (q - qSts 0)
    simp only [Device.partStashBad, stashBad, Stash.obj, objs, run]
    rfl
  rw [Device.stashHeadBad, parts]
  rfl

theorem Device.stashAvail_resumed {c : Cmd} (head : d.ready (qSts die) = some c) (named : c.op = 0xD) :
    ((d.resumed die).lbndHead die).stashAvail die = (d.lbndHead die).stashAvail die := by
  obtain ⟨objs, _, _⟩ := d.resumed_stash die die
  have used : ((d.resumed die).stash die).used = (d.stash die).used := by rw [Stash.used, objs, Stash.used]
  have head' : (d.resumed die).ready (qSts die) = some c := head
  rw [Device.stashAvail_lbndHead _ _ head' named, Device.stashAvail_lbndHead _ _ head named, used]
  rfl

section
variable {d die} {c : Cmd}

theorem Device.resumed_going : ((d.resumed die).stash die).stopped = false := by
  rw [Device.resumed, Device.stash_setStash_self]

theorem devStsResume_put (stopped : (d.stash die).stopped = true) (head : d.stashHead die 0xA = some c) :
    devStsResume die d = devPut die (d.resumed die) := by
  rw [devPut_head ((d.stashHead_resumed die _).trans head) Device.resumed_going]
  simp [devStsResume, stopped, head, Device.resumed]

theorem devStsResume_lbnd (stopped : (d.stash die).stopped = true) (head : d.stashHead die 0xD = some c) :
    devStsResume die d = devLbnd die (d.resumed die) := by
  rw [devLbnd_head ((d.stashHead_resumed die _).trans head) Device.resumed_going]
  simp [devStsResume, stopped, head, Device.stashHead_other head, Device.resumed]

/-- A stopped LBND may use what the reservation that it releases had kept. -/
theorem devStsResume_lbnd_fits (stopped : (d.stash die).stopped = true) (head : d.stashHead die 0xD = some c)
    (good : d.stashHeadBad die c = none) (fits : (c.word 4).toNat ≤ d.stashAvail die + (d.stash die).resv)
    (held : (d.stash die).used + (d.stash die).resv ≤ (d.stsN die).1 + (d.stsN die).2.1 + (d.stsN die).2.2) :
    devStsResume die d = (d.resumed die).reserved die c := by
  obtain ⟨_, _, ready, named⟩ := Device.stashHead_eq_some.mp head
  have avail : d.stashAvail die = (d.stsN die).1 + (d.stsN die).2.1 + (d.stsN die).2.2 - (d.stash die).used - (d.stash die).resv := rfl
  rw [devStsResume_lbnd stopped head]
  refine devLbnd_fits ((d.stashHead_resumed die _).trans head) Device.resumed_going ((d.stashHeadBad_resumed die c).trans good) ?_
  rw [Device.stashAvail_resumed _ _ ready named, Device.stashAvail_lbndHead _ _ ready named]
  omega

end

/-! Tiles move down a tier (R167). -/

/-- A move of a tile begins. -/
def Stash.startMove (s : Stash) (h t : Nat) (dst : Frame) : Stash := { s with moves := s.moves ++ [StashMove.mk h t dst] }

section
variable {d die} {f h t : Nat} (runs : d.runs (wSts die) = true)
  (low : freeCount Frame.pool (d.stash die).taken (d.stsN die).1 < (d.reg (stsReg die 0x2C)).toNat)

theorem devSpill_no_pool_tile (empty : (d.stash die).oldest Frame.isPool = none) : devSpill die d = d := by
  simp [devSpill, empty]

include runs low

theorem devSpill_pool (room : freeFrame Frame.t1 (d.stash die).taken (d.stsN die).2.1 = some f)
    (oldest : (d.stash die).oldest Frame.isPool = some (h, t)) :
    devSpill die d = d.setStash die ((d.stash die).startMove h t (.t1 f)) := by
  simp [devSpill, runs, low, room, oldest, Stash.startMove]

theorem devSpill_t1 (full : freeFrame Frame.t1 (d.stash die).taken (d.stsN die).2.1 = none)
    (room : freeFrame Frame.t2 (d.stash die).taken (d.stsN die).2.2 = some f) (waiting : (d.stash die).oldest Frame.isPool ≠ none)
    (oldest : (d.stash die).oldest Frame.isT1 = some (h, t)) :
    devSpill die d = d.setStash die ((d.stash die).startMove h t (.t2 f)) := by
  obtain ⟨x, pool⟩ := Option.ne_none_iff_exists'.mp waiting
  simp [devSpill, runs, low, full, room, pool, oldest, Stash.startMove]

end

theorem devTileLanding_lands {d : Device} {die k : Nat} {m : StashMove} {o : StashObj} {f : Frame} (moving : (d.stash die).moves[k]? = some m)
    (found : (d.stash die).obj m.handle = some o) (tile : o.tiles[m.tile]? = some f) (runs : d.runs (wSts die) = true)
    (clean : d.core.flaws = []) (untried : d.core.watch = none) :
    devTileLanding die k d = (((d.write (d.frameAddr die m.dst) (d.readBytes (d.frameAddr die f) (tileLen o.len m.tile))).setStash die
      { (d.stash die) with
        objs := mset none (d.stash die).objs m.handle (some { o with tiles := o.tiles.set m.tile m.dst })
        moves := (d.stash die).moves.eraseIdx k }).progress (wSts die)).putStep die := by
  simp [devTileLanding, moving, found, tile, runs, Device.fetch_clean _ _ _ clean untried]

/-! The host's registers (R173, R175). -/

section
variable {d die}

theorem devStsDrop_drops {h : Nat} {o : StashObj} (found : (d.stash die).obj h = some o) :
    devStsDrop die h d = (d.setStash die ((d.stash die).free h)).putStep die := by
  simp [devStsDrop, found]

theorem devStsDrop_absent {h : Nat} (absent : (d.stash die).obj h = none) : devStsDrop die h d = d.stsErr die 4 := by
  simp [devStsDrop, absent]

/-- With no object, no PUT has tiles to place. -/
theorem Device.putStep_empty (empty : (d.stash die).objs = []) : d.putStep die = d := by
  have absent (h : Nat) : (d.stash die).obj h = none := by rw [Stash.obj, empty, mget]
  cases run : (d.stash die).run with
  | none => simp [Device.putStep, run]
  | some c => simp [Device.putStep, run, absent]

variable {r : Allotment} {v : Word}

theorem devAllotmentWrite_sets (empty : (d.stash die).objs = []) (aligned : r = .pool → fld (v &&& wd (allotReg r).2) 15 0 = 0)
    (range : (d.setReg (stsReg die (allotReg r).1) (v &&& wd (allotReg r).2)).allotRange die = true) :
    devAllotmentWrite die r v d = d.setReg (stsReg die (allotReg r).1) (v &&& wd (allotReg r).2) := by
  have whole : ¬ (r = .pool ∧ ¬ fld (v &&& wd (allotReg r).2) 15 0 = 0) := fun ⟨pool, odd⟩ => odd (aligned pool)
  have unplaced : (d.setReg (stsReg die (allotReg r).1) (v &&& wd (allotReg r).2)).putStep die = _ :=
    Device.putStep_empty (by rw [Device.stash_setReg, empty])
  simp [devAllotmentWrite, Device.allotWrite, empty, whole, range, unplaced]

/-- A base is not moved under an object. -/
theorem devAllotmentWrite_held (held : (d.stash die).objs ≠ []) (base : allotIsCount r = false) :
    devAllotmentWrite die r v d = d.stsErr die 1 := by
  simp [devAllotmentWrite, Device.allotWrite, held, base]

end

end

/-- Settles O18: a short PUT is `stashStop`, and a resumed command is one evaluated with the stop lifted, which no refusal depends on; a
spill, a landing and the writes of the host are the branches that their hypotheses name. -/
theorem stashStopsMovesAndAllots : Obligations.StashStopsMovesAndAllots := by
  unfold Obligations.StashStopsMovesAndAllots
  refine ⟨⟨?_, ?_, ?_, ?_⟩, ?_, ?_, ?_, ?_, ?_, ?_, ?_, ?_⟩
  · intro s d c head going good short
    have stash := s.dev.stash_stashStop d.val (s.dev.stash d.val).layer true
      (tilesOf (c.word 4).toNat - (s.dev.stash d.val).resv - s.dev.stashAvail d.val)
    refine ⟨_, next_withDev (devPut_short head going good short), ?_, ?_, Device.stashStop_queues .., Device.stashStop_codes .., ?_⟩
    · rw [stash]
    · rw [stash]
    · exact next_withDev (devPut_stopped (by rw [State.withDev_dev, stash]))
  · intro s d c stopped head
    exact next_withDev (devStsResume_put stopped head)
  · intro s d c stopped head
    exact next_withDev (devStsResume_lbnd stopped head)
  · intro s d c stopped head good fits held
    refine ⟨_, next_withDev (devStsResume_lbnd_fits stopped head good fits held), ?_, ?_, Device.reserved_regs ..⟩
    · rw [Device.stash_reserved]
    · rw [Device.stash_reserved]
      rfl
  · intro s d f h t runs low room oldest
    exact next_withDev (devSpill_pool runs low room oldest)
  · intro s d f h t runs low full room waiting oldest
    exact next_withDev (devSpill_t1 runs low full room waiting oldest)
  · intro s d empty
    exact next_withDev (devSpill_no_pool_tile empty)
  · intro s d k m o f moving found tile runs idle clean untried
    exact (ordinary_idle _ s idle).trans (next_withDev (devTileLanding_lands moving found tile runs clean untried))
  · intro s d h o found
    exact next_withDev (devStsDrop_drops found)
  · intro s d h absent
    exact next_withDev (devStsDrop_absent absent)
  · intro s d r v empty aligned range
    exact next_withDev (devAllotmentWrite_sets empty aligned range)
  · intro s d r v held base
    exact next_withDev (devAllotmentWrite_held held base)

end Sys2Proof.Machine
end


section
/-! One instruction of one core: what a lane does when it stands before an instruction with the row's opcode (R179, R181, R192). -/

namespace Sys2Proof.Machine

/-- What lane i has before it at the instruction `ins`. -/
def laneCtx (d : Device) (die : Nat) (l : VLoop) (i : Nat) (ins : Word) : LaneCtx := { d := d, die := die, l := l, lane := l.lane i, ins := ins }

section
variable {d : Device} {die w c opc key : Nat} {l : VLoop} {i : Nat} {ins : Word} {op : LaneCtx → LaneOut}

/-- A fetch that faults stops the loop whatever the opcode asked for (R192). -/
theorem laneRow_fetch_fault {cause : Nat} (active : d.activeLane die w c = some (key, l, i)) (bad : fetchIns d l (l.lane i) = .inl cause)
    (chk : CoreCheck) : laneRow opc op die w c chk d = d.laneFault key l i cause := by
  simp [laneRow, active, bad]

variable (stands : LaneAt d die w c opc key l i ins)
include stands

/-- A lane whose instruction goes on. -/
theorem laneRow_ok {lane : Lane} {e : Device} {slots : List Slot} {pois : Bool} (out : op (laneCtx d die l i ins) = .ok lane e slots pois) :
    laneRow opc op die w c .ok d = e.laneDone key l i lane slots pois := by
  obtain ⟨active, fetched, named⟩ := stands
  rw [laneCtx] at out
  simp [laneRow, active, fetched, named, out]

/-- A lane whose instruction faults. -/
theorem laneRow_fault {cause : Nat} (out : op (laneCtx d die l i ins) = .fault cause) :
    laneRow opc op die w c .ok d = d.laneFault key l i cause := by
  obtain ⟨active, fetched, named⟩ := stands
  rw [laneCtx] at out
  simp [laneRow, active, fetched, named, out]

/-- A check that fails on the core stops the loop before the instruction (R192). -/
theorem laneRow_check {chk : CoreCheck} {cause : Nat} (failed : laneCheck chk = some cause) :
    laneRow opc op die w c chk d = d.laneFault key l i cause := by
  obtain ⟨active, fetched, named⟩ := stands
  cases chk with
  | ok => simp [laneCheck] at failed
  | feedError =>
    obtain rfl : 5 = cause := by simpa [laneCheck] using failed
    simp [laneRow, active, fetched, named]
  | coreCheck =>
    obtain rfl : 6 = cause := by simpa [laneCheck] using failed
    simp [laneRow, active, fetched, named]

end

/-! Registers of a lane (R179). -/

/-- A register write never shows in `x0`, shows in the register named, and in no other. -/
theorem Lane.f_set (ln : Lane) (v : Word) (r k : Nat) : (ln.set r v).f k = if k = r ∧ 0 < r then v else ln.f k := by
  by_cases zero : r = 0
  · simp [Lane.set, zero]
  · by_cases same : k = r
    · simp [Lane.set, Lane.f, same, zero, Nat.pos_of_ne_zero zero]
    · simp [Lane.set, Lane.f, same, zero]

/-- IALU's two products are the halves of the whole product. -/
theorem ialu_product (a b : Word) : (a * b).toNat + (hi32 (a.toNat * b.toNat)).toNat * 2 ^ 32 = a.toNat * b.toNat := by
  have ha := a.isLt
  have hb := b.isLt
  have small : a.toNat * b.toNat / 2 ^ 32 < 2 ^ 32 := by
    rw [Nat.div_lt_iff_lt_mul (by norm_num)]
    exact Nat.mul_lt_mul'' ha hb
  rw [hi32, wd, BitVec.toNat_ofNat, Nat.mod_eq_of_lt small, BitVec.toNat_mul]
  omega

theorem ialu_none {fn : Nat} (h : 0x0E ≤ fn) (a b : Word) : ialu fn a b = none := by
  unfold ialu
  split <;> try omega
  rfl

end Sys2Proof.Machine
end

section
/-! O23: integer instructions of a lane (R179, R181). -/

namespace Sys2Proof.Machine

/-- Settles O23: each instruction is the branch of its row in which the lane goes on with a result, and the results are those of `ialu`. -/
theorem vectorIntegerResults : Obligations.VectorIntegerResults := by
  unfold Obligations.VectorIntegerResults
  refine ⟨?_, ?_, ?_, ?_, ?_, ?_, ?_⟩
  · intro s d w c key l i ins v stands value
    have out : opIalu (laneCtx s.dev d.val l i ins) = (laneCtx s.dev d.val l i ins).res v := by
      simp [opIalu, LaneCtx.ia, LaneCtx.ib, laneCtx, value, LaneCtx.opt]
    exact next_withDev (laneRow_ok stands out)
  · intro s d w c key l i ins stands
    exact next_withDev (laneRow_ok stands rfl)
  · intro s d w c key l i ins stands zero
    exact next_withDev (laneRow_ok stands (if_neg (not_not_intro zero)))
  · intro a b
    exact ⟨_, _, rfl, rfl, ialu_product a b⟩
  · intro a b
    exact ⟨rfl, rfl, rfl, rfl, rfl, fun fn above => ialu_none above a b⟩
  · intro a b
    refine ⟨_, _, rfl, rfl, ?_, ?_⟩
    · rw [apply_ite BitVec.toInt, min_def]
    · rw [apply_ite BitVec.toInt, max_def]
  · intro ln v r k
    refine ⟨?_, fun named => ?_, fun other => ?_⟩
    · rfl
    · rw [ln.f_set, if_pos ⟨rfl, named⟩]
    · rw [ln.f_set, if_neg (fun h => other h.1)]

end Sys2Proof.Machine
end

section
/-! O25: loads, stores, branches, jumps, SUMX and END (R181, R187, R188, R193). -/

namespace Sys2Proof.Machine

/-! Loads and stores (R181, R193). -/

/-- The rows that load: bytes, opcode and command. -/
def loadRows : List (Nat × Nat × (Fin 4 → Fin 16 → Fin 128 → CoreCheck → Instr)) := [(4, 0x10, .ldw), (2, 0x11, .ldh), (1, 0x12, .ldb)]

/-- The rows that store. -/
def storeRows : List (Nat × Nat × (Fin 4 → Fin 16 → Fin 128 → CoreCheck → Instr)) := [(4, 0x14, .stw), (2, 0x15, .sth), (1, 0x16, .stb)]

section
variable {n opc : Nat} {f : Fin 4 → Fin 16 → Fin 128 → CoreCheck → Instr}

theorem exec_load (row : (n, opc, f) ∈ loadRows) (d : Fin 4) (w : Fin 16) (c : Fin 128) (x : CoreCheck) (s : State) :
    exec (f d w c x) s = .next (s.withDev (laneRow opc (opLoad n) d.val w.val c.val x s.dev)) := by
  simp only [loadRows, List.mem_cons, Prod.mk.injEq, List.not_mem_nil, or_false] at row
  obtain ⟨rfl, rfl, rfl⟩ | ⟨rfl, rfl, rfl⟩ | ⟨rfl, rfl, rfl⟩ := row <;> rfl

theorem exec_store (row : (n, opc, f) ∈ storeRows) (d : Fin 4) (w : Fin 16) (c : Fin 128) (x : CoreCheck) (s : State) :
    exec (f d w c x) s = .next (s.withDev (laneRow opc (opStore n) d.val w.val c.val x s.dev)) := by
  simp only [storeRows, List.mem_cons, Prod.mk.injEq, List.not_mem_nil, or_false] at row
  obtain ⟨rfl, rfl, rfl⟩ | ⟨rfl, rfl, rfl⟩ | ⟨rfl, rfl, rfl⟩ := row <;> rfl

/-- The rows that branch. -/
theorem exec_branch {taken : Word → Word → Bool} (row : (opc, f, taken) ∈ [(0x28, Instr.beq, fun a b => a == b), (0x29, .bne, fun a b => a != b),
      (0x2A, .blt, BitVec.slt), (0x2B, .bltu, BitVec.ult)]) (d : Fin 4) (w : Fin 16) (c : Fin 128) (x : CoreCheck) (s : State) :
    exec (f d w c x) s = .next (s.withDev (laneRow opc (opBranch taken) d.val w.val c.val x s.dev)) := by
  simp only [List.mem_cons, Prod.mk.injEq, List.not_mem_nil, or_false] at row
  obtain ⟨rfl, rfl, rfl⟩ | ⟨rfl, rfl, rfl⟩ | ⟨rfl, rfl, rfl⟩ | ⟨rfl, rfl, rfl⟩ := row <;> rfl

end

section
variable {x : LaneCtx} {n : Nat}

theorem opLoad_runs (good : accessFault x.d x.ea n n = none) : opLoad n x =
    if anyPoison (x.d.readBytes (sramDA x.ea) n) then
      .ok (x.lane.set (iRd x.ins) (if n = 4 then nan32 else 0) n).next x.d x.l.slots true
    else x.res (wd (ofBytes (values (x.d.readBytes (sramDA x.ea) n)))) := by
  cases h : anyPoison (x.d.readBytes (sramDA x.ea) n) <;> simp [opLoad, good, h, LaneCtx.res, LaneCtx.go]

theorem opStore_runs (good : accessFault x.d x.ea n n = none) : opStore n x =
    .ok x.lane.next (x.d.write (sramDA x.ea) (mark (mget 0 x.lane.mark (iRd x.ins) == n) (toBytes n (x.lane.f (iRd x.ins)).toNat)))
      x.l.slots false := by
  simp [opStore, good]

theorem opLoad_fault {cause : Nat} (bad : accessFault x.d x.ea n n = some cause) : opLoad n x = .fault cause := by simp [opLoad, bad]

theorem opStore_fault {cause : Nat} (bad : accessFault x.d x.ea n n = some cause) : opStore n x = .fault cause := by simp [opStore, bad]

/-- A lane past a store of a word of its scratch. -/
def Lane.storeScratch (ln : Lane) (k : Nat) (v : Word) : Lane := { ln with scr := mset 0 ln.scr k v, pc := ln.pc + 1 }

/-- Scratch is 4 KiB of whole words. -/
theorem scratchFault_none {a : Word} (aligned : a.toNat % 4 = 0) (inside : a.toNat < 4096) : scratchFault a = none := by
  simp [scratchFault, aligned, Nat.not_le.mpr inside]

section
variable (aligned : x.ea.toNat % 4 = 0) (inside : x.ea.toNat < 4096)
include aligned inside

theorem opLdl_runs : opLdl x = x.res (mget 0 x.lane.scr (x.ea.toNat / 4)) := by rw [opLdl, scratchFault_none aligned inside]

theorem opStl_runs : opStl x = x.go (x.lane.storeScratch (x.ea.toNat / 4) (x.lane.f (iRd x.ins))) := by
  rw [opStl, scratchFault_none aligned inside]
  rfl

end

end

/-- A write of the device leaves every byte that it does not cover. -/
theorem Device.write_readByte_other {d : Device} (clean : d.core.flaws = []) {a b : Nat} {l : List PByte}
    (apart : ∀ j, j < l.length → canonAddr b ≠ canonAddr (a + j)) : ((d.write a l).readByte b).1 = (d.readByte b).1 := by
  cases held : d.memHeld a with
  | true => rw [Device.write, if_pos held]
  | false =>
    have outside : canonAddr b ∉ (rangeFrom a l.length).map canonAddr := by
      rintro mem
      obtain ⟨x, hx, same⟩ := List.mem_map.mp mem
      obtain ⟨low, high⟩ := mem_rangeFrom.mp hx
      exact apart (x - a) (by omega) (by rw [Nat.add_sub_cancel' low, same])
    simp only [Device.readByte, Device.write_mem held (d := d) (l := l) (by simp [Device.flawedIn, clean])]
    exact d.core.pokeBytes_other a l _ outside

theorem Device.laneDone_mem (d : Device) (key : Nat) (l : VLoop) (i : Nat) (lane : Lane) (slots : List Slot) (pois : Bool) :
    (d.laneDone key l i lane slots pois).core.mem = d.core.mem :=
  congrArg Still.mem (d.laneDone_still key l i lane slots pois)

/-! Lanes of a loop. -/

/-- A jump goes on from the lane's own pc, whatever register it links in. -/
theorem Lane.hop_set (ln : Lane) (r : Nat) (v : Word) (k : Int) :
    (ln.set r v).hop k = { ln.set r v with pc := wrap 32 ((ln.pc : Int) + k) } := by
  have pc : (ln.set r v).pc = ln.pc := by unfold Lane.set; split <;> rfl
  rw [Lane.hop, pc]

/-- A lane that is set reads as it was set, and every other lane as before. -/
theorem VLoop.lane_setLane (l : VLoop) (i j : Nat) (v : Lane) : (l.setLane i v).lane j = if j = i then v else l.lane j := by
  show mget (l.laneInit j) (mset (l.laneInit i) l.lanes i v) j = _
  by_cases same : j = i
  · rw [same, if_pos rfl, mget_mset_self]
  · rw [if_neg same, mget_mset_dflt _ _ _ _ _ _ same]
    rfl

theorem Device.loops_setLoop_self (d : Device) (key : Nat) (l : Option VLoop) : mget none (d.setLoop key l).vec.loops key = l :=
  mget_mset_self ..

/-- A lane that goes on without poison changes its loop alone. -/
theorem Device.laneDone_goes_on (e : Device) (key : Nat) (l : VLoop) (i : Nat) {ln : Lane} (sl : List Slot) (going : ln.ended = false) :
    e.laneDone key l i ln sl false = e.setLoop key (some { l.setLane i ln with slots := sl }) := by
  have stays : ¬ ln.ended = true := ne_true_of_eq_false going
  exact if_neg stays

/-- The formats that a code names lie below 16. -/
theorem Fmt.ofCode_lt {n : Nat} {f : Fmt} (h : Fmt.ofCode n = some f) : n < 16 := by
  by_contra large
  have none : Fmt.ofCode n = none := by
    unfold Fmt.ofCode
    split <;> try omega
    rfl
  rw [none] at h
  cases h

section
variable {x : LaneCtx} {f : Fmt} {v : Val}

/-- LDQ of a clean element (R53, R55, R56). -/
theorem opLdq_runs (named : Fmt.ofCode (iFn x.ins) = some f) (scaled : f.scaled = true) (ra : awRes x.ia = false) (rb : awRes x.ib = false)
    (elem : x.d.rangeOk (sramDA x.ia + x.ic.toNat * f.width / 8) ((x.ic.toNat * f.width % 8 + f.width + 7) / 8) = true)
    (scale : x.d.rangeOk (sramDA x.ib + x.ic.toNat / 32) 1 = true)
    (value : x.d.rowVal (sramDA x.ia) (sramDA x.ib) f x.ic.toNat = (v, false)) :
    opLdq x = x.converted (wd (Fmt.fp32.convert .rne false v).code)
      { sat := (Fmt.fp32.convert .rne false v).counted.toNat, nonfin := nonFinite v } := by
  have small := Fmt.ofCode_lt named
  simp [opLdq, Nat.mod_eq_of_lt small, Nat.div_eq_of_lt small, named, scaled, ra, rb, elem, scale, value]

end

/-- SUMX whose slot takes the contribution (R187, R188). -/
theorem opSumx_runs {x : LaneCtx} {v : Slot} (rd : iRd x.ins = 0) (rb : iRb x.ins = 0) (rc : iRc x.ins = 0) (fn : iFn x.ins < 8)
    (added : (x.l.slots.getD (iFn x.ins) (slotInit 0)).add (x.lane.contribution (iRa x.ins)) x.ia = some v) :
    opSumx x = .ok x.lane.next x.d (x.l.slots.set (iFn x.ins) v) false := by
  have low : ¬ (iRd x.ins ≠ 0 ∨ iRb x.ins ≠ 0 ∨ iRc x.ins ≠ 0 ∨ iFn x.ins / 8 ≠ 0) := by
    simp [rd, rb, rc, Nat.div_eq_of_lt fn]
  rw [opSumx]
  simp only [if_neg low, added]

/-- Settles O25: each row is the branch of its instruction that the hypotheses name, and a lane that goes on without poison changes its own
loop alone. -/
theorem vectorMemoryAndControlFlow : Obligations.VectorMemoryAndControlFlow := by
  unfold Obligations.VectorMemoryAndControlFlow
  refine ⟨⟨?_, ?_, ?_, ?_, ?_⟩, ?_, ?_, ?_, ?_, ?_, ?_⟩
  · rintro n opc f row s d w c key l i ins _ stands rfl good
    rw [exec_load row]
    have out := opLoad_runs (x := laneCtx s.dev d.val l i ins) good
    split
    next poisoned => exact next_withDev (laneRow_ok stands (out.trans (if_pos poisoned)))
    next clean => exact next_withDev (laneRow_ok stands (out.trans (if_neg clean)))
  · rintro n opc f row s d w c key l i ins _ stands rfl good flaws
    rw [exec_store row]
    refine ⟨_, next_withDev (laneRow_ok stands (opStore_runs (x := laneCtx s.dev d.val l i ins) good)), rfl, fun b apart => ?_⟩
    rw [Device.readByte, Device.laneDone_mem]
    refine Device.write_readByte_other flaws fun j hj => apart j ?_
    rwa [mark, List.length_map, toBytes_length] at hj
  · rintro s d w c key l i ins _ stands rfl aligned inside
    exact next_withDev (laneRow_ok stands (opLdl_runs (x := laneCtx s.dev d.val l i ins) aligned inside))
  · rintro s d w c key l i ins _ stands rfl aligned inside
    have out := opStl_runs (x := laneCtx s.dev d.val l i ins) aligned inside
    exact ⟨_, next_withDev (laneRow_ok stands out), rfl, rfl, mget_mset_self .., fun k other => mget_mset_ne _ _ _ _ _ other⟩
  · intro s d w c key l i ins f v stands named scaled ra rb elem scale value
    exact next_withDev (laneRow_ok stands (opLdq_runs (x := laneCtx s.dev d.val l i ins) named scaled ra rb elem scale value))
  · intro opc f taken row s d w c key l i ins stands
    rw [exec_branch row]
    exact next_withDev (laneRow_ok stands rfl)
  · intro s d w c key l i ins stands zero
    have out : opJal (laneCtx s.dev d.val l i ins) = _ := if_neg (not_not_intro zero)
    rw [State.laneNext, ← Lane.hop_set]
    exact next_withDev (laneRow_ok stands out)
  · intro s d w c key l i ins stands rd rb rc fn
    refine next_withDev (laneRow_ok stands (if_neg ?_))
    rintro (h | h | h | h)
    exacts [h rd, h rb, h rc, h fn]
  · intro s d w c key l i ins stands zero
    exact next_withDev (laneRow_ok stands (if_neg (not_not_intro zero)))
  · intro s d w c key l i ins x stands rd rb rc fn added
    exact next_withDev (laneRow_ok stands (opSumx_runs (x := laneCtx s.dev d.val l i ins) rd rb rc fn added))
  · intro e key l i ln sl going
    rw [e.laneDone_goes_on key l i sl going]
    refine ⟨_, Device.loops_setLoop_self .., ?_, fun j other => ?_, rfl, rfl, rfl, rfl⟩
    · exact (l.lane_setLane i i ln).trans (if_pos rfl)
    · exact (l.lane_setLane i j ln).trans (if_neg other)

end Sys2Proof.Machine
end

section
/-! O26: vector loops issue and open their iterations, lanes meet at PERM and QST, and a lane that faults stops its loop (R183 to R192). -/

namespace Sys2Proof.Machine

/-! Issue and iterations (R183, R191, R195). -/

/-- The loop that a VLOOP starts. -/
def startedLoop (d : Device) (c : Cmd) (die : Nat) : VLoop :=
  { cmd := c, group := targetClusters c.target, core := targetCore c.target, prog := d.snapProg (c.word 3),
    args := if bit (c.word 5) 20 then d.descWords (sramDA (c.word 7)) 8 else [],
    slots := (List.range 8).map (fun k => slotInit (fld (c.word 6) (3 * k + 2) (3 * k))),
    k0 := d.reg (dreg die 11 0), k1 := d.reg (dreg die 11 4), step := d.reg (dreg die 11 8) }

theorem devVloop_issues {d : Device} {die w : Nat} {c : Cmd} (head : d.ready (qVec die w) = some c)
    (group : ∀ v ∈ targetClusters c.target, (d.ready (qVec die v)).map Cmd.cid = some c.cid ∧ d.loopAt die v = none ∧
      d.runs (wCluster die v) = true) (good : vloopBad d c = none) :
    devVloop die w d = (d.popAll die (targetClusters c.target)).setLoop (die * 16 + (targetClusters c.target).headD 0)
      (some (startedLoop d c die)) := by
  have issues (v : Nat) (hv : v ∈ targetClusters c.target) : ∃ k, d.ready (qVec die v) = some k ∧ k.cid = c.cid :=
    Option.map_eq_some_iff.mp (group v hv).1
  rw [devVloop, head]
  refine (if_neg fun stops => ?_).trans (by rw [good]; rfl)
  obtain waits | busy := Bool.or_eq_true_iff.mp stops
  · rw [Bool.not_eq_true', List.all_eq_false] at waits
    obtain ⟨v, hv, other⟩ := waits
    obtain ⟨k, ready, same⟩ := issues v hv
    simp [ready, same] at other
  · obtain ⟨v, hv, taken⟩ := List.any_eq_true.mp busy
    obtain ⟨-, idle, runs⟩ := group v hv
    simp [idle, runs] at taken

section
variable {d : Device} {die w key : Nat} {l : VLoop} (found : d.loopAt die w = some (key, l))

theorem any_stopped {d : Device} {die : Nat} {l : VLoop} (runs : ∀ v ∈ l.group, d.runs (wCluster die v) = true) :
    l.group.any (fun v => !d.runs (wCluster die v)) = false :=
  List.any_eq_false.mpr fun v hv => by simp [runs v hv]

include found

theorem devIterationStart_opens (closed : l.open_ = false) (runs : ∀ v ∈ l.group, d.runs (wCluster die v) = true) :
    devIterationStart die w d = d.setLoop key (some { l with open_ := true, lanes := [] }) := by
  simp only [devIterationStart, found, closed, any_stopped runs, Bool.or_self, Bool.false_eq_true, if_false]

end

/-- A lane of an iteration that has just been opened. -/
theorem VLoop.lane_fresh (l : VLoop) (i : Nat) : ({ l with lanes := [] } : VLoop).lane i = l.laneInit i := rfl

/-- The registers that an element starts with (R184). -/
theorem VLoop.laneInit_regs (l : VLoop) (i : Nat) : (l.laneInit i).f 1 = wd (l.iter * l.vl + i) ∧ (l.laneInit i).f 2 = wd i ∧
    (l.laneInit i).f 3 = wd l.cvl ∧ (l.laneInit i).f 4 = wd l.iter ∧ ∀ k, k < 8 → (l.laneInit i).f (24 + k) = wordAt l.args k := by
  simp only [Lane.f, VLoop.laneInit, List.range, List.range.loop, List.map, List.cons_append, List.nil_append, List.foldl]
  refine ⟨by simp, by simp, by simp, by simp, fun k hk => ?_⟩
  interval_cases k <;> simp

/-! Lanes that meet. -/

section
variable {d : Device} {l : VLoop} {opc i : Nat} {u : Word}

/-- A lane that stands before an instruction is active. -/
theorem standsAt_active (h : standsAt d l opc i = some u) : i < l.cvl ∧ (l.lane i).ended = false := by
  unfold standsAt insAt at h
  split at h
  next below =>
    refine ⟨below, ?_⟩
    by_contra ended
    simp [Bool.eq_true_of_not_eq_false ended] at h
  next => cases h

/-- A check that fails on a core names the lane of that core that stands at the meeting. -/
theorem checkedLane_stands {w c : Nat} {x : CoreCheck} {cause : Nat} (h : checkedLane d l opc w c x = some (i, cause)) :
    ∃ u, standsAt d l opc i = some u := by
  unfold checkedLane at h
  split at h
  next =>
    obtain ⟨u, stands, same⟩ := Option.map_eq_some_iff.mp h
    cases same
    exact ⟨u, stands⟩
  next => cases h

theorem checkedLane_ok (w c : Nat) : checkedLane d l opc w c .ok = none := rfl

end

/-- Lanes set one after another, each to a value of its own. -/
theorem VLoop.lane_foldl_setLane (g : Nat → Lane) (is : List Nat) (l : VLoop) (j : Nat) :
    (is.foldl (fun m i => m.setLane i (g i)) l).lane j = if j ∈ is then g j else l.lane j := by
  induction is generalizing l with
  | nil => simp
  | cons i is ih =>
    rw [List.foldl_cons, ih, VLoop.lane_setLane]
    by_cases later : j ∈ is
    · simp [later]
    · by_cases same : j = i <;> simp [later, same]

/-- The lanes of an iteration that have not ended. -/
def VLoop.live (l : VLoop) : List Nat := (List.range l.cvl).filter (fun i => !(l.lane i).ended)

theorem VLoop.mem_live {l : VLoop} {i : Nat} : i ∈ l.live ↔ i < l.cvl ∧ (l.lane i).ended = false := by simp [VLoop.live]

/-- A loop whose lanes have passed a PERM (R186). -/
def VLoop.afterPerm (l : VLoop) (d : Device) : VLoop :=
  l.live.foldl (fun m i => m.setLane i ((l.lane i).permuted ((standsAt d l 0x20 i).getD 0) (permValue d l i).1)) l

/-- The marks of a PERM in its clusters' status: a source past CVL, and a source that has ended (R186). -/
def Device.permNotes (d : Device) (die : Nat) (l : VLoop) : Device :=
  l.live.foldl (fun e i => e.setReg (vecWin die (l.clusterOf i) 4) (e.reg (vecWin die (l.clusterOf i) 4) |||
    wd ((if (permValue d l i).2.1 then 2 else 0) + (if (permValue d l i).2.2 then 4 else 0)))) d

section
variable {d : Device} {die w c key : Nat} {l : VLoop} (found : d.loopAt die w = some (key, l)) (opened : l.open_ = true)
  (runs : ∀ v ∈ l.group, d.runs (wCluster die v) = true)
include found opened runs

/-- PERM, once no lane has reserved bits set: a check that fails on the core stops its lane, and the lanes pass when all stand there. -/
theorem devPerm_good (x : CoreCheck) {j : Nat} (active : j ∈ l.live) (good : ∀ i u, standsAt d l 0x20 i = some u → fld u 10 0 = 0) :
    devPerm die w c x d = (checkedLane d l 0x20 w c x).elim
      (if l.live.any (fun i => (standsAt d l 0x20 i).isNone) then d else (d.permNotes die l).setLoop key (some (l.afterPerm d)))
      (fun p => d.laneFault key l p.1 p.2) := by
  have goes : ¬ (!l.open_ || l.live.isEmpty || l.group.any (fun v => !d.runs (wCluster die v))) = true := by
    simp [opened, any_stopped runs, List.ne_nil_of_mem active]
  rw [devPerm, found]
  refine (if_neg goes).trans ?_
  generalize bad : List.find? _ _ = b
  cases b with
  | some i =>
    have reserved := List.find?_some bad
    split at reserved
    next u stands => simp [good i u stands] at reserved
    next => cases reserved
  | none =>
    cases checkedLane d l 0x20 w c x with
    | some p => rfl
    | none =>
      rw [Device.permNotes, VLoop.afterPerm]
      refine congrArg (ite _ d) (congrArg₂ (fun e m => Device.setLoop e key (some m)) ?_ ?_)
      · exact List.foldl_map
      · exact List.foldl_map

theorem devPerm_meets {j : Nat} (active : j ∈ l.live) (stand : ∀ i ∈ l.live, ∃ u, standsAt d l 0x20 i = some u ∧ fld u 10 0 = 0) :
    devPerm die w c .ok d = (d.permNotes die l).setLoop key (some (l.afterPerm d)) := by
  have good (i : Nat) (u : Word) (standing : standsAt d l 0x20 i = some u) : fld u 10 0 = 0 := by
    obtain ⟨x, same, clear⟩ := stand i (VLoop.mem_live.mpr (standsAt_active standing))
    rw [standing] at same
    cases same
    exact clear
  have all : ¬ l.live.any (fun i => (standsAt d l 0x20 i).isNone) = true := by
    intro missing
    obtain ⟨i, hi, none⟩ := List.any_eq_true.mp missing
    obtain ⟨u, standing, -⟩ := stand i hi
    simp [standing] at none
  exact (devPerm_good found opened runs .ok active good).trans (if_neg all)

end

/-! Stores of a block (R190). -/

/-- Two devices on which a write does the same: no symbol has gone bad, and memory, its marks and what is fenced agree. -/
structure Device.StoresAlike (d e : Device) : Prop where
  clean : d.core.flaws = []
  clean' : e.core.flaws = []
  mem : d.core.mem = e.core.mem
  pois : d.core.pois = e.core.pois
  fence : d.ras.fence = e.ras.fence

theorem Core.markUnits_pois_congr {c k : Core} (pois : c.pois = k.pois) (a : Nat) (l : List PByte) (u n : Nat) :
    (c.markUnits a l u n).pois = (k.markUnits a l u n).pois := by
  induction n generalizing c k u with
  | zero => exact pois
  | succ n ih =>
    refine ih ?_ _
    unfold Core.markUnit
    dsimp only
    rw [pois]
    split
    · rfl
    · split
      · rfl
      · exact pois

section
variable {d e : Device} (alike : d.StoresAlike e)
include alike

theorem Device.StoresAlike.elem (base : Nat) (f : Fmt) (k : Nat) : d.elem base f k = e.elem base f k := by
  have bytes : d.readByte = e.readByte := by
    funext a
    rw [Device.readByte, Device.readByte, alike.mem, alike.pois]
  simp only [Device.elem, Device.readBytes, bytes]

theorem Device.StoresAlike.write (a : Nat) (l : List PByte) : (d.write a l).StoresAlike (e.write a l) := by
  have held : d.memHeld a = e.memHeld a := by simp only [Device.memHeld, Device.dieInReset, Device.modRuns, alike.fence]
  refine ⟨d.write_flaws_clean alike.clean a l, e.write_flaws_clean alike.clean' a l,
    Device.write_mem_congr alike.clean alike.clean' alike.mem alike.fence a l, ?_, ?_⟩
  · cases h : d.memHeld a with
    | true => rw [Device.write, if_pos h, Device.write, if_pos (held ▸ h), alike.pois]
    | false =>
      obtain ⟨c, source, marks⟩ := Device.write_pois (l := l) h (by simp [Device.flawedIn, alike.clean])
      obtain ⟨k, from', marks'⟩ := Device.write_pois (l := l) (held ▸ h) (by simp [Device.flawedIn, alike.clean'])
      rw [marks, marks', Core.markUnits_pois_congr (source.trans (alike.pois.trans from'.symm))]
  · rw [Device.write_ras, Device.write_ras, alike.fence]

theorem Device.StoresAlike.putElems (f : Fmt) (blk : Nat) (codes : List (Nat × Bool)) (bases : List Word) (base : Word) :
    (d.putElems f blk codes bases base).StoresAlike (e.putElems f blk codes bases base) := by
  simp only [Device.putElems, alike.elem]
  exact alike.write _ _

theorem Device.StoresAlike.foldl_putElems (f : Fmt) (blk : Nat) (codes : List (Nat × Bool)) (bases bs : List Word) :
    (bs.foldl (fun d b => d.putElems f blk codes bases b) d).StoresAlike (bs.foldl (fun d b => d.putElems f blk codes bases b) e) := by
  induction bs generalizing d e with
  | nil => exact alike
  | cons b bs ih => exact ih (alike.putElems f blk codes bases b)

end

/-- A block whose lanes all name one base is packed there as it is (R45, R190). -/
theorem Device.putElems_one_base (e : Device) (f : Fmt) (blk : Nat) {codes : List (Nat × Bool)} {bases : List Word} {base : Word}
    (length : bases.length = codes.length) (one : ∀ b ∈ bases, b = base) :
    e.putElems f blk codes bases base = e.write (sramDA base + blk * 4 * f.width) (packPoison f codes) := by
  have own : (codes.zip bases).zipIdx.map (fun x => if x.1.2 = base then x.1.1 else e.elem (sramDA base) f (32 * blk + x.2)) = codes := by
    calc _ = (codes.zip bases).zipIdx.map (fun x => x.1.1) := by
          refine List.map_congr_left fun x hx => if_pos (one _ ?_)
          exact (List.of_mem_zip (List.fst_mem_of_mem_zipIdx hx)).2
      _ = ((codes.zip bases).zipIdx.map Prod.fst).map Prod.fst := List.map_map.symm
      _ = codes := by rw [List.zipIdx_map_fst, List.map_fst_zip length.ge]
  rw [Device.putElems, own]

/-- The lanes of block blk that have not ended. -/
def VLoop.blockLive (l : VLoop) (blk : Nat) : List Nat := (rangeFrom (32 * blk) 32).filter (fun i => i < l.cvl && !(l.lane i).ended)

theorem VLoop.mem_blockLive {l : VLoop} {blk i : Nat} : i ∈ l.blockLive blk ↔ i / 32 = blk ∧ i < l.cvl ∧ (l.lane i).ended = false := by
  have block : i ∈ rangeFrom (32 * blk) 32 ↔ i / 32 = blk := by
    rw [mem_rangeFrom]
    omega
  simp [VLoop.blockLive, block]

/-- What a block of a QST converts to, in the format and rounding of one of its instructions. -/
def qstRow (d : Device) (l : VLoop) (blk : Nat) (u : Word) : ConvRow :=
  convPBlock (fmtOf (iFn u % 16)) (List.replicate 32 (if iFn u / 16 % 2 = 1 then Rnd.rtz else Rnd.rne)) false
    (qstVals d l (standsAt d l 0x1B) (rangeFrom (32 * blk) 32) d.core.freeN)

/-- The base of each lane of a block: its own, or that of the lane the block follows. -/
def qstBases (d : Device) (l : VLoop) (blk i0 : Nat) (u : Word) : List Word :=
  (rangeFrom (32 * blk) 32).map (fun i => if i < l.cvl && !(l.lane i).ended
    then (l.lane i).i (iRb ((standsAt d l 0x1B i).getD 0)) else (l.lane i0).i (iRb u))

/-- A block's elements stored at each of its bases, then its scale. -/
def Device.qstStored (d : Device) (f : Fmt) (blk : Nat) (row : ConvRow) (bases : List Word) (scales : Word) : Device :=
  (bases.dedup.foldl (fun e b => e.putElems f blk row.codes bases b) d).write (sramDA scales + blk) (scaleBytes row.scales)

/-- A loop whose lanes of a block have passed a QST. -/
def VLoop.afterQst (l : VLoop) (blk : Nat) : VLoop := (l.blockLive blk).foldl (fun m i => m.setLane i (l.lane i).next) l

section
variable {d : Device} {die w c key blk : Nat} {l : VLoop} (found : d.loopAt die w = some (key, l)) (opened : l.open_ = true)
  (runs : ∀ v ∈ l.group, d.runs (wCluster die v) = true)
include found opened runs

theorem devQst_check {x : CoreCheck} {i cause : Nat} (good : ∀ j u, standsAt d l 0x1B j = some u → qstIllegal l u = false)
    (failed : checkedLane d l 0x1B w c x = some (i, cause)) : devQst die w (i / 32) c x d = d.laneFault key l i cause := by
  obtain ⟨u, stands⟩ := checkedLane_stands failed
  have active : i ∈ l.blockLive (i / 32) := VLoop.mem_blockLive.mpr ⟨rfl, standsAt_active stands⟩
  have goes : ¬ (!l.open_ || (l.blockLive (i / 32)).isEmpty || l.group.any (fun v => !d.runs (wCluster die v))) = true := by
    simp [opened, any_stopped runs, List.ne_nil_of_mem active]
  rw [devQst, found]
  refine (if_neg goes).trans ?_
  generalize bad : List.findSome? _ _ = b
  have legal : b = none := by
    refine bad.symm.trans (List.findSome?_eq_none_iff.mpr fun j _ => ?_)
    split
    next u standing => simp [good j u standing]
    next => rfl
  have here : (l.blockLive (i / 32)).contains i = true := List.contains_iff_mem.mpr active
  rw [legal, failed, Option.none_or]
  generalize stops : Option.filter _ _ = o
  rw [stops.symm.trans (Option.filter_some_pos (a := (i, cause)) here)]

theorem devQst_meets {i0 : Nat} {u : Word} (head : (l.blockLive blk).head? = some i0) (first : standsAt d l 0x1B i0 = some u)
    (meet : ∀ i ∈ l.blockLive blk, ∃ x, standsAt d l 0x1B i = some x ∧ qstIllegal l x = false ∧ qstAddr d l i x = false ∧
      qstBlock l i x = qstBlock l i0 u) : ∃ n : Nat, devQst die w blk c .ok d =
        ((({ d with core.freeN := n } : Device).qstStored (fmtOf (iFn u % 16)) blk (qstRow d l blk u) (qstBases d l blk i0 u)
          ((l.lane i0).i (iRc u))).note (vecReg die 0xE000) (uDie die) (qstRow d l blk u).note).setLoop key (some (l.afterQst blk)) := by
  have goes : ¬ (!l.open_ || (l.blockLive blk).isEmpty || l.group.any (fun v => !d.runs (wCluster die v))) = true := by
    simp [opened, any_stopped runs, List.ne_nil_of_mem (List.mem_of_mem_head? head)]
  have all : ¬ (l.blockLive blk).any (fun i => (standsAt d l 0x1B i).isNone) = true := by
    intro missing
    obtain ⟨i, hi, none⟩ := List.any_eq_true.mp missing
    obtain ⟨x, standing, -⟩ := meet i hi
    simp [standing] at none
  have inside : (l.blockLive blk).find? (fun i => qstAddr d l i ((standsAt d l 0x1B i).getD 0)) = none := by
    refine List.find?_eq_none.mpr fun i hi => ?_
    obtain ⟨x, standing, -, inside, -⟩ := meet i hi
    simp [standing, inside]
  have shape : (rangeFrom (32 * blk) 32).filter (fun i => decide (i < l.cvl) && !(l.lane i).ended) = l.blockLive blk := rfl
  have headD : (l.blockLive blk).headD 0 = i0 := by rw [List.headD_eq_head?_getD, head]; rfl
  have same : (l.blockLive blk).all (fun i => qstBlock l i ((standsAt d l 0x1B i).getD 0) == qstBlock l i0 u) = true := by
    refine List.all_eq_true.mpr fun i hi => ?_
    obtain ⟨x, standing, -, -, alike⟩ := meet i hi
    simp only [standing, Option.getD_some, alike, beq_self_eq_true]
  have bases : (rangeFrom (32 * blk) 32).map (fun i => (l.lane (if (l.blockLive blk).contains i then i else i0)).i
      (iRb ((standsAt d l 0x1B (if (l.blockLive blk).contains i then i else i0)).getD 0))) = qstBases d l blk i0 u := by
    refine List.map_congr_left fun i hi => ?_
    have live : (l.blockLive blk).contains i = (decide (i < l.cvl) && !(l.lane i).ended) := by
      rw [Bool.eq_iff_iff, List.contains_iff_mem, VLoop.blockLive, List.mem_filter, and_iff_right hi]
    rw [live]
    split
    · rfl
    · rw [first, Option.getD_some]
  refine ⟨d.core.freeN + ((rangeFrom (32 * blk) 32).filter (fun i => i < l.cvl && (l.lane i).ended)).length, ?_⟩
  rw [devQst, found]
  refine (if_neg goes).trans ?_
  generalize bad : List.findSome? _ _ = b
  have legal : b = none := by
    refine bad.symm.trans (List.findSome?_eq_none_iff.mpr fun j hj => ?_)
    obtain ⟨x, standing, legal, -⟩ := meet j hj
    simp [standing, legal]
  rw [legal]
  refine (if_neg all).trans ?_
  generalize outside : List.find? _ _ = o
  rw [outside.symm.trans inside]
  simp only [shape, same, headD, first, if_true, Option.getD_some]
  rw [bases]
  rfl

end

/-! A lane that faults (R192). -/

/-- A loop leaves its clusters, its summaries written. -/
def Device.shutLoop (d : Device) (key : Nat) (l : VLoop) (valid : Bool) : Device :=
  let e := (d.writeSummaries (key / 16) l valid).setLoop key none
  { e with vec.last := l.group.foldl (fun m w => mset 0 m (key / 16 * 16 + w) l.cmd.seq) e.vec.last }

/-- n parts of a command end, if there are any. -/
def Device.endParts (d : Device) (cid n status nfail first : Nat) : Device :=
  if n = 0 then d else d.completePart cid n status nfail first

/-- The cores of a loop that loaded poison, beside the one that faulted. -/
def VLoop.tainted (l : VLoop) (u : Nat) : List Nat := l.pcores.filter (fun x => some u != some x)

theorem Device.endLoop_faulted (d : Device) (key : Nat) (l : VLoop) (u : Nat) : d.endLoop key l (some u) =
    (((d.shutLoop key l false).endParts l.cmd.cid (l.tainted u).length stPoisoned (l.tainted u).length ((l.tainted u).headD 0)).endParts
      l.cmd.cid (l.leaves - (l.tainted u).length - 1) stDone 0 0).completePart l.cmd.cid 1 stFault 1 u := rfl

/-- An access beyond what is assigned is posted. -/
def Device.rangePosted (d : Device) (cause unit : Nat) : Device := if cause = 3 then d.post evAddrUnassigned unit 0 else d

/-- The element of a fault that is to be recorded at register k. -/
def Device.elementNoted (d : Device) (k : Nat) (element : Word) : Device := if bit (d.reg k) 31 then d else d.setReg (k + 8) element

/-- Word 0 of the fault record of a lane. -/
def VLoop.faultWord (l : VLoop) (lane cause : Nat) : Word := wd (2 ^ 31 + cause * 2 ^ 28 + l.coreOf lane * 2 ^ 21 + l.cmd.seq)

/-- A faulted lane is recorded and reported, before its loop ends. -/
def Device.laneStruck (d : Device) (key : Nat) (l : VLoop) (lane cause : Nat) : Device :=
  (((d.rangePosted cause (uCore (key / 16) (l.clusterOf lane) (l.coreOf lane))).elementNoted (vecWin (key / 16) (l.clusterOf lane) 8)
    (wd (l.iter * l.vl + lane))).setRecord (vecWin (key / 16) (l.clusterOf lane) 8) (l.faultWord lane cause)
      (wd ((l.lane lane).pc % 2 ^ 14))).post 0x0A05 (uCluster (key / 16) (l.clusterOf lane)) (l.faultWord lane cause)

theorem Device.laneFault_eq (d : Device) (key : Nat) (l : VLoop) (lane cause : Nat) : d.laneFault key l lane cause =
    (d.laneStruck key l lane cause).endLoop key l (some (uCore (key / 16) (l.clusterOf lane) (l.coreOf lane))) := rfl

section
variable (d : Device)

theorem EndFrame.endParts (cid n status nfail first : Nat) : EndFrame d (d.endParts cid n status nfail first) :=
  iteInd (EndFrame d) (.refl d) (.completePart d cid n status nfail first)

theorem Appends.endParts (cid n status nfail first : Nat) : Appends d (d.endParts cid n status nfail first) :=
  iteInd (Appends d) (.refl d) (.completePart cid n status nfail first d)

theorem Device.endParts_vec (cid n status nfail first : Nat) : (d.endParts cid n status nfail first).vec = d.vec := by
  unfold Device.endParts
  split <;> simp

variable (key : Nat) (l : VLoop) (u : Nat)

theorem Device.endLoop_regs : (d.endLoop key l (some u)).core.regs = d.core.regs := by
  rw [Device.endLoop_faulted, Device.completePart_core_regs, (EndFrame.endParts ..).core_regs, (EndFrame.endParts ..).core_regs]
  rfl

theorem Device.endLoop_appends : Appends d (d.endLoop key l (some u)) := by
  have shut : Appends d (d.shutLoop key l false) := .of_evq rfl
  rw [Device.endLoop_faulted]
  exact ((shut.trans (.endParts ..)).trans (.endParts ..)).trans (.completePart ..)

theorem Device.endLoop_loop : mget none (d.endLoop key l (some u)).vec.loops key = none := by
  rw [Device.endLoop_faulted, Device.completePart_vec, Device.endParts_vec, Device.endParts_vec]
  exact Device.loops_setLoop_self (d.writeSummaries (key / 16) l false) key none

end

/-- Parts of a command end and others are left: the command's entry, and no word reported. -/
theorem Device.endParts_open (d : Device) (cid : Nat) {n status : Nat} (nfail first : Nat) (more : n < (mget {} d.core.opens cid).left)
    (mild : status < stFault) : (d.endParts cid n status nfail first).core.done = d.core.done ∧
      ∃ o : Open, mget {} (d.endParts cid n status nfail first).core.opens cid = o ∧ o.left = (mget {} d.core.opens cid).left - n ∧
        o.die = (mget {} d.core.opens cid).die ∧ o.stream = (mget {} d.core.opens cid).stream ∧ o.index = (mget {} d.core.opens cid).index ∧
        ((mget {} d.core.opens cid).worst < stFault → o.worst < stFault) := by
  by_cases none : n = 0
  · rw [Device.endParts, if_pos none]
    exact ⟨rfl, _, rfl, by rw [none, Nat.sub_zero], rfl, rfl, rfl, id⟩
  · have begun : ¬ (mget {} d.core.opens cid).left = 0 := by omega
    have left : ¬ ((mget {} d.core.opens cid).part n status nfail first).left = 0 := by
      show ¬ (mget {} d.core.opens cid).left - n = 0
      omega
    have ended : d.endParts cid n status nfail first =
        { d with core.opens := mset {} d.core.opens cid ((mget {} d.core.opens cid).part n status nfail first) } := by
      rw [Device.endParts, if_neg none]
      exact (if_neg begun).trans (if_neg left)
    rw [ended]
    exact ⟨rfl, _, mget_mset_self .., rfl, rfl, rfl, rfl, fun w => Nat.max_lt.mpr ⟨w, mild⟩⟩

/-- The fields of a completion word (R22). -/
theorem completion_fields (status u : Nat) {n : Nat} (small : status < 16) (few : n ≤ 16383) :
    (BitVec.ofNat 64 (status * 2 ^ 60 + n * 2 ^ 46 + u % 2 ^ 32)).toNat / 2 ^ 60 = status ∧
      (BitVec.ofNat 64 (status * 2 ^ 60 + n * 2 ^ 46 + u % 2 ^ 32)).toNat % 2 ^ 32 = u % 2 ^ 32 := by
  rw [BitVec.toNat_ofNat, Nat.mod_eq_of_lt (by omega)]
  omega

/-- The last part of a command ends with FAULT, and it was the only one to do so. -/
theorem Device.completePart_last_fault {d : Device} {cid u : Nat} {o : Open} (entry : mget {} d.core.opens cid = o) (last : o.left = 1)
    (mild : o.worst < stFault) : ∃ w : BitVec 64, (d.completePart cid 1 stFault 1 u).core.done = d.core.done ++ [Done.mk o.die o.stream o.index w] ∧
      w.toNat / 2 ^ 60 = stFault ∧ w.toNat % 2 ^ 32 = u % 2 ^ 32 := by
  have begun : ¬ o.left = 0 := by omega
  have closed : (o.part 1 stFault 1 u).left = 0 := by
    show o.left - 1 = 0
    omega
  have worst : (o.part 1 stFault 1 u).worst = stFault := max_eq_right mild.le
  have first : (o.part 1 stFault 1 u).first = u := by
    show (if stFault = 0 then o.first else if stFault > o.worst then u else if stFault = o.worst then min o.first u else o.first) = u
    rw [if_neg (by decide), if_pos mild]
  have closes : d.completePart cid 1 stFault 1 u = ({ d with core.opens := mset {} d.core.opens cid {} } : Device).closeCmd (o.part 1 stFault 1 u) := by
    rw [Device.completePart, entry]
    exact (if_neg begun).trans (if_pos closed)
  have word : (o.part 1 stFault 1 u).completion =
      BitVec.ofNat 64 (stFault * 2 ^ 60 + min (o.part 1 stFault 1 u).nfail 16383 * 2 ^ 46 + u % 2 ^ 32) := by
    rw [Open.completion, worst, first, if_neg (by decide)]
  obtain ⟨status, unit⟩ := completion_fields stFault u (by decide) (min_le_right (o.part 1 stFault 1 u).nfail 16383)
  refine ⟨_, ?_, word ▸ status, word ▸ unit⟩
  rw [closes, Device.closeCmd_done]
  rfl

section
variable (d : Device) (key : Nat) (l : VLoop)

/-- A loop that a lane's fault ends reports FAULT, first by the core that faulted. -/
theorem Device.endLoop_reports (u : Nat) {o : Open} (entry : mget {} d.core.opens l.cmd.cid = o) (left : o.left = l.leaves)
    (mild : o.worst < stFault) (clean : (l.tainted u).length < l.leaves) :
    ∃ w : BitVec 64, (d.endLoop key l (some u)).core.done = d.core.done ++ [Done.mk o.die o.stream o.index w] ∧
      w.toNat / 2 ^ 60 = stFault ∧ w.toNat % 2 ^ 32 = u % 2 ^ 32 := by
  have shut : mget {} (d.shutLoop key l false).core.opens l.cmd.cid = o := entry
  obtain ⟨done₁, o₁, entry₁, left₁, die₁, stream₁, index₁, mild₁⟩ := (d.shutLoop key l false).endParts_open l.cmd.cid
    (n := (l.tainted u).length) (status := stPoisoned) (l.tainted u).length ((l.tainted u).headD 0) (by rw [shut, left]; exact clean) (by decide)
  rw [shut] at left₁ die₁ stream₁ index₁ mild₁
  obtain ⟨done₂, o₂, entry₂, left₂, die₂, stream₂, index₂, mild₂⟩ := Device.endParts_open _ l.cmd.cid
    (n := l.leaves - (l.tainted u).length - 1) (status := stDone) 0 0 (by rw [entry₁]; omega) (by decide)
  rw [entry₁] at left₂ die₂ stream₂ index₂ mild₂
  obtain ⟨w, done₃, status, first⟩ := Device.completePart_last_fault (u := u) entry₂ (by omega) (mild₂ (mild₁ mild))
  refine ⟨w, ?_, status, first⟩
  rw [Device.endLoop_faulted, done₃, done₂, done₁, die₂, die₁, stream₂, stream₁, index₂, index₁]
  rfl

variable (lane cause : Nat)

theorem Device.rangePosted_eq (unit : Nat) : d.rangePosted cause unit =
    { d with core.evq := d.core.evq ++ (if cause = 3 then [⟨evAddrUnassigned, unit, 0, dieOfUnit unit, d.time (dieOfUnit unit)⟩] else []) } := by
  unfold Device.rangePosted
  split
  · rfl
  · rw [List.append_nil]

theorem Device.elementNoted_eq (k : Nat) (element : Word) :
    d.elementNoted k element = { d with core.regs := (d.elementNoted k element).core.regs } := by
  unfold Device.elementNoted
  split <;> rfl

theorem Device.laneStruck_codes : (d.laneStruck key l lane cause).core.evq.map Event.code =
    d.core.evq.map Event.code ++ (if cause = 3 then [evAddrUnassigned] else []) ++ [0x0A05] := by
  rw [Device.laneStruck, Device.post, List.map_append, Device.setRecord_core_evq, Device.elementNoted_eq, Device.rangePosted_eq, List.map_append]
  split <;> rfl

theorem Device.laneStruck_opens : (d.laneStruck key l lane cause).core.opens = d.core.opens := by
  rw [Device.laneStruck, Device.post_core_opens, Device.setRecord_core_opens, Device.elementNoted_eq, Device.rangePosted_eq]

theorem Device.laneStruck_done : (d.laneStruck key l lane cause).core.done = d.core.done := by
  rw [Device.laneStruck, Device.post_core_done, Device.setRecord_core_done, Device.elementNoted_eq, Device.rangePosted_eq]

section
variable {k : Nat} (place : k = vecWin (key / 16) (l.clusterOf lane) 8)
include place

/-- A fault finds its cluster's record free. -/
theorem Device.laneStruck_free (free : bit (d.reg k) 31 = false) :
    (d.laneStruck key l lane cause).reg k = l.faultWord lane cause ∧ (d.laneStruck key l lane cause).reg (k + 4) = wd ((l.lane lane).pc % 2 ^ 14) ∧
      (d.laneStruck key l lane cause).reg (k + 8) = wd (l.iter * l.vl + lane) ∧
      ∀ j, j ≠ k → j ≠ k + 4 → j ≠ k + 8 → (d.laneStruck key l lane cause).reg j = d.reg j := by
  obtain ⟨e, he⟩ : ∃ e, e = (d.rangePosted cause (uCore (key / 16) (l.clusterOf lane) (l.coreOf lane))).elementNoted k (wd (l.iter * l.vl + lane)) :=
    ⟨_, rfl⟩
  have noted (j : Nat) : e.reg j = if j = k + 8 then wd (l.iter * l.vl + lane) else d.reg j := by
    have same (i : Nat) : (d.rangePosted cause (uCore (key / 16) (l.clusterOf lane) (l.coreOf lane))).reg i = d.reg i := by
      rw [Device.rangePosted_eq]
      rfl
    rw [he, Device.elementNoted, same, if_neg (ne_true_of_eq_false free), Device.reg_setReg, same]
  have free' : bit (e.reg k) 31 = false := by
    rw [noted, if_neg (by omega)]
    exact free
  obtain ⟨low, high⟩ := Device.setRecord_free (lo := l.faultWord lane cause) (hi := wd ((l.lane lane).pc % 2 ^ 14)) free'
  rw [Device.laneStruck, ← place, ← he]
  simp only [Device.reg_post]
  refine ⟨low, high, ?_, fun j h₀ h₄ h₈ => ?_⟩
  · rw [Device.setRecord_reg_ne _ _ _ (by omega) (by omega), noted, if_pos rfl]
  · rw [Device.setRecord_reg_ne _ _ _ h₀ h₄, noted, if_neg h₈]

/-- A fault leaves a record that is valid. -/
theorem Device.laneStruck_held (held : bit (d.reg k) 31 = true) : (d.laneStruck key l lane cause).core.regs = d.core.regs := by
  have posted (unit : Nat) : bit ((d.rangePosted cause unit).reg k) 31 = true := by
    rw [Device.rangePosted_eq]
    exact held
  rw [Device.laneStruck, ← place, Device.elementNoted, if_pos (posted _), Device.setRecord_held (posted _), Device.rangePosted_eq]
  rfl

end

end

/-! Faults of an access and of a fetch (R192). -/

theorem accessFault_eq_some (e : Device) (a : Word) (n k : Nat) : accessFault e a n n = some k ↔
    (a.toNat % n ≠ 0 ∧ k = 2) ∨ (a.toNat % n = 0 ∧ (awRes a = true ∨ e.sramBad a n = true) ∧ k = 3) := by
  unfold accessFault
  by_cases aligned : a.toNat % n = 0
  · by_cases bad : awRes a = true ∨ e.sramBad a n = true
    · simpa [aligned, bad] using eq_comm
    · simp [aligned, bad]
  · simpa [aligned] using eq_comm

theorem fetchIns_beyond (e : Device) (l : VLoop) {ln : Lane} (beyond : 16384 ≤ ln.pc) : fetchIns e l ln = .inl 4 :=
  if_pos beyond

theorem fetchIns_listed {e : Device} {l : VLoop} {ln : Lane} {ins : Word} (fetched : fetchIns e l ln = .inr ins) :
    opcListed (iOpc ins) = true ∧ ln.pc < 16384 := by
  unfold fetchIns at fetched
  dsimp only at fetched
  split at fetched
  next => cases fetched
  next inside =>
    split at fetched
    next => cases fetched
    next =>
      split at fetched
      next listed =>
        cases fetched
        exact ⟨listed, by omega⟩
      next => cases fetched

/-- Settles O26, from the rules for the loop's issue and the iteration's start, for the lanes that stand at a PERM or a
QST, and for each cause of a lane's fault. -/
theorem vectorLoopsMeetAndFault : Obligations.VectorLoopsMeetAndFault := by
  unfold Obligations.VectorLoopsMeetAndFault
  refine ⟨⟨?_, ?_, ?_⟩, ⟨?_, ?_, ?_, ?_, ?_⟩, ?_, ?_, ?_, ?_, ?_, ?_, ?_, ?_⟩
  · intro s d w c head group good
    exact ⟨_, startedLoop s.dev c d.val, next_withDev (devVloop_issues head group good), Device.loops_setLoop_self .., rfl, rfl, rfl, rfl, rfl,
      rfl, rfl, rfl⟩
  · intro s d w key l found closed runs
    exact next_withDev (devIterationStart_opens found closed runs)
  · intro l i
    exact ⟨l.lane_fresh i, l.laneInit_regs i⟩
  · rintro s d w c key l found opened runs ⟨j, below, going⟩ stand
    have meets := devPerm_meets (c := c.val) found opened runs (VLoop.mem_live.mpr ⟨below, going⟩)
      fun i hi => stand i (VLoop.mem_live.mp hi).1 (VLoop.mem_live.mp hi).2
    refine ⟨_, _, next_withDev meets, Device.loops_setLoop_self .., fun i u below stands => ?_, fun i out => ?_, ?_⟩
    · rw [VLoop.afterPerm, VLoop.lane_foldl_setLane, if_pos (VLoop.mem_live.mpr (standsAt_active stands)), stands]
      rfl
    · have passed : i ∉ l.live := by
        rw [VLoop.mem_live]
        rintro ⟨below, going⟩
        obtain high | ended := out
        · omega
        · simp [going] at ended
      rw [VLoop.afterPerm, VLoop.lane_foldl_setLane, if_neg passed]
    · rw [← meets]
      exact congrArg Still.mem (devPerm_still d.val w.val c.val .ok s.dev)
  · intro s d w c blk key l i0 u row bases found opened runs head first meet rowEq basesEq flaws
    subst rowEq basesEq
    have live (i : Nat) (h : i ∈ l.blockLive blk) : i ∈ rangeFrom (32 * blk) 32 ∧ i < l.cvl ∧ (l.lane i).ended = false :=
      ⟨List.mem_of_mem_filter h, (VLoop.mem_blockLive.mp h).2⟩
    obtain ⟨n, meets⟩ := devQst_meets (c := c.val) found opened runs head first
      fun i hi => meet i (live i hi).1 (live i hi).2.1 (live i hi).2.2
    refine ⟨_, _, next_withDev meets, Device.loops_setLoop_self .., ?_, fun i below stands inBlk => ?_⟩
    · have alike : Device.StoresAlike { s.dev with core.freeN := n } s.dev := ⟨flaws, flaws, rfl, rfl, rfl⟩
      refine (Device.note_core_mem ..).trans ?_
      exact ((alike.foldl_putElems _ _ _ _ _).write _ _).mem
    · obtain ⟨x, standing⟩ := Option.ne_none_iff_exists'.mp stands
      rw [VLoop.afterQst, VLoop.lane_foldl_setLane, if_pos (VLoop.mem_blockLive.mpr ⟨inBlk, standsAt_active standing⟩)]
  · intro e f blk codes bases base length one
    exact e.putElems_one_base f blk length one
  · intro s d w c x key l i cause found opened runs good failed going
    obtain ⟨u, stands⟩ := checkedLane_stands failed
    have checked := devPerm_good (c := c.val) found opened runs x (VLoop.mem_live.mpr (standsAt_active stands)) good
    rw [failed] at checked
    exact next_withDev checked
  · intro s d w c x key l i cause found opened runs good failed going
    exact next_withDev (devQst_check found opened runs good failed)
  · intro s d w c x key l i cause active bad
    exact ⟨next_withDev (laneRow_fetch_fault active bad x), next_withDev (laneRow_fetch_fault active bad x)⟩
  · intro s d w c key l i ins stands
    exact ⟨next_withDev (laneRow_check stands rfl), next_withDev (laneRow_check stands rfl)⟩
  · intro e l ln
    exact ⟨fetchIns_beyond e l, fun ins => fetchIns_listed⟩
  · rintro n opc f row s d w c key l i ins _ cause stands rfl bad
    have rows : (n, opc, f) ∈ loadRows ++ storeRows := row
    obtain load | store := List.mem_append.mp rows
    · rw [exec_load load]
      exact next_withDev (laneRow_fault stands (opLoad_fault (x := laneCtx s.dev d.val l i ins) bad))
    · rw [exec_store store]
      exact next_withDev (laneRow_fault stands (opStore_fault (x := laneCtx s.dev d.val l i ins) bad))
  · exact accessFault_eq_some
  · intro e key l i cause k place free
    simp only [Device.laneFault_eq, Device.reg_of_regs (Device.endLoop_regs _ _ _ _)]
    exact e.laneStruck_free key l i cause place free
  · rintro e key l i cause _ o rfl entry left mild clean
    obtain ⟨w, done, status, first⟩ := (e.laneStruck key l i cause).endLoop_reports key l (uCore (key / 16) (l.clusterOf i) (l.coreOf i))
      (by rw [Device.laneStruck_opens, entry]) left mild clean
    rw [Device.laneStruck_done] at done
    exact ⟨w, done, status, first⟩
  · intro e key l i cause
    obtain ⟨r, appended⟩ := (e.laneStruck key l i cause).endLoop_appends key l (uCore (key / 16) (l.clusterOf i) (l.coreOf i))
    refine ⟨⟨r.map Event.code, ?_⟩, Device.endLoop_loop _ _ _ _, congrArg Still.mem (e.laneFault_still key l i cause), fun held => ?_⟩
    · rw [Device.laneFault_eq, appended, List.map_append, Device.laneStruck_codes]
    · rw [Device.laneFault_eq, Device.endLoop_regs]
      exact e.laneStruck_held key l i cause rfl held

end Sys2Proof.Machine
end

section
/-! O19: streams fetch and dispatch their records, or halt on one that is refused (R197, R198, R515, R516). -/

namespace Sys2Proof.Machine

/-- A running stream takes the record at its head, once it is published and can be read (R516). -/
theorem devRecordFetch_takes {d : Device} {die n a : Nat} (addr : d.recordAddr die n (d.stream die n).head = a)
    (running : (d.stream die n).state = .run) (empty : (d.stream die n).rcd = none)
    (waiting : (d.stream die n).ahead = none → (d.stream die n).head ≠ (d.stream die n).tail)
    (reached : ∀ b, (d.stream die n).ahead = some b → aheadReady (d.ringSize die n) (d.stream die n).tail b = true)
    (runs : d.runs (wCtl die) = true) (memory : regionOf a < 0xC) (assigned : d.rangeOk a 64 = true)
    (clean : anyPoison (d.readBytes a 64) = false) (flaws : d.core.flaws = []) (watch : d.core.watch = none) :
    devRecordFetch die n d = d.setStream die n
      { d.stream die n with rcd := some (bytesToWords 16 (values (d.readBytes a 64))), met := false, ahead := none } := by
  subst addr
  have calm := d.fetch_clean (d.recordAddr die n (d.stream die n).head) 64 flaws watch
  cases ahead : (d.stream die n).ahead with
  | none => simp [devRecordFetch, ahead, waiting ahead, running, empty, runs, Nat.not_le.mpr memory, assigned, calm, clean]
  | some b => simp [devRecordFetch, ahead, reached b ahead, running, empty, runs, Nat.not_le.mpr memory, assigned, calm, clean]

/-- A refused record halts its stream and posts CMD_INVALID; nothing else of the core changes. -/
theorem Device.refuseRecord_halts (d : Device) (die n : Nat) : (d.refuseRecord die n).stream die n =
      { d.stream die n with state := .halted, hcause := 3, hrec := (d.stream die n).head, rcd := none, met := false } ∧
    (d.refuseRecord die n).core = { d.core with evq := (d.refuseRecord die n).core.evq } ∧
    (d.refuseRecord die n).core.evq.map Event.code = d.core.evq.map Event.code ++ [evCmdInvalid] := by
  refine ⟨?_, rfl, ?_⟩
  · rw [Device.refuseRecord, Device.stream_post, Device.stream_setStream_self]
  · rw [Device.refuseRecord, Device.post, List.map_append]
    rfl

section
variable {d : Device} {die n : Nat} {r : List Word} (held : (d.stream die n).rcd = some r) (running : (d.stream die n).state = .run)
  (runs : d.runs (wCtl die) = true)
include held running runs

/-- A record that is refused halts its stream (R198). -/
theorem devRecordDispatch_refuses (bad : recordBad die (d.ringSize die n) r = true) :
    devRecordDispatch die n d = d.refuseRecord die n := by
  simp [devRecordDispatch, held, running, runs, bad]

/-- A unit record goes to its queues, when each of them has room (R197). -/
theorem devRecordDispatch_goes (good : recordBad die (d.ringSize die n) r = false) (unit : rIsCop r = false) {ds : List Dest}
    (target : destsOf (rH r 0) (fld (rW r 0) 31 28) (fld (rW r 0) 27 26) = some ds)
    (room : ∀ x ∈ ds, d.fenced x.slot = true ∨ (d.queue x.q).length < qDepth x.q) :
    devRecordDispatch die n d = d.dispatch die n r ds := by
  have fits : d.noRoom ds = false := by
    refine List.any_eq_false.mpr fun x hx => ?_
    obtain fenced | short := room x hx
    · simp [fenced]
    · simp [Nat.not_le.mpr short]
  simp [devRecordDispatch, held, running, runs, good, unit, target, fits]

end

/-- The command that a unit record becomes in the queue of one of its parts. -/
def partCmd (d : Device) (c : Cmd) (x : Dest) : Cmd :=
  { c with unit := x.first, parts := x.parts, ord := d.core.nextOrd, die := if x.first / 2 ^ 28 = 1 then dieOfUnit x.first else c.die,
           desc := if c.op = 6 ∧ x.q < 512 then d.readBytes (sramDA (c.word 5)) 128 else [] }

/-- A part joins the queue of a unit that is not in reset. -/
theorem Device.enqueue_joins (d : Device) (c : Cmd) {x : Dest} (awake : d.fenced x.slot = false) :
    (d.enqueue c x).core = (({ d with core.nextOrd := d.core.nextOrd + 1 } : Device).pushCmd x.q (partCmd d c x)).core ∧
      (d.enqueue c x).ctl = d.ctl := by
  have released (e : Device) (k : Nat) : (e.lbndHead k).ctl = e.ctl := by
    obtain ⟨same, -⟩ | ⟨freed, -⟩ := e.lbndHead_eq k
    · rw [same]
    · rw [freed, Device.setStash_ctl]
  unfold Device.enqueue
  rw [if_neg (ne_true_of_eq_false awake)]
  dsimp only
  split
  · exact ⟨Device.lbndHead_core .., released _ _⟩
  · exact ⟨rfl, rfl⟩

/-- A unit record has an open command, and its stream has gone past it, before its parts reach their queues. -/
def Device.opened (e : Device) (die n : Nat) (r : List Word) (parts : Nat) : Device :=
  ({ e with core.nextCid := e.core.nextCid + 1
            core.opens := mset {} e.core.opens e.core.nextCid (openOf die n (e.stream die n).head r parts) } : Device).leaveStream die n r

/-- The command of a unit record. -/
def recordCmd (e : Device) (die n : Nat) (r : List Word) (parts : Nat) : Cmd :=
  { cid := e.core.nextCid, die := (openOf die n (e.stream die n).head r parts).sigDie, hdr := r.take 8, w := r.drop 8 }

theorem Device.dispatch_one (e : Device) (die n : Nat) (r : List Word) {x : Dest} (awake : e.fenced x.slot = false) :
    e.dispatch die n r [x] = (e.opened die n r x.parts).enqueue (recordCmd e die n r x.parts) x := by
  have fresh : ¬ ((recordCmd e die n r x.parts).op = 7 ∧ [x].any (fun y => (e.opened die n r x.parts).fenced y.slot) = true) := by
    have awake' : (e.opened die n r x.parts).fenced x.slot = false := awake
    simp [awake']
  have parts : [x].foldl (fun k y => k + y.parts) 0 = x.parts := Nat.zero_add _
  rw [Device.dispatch, parts]
  exact if_neg fresh

/-- Settles O19: a fetch, a dispatch and a refusal are the branch that their hypotheses name; a record of one part is an open command, a stream
past it, and one command more in its queue. -/
theorem streamsDispatchOrHalt : Obligations.StreamsDispatchOrHalt := by
  unfold Obligations.StreamsDispatchOrHalt
  refine ⟨⟨?_, ?_, ?_⟩, ?_⟩
  · intro s d n running empty published idle flaws watch runs memory assigned clean
    exact (ordinary_idle _ s idle).trans (next_withDev (devRecordFetch_takes rfl running empty (fun none => by simpa only [none] using published)
      (fun b some => by simpa only [some] using published) runs memory assigned clean flaws watch))
  · intro s d n r ds held running runs good unit target room
    exact next_withDev (devRecordDispatch_goes held running runs good unit target room)
  · intro e die n r x awake
    have awake' : (e.opened die n r x.parts).fenced x.slot = false := awake
    obtain ⟨core, ctl⟩ := (e.opened die n r x.parts).enqueue_joins (recordCmd e die n r x.parts) awake'
    rw [e.dispatch_one die n r awake]
    refine ⟨partCmd (e.opened die n r x.parts) (recordCmd e die n r x.parts) x, ?_, rfl, rfl, rfl, rfl, ?_, ?_, ?_, ?_⟩
    · rw [Device.queue, core]
      exact Device.queue_setQueue_self ..
    · rw [core]
      exact mget_mset_self ..
    · rw [Device.stream, ctl]
      exact Device.leaveStream_stream ..
    · rw [core]
      rfl
    · rw [core]
      rfl
  · intro s d n r held running runs bad
    obtain ⟨stream, core, codes⟩ := s.dev.refuseRecord_halts d.val n.val
    refine ⟨_, next_withDev (devRecordDispatch_refuses held running runs bad), ?_⟩
    rw [stream]
    exact ⟨rfl, rfl, rfl, by rw [core], by rw [core], by rw [core], by rw [core], codes⟩

end Sys2Proof.Machine
end

section
/-! A met WAIT of a DMA program is forgotten when its instruction is overwritten for a moment (O22). The bank of a busy
unit serves the host's held accesses in one command. A counter's change latches the WAIT that stands in memory then, so
a program whose instruction reads as no WAIT just then keeps no mark, and a later access can put the WAIT back. -/

namespace Sys2Proof.Machine

/-- A DMA program at byte 0 of die 0's SRAM, standing at its first instruction. -/
def overwrittenProg : DmaProg := { cmd := { cid := 1 } }

/-- A WAIT for value 0 of counter 0 of die 0. -/
def overwrittenWait : List Word := [0x40000000#32, 0, 0, 0, 0, 0, 0, 0]

/-- A host access held at the bank of unit 0. -/
def heldAtUnit0 (i : Instr) : Held := { unit := 0, what := .cmd i }

/-- The WAIT is met by counter 0; the host's held accesses clear its OPC, set the counter 2^15 counts past its value,
and write the OPC again. -/
def overwrittenDevice : Device :=
  { core.regs := [(hifReg 0x40, 0x80000000#32)]
    core.mem := [(3, 0x40#8)]
    dma := [(0, { prog := some overwrittenProg })]
    hif.link := 1
    hif.memEn := true
    slip.held :=
      [heldAtUnit0 (.apertureAccess true 3 [0x00] 1 false),
       heldAtUnit0 (.ctlSyncWrite 0 0 0x8000#32),
       heldAtUnit0 (.apertureAccess true 3 [0x40] 1 false)] }

def overwrittenBefore : State := { dev := overwrittenDevice }

/-- The state once the bank has served the three accesses. -/
def overwrittenAfter : State := stOrdinaryAccessService 0 0 overwrittenBefore

theorem overwrittenBefore_serves : exec (.ordinaryAccessService 0 0) overwrittenBefore = .next overwrittenAfter := rfl

theorem overwrittenBefore_fetches : overwrittenBefore.dev.dmaFetch overwrittenProg = some overwrittenWait := by decide

theorem overwrittenBefore_met :
    (overwrittenProg.met || dmaWaitMet overwrittenBefore.dev (wordAt overwrittenWait 0) overwrittenProg.woff) = true := by decide

/-- No mark was kept: the program stands there as it stood before. -/
theorem overwrittenAfter_prog : (overwrittenAfter.dev.chan 0 0).prog = some overwrittenProg := by decide

theorem overwrittenAfter_fetches : overwrittenAfter.dev.dmaFetch overwrittenProg = some overwrittenWait := by decide

theorem overwrittenAfter_unmet :
    (overwrittenProg.met || dmaWaitMet overwrittenAfter.dev (wordAt overwrittenWait 0) overwrittenProg.woff) = false := by decide

/-- Refutes O22: the WAIT of a DMA program is met, one command overwrites it, moves its counter out of the window and
writes it back, and the same WAIT at the same place is not met any more. -/
theorem not_metWaitStaysMet : ¬ Obligations.MetWaitStaysMet := by
  unfold Obligations.MetWaitStaysMet
  rintro ⟨_, _, _, _, dmaStaysMet⟩
  have met := dmaStaysMet (.ordinaryAccessService 0 0) overwrittenBefore overwrittenAfter 0 0 overwrittenProg overwrittenProg
    overwrittenWait overwrittenBefore_serves rfl overwrittenAfter_prog overwrittenBefore_fetches overwrittenAfter_fetches
    (by decide) rfl rfl overwrittenBefore_met
  exact Bool.false_ne_true (overwrittenAfter_unmet.symm.trans met)

end Sys2Proof.Machine
end

section
/-! The channels of the DMA engines: what reads of a channel return after an update, and the instruction that stands in progress
(R209 to R239). -/

namespace Sys2Proof.Machine

/-- A command whose effect is a function of the device answers what that function gives. -/
theorem onDevice_next {f : Device → Device} {s : State} {t : Device} (h : f s.dev = t) : onDevice f s = .next (s.withDev t) :=
  congrArg (fun e => Host.Outcome.next (s.withDev e)) h

/-- With no unit busy an ordinary access whose effect is a function of the device answers what that function gives. -/
theorem ordinary_next {i : Instr} {f : Device → Device} {s : State} {t : Device} (free : s.dev.busyUnits = [])
    (effect : ordinaryEffect i = onDev f) (h : f s.dev = t) : ordinary i s = .next (s.withDev t) := by
  rw [ordinary_idle i s free, effect, ← h]
  rfl

/-- An ordinary access of the module that reaches no memory is held at no bank. -/
theorem ordinary_unwatched {i : Instr} {f : Device → Device} {s : State} {t : Device} (guest : (s.dev.accessOf i).isHost = false)
    (effect : ordinaryEffect i = onDev f) (unwatched : (f { s.dev with core.watch := some [] }).core.watch = some []) (h : f s.dev = t) :
    ordinary i s = .next (s.withDev t) := by
  have passes : s.heldBy (s.dev.accessOf i) (ordinaryEffect i) [] = none := by
    simp [State.heldBy, State.waitsAt, guest, effect, onDev, unwatched]
  rw [ordinary, passes, effect, ← h]
  rfl

/-- A register reads as the core holds it. -/
theorem Device.reg_congr {d e : Device} (h : e.core = d.core) (k : Nat) : e.reg k = d.reg k := by
  unfold Device.reg
  rw [h]

/-- The words of a descriptor are read from memory alone. -/
theorem Device.descWords_congr {d e : Device} (h : e.core.mem = d.core.mem) (a n : Nat) : e.descWords a n = d.descWords a n := by
  simp only [Device.descWords, Device.readBytes, values, List.map_map, Function.comp_def, readByte_fst_of_mem h]

theorem Device.rangeOk_congr {d e : Device} (h : e.core.cap = d.core.cap) (a n : Nat) : e.rangeOk a n = d.rangeOk a n := by
  unfold Device.rangeOk
  rw [h]

theorem Device.moveRangeOk_congr {d e : Device} (h : e.core.cap = d.core.cap) (a n : Nat) : e.moveRangeOk a n = d.moveRangeOk a n := by
  unfold Device.moveRangeOk
  rw [Device.rangeOk_congr h]

/-- So is the instruction in progress, which lies within the assigned range. -/
theorem Device.dmaFetch_congr {d e : Device} (h : e.core.mem = d.core.mem) (h' : e.core.cap = d.core.cap) (p : DmaProg) :
    e.dmaFetch p = d.dmaFetch p := by
  unfold Device.dmaFetch
  simp only [Device.rangeOk_congr h', Device.descWords_congr h]

section
variable (d : Device) (die n : Nat) (p : DmaProg)

/-! A channel after an update of the device. -/

theorem Device.chan_congr {d e : Device} (h : e.dma = d.dma) (die n : Nat) : e.chan die n = d.chan die n := by
  rw [Device.chan, h, Device.chan]

@[simp] theorem Device.chan_progress (w : Nat) : (d.progress w).chan die n = d.chan die n := rfl
@[simp] theorem Device.chan_setReg (k : Nat) (v : Word) : (d.setReg k v).chan die n = d.chan die n := rfl

@[simp] theorem Device.chan_inject (die' : Nat) (r : PeerReq) : (d.inject die' r).chan die n = d.chan die n := by
  unfold Device.inject
  split <;> rfl

/-- A program set on a channel leaves the rest of that channel. -/
@[simp] theorem Device.chan_setProg_self : (d.setProg die n p).chan die n = { d.chan die n with prog := some p } :=
  d.chan_setChan_self ..

@[simp] theorem Device.setProg_core : (d.setProg die n p).core = d.core := rfl

@[simp] theorem Device.dmaNext_core : (d.dmaNext die n p).core = d.core := rfl

/-- The next instruction of a program is in progress, and the rest of its channel stays. -/
@[simp] theorem Device.chan_dmaNext_self : (d.dmaNext die n p).chan die n =
    { d.chan die n with prog := some { p with pc := p.pc + 1, first := none, cur := none, met := false } } := by
  rw [Device.dmaNext, Device.chan_progress, Device.chan_setProg_self]

/-! An interrupt of a channel (R227). -/

@[simp] theorem Device.msixRaise_core (vec : Nat) : (d.msixRaise vec).core = d.core := by
  unfold Device.msixRaise
  split <;> rfl

@[simp] theorem Device.chan_msixRaise (vec : Nat) : (d.msixRaise vec).chan die n = d.chan die n := by
  unfold Device.msixRaise
  split <;> rfl

/-- An interrupt sets its bit in the status register of the channel; a message changes nothing of the core. -/
theorem Device.dmaRaise_core (k : Nat) :
    (d.dmaRaise die n p k).core = (d.setReg (dmaReg die n 8) (setBit (d.reg (dmaReg die n 8)) k true)).core := by
  unfold Device.dmaRaise
  dsimp only
  split
  · rw [Device.msixRaise_core]
  · rfl

@[simp] theorem Device.chan_dmaRaise (k : Nat) : (d.dmaRaise die n p k).chan die n = d.chan die n := by
  unfold Device.dmaRaise
  dsimp only
  split
  · rw [Device.chan_msixRaise, Device.chan_setReg]
  · exact d.chan_setReg ..

@[simp] theorem Device.dmaRaise_core_mem (k : Nat) : (d.dmaRaise die n p k).core.mem = d.core.mem := by
  rw [Device.dmaRaise_core, Device.setReg_core_mem]

@[simp] theorem Device.dmaRaise_core_sync (k : Nat) : (d.dmaRaise die n p k).core.sync = d.core.sync := by
  rw [Device.dmaRaise_core, Device.setReg_core_sync]

@[simp] theorem Device.sync_dmaRaise (k g c : Nat) : (d.dmaRaise die n p k).sync g c = d.sync g c := by
  rw [Device.sync, Device.dmaRaise_core_sync, Device.sync]

theorem Device.dmaRaise_bit {k : Nat} (h : k < 32) : bit ((d.dmaRaise die n p k).reg (dmaReg die n 8)) k = true := by
  have same : (d.dmaRaise die n p k).reg (dmaReg die n 8) = setBit (d.reg (dmaReg die n 8)) k true := by
    rw [Device.reg_congr (d.dmaRaise_core die n p k), Device.reg_setReg_self]
  rw [same, bit_setBit_self _ _ _ h]

end

/-! The instruction in progress (R212). -/

/-- The row of the instruction in progress carries it out. -/
theorem dmaRow_act {d : Device} {die n opc : Nat} {p : DmaProg} {w : List Word} (here : DmaAt d die n opc p w)
    (listed : 0 < opc ∧ opc ≤ 7) (act : Device → DmaProg → List Word → Device) : dmaRow opc act die n d = act d p w := by
  obtain ⟨prog, unlatched, still, runs, fetched, code, due⟩ := here
  have known : ¬(opc = 0 ∨ opc > 7 ∨ (p.xdue.isSome ∧ opc ≠ 2)) := by
    rintro (zero | large | ⟨owed, other⟩)
    · omega
    · omega
    · rcases due with paid | two
      · simp [paid] at owed
      · exact other two
  simp only [dmaRow, prog, unlatched, still, runs, fetched, code, if_neg known]
  simp

/-- An access tried in advance finds the same instruction. -/
theorem DmaAt.tried {d : Device} {die n opc : Nat} {p : DmaProg} {w : List Word} (here : DmaAt d die n opc p w) (l : Option (List Nat)) :
    DmaAt { d with core.watch := l } die n opc p w := by
  obtain ⟨prog, unlatched, still, runs, fetched, rest⟩ := here
  exact ⟨prog, unlatched, still, runs, (Device.dmaFetch_congr rfl rfl p).trans fetched, rest⟩

/-! Writes under way (R224). -/

/-- A write that does not go through the peer window joins the writes of its channel. -/
theorem Device.sendWrite_local (d : Device) (die n cid : Nat) {dst : Nat} (data : List PByte) (here : regionOf dst ≠ 0xE) :
    d.sendWrite die n cid dst data = d.setChan die n { d.chan die n with
      writes := (d.chan die n).writes ++ [{ id := (d.chan die n).nextWr, cid := cid, dst := dst, len := data.length, data := some data }]
      nextWr := (d.chan die n).nextWr + 1 } := by
  have away : (regionOf dst == 0xE) = false := by simpa using here
  simp [Device.sendWrite, Device.sendOne, here, away]

/-- Bytes that a channel has written are counted. -/
def Device.countBytes (d : Device) (die n k : Nat) : Device :=
  d.setChan die n { d.chan die n with bytes := (d.chan die n).bytes + k }

/-- The channel once such a write has left it. -/
theorem Device.chan_sent_local (d : Device) (die n cid k : Nat) {dst : Nat} (data : List PByte) (here : regionOf dst ≠ 0xE) :
    ((d.sendWrite die n cid dst data).countBytes die n k).chan die n = { d.chan die n with
      writes := (d.chan die n).writes ++ [{ id := (d.chan die n).nextWr, cid := cid, dst := dst, len := data.length, data := some data }]
      nextWr := (d.chan die n).nextWr + 1
      bytes := (d.chan die n).bytes + k } := by
  rw [Device.countBytes, Device.chan_setChan_self, Device.sendWrite_local _ _ _ _ _ here, Device.chan_setChan_self]

/-! Reads through the peer window (R374). -/

/-- A channel that reads its source through the peer window keeps the burst and asks for one of its reads. -/
def Device.askRead (d : Device) (die n : Nat) (ch : DmaCh) (wr : DmaWr) (r : Nat × Nat) : Device :=
  (d.setChan die n { ch with writes := ch.writes ++ [wr], nextWr := ch.nextWr + 1 }).inject die (peerReq 1 r.1 r.2 [] (.dmaRead die n wr.id))

section
variable (d : Device) (die n : Nat) (ch : DmaCh) (wr : DmaWr) (r : Nat × Nat)

@[simp] theorem Device.askRead_core : (d.askRead die n ch wr r).core = d.core :=
  Device.inject_core ..

@[simp] theorem Device.chan_askRead_self : (d.askRead die n ch wr r).chan die n =
    { ch with writes := ch.writes ++ [wr], nextWr := ch.nextWr + 1 } := by
  rw [Device.askRead, Device.chan_inject, Device.chan_setChan_self]

/-- Where a full burst finds room, a request for a read does. -/
theorem Device.askRead_inj (room : d.injRoom die = true) :
    (d.askRead die n ch wr r).inj = d.inj ++ [(die, peerReq 1 r.1 r.2 [] (.dmaRead die n wr.id))] := by
  have fits : ∀ e : Device, e.inj = d.inj → e.injw = d.injw → e.injFits die 1 = true := by
    intro e same waits
    simp only [Device.injRoom, Device.injFits, Bool.and_eq_true, decide_eq_true_eq, same, waits] at room ⊢
    exact ⟨room.1, by omega⟩
  rw [Device.askRead, Device.inject]
  exact congrArg Device.inj (if_pos (fits _ rfl rfl))

end

end Sys2Proof.Machine
end

section
/-! O27: DSTART, LOOP, WAIT, its time limit, SIGNAL and END of a DMA program (R209, R210, R215 to R218). -/

namespace Sys2Proof.Machine

/-! DSTART (R209, R210). -/

/-- The program that a DSTART gives channel n: its first instruction fetched, its offsets those of its lane. -/
def Device.dmaIssued (d : Device) (die n : Nat) (c : Cmd) : DmaProg :=
  { cmd := c, lane := dmaLane c n, first := some (d.descWords (sramDA (c.word 3)) 8),
    soff := addOff 0 ((dmaLane c n : Int) * sext 32 (c.word 5).toNat), doff := addOff 0 ((dmaLane c n : Int) * sext 32 (c.word 5).toNat),
    credit := creditCap c, risen := d.time die }

/-- An offset is kept modulo 2^52. -/
theorem addOff_cast (o : Nat) (i : Int) : (addOff o i : Int) = ((o : Int) + i) % 2 ^ 52 := by
  unfold addOff wrap
  rw [Int.toNat_of_nonneg (Int.emod_nonneg _ (by decide))]
  norm_num

section
variable {d : Device} {die n : Nat}

/-- A DSTART that breaks no rule gives its idle channel the program and leaves the queue. -/
theorem devDstart_issues {c : Cmd} (head : d.ready (qDma die n) = some c) (idle : (d.chan die n).prog = none) (runs : d.runs (wDma die) = true)
    (words : w012Reserved c true = false) (group : partShare c = false) (w7 : fld (c.word 7) 7 0 = 0) (w6 : fld (c.word 6) 29 27 = 0)
    (low : fld (c.word 6) 15 0 = 0) (addr : awRes (c.word 3) = false) (aligned : awMis 32 (c.word 3) = false)
    (assigned : d.sramBad (c.word 3) 32 = false)
    (status : bit (c.word 6) 30 = true → awRes (c.word 4) = false ∧ awMis 32 (c.word 4) = false ∧
      ∀ k ∈ targetChans c.target, d.rangeOk (sramDA (c.word 4) + 32 * dmaLane c k) 32 = true) :
    devDstart die n d = (d.popCmd (qDma die n)).setChan die n
      { d.chan die n with prog := some (d.dmaIssued die n c), seq := c.seq } := by
  fun_cases devDstart die n d with
  | case1 h => cases head.symm.trans h
  | case2 _ h busy => simp [idle, runs] at busy
  | case3 c' h _ sten strec lanes bad ev refused =>
    obtain rfl : c = c' := Option.some.inj (head.symm.trans h)
    cases enabled : bit (c.word 6) 30
    · simp [firstBad, words, group, w7, w6, low, addr, aligned, assigned, sten, bad, enabled] at refused
    · obtain ⟨res, mis, rows⟩ := status enabled
      have kept : lanes.any (fun o => !d.rangeOk (strec + o) 32) = false := by
        rw [List.any_map, List.any_eq_false]
        exact fun k hk => by rw [Function.comp_apply, rows k hk]; decide
      simp [firstBad, words, group, w7, w6, low, addr, aligned, assigned, res, mis, kept, bad] at refused
  | case4 c' h _ _ _ _ _ _ _ =>
    obtain rfl : c = c' := Option.some.inj (head.symm.trans h)
    have words (a : Nat) : (d.popCmd (qDma die n)).descWords a 8 = d.descWords a 8 := Device.descWords_congr (d.popCmd_core_mem _) a 8
    rw [Device.dmaIssued, ← words]
    rfl

/-! LOOP (R215). -/

/-- The loop registers and offsets of a program once a LOOP leaves v in its register: one stride on while v is not 0, and then back by all
those made. -/
def DmaProg.looped (p : DmaProg) (w : List Word) (v : Nat) : DmaProg :=
  let f : Int := if v > 0 then 1 else -((fld (wordAt w 1) 23 0 : Int) - 1)
  { p with
    loops := p.loops.set (fld (wordAt w 0) 27 26) v, soff := addOff p.soff (f * sext 32 (wordAt w 2).toNat),
    doff := addOff p.doff (f * sext 32 (wordAt w 3).toNat), scoff := addOff p.scoff (f * sext 32 (wordAt w 4).toNat),
    dcoff := addOff p.dcoff (f * sext 32 (wordAt w 5).toNat),
    woff := wrap 16 ((p.woff : Int) + f * ((fld (wordAt w 6) 15 0 : Nat) : Int)), met := false }

/-- The count that a LOOP meets: its register, or its COUNT where that holds 0. -/
def DmaProg.loopCount (p : DmaProg) (w : List Word) : Nat :=
  if p.loops.getD (fld (wordAt w 0) 27 26) 0 = 0 then fld (wordAt w 1) 23 0 else p.loops.getD (fld (wordAt w 0) 27 26) 0

section
variable (p : DmaProg) (w : List Word) (v : Nat)

theorem DmaProg.looped_register (listed : fld (wordAt w 0) 27 26 < p.loops.length) :
    (p.looped w v).loops.getD (fld (wordAt w 0) 27 26) 0 = v := by
  rw [DmaProg.looped, List.getD_eq_getElem?_getD, List.getElem?_set_self listed, Option.getD_some]

/-- While its count is not used up, a LOOP moves each offset on by its stride. -/
theorem DmaProg.looped_on (more : 0 < v) : ((p.looped w v).soff : Int) = ((p.soff : Int) + sext 32 (wordAt w 2).toNat) % 2 ^ 52 ∧
    ((p.looped w v).doff : Int) = ((p.doff : Int) + sext 32 (wordAt w 3).toNat) % 2 ^ 52 := by
  simp [DmaProg.looped, more, addOff_cast]

/-- With its count used up it moves each offset back by all strides made. -/
theorem DmaProg.looped_back : ((p.looped w 0).soff : Int) =
    ((p.soff : Int) - ((fld (wordAt w 1) 23 0 : Int) - 1) * sext 32 (wordAt w 2).toNat) % 2 ^ 52 := by
  rw [DmaProg.looped, addOff_cast, if_neg (lt_irrefl 0), neg_mul, ← sub_eq_add_neg]

end

section
variable {p : DmaProg} {w : List Word} (here : DmaAt d die n 3 p w) (w7 : wordAt w 7 = 0) (w6 : fld (wordAt w 6) 31 16 = 0)
  (w1 : fld (wordAt w 1) 31 24 = 0) (w0 : fld (wordAt w 0) 25 8 = 0) (count : 0 < fld (wordAt w 1) 23 0) (back : 0 < fld (wordAt w 0) 7 0)
  (inside : fld (wordAt w 0) 7 0 ≤ p.pc)
include here w7 w6 w1 w0 count back inside

/-- A LOOP counts, and goes back while its count is not used up. -/
theorem devDmaLoop_counts : devDmaLoop die n d =
    if 0 < p.loopCount w - 1
    then (d.setProg die n { p.looped w (p.loopCount w - 1) with pc := p.pc - fld (wordAt w 0) 7 0, first := none }).progress (wDma die)
    else d.dmaNext die n (p.looped w (p.loopCount w - 1)) := by
  have legal : (wordAt w 7 != 0 || fld (wordAt w 6) 31 16 != 0 || fld (wordAt w 1) 31 24 != 0 || fld (wordAt w 0) 25 8 != 0 ||
      fld (wordAt w 1) 23 0 == 0 || fld (wordAt w 0) 7 0 == 0 || decide (fld (wordAt w 0) 7 0 > p.pc)) = false := by
    simp [w7, w6, w1, w0]
    omega
  rw [devDmaLoop, dmaRow_act here (by omega)]
  dsimp only
  rw [if_neg (Bool.eq_false_iff.mp legal)]
  rfl

end

/-! WAIT and its time limit (R216). -/

section
variable {p : DmaProg} {w : List Word} (here : DmaAt d die n 4 p w) (good : waitBad w = false)
include here good

theorem devWait_met (met : p.met = true ∨ dmaWaitMet d (wordAt w 0) p.woff = true) : devWait die n d = d.dmaNext die n p := by
  rw [devWait, dmaRow_act here (by omega), if_neg (Bool.eq_false_iff.mp good), if_pos (by simpa using met)]

section
variable (fresh : p.met = false) (unmet : dmaWaitMet d (wordAt w 0) p.woff = false)
include fresh unmet

theorem devWait_unmet : devWait die n d = d := by
  rw [devWait, dmaRow_act here (by omega)]
  simp [good, fresh, unmet]

theorem devWaitTimeout_faults (limit : fld (wordAt w 1) 23 0 ≠ 0)
    (out : d.expired (p.timer die n) (1000 * fld (wordAt w 1) 23 0) = true) : devWaitTimeout die n d = d.dmaFault die n p 4 := by
  rw [devWaitTimeout, dmaRow_act here (by omega)]
  simp [good, fresh, unmet, limit, out]

theorem devWaitTimeout_early (early : d.expired (p.timer die n) (1000 * fld (wordAt w 1) 23 0) = false) : devWaitTimeout die n d = d := by
  rw [devWaitTimeout, dmaRow_act here (by omega)]
  simp [good, fresh, unmet, early]

end

end

/-! SIGNAL (R217). -/

/-- The device once a SIGNAL has let its program go on and has added to its counter, where it is to. -/
def Device.signalled (d : Device) (die n : Nat) (p : DmaProg) (w : List Word) : Device :=
  if bit (wordAt w 0) 26
  then (d.dmaNext die n p).addSync (fld (wordAt w 0) 15 14) (fld (wordAt w 0) 23 16) (fld (wordAt w 1) 15 0)
  else d.dmaNext die n p

theorem devSignal_acts {p : DmaProg} {w : List Word} (here : DmaAt d die n 5 p w) (b24 : bit (wordAt w 0) 24 = false)
    (w0 : fld (wordAt w 0) 13 0 = 0) (w1 : fld (wordAt w 1) 31 16 = 0) (rest : anyWord w [2, 3, 4, 5, 6, 7] = false)
    (flushed : bit (wordAt w 0) 27 = true → ∀ v ∈ (d.chan die n).writes, v.cid ≠ p.cmd.cid) :
    devSignal die n d =
      if bit (wordAt w 0) 25 then (d.signalled die n p w).dmaRaise die n p 2 else d.signalled die n p w := by
  have free : ¬(bit (wordAt w 0) 27 && (d.chan die n).writes.any (fun v => v.cid == p.cmd.cid)) = true := by
    simpa using flushed
  rw [devSignal, dmaRow_act here (by omega)]
  dsimp only
  rw [if_neg (by simp [b24, w0, w1, rest]), if_neg free]
  rfl

section
variable (d : Device) (p : DmaProg) (w : List Word)

@[simp] theorem Device.signalled_regs : (d.signalled die n p w).core.regs = d.core.regs := by
  unfold Device.signalled
  split <;> simp

@[simp] theorem Device.signalled_mem : (d.signalled die n p w).core.mem = d.core.mem := by
  unfold Device.signalled
  split <;> simp

theorem Device.signalled_quiet (off : bit (wordAt w 0) 26 = false) : (d.signalled die n p w).core = d.core := by
  simp [Device.signalled, off]

/-- A counter of a die out of reset has risen by V, modulo 2^16. -/
theorem Device.signalled_sync (on : bit (wordAt w 0) 26 = true) (runs : d.dieInReset (fld (wordAt w 0) 15 14) = false) :
    (d.signalled die n p w).sync (fld (wordAt w 0) 15 14) (fld (wordAt w 0) 23 16) =
      (d.sync (fld (wordAt w 0) 15 14) (fld (wordAt w 0) 23 16) + fld (wordAt w 1) 15 0) % 2 ^ 16 := by
  rw [Device.signalled, if_pos on, Device.addSync, ((d.dmaNext die n p).sync_setSync _ _ _ runs).1]
  rfl

end

/-! END (R218). -/

theorem devDmaEnd_latches {p : DmaProg} {w : List Word} (here : DmaAt d die n 7 p w) (w0 : fld (wordAt w 0) 27 0 = 0)
    (rest : anyWord w [1, 2, 3, 4, 5, 6, 7] = false) :
    devDmaEnd die n d = (d.setProg die n { p with latch := some .natural, stood := some w }).progress (wDma die) := by
  rw [devDmaEnd, dmaRow_act here (by omega)]
  obtain ⟨-, -, -, -, fetched, -⟩ := here
  simp [w0, rest, Device.dmaLatch, fetched]

end

/-- Settles O27: each row is read off at the instruction in progress, and what a LOOP and a SIGNAL leave is read back from the device. -/
theorem dmaProgramsLoopWaitAndSignal : Obligations.DmaProgramsLoopWaitAndSignal := by
  refine ⟨⟨?dstart, ?loop⟩, ?met, ?unmet, ?signal, ?end_⟩
  case dstart =>
    intro s d n c head idle runs words group w7 w6 low addr aligned assigned status
    refine ⟨_, onDevice_next (devDstart_issues head idle runs words group w7 w6 low addr aligned assigned status), rfl,
      s.dev.dmaIssued d.val n.val c, by rw [Device.chan_setChan_self], rfl, rfl, rfl, rfl, rfl, rfl, rfl, ?_, rfl, rfl, rfl, rfl, rfl, rfl⟩
    rw [Device.dmaIssued, addOff_cast, Nat.cast_zero, zero_add]
  case loop =>
    rintro s d n p w r count here rfl rfl w1 w7 w6 w0 counted back inside listed
    refine ⟨_, onDevice_next (devDmaLoop_counts here w7 w6 w1 w0 counted back inside), by split <;> rfl, ?_⟩
    by_cases more : 1 < p.loopCount w
    · have left : 0 < p.loopCount w - 1 := by omega
      rw [if_pos left, Device.chan_progress, Device.chan_setProg_self]
      exact ⟨_, rfl, p.looped_register w _ listed, fun _ => ⟨rfl, p.looped_on w _ left⟩, fun one => absurd one (Nat.ne_of_gt more)⟩
    · have used : p.loopCount w - 1 = 0 := by omega
      rw [if_neg (by omega), Device.chan_dmaNext_self]
      exact ⟨_, rfl, p.looped_register w _ listed, fun on => absurd on more, fun _ => ⟨rfl, used ▸ p.looped_back w⟩⟩
  case met => exact fun s d n p w here good met => onDevice_next (devWait_met here good met)
  case unmet =>
    intro s d n p w here good fresh unmet
    exact ⟨onDevice_next (devWait_unmet here good fresh unmet),
      fun limit out => onDevice_next (devWaitTimeout_faults here good fresh unmet limit out),
      fun early => onDevice_next (devWaitTimeout_early here good fresh unmet early)⟩
  case signal =>
    intro s d n p w here b24 w0 w1 rest flushed
    refine ⟨_, onDevice_next (devSignal_acts here b24 w0 w1 rest flushed), fun on runs => ?_, fun off => ?_, fun on => ?_, fun off => ?_, ?_⟩
    · rw [← s.dev.signalled_sync p w on runs]
      split
      · exact Device.sync_dmaRaise ..
      · rfl
    · split
      · rw [Device.dmaRaise_core_sync, s.dev.signalled_quiet p w off]
      · rw [s.dev.signalled_quiet p w off]
    · rw [if_pos on]
      exact Device.dmaRaise_bit _ _ _ _ (by omega)
    · rw [if_neg (Bool.eq_false_iff.mp off), Device.signalled_regs]
    · split
      · rw [Device.dmaRaise_core_mem, Device.signalled_mem]
      · exact s.dev.signalled_mem p w
  case end_ => exact fun s d n p w here w0 rest => onDevice_next (devDmaEnd_latches here w0 rest)

end Sys2Proof.Machine
end

section
/-! O28: a MOVE and its MOVX start, bursts leave, and credit rises (R214, R220, R222, R228, R234, R374). -/

namespace Sys2Proof.Machine

/-! MOVE and MOVX start (R214, R222). -/

section
variable {d : Device} {die n : Nat} {p : DmaProg}

/-- The OPC of the instruction after the one in progress, 0 where none can be fetched. -/
def Device.nextOpc (d : Device) (p : DmaProg) : Nat :=
  match d.dmaFetch { p with pc := p.pc + 1, first := none } with
  | some v => fld (wordAt v 0) 31 28
  | none => 0

theorem devMove_starts {w : List Word} (here : DmaAt d die n 1 p w) (good : moveFault d p w (d.nextOpc p) = none) :
    devMove die n d = d.setProg die n { p with cur := some { w := w, total := (moveGeo p w).total } } := by
  rw [devMove, dmaRow_act here (by omega)]
  change (match moveFault d p w (d.nextOpc p) with | some c => _ | none => _) = _
  rw [good]

theorem devMovx_starts {w mw : List Word} (here : DmaAt d die n 2 p w) (due : p.xdue = some mw) (w7 : wordAt w 7 = 0)
    (w3 : fld (wordAt w 3) 31 20 = 0) (w1 : wordAt w 1 = 0) (w0 : fld (wordAt w 0) 26 0 = 0) (addr : awRes (wordAt w 4) = false)
    (region : regionOf (movxGeo p mw w).src ≠ 0xC) (src : d.moveRangeOk (movxGeo p mw w).src (movxGeo p mw w).sspan = true)
    (dst : d.moveRangeOk (movxGeo p mw w).dst (movxGeo p mw w).dspan = true) :
    devMovx die n d = d.setProg die n { p with cur := some { w := w, total := (movxGeo p mw w).total, xw := some mw } } := by
  rw [devMovx, dmaRow_act here (by omega), due]
  simp [w7, w3, w1, w0, addr, region, src, dst]

/-- Credit rises by what is due (R228). -/
theorem devCreditTick_rises (prog : (d.chan die n).prog = some p) (limited : p.rate ≠ 0) : devCreditTick die n d = d.setProg die n
    { p with credit := min (creditCap p.cmd) (p.credit + 16 * p.rate * d.creditDue die p), risen := p.risen + 64 * d.creditDue die p } := by
  rw [devCreditTick, prog]
  exact if_neg limited

end

/-! A burst (R214, R228, R374). -/

/-- The source reads of the burst that a MOVE stands at. -/
def DmaMove.readsAt (p : DmaProg) (m : DmaMove) : List (Nat × Nat) := (m.geo p).reads m.pos ((m.geo p).burst m.pos)

/-- A burst of a source in the peer window: its first read is asked for. -/
def Device.burstAsks (d : Device) (die n : Nat) (p : DmaProg) (m : DmaMove) (feed : Bool) : Device :=
  d.askRead die n (d.chan die n)
    { id := (d.chan die n).nextWr, cid := p.cmd.cid, len := (m.geo p).burst m.pos, need := m.readsAt p, bad := feed }
    ((m.readsAt p).headD (0, 0))

/-- A burst of any other source: it is read through the coders, and leaves unless its source meets a network error. -/
def Device.burstReads (d : Device) (die n : Nat) (p : DmaProg) (m : DmaMove) (feed : Bool) : Device :=
  let e := d.coder false (m.readsAt p)
  if feed then e.dmaFault die n p 6
  else e.burstLeaves die n p m
    ((m.geo p).assemble m.pos ((m.geo p).burst m.pos) ((m.readsAt p).map (fun r => e.readBytes r.1 r.2)))

/-- With no source read under way no burst has been answered. -/
theorem DmaCh.answered_eq_none {ch : DmaCh} (idle : ch.waiting = false) : ch.answered = none := by
  refine List.find?_eq_none.mpr fun w hw => ?_
  have sent := List.any_eq_false.mp idle w hw
  simp [sent]

/-- With no source read under way and the credit there, a burst waits for room where it meets the peer window, asks for a source read
through that window, and reads any other source at once. -/
theorem devBurst_unanswered {d : Device} {die n : Nat} {p : DmaProg} {m : DmaMove} (prog : (d.chan die n).prog = some p)
    (cur : p.cur = some m) (unlatched : p.latch = none) (idle : (d.chan die n).waiting = false) (runs : d.runs (wDma die) = true)
    (mover : fld (wordAt m.w 0) 31 28 ≤ 2) (credit : p.rate = 0 ∨ (m.geo p).burst m.pos ≤ p.credit) (feed : Bool) :
    devBurst die n feed d =
      if (regionOf ((m.geo p).daddr m.pos) = 0xE ∨ regionOf (m.geo p).src = 0xE) ∧ (!d.injRoom die) = true then d
      else if regionOf (m.geo p).src = 0xE then d.burstAsks die n p m feed
      else d.burstReads die n p m feed := by
  have may : ¬((!d.runs (wDma die)) = true ∨ fld (wordAt m.w 0) 31 28 > 2) := by simp [runs, mover]
  have free : ¬(p.latch.isSome = true ∨ (d.chan die n).waiting = true) := by simp [unlatched, idle]
  have paid : ¬(p.rate ≠ 0 ∧ p.credit < (m.geo p).burst m.pos) := by omega
  simp only [devBurst, prog, cur, DmaCh.answered_eq_none idle, if_neg may, if_neg free, if_neg paid,
    Device.burstAsks, Device.askRead, Device.burstReads, DmaMove.readsAt]

/-! A burst that leaves (R214, R220, R228). -/

section
variable (d : Device) (die n : Nat) (p : DmaProg) (g : MoveGeo) (a : Nat) (data : List PByte)

@[simp] theorem Device.openOverlap_dma : (d.openOverlap g a data).1.dma = d.dma := by
  unfold Device.openOverlap
  split <;> rfl

@[simp] theorem Device.notePoison_dma (b : Bool) : (d.notePoison die n p b).1.dma = d.dma := by
  unfold Device.notePoison
  split <;> rfl

theorem freeBytes_length (k m : Nat) : (freeBytes k m).length = m := by
  simp [freeBytes]

/-- The overlap of its two ranges leaves a burst its length. -/
theorem Device.openOverlap_length : (d.openOverlap g a data).2.length = data.length := by
  unfold Device.openOverlap
  split
  · simp [freeBytes_length]
  · rfl

/-- And every byte outside the overlap. -/
theorem Device.openOverlap_outside {i : Nat} (inside : i < data.length) (apart : g.sourceHolds (a + i) = false) :
    (d.openOverlap g a data).2[i]? = data[i]? := by
  unfold Device.openOverlap
  split
  · simp [apart, freeBytes_length, inside]
  · rfl

end

/-- Once its bytes have left, a burst moves its program on: HALF and FULL are raised where they are due, and the last byte ends the MOVE. -/
def Device.burstEnds (d : Device) (die n : Nat) (p : DmaProg) (g : MoveGeo) (m m' : DmaMove) : Device :=
  let d := (d.setProg die n p).progress (wDma die)
  if p.latch.isSome then d
  else
    let half := (g.total + 1) / 2
    let d := if g.irqh && m.xw.isNone && decide (m.pos < half ∧ half ≤ m'.pos) then d.dmaRaise die n p 0 else d
    if m'.pos < g.total then d
    else if m.xw.isNone && mvScaled m.w then d.dmaNext die n { p with xdue := some m.w }
    else
      let d := if g.irqf then d.dmaRaise die n p 1 else d
      d.dmaNext die n { p with xdue := none }

/-- The program of a burst that carries these bytes: its CRC, poison and credit. -/
def DmaProg.carried (p : DmaProg) (g : MoveGeo) (k : Nat) (data : List PByte) : DmaProg :=
  { p with
    crc := if g.nocrc then p.crc else crc32cRun p.crc (values data)
    crcPois := p.crcPois || (!g.nocrc && anyPoison data)
    credit := p.credit - k }

/-- Channel n goes on with a program that has the command, credit and CRC of p, the rest of the channel as it was. -/
def Device.GoesOn (d e : Device) (die n : Nat) (p : DmaProg) : Prop :=
  ∃ q, e.chan die n = { d.chan die n with prog := some q } ∧ q.cmd = p.cmd ∧ q.credit = p.credit ∧ q.crc = p.crc

section
variable (d : Device) (die n : Nat) (p : DmaProg)

/-- The parts of a burst that leaves: its bytes, the note of poison among them, the write, the count and the end. -/
theorem Device.burstLeaves_eq {m : DmaMove} {data out : List PByte} {d1 d2 : Device} {p2 : DmaProg}
    (opened : d.openOverlap (m.geo p) ((m.geo p).daddr m.pos) data = (d1, out)) (noted : d1.notePoison die n p (anyPoison out) = (d2, p2)) :
    d.burstLeaves die n p m data =
      ((d2.sendWrite die n p2.cmd.cid ((m.geo p).daddr m.pos) out).countBytes die n data.length).burstEnds die n
        { p2.carried (m.geo p) data.length out with cur := some { m with pos := m.pos + data.length } } (m.geo p) m
        { m with pos := m.pos + data.length } := by
  unfold Device.burstLeaves
  dsimp only
  rw [opened]
  dsimp only
  rw [noted]
  rfl

@[simp] theorem Device.chan_raiseIf (c : Bool) (k : Nat) : (if c then d.dmaRaise die n p k else d).chan die n = d.chan die n := by
  split
  · exact d.chan_dmaRaise ..
  · rfl

theorem Device.GoesOn.dmaNext {d e : Device} {die n : Nat} {p q r : DmaProg} (same : e.chan die n = { d.chan die n with prog := some r })
    (cmd : q.cmd = p.cmd) (credit : q.credit = p.credit) (crc : q.crc = p.crc) : d.GoesOn (e.dmaNext die n q) die n p :=
  ⟨{ q with pc := q.pc + 1, first := none, cur := none, met := false }, by rw [Device.chan_dmaNext_self, same], cmd, credit, crc⟩

theorem Device.burstEnds_goesOn (g : MoveGeo) (m m' : DmaMove) : d.GoesOn (d.burstEnds die n p g m m') die n p := by
  have set : ((d.setProg die n p).progress (wDma die)).chan die n = { d.chan die n with prog := some p } := by
    rw [Device.chan_progress, Device.chan_setProg_self]
  unfold Device.burstEnds
  dsimp only
  split
  · exact ⟨p, set, rfl, rfl, rfl⟩
  · split
    · exact ⟨p, by rw [Device.chan_raiseIf, set], rfl, rfl, rfl⟩
    · split
      · exact .dmaNext (by rw [Device.chan_raiseIf, set]) rfl rfl rfl
      · exact .dmaNext (by rw [Device.chan_raiseIf, Device.chan_raiseIf, set]) rfl rfl rfl

theorem Device.notePoison_prog (b : Bool) : (d.notePoison die n p b).2.cmd = p.cmd ∧ (d.notePoison die n p b).2.credit = p.credit ∧
    (d.notePoison die n p b).2.crc = p.crc := by
  unfold Device.notePoison
  split <;> exact ⟨rfl, rfl, rfl⟩

/-- A burst that stays in the module leaves its write with the channel, counts its bytes and pays for them. -/
theorem Device.burstLeaves_chan (m : DmaMove) (data : List PByte) (here : regionOf ((m.geo p).daddr m.pos) ≠ 0xE) :
    let out := (d.openOverlap (m.geo p) ((m.geo p).daddr m.pos) data).2
    ∃ q, (d.burstLeaves die n p m data).chan die n = { d.chan die n with
        prog := some q
        writes := (d.chan die n).writes ++
          [{ id := (d.chan die n).nextWr, cid := p.cmd.cid, dst := (m.geo p).daddr m.pos, len := data.length, data := some out }]
        nextWr := (d.chan die n).nextWr + 1
        bytes := (d.chan die n).bytes + data.length } ∧
      q.cmd = p.cmd ∧ q.credit = p.credit - data.length ∧ q.crc = if (m.geo p).nocrc then p.crc else crc32cRun p.crc (values out) := by
  have length := d.openOverlap_length (m.geo p) ((m.geo p).daddr m.pos) data
  have dma1 := d.openOverlap_dma (m.geo p) ((m.geo p).daddr m.pos) data
  obtain ⟨d1, out, opened⟩ : ∃ d1 out, d.openOverlap (m.geo p) ((m.geo p).daddr m.pos) data = (d1, out) := ⟨_, _, rfl⟩
  have dma2 := d1.notePoison_dma die n p (anyPoison out)
  obtain ⟨cmd, credit, crc⟩ := d1.notePoison_prog die n p (anyPoison out)
  obtain ⟨d2, p2, noted⟩ : ∃ d2 p2, d1.notePoison die n p (anyPoison out) = (d2, p2) := ⟨_, _, rfl⟩
  rw [opened] at length dma1
  rw [noted] at dma2 cmd credit crc
  dsimp only at length cmd credit crc
  have chan : d2.chan die n = d.chan die n := Device.chan_congr (dma2.trans dma1) die n
  rw [Device.burstLeaves_eq d die n p opened noted, opened]
  obtain ⟨q, goes, cmd', credit', crc'⟩ := Device.burstEnds_goesOn ((d2.sendWrite die n p2.cmd.cid ((m.geo p).daddr m.pos) out).countBytes
    die n data.length) die n { p2.carried (m.geo p) data.length out with cur := some { m with pos := m.pos + data.length } } (m.geo p) m
    { m with pos := m.pos + data.length }
  refine ⟨q, ?_, cmd'.trans cmd, ?_, ?_⟩
  · rw [goes, Device.chan_sent_local _ _ _ _ _ _ here, chan]
    simp only [cmd, length]
  · rw [credit']
    simp only [DmaProg.carried, credit]
  · rw [crc']
    simp only [DmaProg.carried, crc]

end

/-! The answer to a read through the peer window (R234, R374). -/

theorem minsert_minsert {α : Type} (k : Nat) (v : α) (l : List (Nat × α)) : minsert k v (minsert k v l) = minsert k v l := by
  induction l with
  | nil => simp [minsert]
  | cons x l ih =>
    obtain ⟨j, u⟩ := x
    simp only [minsert]
    split
    · simp [minsert]
    · split
      · simp [minsert]
      · next other after => simp [minsert, other, after, ih]

theorem Device.setChan_again (d : Device) (die n : Nat) (v : DmaCh) : (d.setChan die n v).setChan die n v = d.setChan die n v := by
  have same : mset {} (mset {} d.dma (die * 32 + n) v) (die * 32 + n) v = mset {} d.dma (die * 32 + n) v := by
    unfold mset
    split
    · simp
    · exact minsert_minsert ..
  unfold Device.setChan
  rw [same]

/-- A channel without the source read wr. -/
def Device.dropRead (d : Device) (die n wr : Nat) : Device :=
  d.setChan die n { d.chan die n with writes := (d.chan die n).writes.filter (fun v => v.id != wr) }

theorem Device.dropRead_again (d : Device) (die n wr : Nat) : (d.dropRead die n wr).dropRead die n wr = d.dropRead die n wr := by
  have chan : (d.dropRead die n wr).chan die n = { d.chan die n with writes := (d.chan die n).writes.filter (fun v => v.id != wr) } :=
    d.chan_setChan_self ..
  rw [Device.dropRead, chan]
  simp only [List.filter_filter, Bool.and_self]
  exact d.setChan_again ..

/-- A burst that has been answered and is no more among the writes leaves as any other does. -/
theorem Device.answeredLeaves_dropRead (d : Device) (die n : Nat) {wr : Nat} (p : DmaProg) (m : DmaMove) (w : DmaWr) (named : w.id = wr) :
    (d.dropRead die n wr).answeredLeaves die n p m w =
      (d.dropRead die n wr).burstLeaves die n p m ((m.geo p).assemble m.pos w.len w.got) := by
  subst named
  exact congrArg (Device.burstLeaves · die n p m _) (d.dropRead_again die n w.id)

section
variable {d : Device} {die n wr : Nat} {p : DmaProg} {w : DmaWr}
  (found : (d.chan die n).writes.find? (fun v => v.id == wr && v.data.isNone && !v.need.isEmpty) = some w)
  (prog : (d.chan die n).prog = some p) (own : p.cmd.cid = w.cid)
include found prog own

/-- A read that was refused or met a network error faults a program that has not latched. -/
theorem Device.dmaReadAnswer_faults (unlatched : p.latch = none) {ok : Bool} (failed : ok = false ∨ w.bad = true) (data : List PByte) :
    d.dmaReadAnswer die n wr ok data = (d.dropRead die n wr).dmaFault die n p (if ok then 6 else 7) := by
  have lost : (!ok) = true ∨ w.bad = true := by simpa using failed
  simp only [Device.dmaReadAnswer, found, prog, ne_eq, own, not_true, if_false, if_pos lost, unlatched, Device.dropRead]
  rfl

/-- The last read of a burst is answered: it leaves, where the injection queue has the room that it needs. -/
theorem Device.dmaReadAnswer_leaves {m : DmaMove} (cur : p.cur = some m) (mover : fld (wordAt m.w 0) 31 28 ≤ 2) {r : Nat × Nat}
    (last : w.need = [r]) (good : w.bad = false) (room : regionOf ((m.geo p).daddr m.pos) = 0xE → d.injRoom die = true) (data : List PByte) :
    d.dmaReadAnswer die n wr true data =
      (d.dropRead die n wr).burstLeaves die n p m ((m.geo p).assemble m.pos w.len (w.got ++ [data])) := by
  have id : w.id = wr := by
    have named := List.find?_some found
    simp only [Bool.and_eq_true, beq_iff_eq] at named
    obtain ⟨⟨id, -⟩, -⟩ := named
    exact id
  rw [← Device.answeredLeaves_dropRead d die n p m { w with got := w.got ++ [data], need := [] } id]
  simp only [Device.dmaReadAnswer, found, prog, cur, good, last, ne_eq, own, not_true, if_false, List.tail_cons, Bool.not_true,
    Bool.false_eq_true, or_self, if_neg (show ¬fld (wordAt m.w 0) 31 28 = 6 by omega), Device.dropRead]
  exact if_neg fun ⟨peer, full⟩ => Bool.false_ne_true (((Bool.not_eq_true' _).mp full).symm.trans (room peer))

end

/-- Settles O28: each command is read off at the state it finds, and a burst that leaves is followed through its parts to its channel. -/
theorem dmaMovesAndBursts : Obligations.DmaMovesAndBursts := by
  refine ⟨⟨?move, ?movx⟩, ?reads, ?peer, ?answer, ?leaves, ?credit⟩
  case move => exact fun s d n p w here good => onDevice_next (devMove_starts here good)
  case movx =>
    exact fun s d n p w mw here due w7 w3 w1 w0 addr region src dst =>
      onDevice_next (devMovx_starts here due w7 w3 w1 w0 addr region src dst)
  case reads =>
    rintro s d n p m g data prog cur unlatched idle free flaws watch runs mover rfl credit room region rfl
    have reads (feed : Bool) : devBurst d.val n.val feed s.dev = s.dev.burstReads d.val n.val p m feed := by
      rw [devBurst_unanswered prog cur unlatched idle runs mover credit, if_neg region, if_neg]
      rintro ⟨dst | src, full⟩
      · simp [room dst] at full
      · exact region src
    have calm := s.dev.coder_clean false (m.readsAt p) flaws watch
    exact ⟨ordinary_next free rfl ((reads false).trans (by rw [Device.burstReads, calm]; rfl)),
      ordinary_next free rfl ((reads true).trans (by rw [Device.burstReads, calm]; rfl))⟩
  case peer =>
    rintro s d n p m g feed prog cur unlatched idle free flaws watch runs mover rfl credit meets
    have bursts := devBurst_unanswered prog cur unlatched idle runs mover credit feed
    refine ⟨fun full => ordinary_next free rfl (bursts.trans (if_pos ⟨meets, by rw [full]; rfl⟩)), fun src room => ?_⟩
    have asks : devBurst d.val n.val feed s.dev = s.dev.burstAsks d.val n.val p m feed := by
      rw [bursts, if_neg (by simp [room]), if_pos src]
    refine ⟨_, ordinary_next free rfl asks, Device.askRead_inj _ _ _ _ _ _ room, ?_, Device.askRead_core ..⟩
    rw [Device.burstAsks, Device.chan_askRead_self]
    rfl
  case answer =>
    intro e die n wr p m w r data found prog own cur mover last
    exact ⟨fun good room => e.dmaReadAnswer_leaves found prog own cur mover last good room data,
      fun unlatched bad => e.dmaReadAnswer_faults found prog own unlatched (.inr bad) data,
      fun unlatched => e.dmaReadAnswer_faults found prog own unlatched (.inl rfl) data⟩
  case leaves =>
    intro e die n p m data here
    obtain ⟨q, chan, cmd, credit, crc⟩ := e.burstLeaves_chan die n p m data here
    refine ⟨congrArg Still.mem (e.burstLeaves_still ..), by rw [chan], _, e.openOverlap_length _ _ data,
      fun i inside apart => e.openOverlap_outside _ _ data inside apart, by rw [chan], q, by rw [chan], credit, crc, cmd⟩
  case credit => exact fun s d n p prog limited => onDevice_next (devCreditTick_rises prog limited)

end Sys2Proof.Machine
end

section
/-! O29: writes of DMA programs arrive or are held, and the CRC of a channel is reset, stored and checked (R220, R224, R225, R234, R284). -/

namespace Sys2Proof.Machine

/-! A write to memory does not look at the channels. -/

/-- The device with other channels. -/
def Device.withDma (d : Device) (x : List (Nat × DmaCh)) : Device := { d with dma := x }

section
variable (d : Device) (x : List (Nat × DmaCh))

theorem Device.withDma_ite (c : Prop) [Decidable c] (e : Device) : (if c then d else e).withDma x = if c then d.withDma x else e.withDma x :=
  apply_ite (Device.withDma · x) c d e

theorem Device.watched_withDma (rs : List (Nat × Nat)) : (d.withDma x).watched rs = (d.watched rs).withDma x := by
  unfold Device.watched
  change (match d.core.watch with | none => _ | some l => _) = _
  cases d.core.watch <;> rfl

theorem Device.answerCe_withDma (code unit : Nat) : (d.withDma x).answerCe code unit = (d.answerCe code unit).withDma x := by
  unfold Device.answerCe
  dsimp only
  rw [Device.withDma_ite]
  rfl

theorem Device.ceCount_withDma (cnt thr code unit : Nat) : (d.withDma x).ceCount cnt thr code unit = (d.ceCount cnt thr code unit).withDma x := by
  unfold Device.ceCount Device.ceTest
  dsimp only
  rw [Device.withDma_ite, ← Device.answerCe_withDma]
  rfl

theorem Device.setReg_withDma (k : Nat) (v : Word) : (d.withDma x).setReg k v = (d.setReg k v).withDma x := rfl
theorem Device.setReg64_withDma (k n : Nat) : (d.withDma x).setReg64 k n = (d.setReg64 k n).withDma x := rfl
theorem Device.count1_withDma (k : Nat) : (d.withDma x).count1 k = (d.count1 k).withDma x := rfl
theorem Device.post_withDma (c u : Nat) (w : Word) : (d.withDma x).post c u w = (d.post c u w).withDma x := rfl

/-- A code word whose symbols are good again. -/
def Device.mended (d : Device) (key : Nat) : Device := { d with core.flaws := mset [] d.core.flaws key [] }

/-- A correction of a code word with bad symbols l, counted where it lies. -/
def Device.countFixed (d : Device) (key : Nat) (l : List Nat) : Device :=
  let a := 32 * key
  let s := t1Stack a
  if regionOf a = 8 then (d.setReg (mrdReg s 0x10) (wd ((Config.subchannel a).toNat * 16 + l.headD 0 / 4))).ceCount (mrdReg s 4) (mrdReg s 0xC) 0x040A (uMrd s)
  else d.ceCount (slpReg s 0xC) (slpReg s 0x14) 0x040D (uStack s)

/-- An uncorrectable code word, counted and reported where it lies. -/
def Device.countLost (d : Device) (step : Bool) (key : Nat) : Device :=
  let a := 32 * key
  let s := t1Stack a
  let b := bankOf (t1Offset a)
  if regionOf a = 8 then ((d.count1 (mrdReg s 8)).setReg64 (mrdReg s 0x18) a).post 0x0409 (uMrd s) 0
  else ((d.count1 (slpReg s 0x10)).setReg (slpReg s 0x18) (wd (b.1 * 2 ^ 26 + b.2.1 * 2 ^ 22 + b.2.2 / 32))).post 0x040C
    (uBank s b.1 b.2.1) (wd ((if step then 2 ^ 31 else 0) + b.2.2))

/-- What a coder does with a code word, by what it says of it. -/
def Device.coderDoes (d : Device) (step : Bool) (key : Nat) (l : List Nat) : CoderSays → Device
  | .clean => d.mended key
  | .corrected => (d.mended key).countFixed key l
  | .miscorrected => ((d.mended key).spoil key false).countFixed key l
  | .uncorrectable => ((d.mended key).spoil key true).countLost step key

theorem Device.meetCoder_eq (step : Bool) (key : Nat) :
    Device.meetCoder step d key = d.coderDoes step key (mget [] d.core.flaws key) (d.coderSays key) := by
  unfold Device.meetCoder
  cases d.coderSays key <;> rfl

theorem Device.countFixed_withDma (key : Nat) (l : List Nat) : (d.withDma x).countFixed key l = (d.countFixed key l).withDma x := by
  unfold Device.countFixed
  dsimp only
  split
  · exact (d.setReg _ _).ceCount_withDma ..
  · exact d.ceCount_withDma ..

theorem Device.countLost_withDma (step : Bool) (key : Nat) : (d.withDma x).countLost step key = (d.countLost step key).withDma x := by
  unfold Device.countLost
  dsimp only
  rw [Device.withDma_ite, Device.count1_withDma, Device.count1_withDma, Device.setReg_withDma, Device.setReg64_withDma, Device.post_withDma,
    Device.post_withDma]

theorem Device.coderDoes_withDma (step : Bool) (key : Nat) (l : List Nat) (found : CoderSays) :
    (d.withDma x).coderDoes step key l found = (d.coderDoes step key l found).withDma x := by
  cases found with
  | clean => rfl
  | corrected => exact (d.mended key).countFixed_withDma ..
  | miscorrected => exact ((d.mended key).spoil key false).countFixed_withDma ..
  | uncorrectable => exact ((d.mended key).spoil key true).countLost_withDma ..

theorem Device.meetCoder_withDma (step : Bool) (key : Nat) :
    Device.meetCoder step (d.withDma x) key = (Device.meetCoder step d key).withDma x := by
  rw [Device.meetCoder_eq, Device.meetCoder_eq, ← Device.coderDoes_withDma]
  rfl

theorem Device.meetAll_withDma (step : Bool) (l : List Nat) :
    l.foldl (Device.meetCoder step) (d.withDma x) = (l.foldl (Device.meetCoder step) d).withDma x :=
  List.foldl_hom (Device.withDma · x) (fun e key => e.meetCoder_withDma x step key)

theorem Device.write_withDma (a : Nat) (l : List PByte) : (d.withDma x).write a l = (d.write a l).withDma x := by
  have held : (d.withDma x).memHeld a = d.memHeld a := rfl
  have reached (e : Device) (rs : List (Nat × Nat)) : (e.withDma x).flawedIn rs = e.flawedIn rs := rfl
  unfold Device.write
  rw [held]
  split
  · rfl
  · dsimp only
    rw [Device.watched_withDma, reached, Device.meetAll_withDma]
    rfl

end

/-! A write arrives (R224, R225). -/

section
variable {d : Device} {die n k : Nat} {w : DmaWr} {l : List PByte} (under : (d.chan die n).writes[k]? = some w)

/-- The device as write k, over these bytes, leaves the writes before it. -/
def Device.passedBy (d : Device) (die n k : Nat) (w : DmaWr) (l : List PByte) : Device :=
  (d.setChan die n { d.chan die n with writes := (d.chan die n).writes.eraseIdx k }).supersede die n k w.cid (canonAddr w.dst) l.length

include under in
theorem Device.passedBy_chan : (d.passedBy die n k w l).chan die n = { d.chan die n with
    writes := ((d.chan die n).writes.take k).flatMap (fun v => if v.cid ≠ w.cid then [v]
      else if v.peer then [{ v with taken := v.taken ++ [(canonAddr w.dst, l.length)] }]
      else cutWrite (canonAddr w.dst) (canonAddr w.dst + l.length) v) ++ (d.chan die n).writes.drop (k + 1) } := by
  have length : ((d.chan die n).writes.take k).length = k :=
    List.length_take_of_le (List.getElem?_eq_some_iff.mp under).1.le
  rw [Device.passedBy, Device.supersede, Device.chan_setChan_self, Device.chan_setChan_self, List.eraseIdx_eq_take_drop_succ]
  dsimp only
  rw [List.take_left' length, List.drop_left' length]

include under in
/-- A write within the module takes effect, and leaves what the earlier ones of its program still bring. -/
theorem devWriteArrival_lands (data : w.data = some l) (own : w.peer = false) :
    devWriteArrival die n k d = (d.write w.dst l).withDma (d.passedBy die n k w l).dma := by
  rw [← Device.write_withDma]
  simp only [devWriteArrival, under, data, own, Device.applyWrite]
  rfl

end

/-! What a later write leaves of an earlier one (R225). -/

section
variable {a b : Nat} {w v : DmaWr} {l m : List PByte} (data : w.data = some l)

/-- The part of a write below a, and the part from b on. -/
def DmaWr.below (w : DmaWr) (l : List PByte) (a : Nat) : DmaWr :=
  { w with data := some (l.take (a - canonAddr w.dst)), len := (l.take (a - canonAddr w.dst)).length }
def DmaWr.above (w : DmaWr) (l : List PByte) (b : Nat) : DmaWr :=
  { w with dst := w.dst + (b - canonAddr w.dst), data := some (l.drop (b - canonAddr w.dst)), len := (l.drop (b - canonAddr w.dst)).length }

include data

theorem cutWrite_apart (apart : canonAddr w.dst + l.length ≤ a ∨ b ≤ canonAddr w.dst) : cutWrite a b w = [w] := by
  simp [cutWrite, data, apart]

theorem mem_cutWrite_meets (meets : ¬(canonAddr w.dst + l.length ≤ a ∨ b ≤ canonAddr w.dst)) :
    v ∈ cutWrite a b w ↔ (canonAddr w.dst < a ∧ v = w.below l a) ∨ (b < canonAddr w.dst + l.length ∧ v = w.above l b) := by
  simp only [cutWrite, data, if_neg meets, List.mem_append]
  refine or_congr ?_ ?_
  · by_cases past : a ≤ canonAddr w.dst
    · simp [past, Nat.not_lt.mpr past]
    · simp [past, Nat.not_le.mp past, DmaWr.below]
  · by_cases past : canonAddr w.dst + l.length ≤ b
    · simp [past, Nat.not_lt.mpr past]
    · simp [past, Nat.not_le.mp past, DmaWr.above]

/-- What is left of a write brings its bytes to their places, none of them where the later write went. -/
theorem cutWrite_brings (canon : w.dst = canonAddr w.dst) (left : v ∈ cutWrite a b w) (brings : v.data = some m) :
    v.cid = w.cid ∧ v.peer = w.peer ∧
      ∀ i, i < m.length → (v.dst + i < a ∨ b ≤ v.dst + i) ∧ w.dst ≤ v.dst ∧ m[i]? = l[v.dst - w.dst + i]? := by
  by_cases meets : canonAddr w.dst + l.length ≤ a ∨ b ≤ canonAddr w.dst
  · rw [cutWrite_apart data meets, List.mem_singleton] at left
    subst left
    obtain rfl : l = m := Option.some.inj (data.symm.trans brings)
    exact ⟨rfl, rfl, fun i inside => ⟨by omega, le_rfl, by rw [Nat.sub_self, Nat.zero_add]⟩⟩
  · rcases (mem_cutWrite_meets data meets).mp left with ⟨low, rfl⟩ | ⟨high, rfl⟩
    · obtain rfl := Option.some.inj brings
      refine ⟨rfl, rfl, fun i inside => ?_⟩
      rw [List.length_take] at inside
      simp only [DmaWr.below]
      exact ⟨by omega, le_rfl, by rw [Nat.sub_self, Nat.zero_add, List.getElem?_take_of_lt (by omega)]⟩
    · obtain rfl := Option.some.inj brings
      refine ⟨rfl, rfl, fun i inside => ?_⟩
      simp only [DmaWr.above]
      exact ⟨by omega, by omega, by rw [List.getElem?_drop, Nat.add_sub_cancel_left]⟩

/-- Every byte of a write that lies outside the later one is left. -/
theorem cutWrite_keeps (canon : w.dst = canonAddr w.dst) {i : Nat} (inside : i < l.length) (outside : w.dst + i < a ∨ b ≤ w.dst + i) :
    ∃ v ∈ cutWrite a b w, ∃ m, v.data = some m ∧ v.dst ≤ w.dst + i ∧ w.dst + i < v.dst + m.length := by
  by_cases meets : canonAddr w.dst + l.length ≤ a ∨ b ≤ canonAddr w.dst
  · exact ⟨w, by simp [cutWrite_apart data meets], l, data, by omega, by omega⟩
  · rcases outside with low | high
    · refine ⟨w.below l a, (mem_cutWrite_meets data meets).mpr (.inl ⟨by omega, rfl⟩), _, rfl, Nat.le_add_right .., ?_⟩
      simp only [DmaWr.below, List.length_take]
      omega
    · refine ⟨w.above l b, (mem_cutWrite_meets data meets).mpr (.inr ⟨by omega, rfl⟩), _, rfl, ?_, ?_⟩
      · simp only [DmaWr.above]
        omega
      · simp only [DmaWr.above, List.length_drop]
        omega

end

/-! The CRC of a channel (R220). -/

section
variable {d : Device} {die n : Nat} {p : DmaProg} {w : List Word} {a : Nat} (here : DmaAt d die n 6 p w) (w0 : fld (wordAt w 0) 25 0 = 0)
  (w2 : fld (wordAt w 2) 31 20 = 0) (rest : anyWord w [3, 4, 5, 6, 7] = false)
  (addr : a = join (wordAt w 1) (wd (fld (wordAt w 2) 19 0))) (aligned : a % 4 = 0)
include here w0 w2 rest addr aligned

theorem crcRow_act {cop : Nat} (code : fld (wordAt w 0) 27 26 = cop) (known : cop ≠ 3) (act : Device → DmaProg → List Word → Nat → Device) :
    crcRow cop act die n d = act d p w a := by
  subst addr code
  rw [crcRow, dmaRow_act here (by omega)]
  simp [w0, w2, rest, aligned, known]

theorem devCrcReset_resets (code : fld (wordAt w 0) 27 26 = 0) :
    devCrcReset die n d = d.dmaNext die n { p with crc := 0xFFFFFFFF, crcPois := false } :=
  crcRow_act here w0 w2 rest addr aligned code (by decide) _

theorem devCrcStore_stores (code : fld (wordAt w 0) 27 26 = 1) (range : d.moveRangeOk ((a + p.doff) % 2 ^ 52) 4 = true)
    (credit : p.rate = 0 ∨ 4 ≤ p.credit) (away : regionOf ((a + p.doff) % 2 ^ 52) ≠ 0xE) :
    devCrcStore die n d = (((d.sendWrite die n p.cmd.cid ((a + p.doff) % 2 ^ 52)
      (mark p.crcPois (toBytes 4 (crc32cValue p.crc).toNat))).countBytes die n 4).progress (wDma die)).dmaNext die n
        { p with credit := p.credit - 4 } := by
  have may : ¬((p.rate ≠ 0 ∧ p.credit < 4) ∨ (regionOf ((a + p.doff) % 2 ^ 52) = 0xE ∧ (!d.injRoom die) = true)) := by
    rintro (⟨limited, short⟩ | ⟨peer, -⟩)
    · omega
    · exact away peer
  rw [devCrcStore, crcRow_act here w0 w2 rest addr aligned code (by decide)]
  simp only [range, if_neg may]
  rfl

section
variable (code : fld (wordAt w 0) 27 26 = 2) (range : d.moveRangeOk ((a + p.soff) % 2 ^ 52) 4 = true)
include code range

/-- Bytes of the module are compared at once. -/
theorem devCrcCheck_compares (away : regionOf ((a + p.soff) % 2 ^ 52) ≠ 0xE) (flaws : d.core.flaws = []) (watch : d.core.watch = none) (feed : Bool) :
    devCrcCheck die n feed d =
      if feed then d.dmaFault die n p 6
      else if wd (ofBytes (values (d.readBytes ((a + p.soff) % 2 ^ 52) 4))) = crc32cValue p.crc ∧ p.crcPois = false then d.dmaNext die n p
      else d.dmaFault die n p 5 := by
  rw [devCrcCheck, crcRow_act here w0 w2 rest addr aligned code (by decide)]
  simp only [range, if_neg away, d.fetch_clean _ 4 flaws watch]
  cases feed with
  | true => rfl
  | false =>
    generalize wd (ofBytes (values (d.readBytes ((a + p.soff) % 2 ^ 52) 4))) = v
    have differs : (v ≠ crc32cValue p.crc ∨ p.crcPois = true) ↔ ¬(v = crc32cValue p.crc ∧ p.crcPois = false) := by
      rw [not_and_or, Bool.not_eq_false]
    simp only [Bool.not_true, Bool.false_eq_true, if_false, differs, ite_not]

/-- Bytes in the peer window are read first. -/
theorem devCrcCheck_asks (peer : regionOf ((a + p.soff) % 2 ^ 52) = 0xE) (room : d.injRoom die = true) (feed : Bool) :
    devCrcCheck die n feed d =
      d.askRead die n { d.chan die n with prog := some { p with cur := some { w := w, total := 4 } } }
        { id := (d.chan die n).nextWr, cid := p.cmd.cid, len := 4, need := blockPieces ((a + p.soff) % 2 ^ 52) 4, bad := feed }
        ((blockPieces ((a + p.soff) % 2 ^ 52) 4).headD ((a + p.soff) % 2 ^ 52, 4)) := by
  rw [devCrcCheck, crcRow_act here w0 w2 rest addr aligned code (by decide)]
  simp only [range, if_pos peer, room]
  rfl

end

end

/-- Settles O29: a write that arrives commutes with what it leaves of earlier ones, a held one is held by the interlock alone, and each CRC
row is read off at the instruction in progress. -/
theorem dmaWritesAndCrcs : Obligations.DmaWritesAndCrcs := by
  refine ⟨⟨?lands, ?held, ?brings, ?keeps⟩, ?crc⟩
  case lands =>
    intro s d n k w l under data own free
    refine ⟨_, ordinary_next free rfl (devWriteArrival_lands under data own), rfl, s.dev.write_slip .., ?_, ?_⟩
    · exact congrArg DmaCh.writes (Device.passedBy_chan under)
    · change ((s.dev.passedBy d.val n.val k w l).chan d.val n.val).prog = _
      rw [Device.passedBy_chan under]
  case held =>
    intro s d n k u w under waits
    have access : s.dev.accessOf (.writeArrival d n k) = .dmaWrite d.val n.val w.id := by
      simp only [Device.accessOf, under]
    have stops : s.heldBy (.dmaWrite d.val n.val w.id) (ordinaryEffect (.writeArrival d n k)) [] = some u := waits
    change ordinary (.writeArrival d n k) s = _
    rw [ordinary, access, stops]
    rfl
  case brings => exact fun a b w v l m data left brings canon => cutWrite_brings data canon left brings
  case keeps => exact fun a b i w l data canon inside outside => cutWrite_keeps data canon inside outside
  case crc =>
    intro s d n p w a here w0 w2 rest addr aligned
    refine ⟨fun code => onDevice_next (devCrcReset_resets here w0 w2 rest addr aligned code), fun code range credit away => ?_,
      fun code free flaws watch range away => ?_, fun code range peer room feed => ?_⟩
    · refine ⟨_, onDevice_next (devCrcStore_stores here w0 w2 rest addr aligned code range credit away), ?_, ?_, ?_, ?_⟩
      · rw [Device.dmaNext_core, Device.progress_core, Device.countBytes, Device.setChan_core, Device.sendWrite_local _ _ _ _ _ away,
          Device.setChan_core]
      · rw [Device.chan_dmaNext_self, Device.chan_progress, Device.chan_sent_local _ _ _ _ _ _ away]
        dsimp only
        rw [List.getLast?_concat]
        rfl
      · rw [Device.chan_dmaNext_self, Device.chan_progress, Device.chan_sent_local _ _ _ _ _ _ away]
      · rw [Device.chan_dmaNext_self]
        rfl
    · exact ⟨ordinary_next free rfl (devCrcCheck_compares here w0 w2 rest addr aligned code range away flaws watch true),
        ordinary_next free rfl (devCrcCheck_compares here w0 w2 rest addr aligned code range away flaws watch false)⟩
    · have asks := devCrcCheck_asks here w0 w2 rest addr aligned code range peer room feed
      have quiet : (devCrcCheck d.val n.val feed { s.dev with core.watch := some [] }).core.watch = some [] := by
        rw [devCrcCheck_asks (here.tried (some [])) w0 w2 rest addr aligned code ((Device.moveRangeOk_congr rfl _ 4).trans range) peer room,
          Device.askRead_core]
      exact ⟨_, ordinary_unwatched rfl rfl quiet asks, by rw [Device.chan_askRead_self], by rw [Device.chan_askRead_self],
        Device.askRead_core ..⟩

end Sys2Proof.Machine
end

section
/-! The tier manager: what the commands of a segment read and leave, and the branch that each takes (R243 to R257). -/

namespace Sys2Proof.Machine

/-! What the end of a command leaves of the tier manager: all but the pins, of which those that are met are latched (R195, R251). -/

/-- The tier manager without its directory. -/
def Tier.besideEnts (t : Tier) : Tier := { t with ents := [] }

theorem Tier.objs_of_besideEnts {t u : Tier} (same : t.besideEnts = u.besideEnts) : t.objs = u.objs := (Tier.mk.inj same).1
theorem Tier.segs_of_besideEnts {t u : Tier} (same : t.besideEnts = u.besideEnts) : t.segs = u.segs := (Tier.mk.inj same).2.1

section
variable (d : Device)

theorem Device.besideEnts_closeCmd (o : Open) : (d.closeCmd o).tier.besideEnts = d.tier.besideEnts := by
  have signalled (e : Device) : (if o.sigen then e.signal o.sigDie o.ctr else e).tier.besideEnts = e.tier.besideEnts := by split <;> rfl
  have halted (e : Device) (c : Prop) [Decidable c] : (if c then e.haltStream o.die o.stream 2 o.index else e).tier = e.tier := by
    split <;> simp
  exact (congrArg Tier.besideEnts (halted _ _)).trans (signalled _)

theorem Device.besideEnts_finish (c : Cmd) (status : Nat) : (d.finish c status).tier.besideEnts = d.tier.besideEnts := by
  unfold Device.finish Device.completePart
  exact iteInd (fun e : Device => e.tier.besideEnts = d.tier.besideEnts) rfl
    (iteInd (fun e : Device => e.tier.besideEnts = d.tier.besideEnts) (Device.besideEnts_closeCmd _ _) rfl)

@[simp] theorem Device.seg_finish (c : Cmd) (status g : Nat) : (d.finish c status).seg g = d.seg g := by
  have segs : (d.finish c status).tier.segs = d.tier.segs := Tier.segs_of_besideEnts (d.besideEnts_finish c status)
  rw [Device.seg, segs, ← Device.seg]

@[simp] theorem Device.tierObj_finish (c : Cmd) (status oid : Nat) : (d.finish c status).tierObj oid = d.tierObj oid := by
  have objs : (d.finish c status).tier.objs = d.tier.objs := Tier.objs_of_besideEnts (d.besideEnts_finish c status)
  rw [Device.tierObj, objs, ← Device.tierObj]

end

/-! The parts of the tier manager after an update of the device. -/

section
variable (d : Device)

@[simp] theorem Device.ent_setSeg (g h f : Nat) (s : Seg) : (d.setSeg g s).ent h f = d.ent h f := rfl
@[simp] theorem Device.seg_setEnt (g f h : Nat) (e : Option TierEnt) : (d.setEnt g f e).seg h = d.seg h := rfl
@[simp] theorem Device.seg_setTierObj (oid g : Nat) (o : Option TierObj) : (d.setTierObj oid o).seg g = d.seg g := rfl
@[simp] theorem Device.tierObj_setSeg (g oid : Nat) (s : Seg) : (d.setSeg g s).tierObj oid = d.tierObj oid := rfl
@[simp] theorem Device.tierObj_setEnt (g f oid : Nat) (e : Option TierEnt) : (d.setEnt g f e).tierObj oid = d.tierObj oid := rfl
@[simp] theorem Device.core_setEnt (g f : Nat) (e : Option TierEnt) : (d.setEnt g f e).core = d.core := rfl
@[simp] theorem Device.core_setTierObj (oid : Nat) (o : Option TierObj) : (d.setTierObj oid o).core = d.core := rfl
@[simp] theorem Device.seg_popCmd (q g : Nat) : (d.popCmd q).seg g = d.seg g := rfl
@[simp] theorem Device.tierObj_popCmd (q oid : Nat) : (d.popCmd q).tierObj oid = d.tierObj oid := rfl
@[simp] theorem Device.seg_progress (w g : Nat) : (d.progress w).seg g = d.seg g := rfl
@[simp] theorem Device.tierObj_progress (w oid : Nat) : (d.progress w).tierObj oid = d.tierObj oid := rfl

variable (g : Nat) (c : Cmd) (status : Nat)

theorem Device.seg_tierFinish_self : (d.tierFinish g c status).seg g = { d.seg g with last := c.seq } := by simp [Device.tierFinish]
theorem Device.tierObj_tierFinish (oid : Nat) : (d.tierFinish g c status).tierObj oid = d.tierObj oid := by simp [Device.tierFinish]
theorem Device.tierFinish_mem : (d.tierFinish g c status).core.mem = d.core.mem := by simp [Device.tierFinish]
theorem Device.tierFinish_regs : (d.tierFinish g c status).core.regs = d.core.regs := by simp [Device.tierFinish]

end

/-! The head of a segment's queue. -/

section
variable {d : Device} {g : Nat} {c : Cmd} {x : Nat × Nat}

theorem Device.tierHead_eq_some {top : Nat} : d.tierHead g top = some c ↔
    (d.segRuns g = true ∧ (d.seg g).cur = none) ∧ d.ready (qTier g) = some c ∧ tTop c = top := by
  unfold Device.tierHead
  by_cases free : d.segRuns g = true ∧ (d.seg g).cur = none
  · cases d.ready (qTier g) with
    | none => simp [free]
    | some y =>
      suffices tTop y = top ∧ y = c ↔ y = c ∧ tTop c = top by simpa [free]
      constructor
      · rintro ⟨named, rfl⟩
        exact ⟨rfl, named⟩
      · rintro ⟨rfl, named⟩
        exact ⟨named, rfl⟩
  · have shut : (!d.segRuns g || (d.seg g).cur.isSome) = true := by
      cases runs : d.segRuns g <;> cases busy : (d.seg g).cur <;> simp_all
    rw [if_pos shut]
    exact ⟨fun h => (nomatch h), fun h => absurd h.1 free⟩

/-- With no command being handled and the queue's head of another TOP, no head has this one. -/
theorem Device.tierHead_other {top : Nat} (ready : d.ready (qTier g) = some c) (other : tTop c ≠ top) : d.tierHead g top = none :=
  Option.eq_none_iff_forall_ne_some.mpr fun y head => by
    obtain ⟨-, ready', named⟩ := Device.tierHead_eq_some.mp head
    obtain rfl : c = y := Option.some.inj (ready.symm.trans ready')
    exact other named

/-- A reserved TOP stops its command wherever it stands (R249). -/
theorem Device.partTierBad_reserved (reserved : tTop c = 0 ∨ 4 < tTop c) (q : Nat) : d.partTierBad q c = some 0x0404 := by
  have first : (tTop c == 0 || decide (tTop c > 4) || tierReserved c) = true := by simpa [or_assoc] using reserved.elim .inl (.inr ∘ .inl)
  unfold Device.partTierBad
  dsimp only
  split
  · exact if_pos (reserved.elim .inl (.inr ∘ .inl))
  · rw [tierBad, firstBad, if_pos first]

theorem Device.tierStops_reserved (reserved : tTop c = 0 ∨ 4 < tTop c) : d.tierStops g c = some (qTier g, 0x0404) := by
  rw [Device.tierStops, Device.groupBad, Device.partTierBad_reserved reserved]

/-! Each command at the head: it is refused, or carried out. -/

theorem devObjdef_refused (head : d.tierHead g 1 = some c) (bad : d.tierStops g c = some x) : devObjdef g d = d.tierRefuse g c x := by
  simp only [devObjdef, head, bad]

theorem devObjdef_defines (head : d.tierHead g 1 = some c) (good : d.tierStops g c = none) : devObjdef g d =
    ((d.popCmd (qTier g)).setTierObj (tOid c) (some ⟨[c.word 3, c.word 4, c.word 5, c.word 6], g⟩)).tierFinish g c stDone := by
  simp only [devObjdef, head, good]

theorem devObjdel_refused (head : d.tierHead g 4 = some c) (bad : d.tierStops g c = some x) : devObjdel g d = d.tierRefuse g c x := by
  simp only [devObjdel, head, bad]

theorem devObjdel_deletes (head : d.tierHead g 4 = some c) (good : d.tierStops g c = none) :
    devObjdel g d = ((d.popCmd (qTier g)).setTierObj (tOid c) none).tierFinish g c stDone := by
  simp only [devObjdel, head, good]

theorem devRaise_refused (head : d.tierHead g 2 = some c) (bad : d.tierStops g c = some x) : devRaise g d = d.tierRefuse g c x := by
  simp only [devRaise, head, bad]

/-- A head with a reserved TOP is refused as a row RAISE. -/
theorem devRaise_reserved (runs : d.segRuns g = true) (free : (d.seg g).cur = none) (ready : d.ready (qTier g) = some c)
    (reserved : tTop c = 0 ∨ 4 < tTop c) : devRaise g d = d.tierRefuse g c (qTier g, 0x0404) := by
  have noRaise : d.tierHead g 2 = none := Device.tierHead_other ready (by omega)
  have named : tTop c = 0 ∨ tTop c > 4 := reserved
  simp [devRaise, noRaise, runs, free, ready, named, Device.tierStops_reserved reserved]

theorem devRaise_raises (head : d.tierHead g 2 = some c) (good : d.tierStops g c = none)
    (expected : bit (c.word 7) 31 = true → d.expectFrame g c = fld (c.word 7) 13 0) :
    devRaise g d = (d.popCmd (qTier g)).raiseTiles g { cmd := c } (tNT c) := by
  have fits : ¬ (bit (c.word 7) 31 && d.expectFrame g c != fld (c.word 7) 13 0) = true := by simpa using expected
  simp only [devRaise, head, good, if_neg fits]

/-- A RAISE whose first tile has, or would take, another frame than EXPECT faults (R252). -/
theorem devRaise_mismatch (head : d.tierHead g 2 = some c) (good : d.tierStops g c = none) (expects : bit (c.word 7) 31 = true)
    (other : d.expectFrame g c ≠ fld (c.word 7) 13 0) :
    devRaise g d = ((d.popCmd (qTier g)).post 0x0407 (segOwner g) 0).tierFinish g c stFault := by
  have differs : (bit (c.word 7) 31 && d.expectFrame g c != fld (c.word 7) 13 0) = true := by simp [expects, other]
  simp only [devRaise, head, good, if_pos differs]

theorem devLower_refused (head : d.tierHead g 3 = some c) (bad : d.tierStops g c = some x) : devLower g d = d.tierRefuse g c x := by
  obtain ⟨⟨-, free⟩, -⟩ := Device.tierHead_eq_some.mp head
  simp only [devLower, free, head, bad]

theorem devLower_lowers (head : d.tierHead g 3 = some c) (good : d.tierStops g c = none) :
    devLower g d = (d.popCmd (qTier g)).lowerTiles g { cmd := c } (tNT c) := by
  obtain ⟨⟨-, free⟩, -⟩ := Device.tierHead_eq_some.mp head
  simp only [devLower, free, head, good]

end

/-! A RAISE that waits (R250, R251). -/

section
variable {d : Device} {g : Nat} {r : TierRun} (waiting : (d.seg g).cur = some r) (named : tTop r.cmd = 2) (runs : d.segRuns g = true)
include waiting named runs

/-- The oldest tile, its pin met and its fill arrived, makes room. -/
theorem devVictimLowering_lowers {f : Nat} {e : TierEnt} (full : d.freeTierFrame g = none) (oldest : d.victim g = some (f, e))
    (filled : e.filling = false) (met : d.pinMet e = true) :
    devVictimLowering g d = (d.lowerTile g f e r.cmd.cid []).raiseTiles g r (tNT r.cmd - r.pos) := by
  simp [devVictimLowering, waiting, named, runs, full, oldest, filled, met]

/-- A frame that has become free is taken, and nothing is lowered for it. -/
theorem devVictimLowering_room (room : (d.freeTierFrame g).isSome = true) :
    devVictimLowering g d = d.raiseTiles g r (tNT r.cmd - r.pos) := by
  simp [devVictimLowering, waiting, named, runs, room]

end

/-! Tiles raised and lowered (R244, R250, R254). -/

section
variable (d : Device) (g : Nat) (r : TierRun) (o : TierObj) (t f : Nat) (e : TierEnt)

/-- The move that fills frame f with tile t of an object, for a RAISE. -/
def Device.fillMove (d : Device) (g : Nat) (r : TierRun) (o : TierObj) (t f : Nat) : TierMove :=
  { id := d.core.nextOrd, fill := true, oid := tOid r.cmd, tile := t, frame := f, src := o.seat + t * 65536, dst := frameDA (d.seg g) f,
    cause := r.cmd.cid, cids := [r.cmd.cid] }

/-- The directory entry of a tile that has just been raised. -/
def Device.raisedEnt (d : Device) (g : Nat) (r : TierRun) (t : Nat) : TierEnt :=
  { oid := tOid r.cmd, tile := t, age := (d.seg g).nextAge, pin := r.cmd.word 6, filling := true }

theorem Device.ent_takeFrame : (d.takeFrame g r o t f).1.ent g f = some (d.raisedEnt g r t) := by
  simp [Device.takeFrame, Device.raisedEnt]

theorem Device.moves_takeFrame : ((d.takeFrame g r o t f).1.seg g).moves = (d.seg g).moves ++ [d.fillMove g r o t f] :=
  congrArg Seg.moves (Device.seg_setSeg_self ..)

theorem Device.core_takeFrame : (d.takeFrame g r o t f).1.core = { d.core with nextOrd := d.core.nextOrd + 1 } := rfl

theorem Device.ent_hitFrame : (d.hitFrame g r f e).1.ent g f =
    some { e with age := (d.seg g).nextAge, pin := r.cmd.word 6, pinMet := false } := by
  simp [Device.hitFrame]

/-- A RAISE that has handled its tiles and waits for moves makes way for the next command. -/
theorem Device.tierHandled_waits (waits : r.waits ≠ 0) :
    d.tierHandled g r = d.setSeg g { d.seg g with cur := none, runs := (d.seg g).runs ++ [r] } := if_neg waits

variable {d g o t f}

/-- A RAISE of one tile, not raised yet, into the lowest free frame. -/
theorem Device.raiseTiles_one {c : Cmd} (defined : d.tierObj (tOid c) = some o) (seated : d.findTile g (tOid c) (tT0 c) = none)
    (free : d.freeTierFrame g = some f) : d.raiseTiles g { cmd := c } 1 =
      (d.takeFrame g { cmd := c } o (tT0 c) f).1.tierHandled g (d.takeFrame g { cmd := c } o (tT0 c) f).2 := by
  simp only [Device.raiseTiles, defined, Nat.add_zero, seated, free]

variable {e}

/-- The move that lowers the tile of an entry under MOVE. -/
def Device.loweringMove (d : Device) (g f : Nat) (e : TierEnt) (o : TierObj) (cause : Nat) (cids : List Nat) : TierMove :=
  { id := d.core.nextOrd, fill := false, oid := e.oid, tile := e.tile, frame := f, src := frameDA (d.seg g) f, dst := o.seat + e.tile * 65536,
    cause := cause, cids := cids, old := some { e with pinMet := true } }

variable {cause : Nat} {cids : List Nat} (defined : d.tierObj e.oid = some o)
include defined

/-- Under KEEP nothing moves: the frame is free. -/
theorem Device.lowerTile_keep (keep : o.keep = true) : d.lowerTile g f e cause cids = d.setEnt g f none := by
  simp [Device.lowerTile, defined, keep]

/-- Under MOVE the frame is copied to the seat. -/
theorem Device.lowerTile_move (move : o.keep = false) : d.lowerTile g f e cause cids =
    { d.setEnt g f none with core.nextOrd := d.core.nextOrd + 1 }.setSeg g
      { d.seg g with moves := (d.seg g).moves ++ [d.loweringMove g f e o cause cids] } := by
  simp only [Device.lowerTile, Device.tierObj_setEnt, defined, move, Bool.false_eq_true, if_false]
  rfl

end

/-- Settles O31: each command is the branch that its hypotheses name; what a definition, a fill, a hit and a lowering leave is read back from
the device. -/
theorem tierCommandsRaiseAndLower : Obligations.TierCommandsRaiseAndLower := by
  unfold Obligations.TierCommandsRaiseAndLower
  refine ⟨⟨?objdef, ?objdel, ?raise, ?mismatch, ?lower, ?refused, ?victim, ?room, ?reserved⟩, ?fill, ?hit, ?lowering⟩
  case objdef =>
    intro s g c head good
    refine ⟨_, next_withDev (devObjdef_defines head good), ?_, fun o other => ?_, ?_, ?_, ?_⟩
    · rw [Device.tierObj_tierFinish, Device.tierObj_setTierObj_self]
    · rw [Device.tierObj_tierFinish, Device.tierObj_setTierObj, if_neg other, Device.tierObj_popCmd]
    · rw [Device.seg_tierFinish_self]
    · rw [Device.tierFinish_mem, Device.core_setTierObj, Device.popCmd_core_mem]
    · rw [Device.tierFinish_regs, Device.core_setTierObj, Device.popCmd_core_regs]
  case objdel =>
    intro s g c head good
    refine ⟨_, next_withDev (devObjdel_deletes head good), ?_, fun o other => ?_, ?_, ?_⟩
    · rw [Device.tierObj_tierFinish, Device.tierObj_setTierObj_self]
    · rw [Device.tierObj_tierFinish, Device.tierObj_setTierObj, if_neg other, Device.tierObj_popCmd]
    · rw [Device.tierFinish_mem, Device.core_setTierObj, Device.popCmd_core_mem]
    · rw [Device.tierFinish_regs, Device.core_setTierObj, Device.popCmd_core_regs]
  case raise => exact fun s g c head good expected => next_withDev (devRaise_raises head good expected)
  case mismatch => exact fun s g c head good expects other => next_withDev (devRaise_mismatch head good expects other)
  case lower => exact fun s g c head good => next_withDev (devLower_lowers head good)
  case refused =>
    intro s g top c x head bad
    refine ⟨?_, ?_, ?_, ?_⟩ <;> rintro rfl
    · exact next_withDev (devObjdef_refused head bad)
    · exact next_withDev (devRaise_refused head bad)
    · exact next_withDev (devLower_refused head bad)
    · exact next_withDev (devObjdel_refused head bad)
  case victim =>
    exact fun s g r f e waiting named runs full oldest filled met =>
      next_withDev (devVictimLowering_lowers waiting named runs full oldest filled met)
  case room => exact fun s g r waiting named runs room => next_withDev (devVictimLowering_room waiting named runs room)
  case reserved =>
    exact fun s g c runs free ready reserved =>
      ⟨_, Device.tierStops_reserved reserved, next_withDev (devRaise_reserved runs free ready reserved)⟩
  case fill =>
    intro d g c o f defined seated free
    rw [Device.raiseTiles_one defined seated free, Device.tierHandled_waits _ _ _ (Nat.succ_ne_zero _)]
    refine ⟨?_, ?_, ?_⟩
    · rw [Device.ent_setSeg, Device.ent_takeFrame]
      rfl
    · rw [Device.seg_setSeg_self, Device.moves_takeFrame]
      rfl
    · rw [Device.setSeg_core, Device.core_takeFrame]
  case hit => exact fun d g r f e => ⟨d.ent_hitFrame g r f e, rfl, rfl⟩
  case lowering =>
    intro d g f e cause cids o defined
    cases action : o.keep with
    | true =>
      rw [Device.lowerTile_keep defined action]
      exact ⟨Device.ent_setEnt_self .., fun _ => ⟨rfl, rfl⟩, fun h => nomatch h⟩
    | false =>
      rw [Device.lowerTile_move defined action]
      refine ⟨?_, fun keep => Bool.noConfusion keep, fun _ => ⟨?_, rfl⟩⟩
      · show (d.setEnt g f none).ent g f = none
        exact d.ent_setEnt_self g f none
      · rw [Device.seg_setSeg_self]
        rfl

end Sys2Proof.Machine
end

section
/-! O32: a command that ends with its SIGEN latches the pins that are met, those of tiles that no move touches too (R195, R251, R257). -/

namespace Sys2Proof.Machine

/-! Pins, where a sync counter moves. -/

/-- A directory entry whose pin is latched if it is met. -/
def Device.latchedPin (d : Device) (e : TierEnt) : TierEnt := { e with pinMet := d.pinMet e }

section
variable (d : Device) (g f : Nat)

theorem Device.ent_latchWaits : d.latchWaits.ent g f = (d.ent g f).map d.latchedPin :=
  mget_map (Option.map d.latchedPin) none d.tier.ents _

theorem Device.ent_signal (die c : Nat) : (d.signal die c).ent g f = (d.ent g f).map d.latchedPin := d.ent_latchWaits g f

/-- A command that closes with SIGEN set latches every pin that is met. -/
theorem Device.ent_closeCmd {o : Open} (signals : o.sigen = true) : (d.closeCmd o).ent g f = (d.ent g f).map d.latchedPin := by
  have halted (e : Device) (c : Prop) [Decidable c] : (if c then e.haltStream o.die o.stream 2 o.index else e).ent g f = e.ent g f := by
    split <;> rfl
  refine (halted _ _).trans ?_
  rw [if_pos signals, Device.ent_signal]
  rfl

/-- So does the end of a tier command, where it is the command's last part. -/
theorem Device.ent_tierFinish {c : Cmd} (h status : Nat) (last : (mget {} d.core.opens c.cid : Open).left = 1)
    (signals : (mget {} d.core.opens c.cid : Open).sigen = true) : (d.tierFinish h c status).ent g f = (d.ent g f).map d.latchedPin := by
  have open_ : (mget {} d.core.opens c.cid : Open).left ≠ 0 := by rw [last]; decide
  have ends (nfail : Nat) : ((mget {} d.core.opens c.cid : Open).part 1 status nfail c.unit).left = 0 := by simp [Open.part, last]
  simp only [Device.tierFinish, Device.finish, Device.completePart, Device.progress_core, Device.setSeg_core, if_neg open_, ends, if_true]
  exact Device.ent_closeCmd _ g f signals

end

/-- What memory left open changes lies in the core. -/
theorem MemFrame.core_only {d e : Device} (frame : MemFrame d e) : e = { d with core := e.core } := by rw [frame]

/-! A fill that is abandoned while no lowering stands before it. -/

section
variable {d : Device} {g k : Nat} {m : TierMove}

theorem Device.readOut_unread {a : Nat} (unread : (d.seg g).moves.any (fun e => !e.fill && e.src == a && e.read.isNone) = false) :
    d.readOut g a = d := by
  simp only [Device.readOut, unread, Bool.false_eq_true, if_false]

theorem Device.abandonMove_fill (found : (d.seg g).moves[k]? = some m) (fill : m.fill = true) (settled : d.seatOwed g k m = false)
    (unread : (d.seg g).moves.any (fun e => !e.fill && e.src == m.dst && e.read.isNone) = false) :
    d.abandonMove g k = (d.leaveOpen m.dst 65536).dropFill g m := by
  simp only [Device.abandonMove, found, fill, settled, if_true, Bool.false_eq_true, if_false, Device.readOut_unread unread]

end

/-! The counterexample: a RAISE of tiles 0 and 1 of an object, with no pin and with SIGEN; tile 0 is in frame 0, the fill of frame 1 has
still to arrive. -/

/-- The RAISE. -/
def raiseOfTwo : Cmd := { cid := 7, w := [0xE0000000, 0, 0, 0x20000000, 0, 1] }

/-- The directory entry of its first tile. -/
def firstRaised : TierEnt := { oid := 0, tile := 0 }

/-- The fill of its second tile, from tier 2 into the SRAM of die 0. -/
def secondFill : TierMove :=
  { id := 1, fill := true, oid := 0, tile := 1, frame := 1, src := 8 * 2 ^ 48 + 65536, dst := 65536, cause := 7, cids := [7] }

/-- The device, with the RAISE's last part still open. -/
def halfRaised : Device :=
  { core.opens := [(7, { left := 1, sigen := true })]
    tier := { objs := [(0, some { w := [0x12000000, 0, 0x80000, 2] })]
              segs := [(0, { n := 2, nextAge := 2, runs := [{ cmd := raiseOfTwo, pos := 2, waits := 1 }], moves := [secondFill] })]
              ents := [(0, some firstRaised), (1, some { tile := 1, age := 1, filling := true })] } }

/-- Whatever the rest of the core holds, the abandoned fill ends the RAISE, which latches the pin of the first tile. -/
theorem halfRaised_dropFill (c : Core) (opens : c.opens = halfRaised.core.opens) :
    ({ halfRaised with core := c }.dropFill 0 secondFill).ent 0 0 = some { firstRaised with pinMet := true } := by
  let e : Device :=
    { halfRaised with
      core := c
      tier.segs := [(0, { n := 2, nextAge := 2 })]
      tier.ents := [(0, some firstRaised)] }
  have ended : { halfRaised with core := c }.dropFill 0 secondFill = e.tierFinish 0 raiseOfTwo stFault := rfl
  have entry : (mget {} e.core.opens raiseOfTwo.cid : Open) = { left := 1, sigen := true } := by
    show mget {} c.opens 7 = _
    rw [opens]
    rfl
  rw [ended, Device.ent_tierFinish e 0 0 0 stFault (by rw [entry]) (by rw [entry])]
  rfl

theorem halfRaised_abandonMove : (halfRaised.abandonMove 0 0).ent 0 0 = some { firstRaised with pinMet := true } := by
  have left := MemFrame.leaveOpen halfRaised secondFill.dst 65536
  rw [Device.abandonMove_fill (m := secondFill) rfl rfl (by decide) (by decide), left.core_only]
  exact halfRaised_dropFill _ left.core_opens

/-- Refutes O32: an abandoned fill ends the RAISE that waits for it, whose SIGEN counts a sync counter, and with that the pin of the other
tile that it raised, met from the start since it has none, is latched: the entry of a frame that is not the fill's changes. -/
theorem not_tierMovesAndSegments : ¬ Obligations.TierMovesAndSegments := by
  unfold Obligations.TierMovesAndSegments
  rintro ⟨-, -, -, fills, -⟩
  obtain ⟨-, others, -⟩ := fills halfRaised 0 0 secondFill (by decide) rfl rfl rfl rfl
  have kept := others 0 0 (by decide)
  rw [halfRaised_abandonMove] at kept
  exact absurd kept (by decide)

end Sys2Proof.Machine
end

section
/-! O33: accesses held at a busy bank and served there (R284, R285, R418); bad symbols and the patrol scrub (R262 to R265, R286, R289). -/

namespace Sys2Proof.Machine

/-! The interlock. -/

section
variable {s : State} {i : Instr} {u : Nat}

/-- An access that a bank holds is held there, and nothing else changes. -/
theorem ordinary_held (held : s.heldBy (s.dev.accessOf i) (ordinaryEffect i) [] = some u) :
    ordinary i s = .next (s.withDev (s.dev.hold { unit := u, what := s.dev.accessOf i })) := by
  rw [ordinary, held]
  rfl

/-- Every request of the host is an ordinary access, held as the command that it is. -/
theorem ordinary_of_fromHost (host : fromHost i = true) : (∀ s, exec i s = ordinary i s) ∧ ∀ d : Device, d.accessOf i = .cmd i := by
  cases i
  case apertureAccess | msixTableAccess | doorbell | ctlSyncWrite | ctlSyncaddWrite | eventRingEnable | eventRingDisable |
      eventRingVecChange | hifEvheadWrite | registerWrite | dieReset | moduleReset | hostAbort | ctlLtcLoRead | secFldataRead =>
    exact ⟨fun _ => rfl, fun _ => rfl⟩
  all_goals exact absurd host Bool.false_ne_true

variable {l : List Held} {h : Held}

/-- A request of the host waits where the host's last one does (R418). -/
theorem State.heldBy_host {o : Ordinary} (request : o.isHost = true) (held : s.dev.slip.held = l ++ [h]) (host : h.what.isHost = true)
    (f : State → State) (passed : List Nat) : s.heldBy o f passed = some h.unit := by
  simp [State.heldBy, request, held, host]

end

section
variable {d : Device} {h : Held}

/-- An access that is not held yet, or one more request of the host, joins those that are. -/
theorem Device.hold_joins (fresh : h.what.isHost = true ∨ d.slip.held.any (fun x => x.what == h.what) = false) :
    d.hold h = { d with slip.held := d.slip.held ++ [h] } :=
  if_neg (by obtain host | absent := fresh <;> simp [*])

/-- An access of the module that is held is not held again. -/
theorem Device.hold_again (guest : h.what.isHost = false) (held : d.slip.held.any (fun x => x.what == h.what) = true) : d.hold h = d :=
  if_pos (by rw [guest, held]; rfl)

/-- An entry that is not the default stands in its map. -/
theorem mem_of_mget {α : Type} {dflt : α} {m : List (Nat × α)} {k : Nat} (listed : mget dflt m k ≠ dflt) : (k, mget dflt m k) ∈ m := by
  induction m with
  | nil => exact absurd rfl listed
  | cons p m ih =>
    obtain ⟨j, v⟩ := p
    by_cases here : j = k
    · simp [mget, here]
    · rw [mget, if_neg here] at listed ⊢
      exact List.mem_cons_of_mem _ (ih listed)

/-- The bank of a member that runs an operation is busy. -/
theorem Device.busy_of_member {n u : Nat} {r : SlipRun} {m : SlipMem} (run : (d.slipStack n).run = some r) (member : r.mem u = some m)
    (going : m.done = false) : n * 512 + u ∈ d.busyUnits := by
  have stack : (n, d.slipStack n) ∈ d.slip.byStack := mem_of_mget fun idle => by
    have idle : d.slipStack n = {} := idle
    rw [idle] at run
    cases run
  obtain ⟨⟨v, m'⟩, found, rfl⟩ : ∃ p, r.mems.find? (fun p => p.1 == u) = some p ∧ p.2 = m := Option.map_eq_some_iff.mp member
  obtain rfl : v = u := by simpa using List.find?_some found
  refine List.mem_append_left _ (List.mem_flatMap.mpr ⟨_, stack, ?_⟩)
  simp only [run]
  exact List.mem_map.mpr ⟨_, List.mem_filter.mpr ⟨List.mem_of_find?_eq_some found, by simpa using going⟩, rfl⟩

end

/-! What an access tried in advance notes: a coder and a write add nothing to it. -/

section
variable (d : Device)

theorem Device.spoil_watch (key : Nat) (p : Bool) : (d.spoil key p).core.watch = d.core.watch := by
  show (d.core.pokeBytes _ _).watch = _
  rw [Core.pokeBytes_regs]

theorem Device.countFixed_watch (key : Nat) (l : List Nat) : (d.countFixed key l).core.watch = d.core.watch := by
  unfold Device.countFixed
  dsimp only
  split <;> simp

theorem Device.countLost_watch (step : Bool) (key : Nat) : (d.countLost step key).core.watch = d.core.watch := by
  unfold Device.countLost
  dsimp only
  split
  · rw [Device.post_core_watch, Device.setReg64_core_watch, Device.count1_core_watch]
  · rw [Device.post_core_watch, Device.setReg_core_watch, Device.count1_core_watch]

theorem Device.meetCoder_watch (step : Bool) (key : Nat) : (Device.meetCoder step d key).core.watch = d.core.watch := by
  rw [Device.meetCoder_eq]
  cases d.coderSays key with
  | clean => rfl
  | corrected => exact Device.countFixed_watch ..
  | miscorrected => exact (Device.countFixed_watch ..).trans (Device.spoil_watch ..)
  | uncorrectable => exact (Device.countLost_watch ..).trans (Device.spoil_watch ..)

theorem Device.meetAll_watch (step : Bool) (l : List Nat) : (l.foldl (Device.meetCoder step) d).core.watch = d.core.watch := by
  induction l generalizing d with
  | nil => rfl
  | cons key l ih => exact (ih _).trans (d.meetCoder_watch step key)

variable {d}

/-- A write notes the banks of the range that it writes. -/
theorem Device.write_watch {a : Nat} (free : d.memHeld a = false) (l : List PByte) :
    (d.write a l).core.watch = (d.watched [(a, l.length)]).core.watch := by
  have taken : ¬ d.memHeld a = true := by simp [free]
  rw [Device.write, if_neg taken]
  dsimp only
  rw [Core.markUnits_only, Core.pokeBytes_regs]
  exact Device.meetAll_watch ..

theorem Device.watched_notes {x : List Nat} (tried : d.core.watch = some x) (rs : List (Nat × Nat)) :
    (d.watched rs).core.watch = some (x ++ d.busyUnits.filter (fun u => rs.any (reachesUnit u))) := by
  simp only [Device.watched, tried]

end

/-- A range in the 0x5 view reaches the bank that its address names. -/
theorem reachesUnit_bankView {a n u : Nat} (view : regionOf a = 5) (filled : n ≠ 0) (stack : a / 2 ^ 36 % 8 = u / 512)
    (chan : a / 2 ^ 31 % 32 = u % 512 / 16) (bank : a / 2 ^ 27 % 16 = u % 16) : reachesUnit u (a, n) = true := by
  simpa [reachesUnit, view, filled] using ⟨⟨stack, chan⟩, bank⟩

/-! Service at a bank, in arrival order. -/

section
variable {s s0 : State} {n u : Nat} {h : Held}

/-- The state with the accesses held at a bank taken from it. -/
def State.released (s : State) (unit : Nat) : State := s.withDev { s.dev with slip.held := s.dev.slip.held.filter (fun h => h.unit != unit) }

theorem stOrdinaryAccessService_eq : stOrdinaryAccessService n u s =
    (s.dev.slip.held.filter (fun h => h.unit == n * 512 + u)).foldl serveHeld (s.released (n * 512 + u)) := rfl

/-- A bank at which nothing is held serves nothing. -/
theorem State.released_none {unit : Nat} (empty : s.dev.slip.held.filter (fun h => h.unit == unit) = []) : s.released unit = s := by
  have all : s.dev.slip.held.filter (fun h => h.unit != unit) = s.dev.slip.held :=
    List.filter_eq_self.mpr fun x held => by simpa using List.filter_eq_nil_iff.mp empty x held
  rw [State.released, all]
  rfl

theorem serveHeld_effect (free : s.heldBy h.what (accessEffect h.what) (h.unit :: h.passed) = none) : serveHeld s h = accessEffect h.what s := by
  simp only [serveHeld, free]

theorem serveHeld_goes_on {v : Nat} (stops : s.heldBy h.what (accessEffect h.what) (h.unit :: h.passed) = some v) :
    serveHeld s h = s.withDev (s.dev.hold { unit := v, passed := h.unit :: h.passed, what := h.what }) := by
  simp only [serveHeld, stops]
  rfl

end

/-! Scrub passes. -/

section
variable {x : Scrub} {now i n h : Nat}

theorem Scrub.turn_seen (on : x.on = true) (seen : i ∈ x.seen) : x.turn now i n h = none := by simp [Scrub.turn, on, seen]

theorem Scrub.turn_last (on : x.on = true) (unseen : i ∉ x.seen) (last : x.seen.length + 1 = n) :
    x.turn now i n h = some { x with on := false, seen := [] } := by simp [Scrub.turn, on, unseen, last]

theorem Scrub.turn_more (on : x.on = true) (unseen : i ∉ x.seen) (more : x.seen.length + 1 ≠ n) :
    x.turn now i n h = some { x with seen := i :: x.seen } := by simp [Scrub.turn, on, unseen, more]

/-- A pass begins an interval after the last one began, not before. -/
theorem Scrub.turn_early {t : Nat} (off : x.on = false) (began : x.start = some t) (early : now < t + h * 3600 * 1000000000) :
    x.turn now i n h = none := by
  have notDue : ¬ t + hoursNs h ≤ now := Nat.not_le.mpr early
  simp [Scrub.turn, off, began, notDue]

end

/-! A read of one line of tier 2 that holds bad symbols. -/

/-- The line of the key of its mark. -/
theorem line_of_poisonUnit {a : Nat} (tier2 : regionOf a = 8) (aligned : a % 64 = 0) : 32 * poisonUnit a = a := by
  rw [poisonUnit, if_pos tier2]
  omega

/-- An error on top of stored poison cannot be corrected (R263). -/
theorem Device.coderSays_poisoned {d : Device} {key : Nat} (poisoned : d.core.pois.contains key = true) (bad : mget [] d.core.flaws key ≠ []) :
    d.coderSays key = .uncorrectable := by
  simp only [Device.coderSays, if_neg bad, if_pos poisoned]

theorem Device.coderSays_watched (d : Device) (rs : List (Nat × Nat)) (key : Nat) : (d.watched rs).coderSays key = d.coderSays key := by
  simp only [Device.coderSays, Device.watched_core_flaws, Device.watched_core_pois, Device.watched_core_freeN]

section
variable {d : Device} {a : Nat} {l : List Nat} (tier2 : regionOf a = 8) (aligned : a % 64 = 0)
include tier2 aligned

/-- The line with bad symbols is the one that a read of it meets. -/
theorem Device.flawedIn_line (one : d.core.flaws = [(poisonUnit a, l)]) : d.flawedIn [(a, 64)] = [poisonUnit a] := by
  simp [Device.flawedIn, one, reachesWord, line_of_poisonUnit tier2 aligned, tier2, unitBytes]

/-- The read is what the coder does with the line. -/
theorem Device.fetch_line (one : d.core.flaws = [(poisonUnit a, l)]) :
    d.fetch a 64 = (d.watched [(a, 64)]).coderDoes false (poisonUnit a) l (d.coderSays (poisonUnit a)) := by
  have symbols : mget [] (d.watched [(a, 64)]).core.flaws (poisonUnit a) = l := by rw [Device.watched_core_flaws, one]; exact if_pos rfl
  rw [Device.fetch, Device.coder, Device.flawedIn_line tier2 aligned one]
  exact (Device.meetCoder_eq ..).trans (by rw [symbols, Device.coderSays_watched])

/-- With its symbols good again no line has bad ones. -/
theorem Device.fetch_line_mends (one : d.core.flaws = [(poisonUnit a, l)]) : (d.fetch a 64).core.flaws = [] := by
  rw [Device.fetch, Device.coder, Device.flawedIn_line tier2 aligned one]
  exact (Device.meetCoder_flaws ..).trans (by simp [one, mset])

/-- A correction in tier 2 counts at its channel, and may answer a threshold. -/
theorem Device.countFixed_line (e : Device) : e.countFixed (poisonUnit a) l =
    (e.setReg (mrdReg (t1Stack a) 0x10) (wd ((Config.subchannel a).toNat * 16 + l.headD 0 / 4))).ceCount (mrdReg (t1Stack a) 4)
      (mrdReg (t1Stack a) 0xC) 0x040A (uMrd (t1Stack a)) := by
  unfold Device.countFixed
  dsimp only
  rw [line_of_poisonUnit tier2 aligned, if_pos tier2]

/-- A loss in tier 2 counts at its channel, and is posted (R264). -/
theorem Device.countLost_line (e : Device) : e.countLost false (poisonUnit a) =
    ((e.count1 (mrdReg (t1Stack a) 8)).setReg64 (mrdReg (t1Stack a) 0x18) a).post 0x0409 (uMrd (t1Stack a)) 0 := by
  unfold Device.countLost
  dsimp only
  rw [line_of_poisonUnit tier2 aligned, if_pos tier2]

end

/-- A corrected error adds one to its counter, whatever its threshold asks for. -/
theorem Device.ceCount_reg (e : Device) {m : Nat} (channel : m < 8) (thr code unit : Nat) :
    (e.ceCount (mrdReg m 4) thr code unit).reg (mrdReg m 4) = wd (satAdd32 (e.reg (mrdReg m 4)).toNat 1) := by
  have counter : mrdReg m 4 ∉ serviceRegs := regKey_not_service (by omega) (by omega)
  rw [Device.ceCount, Device.ceTest_reg _ _ _ _ _ counter, Device.count1, Device.reg_setReg_self]

/-- The registers of a channel differ where their offsets do. -/
theorem mrdReg_inj {m x y : Nat} : mrdReg m x = mrdReg m y ↔ x = y := by
  simp only [mrdReg, mreg, regKey_inj_off]
  omega

section
variable (e : Device) (key : Nat) (p : Bool)

theorem Device.spoil_regs : (e.spoil key p).core.regs = e.core.regs := by
  show (e.core.pokeBytes _ _).regs = _
  rw [Core.pokeBytes_regs]

theorem Device.spoil_evq : (e.spoil key p).core.evq = e.core.evq := by
  show (e.core.pokeBytes _ _).evq = _
  rw [Core.pokeBytes_regs]

end

section
variable {d : Device} {a : Nat} {l : List Nat} (tier2 : regionOf a = 8) (aligned : a % 64 = 0) (one : d.core.flaws = [(poisonUnit a, l)])
include tier2 aligned one

/-- An uncorrectable line is marked, posted and counted. -/
theorem Device.fetch_lost (lost : d.coderSays (poisonUnit a) = .uncorrectable) :
    (d.fetch a 64).core.pois.contains (poisonUnit a) = true ∧
    (d.fetch a 64).core.evq.map Event.code = d.core.evq.map Event.code ++ [0x0409] ∧
    (d.fetch a 64).reg (mrdReg (t1Stack a) 8) = wd (satAdd32 (d.reg (mrdReg (t1Stack a) 8)).toNat 1) := by
  let e := ((d.watched [(a, 64)]).mended (poisonUnit a)).spoil (poisonUnit a) true
  have read : d.fetch a 64 = ((e.count1 (mrdReg (t1Stack a) 8)).setReg64 (mrdReg (t1Stack a) 0x18) a).post 0x0409 (uMrd (t1Stack a)) 0 := by
    rw [Device.fetch_line tier2 aligned one, lost]
    exact Device.countLost_line tier2 aligned e
  have marked : poisonUnit a ∈ e.core.pois := mem_sinsert.mpr (.inl rfl)
  have events : e.core.evq = d.core.evq := (Device.spoil_evq ..).trans (d.watched_core_evq _)
  have regs : e.core.regs = d.core.regs := (Device.spoil_regs ..).trans (d.watched_core_regs _)
  have lo : mrdReg (t1Stack a) 8 ≠ mrdReg (t1Stack a) 0x18 := fun same => absurd (mrdReg_inj.mp same) (by decide)
  have hi : mrdReg (t1Stack a) 8 ≠ mrdReg (t1Stack a) 0x18 + 4 := fun same => absurd (mrdReg_inj (y := 0x1C).mp same) (by decide)
  rw [read]
  refine ⟨?_, ?_, ?_⟩
  · simpa using marked
  · simp [Device.post, events]
  · rw [Device.reg_post, Device.setReg64, Device.reg_setReg, if_neg hi, Device.reg_setReg, if_neg lo, Device.count1,
      Device.reg_setReg_self, Device.reg_of_regs regs]

/-- A line that the coder corrects is as it was, and is counted. -/
theorem Device.fetch_corrected (fixed : d.coderSays (poisonUnit a) = .corrected) :
    (d.fetch a 64).core.mem = d.core.mem ∧ (d.fetch a 64).core.pois = d.core.pois ∧
    (d.fetch a 64).reg (mrdReg (t1Stack a) 4) = wd (satAdd32 (d.reg (mrdReg (t1Stack a) 4)).toNat 1) := by
  let e := (d.watched [(a, 64)]).mended (poisonUnit a)
  have read : d.fetch a 64 =
      (e.setReg (mrdReg (t1Stack a) 0x10) (wd ((Config.subchannel a).toNat * 16 + l.headD 0 / 4))).ceCount (mrdReg (t1Stack a) 4)
        (mrdReg (t1Stack a) 0xC) 0x040A (uMrd (t1Stack a)) := by
    rw [Device.fetch_line tier2 aligned one, fixed]
    exact Device.countFixed_line tier2 aligned e
  have counter : e.reg (mrdReg (t1Stack a) 4) = d.reg (mrdReg (t1Stack a) 4) := Device.reg_of_regs (d.watched_core_regs _) _
  have channel : t1Stack a < 8 := Nat.mod_lt _ (by decide)
  have apart : mrdReg (t1Stack a) 4 ≠ mrdReg (t1Stack a) 0x10 := fun same => absurd (mrdReg_inj.mp same) (by decide)
  rw [read]
  refine ⟨?_, ?_, ?_⟩
  · rw [Device.ceCount_core_mem, Device.setReg_core_mem]
    exact d.watched_core_mem _
  · rw [Device.ceCount_core_pois, Device.setReg_core_pois]
    exact d.watched_core_pois _
  · rw [Device.ceCount_reg _ channel, Device.reg_setReg, if_neg apart, counter]

end

/-- Settles O33: every row named is an ordinary access, whose being held, served or passed on is read off the interlock; a scrub read is the
turn of its pass, and a read of a line is what its coder does. -/
theorem accessesWaitAndMeetTheCoder : Obligations.AccessesWaitAndMeetTheCoder := by
  unfold Obligations.AccessesWaitAndMeetTheCoder
  refine ⟨⟨?held, ?behind, ?joins, ?again, ?busy, ?notes, ?idle, ?serves, ?inOrder⟩, ?tier2, ?tier1, ?scrub, ?turn, ?early, ?lost, ?fixed,
    fun d key => Device.coderSays_poisoned⟩
  case held =>
    intro i s u named held
    have run : exec i s = ordinary i s := by
      obtain ⟨_, _, rfl⟩ | ⟨_, rfl⟩ | ⟨_, _, rfl⟩ | ⟨_, _, rfl⟩ | ⟨_, _, _, rfl⟩ | ⟨_, _, _, rfl⟩ | ⟨_, _, rfl⟩ | ⟨_, _, _, _, rfl⟩ |
        ⟨_, _, rfl⟩ | ⟨_, _, rfl⟩ | ⟨_, _, rfl⟩ | ⟨_, _, rfl⟩ | ⟨_, _, rfl⟩ | ⟨_, _, _, rfl⟩ | rfl | ⟨_, _, rfl⟩ | rfl | ⟨_, rfl⟩ |
        ⟨_, rfl⟩ | ⟨_, rfl⟩ | ⟨_, rfl⟩ | ⟨_, rfl⟩ | rfl | ⟨_, rfl⟩ | ⟨_, rfl⟩ | ⟨_, rfl⟩ | ⟨_, _, rfl⟩ | ⟨_, _, rfl⟩ | ⟨_, rfl⟩ | ⟨_, rfl⟩ |
        ⟨_, _, _, _, _, rfl⟩ | rfl | ⟨_, _, _, _, _, rfl⟩ | ⟨_, _, _, rfl⟩ | ⟨_, _, rfl⟩ | ⟨_, rfl⟩ | ⟨_, _, rfl⟩ | ⟨_, _, rfl⟩ | ⟨_, rfl⟩ |
        ⟨_, _, rfl⟩ | host := named
      rotate_right
      · exact (ordinary_of_fromHost host).1 s
      all_goals rfl
    rw [run, ordinary_held held]
  case behind =>
    intro i s l h request held host
    obtain ⟨run, accessOf⟩ := ordinary_of_fromHost request
    have access := accessOf s.dev
    have stops : s.heldBy (s.dev.accessOf i) (ordinaryEffect i) [] = some h.unit := by
      rw [access]
      exact State.heldBy_host (o := .cmd i) request held host _ _
    rw [run, ordinary_held stops, Device.hold_joins (.inl (by rw [access]; exact request)), held, access, List.append_assoc]
    rfl
  case joins => exact fun d h fresh => Device.hold_joins fresh
  case again => exact fun d h guest held => Device.hold_again guest held
  case busy => exact fun d n u r m run member going => Device.busy_of_member run member going
  case notes =>
    intro d a u l tried free view filled busy stack chan bank
    have reached := reachesUnit_bankView view (mt List.length_eq_zero_iff.mp filled) stack chan bank
    exact ⟨_, (Device.write_watch free l).trans (Device.watched_notes tried _), List.mem_append_right _
      (List.mem_filter.mpr ⟨busy, by simpa using reached⟩)⟩
  case idle =>
    intro s n u empty
    have served : stOrdinaryAccessService n.val u.val s = s := by rw [stOrdinaryAccessService_eq, empty, State.released_none empty]; rfl
    exact congrArg Host.Outcome.next served
  case serves =>
    rintro s s0 n u h one rfl
    have served : stOrdinaryAccessService n.val u.val s = serveHeld (s.released (n.val * 512 + u.val)) h := by
      rw [stOrdinaryAccessService_eq, one]
      rfl
    exact ⟨fun free => congrArg Host.Outcome.next (served.trans (serveHeld_effect free)),
      fun v stops => congrArg Host.Outcome.next (served.trans (serveHeld_goes_on stops))⟩
  case inOrder =>
    rintro s s0 n u h g two rfl free free'
    have served : stOrdinaryAccessService n.val u.val s = serveHeld (serveHeld (s.released (n.val * 512 + u.val)) h) g := by
      rw [stOrdinaryAccessService_eq, two]
      rfl
    have first := serveHeld_effect ((s.released (n.val * 512 + u.val)).heldBy_idle h.what _ _ free)
    have second := serveHeld_effect (State.heldBy_idle (accessEffect h.what (s.released (n.val * 512 + u.val))) g.what _ _ free')
    rw [first, second] at served
    exact congrArg Host.Outcome.next served
  case tier2 =>
    rintro s ch line a rfl inside runs
    refine onDevice_next (if_neg ?_)
    rw [runs, t2Addr, inside]
    decide
  case tier1 =>
    rintro s sn ch bank word u rfl free runs inside
    have inBank : word * 32 < bankBytes := by
      unfold bankBytes
      omega
    refine ordinary_next free rfl (if_neg ?_)
    simp [inBank, runs]
  case scrub =>
    exact fun d k i n hours a bytes => ⟨fun x turn => by rw [Device.scrubRead, turn], fun turn => by rw [Device.scrubRead, turn]⟩
  case turn =>
    intro x now i n h on
    refine ⟨Scrub.turn_seen on, fun unseen => ?_⟩
    by_cases last : x.seen.length + 1 = n
    · exact ⟨_, Scrub.turn_last on unseen last, iff_of_true rfl last, fun off => nomatch off⟩
    · exact ⟨_, Scrub.turn_more on unseen last, iff_of_false (by simp [on]) last, fun _ => List.mem_cons_self⟩
  case early => exact fun x now i n h t off began early => Scrub.turn_early off began early
  case lost =>
    exact fun d a l tier2 aligned one lost => ⟨Device.fetch_line_mends tier2 aligned one, Device.fetch_lost tier2 aligned one lost⟩
  case fixed =>
    exact fun d a l tier2 aligned one fixed => ⟨Device.fetch_line_mends tier2 aligned one, Device.fetch_corrected tier2 aligned one fixed⟩

end Sys2Proof.Machine
end
